-- ==== Sys2Proof/Word.lean ====
section
/-! DEFINITION. The word types of the device and its plainest number type: bytes, 64-bit words, sparse maps as
lists of pairs, and the exact dyadic number m · 2^e (R16: arithmetic on exact reals unless a width is stated). -/

namespace Sys2Proof

/-- A byte (R5). -/
abbrev Byte := BitVec 8
/-- A 64-bit register, stack entry or structure word (R14, R158). -/
abbrev W64 := BitVec 64
/-- A 48-bit device address as software sees it (R226). -/
abbrev Addr := BitVec 48

/-- Sparse data by key: pairs with strictly rising keys, no pair equal to what an unlisted key reads as. -/
abbrev SMap (α : Type) := List (Nat × α)

/-- The exact number m · 2^e. -/
structure Dy where
  m : Int
  e : Int
  deriving DecidableEq, Repr

/-- 0. -/
def Dy.zero : Dy := ⟨0, 0⟩

end Sys2Proof
end

