-- ==== Sys2Proof/Syntax.lean ====
section
/-! DEFINITION. The commands of the block: `Instr`, one constructor per row of spec/opcode_table.json, with the operands
that come from outside, and the types of those operands. -/

namespace Sys2Proof

/-- Who writes a control-space register (R231, R388): the PF of host port p, VF n of host port p, or core d itself. -/
inductive Agent where
  | pf (p : Nat)
  | vf (p n : Nat)
  | core (d : Nat)
  deriving DecidableEq, Repr

/-- A word or burst that a scrubber reads (R252): in device memory by its address, or in a core's local memory. -/
inductive StoreRef where
  | dev (a : Nat)
  | lm (d off : Nat)
  deriving DecidableEq, Repr

/-- An SRAM bank (Table 8.8): a base SRAM bank by its number 0-895 (base die · 112 + bank), a staging bank of a logical
cluster, or another compute-die bank of a logical cluster. -/
inductive BankRef where
  | base (b : Nat)
  | staging (c b : Nat)
  | compute (c b : Nat)
  deriving DecidableEq, Repr

/-- An LPDDR6 row (R376): channel 0-79 of R230, bank within the channel, row within the bank, and the device address of a
256-byte block that it holds. -/
structure DdrRow where
  chan : Nat
  bank : Nat
  row : Nat
  addr : Nat
  deriving DecidableEq, Repr

/-- A frame as it arrives on a link port (Tables 10.1, 10.5; R320, R323). -/
structure Frame where
  /-- native: DST_NODE is the receiving port's own node; Ethernet: MAC, IP, UDP and tag fields as they arrive -/
  dstNode : Nat
  srcNode : Nat
  dstMac : Nat
  srcMac : Nat
  dstIp : Nat
  srcIp : Nat
  udpPort : Nat
  vid : Option Nat
  /-- LEN matches the flits, and the FCS is good (R315, R329) -/
  wellFramed : Bool
  sci : BitVec 64
  an : Nat
  pn : Nat
  /-- the ICV verifies under the key slot that SCI and AN select (R323); the cipher is not modelled -/
  icvOk : Bool
  type : Nat
  ver : Nat
  flags : Nat
  op : Nat
  code : Nat
  psn : Nat
  ackPsn : Nat
  sack : BitVec 32
  ctx : Nat
  window : Nat
  step : Nat
  epoch : Nat
  aux : Nat
  offset : Nat
  len : Nat
  payload : List Byte
  /-- KIND, n and LEN of the sender's LK_COLL (R339); Table 10.5 shows no place for them -/
  coll : Nat × Nat × Nat
  deriving DecidableEq, Repr

/-- A PCIe configuration request (R423): function, register offset, and the value where it is a write. -/
structure ConfigReq where
  fn : Nat
  off : Nat
  wr : Option (BitVec 32)
  deriving DecidableEq, Repr

/-- An SPDM request on the port's DOE mailbox (R439). -/
structure SpdmReq where
  code : Nat
  slot : Nat
  body : List Byte
  deriving DecidableEq, Repr

/-- What an IEEE 1687 instrument access aims at (R447), with the value where it writes. -/
inductive InstrumentTarget where
  | cluster (c : Nat)
  | core (d : Nat)
  | memory (a : Nat)
  | device
  deriving DecidableEq, Repr

/-- An instrument access through the TAP: target, and the byte to write, if any. -/
structure InstrumentReq where
  target : InstrumentTarget
  wr : Option Byte
  deriving DecidableEq, Repr

/-- The commands: one constructor per row of spec/opcode_table.json. `d` is a device-wide core number (R24), `c` a logical
cluster (R17), `p` a partition and its host port (R381), `k` a link port, `ref` a partner reference (R313), `ch` a channel,
`id` a dispatched command, `ph` a physical cluster. -/
inductive Instr where
  /-- LIT (R166): Pushes the instruction's 12-bit value sign-extended to 64 bits. -/
  | lit (d : Nat) (imm : BitVec 12)
  /-- EXT (R166): Shifts the top entry left by 12 and ORs in the instruction's 12-bit value. -/
  | ext (d : Nat) (imm : BitVec 12)
  /-- DUP (R165): Duplicates the top data-stack entry. -/
  | dup (d : Nat)
  /-- DROP (R165): Discards the top data-stack entry. -/
  | drop (d : Nat)
  /-- SWAP (R165): Exchanges the top two data-stack entries. -/
  | swap (d : Nat)
  /-- OVER (R165): Pushes a copy of the second entry. -/
  | over (d : Nat)
  /-- ROT (R165): Rotates the third entry to the top. -/
  | rot (d : Nat)
  /-- NIP (R165): Removes the second entry. -/
  | nip (d : Nat)
  /-- TUCK (R165): Copies the top entry below the second. -/
  | tuck (d : Nat)
  /-- PICK (R165): Pushes the entry n places below n, or raises a stack fault. -/
  | pick (d : Nat)
  /-- TOR (R165): Moves the top data entry to the return stack. -/
  | tor (d : Nat)
  /-- FROMR (R165): Moves the top return entry to the data stack. -/
  | fromr (d : Nat)
  /-- RFETCH (R165): Copies the top return entry to the data stack. -/
  | rfetch (d : Nat)
  /-- DEPTH (R165): Pushes the data-stack depth before the push. -/
  | depth (d : Nat)
  /-- ADD (R167): Integer addition modulo 2^64. -/
  | add (d : Nat)
  /-- SUB (R167): Integer subtraction modulo 2^64. -/
  | sub (d : Nat)
  /-- MUL (R167): Low 64 bits of the integer product. -/
  | mul (d : Nat)
  /-- MULHS (R165): High 64 bits of the signed 128-bit product. -/
  | mulhs (d : Nat)
  /-- MULHU (R165): High 64 bits of the unsigned 128-bit product. -/
  | mulhu (d : Nat)
  /-- DIVS (R167): Signed quotient toward zero; division by zero gives 0. -/
  | divs (d : Nat)
  /-- DIVU (R167): Unsigned quotient; division by zero gives 0. -/
  | divu (d : Nat)
  /-- REMS (R167): Signed remainder with the sign of a; division by zero gives a. -/
  | rems (d : Nat)
  /-- REMU (R167): Unsigned remainder; division by zero gives a. -/
  | remu (d : Nat)
  /-- NEG (R167): Integer negation modulo 2^64. -/
  | neg (d : Nat)
  /-- AND (R165): Bitwise AND. -/
  | band (d : Nat)
  /-- OR (R165): Bitwise OR. -/
  | bor (d : Nat)
  /-- XOR (R165): Bitwise XOR. -/
  | bxor (d : Nat)
  /-- NOT (R165): Bitwise complement. -/
  | bnot (d : Nat)
  /-- SHL (R165): Logical shift left by n mod 64. -/
  | shl (d : Nat)
  /-- SHR (R165): Logical shift right by n mod 64. -/
  | shr (d : Nat)
  /-- SAR (R165): Arithmetic shift right by n mod 64. -/
  | sar (d : Nat)
  /-- EQ (R165): Pushes 1 if a equals b, else 0. -/
  | eq (d : Nat)
  /-- NE (R165): Pushes 1 if a differs from b, else 0. -/
  | ne (d : Nat)
  /-- LTS (R167): Signed less-than comparison. -/
  | lts (d : Nat)
  /-- LTU (R167): Unsigned less-than comparison. -/
  | ltu (d : Nat)
  /-- LES (R167): Signed less-or-equal comparison. -/
  | les (d : Nat)
  /-- LEU (R167): Unsigned less-or-equal comparison. -/
  | leu (d : Nat)
  /-- EQZ (R165): Pushes 1 if a is zero, else 0. -/
  | eqz (d : Nat)
  /-- SEL (R165): Selects a if f is non-zero, else b. -/
  | sel (d : Nat)
  /-- FADD (R168): FP64 addition rounded to nearest even. -/
  | fadd (d : Nat)
  /-- FSUB (R168): FP64 subtraction. -/
  | fsub (d : Nat)
  /-- FMUL (R168): FP64 multiplication. -/
  | fmul (d : Nat)
  /-- FDIV (R168): FP64 division. -/
  | fdiv (d : Nat)
  /-- FMAX (R58): FP64 maximum under the mode's special-value rules. -/
  | fmax (d : Nat)
  /-- FMIN (R58): FP64 minimum under the mode's special-value rules. -/
  | fmin (d : Nat)
  /-- FSQRT (R168): FP64 square root. -/
  | fsqrt (d : Nat)
  /-- FLT (R59): FP64 less-than predicate. -/
  | flt (d : Nat)
  /-- FLE (R59): FP64 less-or-equal predicate. -/
  | fle (d : Nat)
  /-- FEQ (R59): FP64 equality predicate. -/
  | feq (d : Nat)
  /-- CVTIF (R168): Converts INT64 to FP64 under RNE. -/
  | cvtif (d : Nat)
  /-- CVTFI (R168): Converts FP64 to INT64 toward zero with saturation. -/
  | cvtfi (d : Nat)
  /-- LD8U (R170): Addressed zero-extending 8-bit load. -/
  | ld8u (d : Nat)
  /-- LD8S (R170): Addressed sign-extending 8-bit load. -/
  | ld8s (d : Nat)
  /-- LD16U (R170): Addressed zero-extending 16-bit load. -/
  | ld16u (d : Nat)
  /-- LD16S (R170): Addressed sign-extending 16-bit load. -/
  | ld16s (d : Nat)
  /-- LD32U (R170): Addressed zero-extending 32-bit load. -/
  | ld32u (d : Nat)
  /-- LD32S (R170): Addressed sign-extending 32-bit load. -/
  | ld32s (d : Nat)
  /-- LD64 (R170): Addressed 64-bit load. -/
  | ld64 (d : Nat)
  /-- ST8 (R170): Addressed 8-bit store. -/
  | st8 (d : Nat)
  /-- ST16 (R170): Addressed 16-bit store. -/
  | st16 (d : Nat)
  /-- ST32 (R170): Addressed 32-bit store. -/
  | st32 (d : Nat)
  /-- ST64 (R170): Addressed 64-bit store. -/
  | st64 (d : Nat)
  /-- LLD8U (R170): Local-memory zero-extending 8-bit load. -/
  | lld8u (d : Nat)
  /-- LLD8S (R170): Local-memory sign-extending 8-bit load. -/
  | lld8s (d : Nat)
  /-- LLD16U (R170): Local-memory zero-extending 16-bit load. -/
  | lld16u (d : Nat)
  /-- LLD16S (R170): Local-memory sign-extending 16-bit load. -/
  | lld16s (d : Nat)
  /-- LLD32U (R170): Local-memory zero-extending 32-bit load. -/
  | lld32u (d : Nat)
  /-- LLD32S (R170): Local-memory sign-extending 32-bit load. -/
  | lld32s (d : Nat)
  /-- LLD64 (R170): Local-memory 64-bit load. -/
  | lld64 (d : Nat)
  /-- LST8 (R170): Local-memory 8-bit store. -/
  | lst8 (d : Nat)
  /-- LST16 (R170): Local-memory 16-bit store. -/
  | lst16 (d : Nat)
  /-- LST32 (R170): Local-memory 32-bit store. -/
  | lst32 (d : Nat)
  /-- LST64 (R170): Local-memory 64-bit store. -/
  | lst64 (d : Nat)
  /-- LLDI (R169): Loads the local word at offset 8k. -/
  | lldi (d : Nat) (imm : BitVec 10)
  /-- LSTI (R169): Stores to the local word at offset 8k. -/
  | lsti (d : Nat) (imm : BitVec 10)
  /-- BRZ (R172): Pops c and branches if zero, with one delay slot. -/
  | brz (d : Nat) (imm : BitVec 12)
  /-- CALL (R172): Pushes the return address and branches, with one delay slot. -/
  | call (d : Nat) (imm : BitVec 12)
  /-- LOOP (R176): Pops a count and opens a hardware loop level over the next n instructions. -/
  | loop (d : Nat) (imm : BitVec 12)
  /-- MXQ (R181): Copies a matrix command record from local memory and enqueues it under a ticket. -/
  | mxq (d : Nat)
  /-- SEQ (R181): Copies a stream command record from local memory and enqueues it under a ticket. -/
  | seqEnq (d : Nat)
  /-- QWAIT (R182): Waits for a ticket, pushes its completion word and frees it. -/
  | qwait (d : Nat)
  /-- QTEST (R182): Tests a ticket and pushes its completion word and a flag. -/
  | qtest (d : Nat)
  /-- RET (R172): Pops the return address and returns, with one delay slot. -/
  | ret (d : Nat)
  /-- RTE (R214): Pops an exception frame after its checks and restores the interrupted context. -/
  | rte (d : Nat)
  /-- JMPI (R172): Jumps to a popped address, with one delay slot. -/
  | jmpi (d : Nat)
  /-- CALLI (R172): Calls a popped address, with one delay slot. -/
  | calli (d : Nat)
  /-- LEXIT (R178): Closes the innermost loop level. -/
  | lexit (d : Nat)
  /-- LCNT (R179): Pushes the count of the loop level i places below the innermost. -/
  | lcnt (d : Nat)
  /-- MODER (R191): Pushes CC.MODE. -/
  | moder (d : Nat)
  /-- MODEW (R191): Serialises and writes IE and DCE of CC.MODE. -/
  | modew (d : Nat)
  /-- DCINV (R188): Waits for idle miss registers and invalidates the whole data cache. -/
  | dcinv (d : Nat)
  /-- DCINVL (R188): Invalidates the data cache line holding an address. -/
  | dcinvl (d : Nat)
  /-- ICINV (R185): Invalidates the instruction cache. -/
  | icinv (d : Nat)
  /-- FENCE (R171): Holds later instructions until every earlier store is acknowledged. -/
  | fence (d : Nat)
  /-- ATW (R217): Opens or shortens an atomic window of up to 1,024 ac. -/
  | atw (d : Nat)
  /-- ATWC (R218): Closes the atomic window. -/
  | atwc (d : Nat)
  /-- ECALL (R197): Traps to S from U or to M from S or M with the popped detail. -/
  | ecall (d : Nat)
  /-- WFI (R221): Holds issue until an interrupt at or above the current level is pending. -/
  | wfi (d : Nat)
  /-- KEND (R222): Ends the core's part of the kernel with a status. -/
  | kend (d : Nat)
  /-- NOP (R165): Does nothing. -/
  | nop (d : Nat)
  /-- ILLEGAL_INSTR (R164): A reserved class, an unlisted encoding or LOOP 0 raises the illegal-instruction fault. -/
  | illegalInstr (d : Nat) (imm : BitVec 16)
  /-- VADD (R125): Element-wise vector addition. -/
  | vadd (d : Nat)
  /-- VSUB (R125): Element-wise vector subtraction. -/
  | vsub (d : Nat)
  /-- VMUL (R125): Element-wise vector multiplication. -/
  | vmul (d : Nat)
  /-- VDIV (R128): Element-wise correctly rounded float division. -/
  | vdiv (d : Nat)
  /-- VMAX (R58): Element-wise maximum. -/
  | vmax (d : Nat)
  /-- VMIN (R58): Element-wise minimum. -/
  | vmin (d : Nat)
  /-- VFMA (R126): Element-wise fused multiply-add rounded once. -/
  | vfma (d : Nat)
  /-- VADDS (R126): Adds a converted scalar to each element. -/
  | vadds (d : Nat)
  /-- VMULS (R126): Multiplies each element by a converted scalar. -/
  | vmuls (d : Nat)
  /-- VMAXS (R126): Maximum of each element and a scalar. -/
  | vmaxs (d : Nat)
  /-- VMINS (R126): Minimum of each element and a scalar. -/
  | vmins (d : Nat)
  /-- VABS (R56): Clears the sign bit of each element. -/
  | vabs (d : Nat)
  /-- VNEG (R56): Inverts the sign bit of each element. -/
  | vneg (d : Nat)
  /-- VSQRT (R128): Element-wise correctly rounded square root. -/
  | vsqrt (d : Nat)
  /-- VRSQRT (R128): Element-wise reciprocal square root. -/
  | vrsqrt (d : Nat)
  /-- VEXP (R128): Element-wise exponential. -/
  | vexp (d : Nat)
  /-- VLOG (R128): Element-wise natural logarithm. -/
  | vlog (d : Nat)
  /-- VTANH (R128): Element-wise hyperbolic tangent. -/
  | vtanh (d : Nat)
  /-- VSIG (R128): Element-wise sigmoid. -/
  | vsig (d : Nat)
  /-- VCMP_EQ (R59): Writes mask bits for element equality. -/
  | vcmpEq (d : Nat)
  /-- VCMP_NE (R59): Writes mask bits for element inequality. -/
  | vcmpNe (d : Nat)
  /-- VCMP_LT (R59): Writes mask bits for element less-than. -/
  | vcmpLt (d : Nat)
  /-- VCMP_LE (R59): Writes mask bits for element less-or-equal. -/
  | vcmpLe (d : Nat)
  /-- VCMP_GT (R59): Writes mask bits for element greater-than. -/
  | vcmpGt (d : Nat)
  /-- VCMP_GE (R59): Writes mask bits for element greater-or-equal. -/
  | vcmpGe (d : Nat)
  /-- VMAND (R126): Mask AND over 2,048 bits. -/
  | vmand (d : Nat)
  /-- VMOR (R126): Mask OR over 2,048 bits. -/
  | vmor (d : Nat)
  /-- VMXOR (R126): Mask XOR over 2,048 bits. -/
  | vmxor (d : Nat)
  /-- VMANDN (R126): Mask AND-NOT over 2,048 bits. -/
  | vmandn (d : Nat)
  /-- VMSET (R126): Sets the first k mask bits and clears the rest. -/
  | vmset (d : Nat)
  /-- VCVT (R149): Converts a group into another format under a conversion control. -/
  | vcvt (d : Nat)
  /-- VQMX (R149): Quantises a float group into MX blocks with E8M0 scales. -/
  | vqmx (d : Nat)
  /-- VSETVL (R126): Writes VX.VL. -/
  | vsetvl (d : Nat)
  /-- VGETVL (R126): Pushes VX.VL. -/
  | vgetvl (d : Nat)
  /-- VCHAIN (R141): Runs a fused chain of up to eight stages over operand cache streams. -/
  | vchain (d : Nat)
  /-- VLD (R130): Contiguous vector load with precise faults. -/
  | vld (d : Nat)
  /-- VST (R130): Contiguous vector store with precise faults. -/
  | vst (d : Nat)
  /-- VLDS (R130): Strided vector load. -/
  | vlds (d : Nat)
  /-- VSTS (R130): Strided vector store. -/
  | vsts (d : Nat)
  /-- VGATHER (R130): Indexed vector load. -/
  | vgather (d : Nat)
  /-- VSCATTER (R130): Indexed vector store. -/
  | vscatter (d : Nat)
  /-- VLDFF (R131): First-fault contiguous load that truncates VX.VL. -/
  | vldff (d : Nat)
  /-- VGATHERFF (R131): First-fault indexed load that truncates VX.VL. -/
  | vgatherff (d : Nat)
  /-- VOCLD (R134): Reads a group from operand cache lines. -/
  | vocld (d : Nat)
  /-- VOCST (R134): Writes a group into operand cache lines, making them DIRTY. -/
  | vocst (d : Nat)
  /-- OCFILL (R135): Binds operand cache lines and starts their fills. -/
  | ocfill (d : Nat)
  /-- OCBIND (R135): Binds operand cache lines as CLEAN zeros without reading memory. -/
  | ocbind (d : Nat)
  /-- OCWB (R135): Writes back DIRTY operand cache lines. -/
  | ocwb (d : Nat)
  /-- OCEVICT (R135): Makes operand cache lines INVALID, discarding DIRTY content. -/
  | ocevict (d : Nat)
  /-- OCSYNC (R135): Holds the core until no fill or write-back is outstanding. -/
  | ocsync (d : Nat)
  /-- VFOLD (R146): Issues line fold operations from a group. -/
  | vfold (d : Nat)
  /-- VSWADD (R146): Issues one sward add per active element. -/
  | vswadd (d : Nat)
  /-- VSWRD (R147): Reads sward cells out into an FP64 group. -/
  | vswrd (d : Nat)
  /-- VSWRDC (R147): Reads sward cells out and clears them. -/
  | vswrdc (d : Nat)
  /-- VRSUM (R142): Fixed-order sum reduction pushed to the stack. -/
  | vrsum (d : Nat)
  /-- VRPROD (R142): Fixed-order product reduction. -/
  | vrprod (d : Nat)
  /-- VRMAX (R142): Maximum reduction. -/
  | vrmax (d : Nat)
  /-- VRMIN (R142): Minimum reduction. -/
  | vrmin (d : Nat)
  /-- VCOUNT (R143): Pushes the number of set mask bits. -/
  | vcount (d : Nat)
  /-- VANY (R143): Pushes 1 if any mask bit is set. -/
  | vany (d : Nat)
  /-- VALL (R143): Pushes 1 if all k mask bits are set. -/
  | vall (d : Nat)
  /-- VFIRST (R143): Pushes the lowest set mask bit index or -1. -/
  | vfirst (d : Nat)
  /-- VRSW (R147): Sums a group exactly into a local cell and issues one SWADD_CELL. -/
  | vrsw (d : Nat)
  /-- RESULT_FILL (R184): A claimed stack entry is filled when its latency elapses. -/
  | resultFill (d : Nat)
  /-- REDUCTION_RESULT (R145): A reduction or summary value arrives on its claimed stack entry. -/
  | reductionResult (d : Nat)
  /-- STACK_REFILL (R159): One spilled entry is refilled in the background. -/
  | stackRefill (d : Nat) (ret : Bool)
  /-- DCACHE_FILL (R187): A data cache miss line arrives and frees its miss register. -/
  | dcacheFill (d : Nat) (line : Nat)
  /-- ICACHE_FILL (R185): An instruction cache miss line arrives. -/
  | icacheFill (d : Nat) (line : Nat)
  /-- CONTROL_LOAD_RETURN (R171): A control-space load's data returns and issue resumes. -/
  | controlLoadReturn (d : Nat)
  /-- STORE_ACK (R171): Memory acknowledges a store of the core. -/
  | storeAck (d : Nat)
  /-- VECTOR_LOAD_ARRIVE (R127): Data of a vector load or gather arrives. -/
  | vectorLoadArrive (d : Nat)
  /-- OC_FILL_DONE (R135): An operand cache line's fill data arrives and the line becomes CLEAN. -/
  | ocFillDone (d : Nat) (line : Nat)
  /-- OC_WRITEBACK_ACK (R135): A write-back is acknowledged and the line becomes CLEAN. -/
  | ocWritebackAck (d : Nat) (line : Nat)
  /-- EXCEPTION_ENTRY (R203): A fault, trap or admitted interrupt pushes a frame and starts its handler. -/
  | exceptionEntry (d : Nat)
  /-- ATOMIC_WINDOW_EXPIRE (R219): An open atomic window's count reaches zero. -/
  | atomicWindowExpire (d : Nat)
  /-- WFI_WAKE (R221): A pending interrupt ends WFI. -/
  | wfiWake (d : Nat)
  /-- ABORT_TIMEOUT (R223): A core that has not ended 100 µs after ABORT is stopped by Hayward. -/
  | abortTimeout (d : Nat)
  /-- SOFT_POST (R225): A write to EX.IRQ.POST posts a SOFT interrupt. -/
  | softPost (d : Nat) (v : BitVec 32)
  /-- TICKET_ENQUEUE (R181): A core command waiting on its WAIT mask enters its engine queue. -/
  | ticketEnqueue (d : Nat) (t : Nat)
  /-- TICKET_COMPLETE (R182): An engine completes a ticket's command and records its completion word. -/
  | ticketComplete (d : Nat) (t : Nat)
  /-- MX_MATMUL (R80): A matrix command is checked and begins its passes. -/
  | mxMatmul (c : Nat)
  /-- MX_EXT (R78): An extension record supplies scales and range; alone it fails ILLEGAL_COMMAND. -/
  | mxExtAlone (c : Nat)
  /-- MX_ROW_ENTER (R68): An A row enters the array for a pass. -/
  | mxRowEnter (c : Nat)
  /-- MX_PASS_BOUNDARY (R67): Weight registers rotate and the next pass load starts. -/
  | mxPassBoundary (c : Nat)
  /-- WINDROW_COMPARE (R89): The row-pass edge sum is compared with the check column. -/
  | windrowCompare (c : Nat) (col : Nat) (colErr : Dy) (chkErr : Dy)
  /-- WINDROW_VOTE (R91): The three results are voted and the row continues, or the engine is disabled or retired. -/
  | windrowVote (c : Nat) (col1 : Nat) (err1 : Dy) (col2 : Nat) (err2 : Dy) (chkErr : Dy)
  /-- MX_TILE_DRAIN_DONE (R72): A tile finishes draining and becomes free. -/
  | mxTileDrainDone (c : Nat)
  /-- MX_COMMAND_END (R70): The last drain ends and the matrix command completes. -/
  | mxCommandEnd (c : Nat)
  /-- FADD32 (R104): FP32 lane-wise fold into a 64-byte line. -/
  | fadd32 (p : Nat) (a : Nat) (x : BitVec 512) (en : BitVec 16) (psn : BitVec 16)
  /-- FADD64 (R104): FP64 lane-wise fold into a 64-byte line. -/
  | fadd64 (p : Nat) (a : Nat) (x : BitVec 512) (en : BitVec 8) (psn : BitVec 8)
  /-- IADD64 (R103): INT64 lane-wise wrapping fold. -/
  | iadd64 (p : Nat) (a : Nat) (x : BitVec 512) (en : BitVec 8) (psn : BitVec 8)
  /-- SWADD_F64 (R110): Exact FP64 addend added into a sward cell. -/
  | swaddF64 (p : Nat) (a : Nat) (buf : Nat) (x : BitVec 64) (psn : Bool)
  /-- SWADD_F32 (R110): Exact FP32 addend added into a sward cell. -/
  | swaddF32 (p : Nat) (a : Nat) (buf : Nat) (x : BitVec 32) (psn : Bool)
  /-- SWADD_BF16 (R110): Exact BF16 addend added into a sward cell. -/
  | swaddBf16 (p : Nat) (a : Nat) (buf : Nat) (x : BitVec 16) (psn : Bool)
  /-- SWADD_CELL (R111): A 512-bit cell shifted between anchors and added. -/
  | swaddCell (p : Nat) (a : Nat) (buf : Nat) (x : BitVec 512) (anchor : BitVec 16) (psn : Bool)
  /-- SWRD (R112): A sward cell is read out rounded to FP64. -/
  | swrd (p : Nat) (a : Nat) (buf : Nat)
  /-- SWRD_CLR (R112): A sward cell is read out and written with unpoisoned zero. -/
  | swrdClr (p : Nat) (a : Nat) (buf : Nat)
  /-- REGISTER_WRITE (R11): A write to a register with no row of its own acts by its access codes. -/
  | registerWrite (ag : Agent) (a : Nat) (size : Nat) (v : BitVec 64)
  /-- RGN_ARM (R234): A VALID=1 write to MM.RGN_LO starts arming a region entry. -/
  | rgnArm (p : Nat) (n : Nat) (v : BitVec 64)
  /-- RGN_ARM_DONE (R234): Region arming checks end and VALID reads 1 or the error is recorded. -/
  | rgnArmDone (p : Nat) (n : Nat)
  /-- RGN_DISARM (R235): A VALID=0 write disarms a region entry for later checks. -/
  | rgnDisarm (p : Nat) (n : Nat)
  /-- RGN_DISARM_DONE (R235): VALID reads 0 once commands admitted through the entry have completed. -/
  | rgnDisarmDone (p : Nat) (n : Nat)
  /-- SB_ARM (R114): A VALID=1 write to FD.SB_CFG starts arming a sward buffer. -/
  | sbArm (p : Nat) (n : Nat) (v : BitVec 64)
  /-- SB_ARM_DONE (R114): Sward arming writes the status line, clears die copies and sets VALID. -/
  | sbArmDone (p : Nat) (n : Nat)
  /-- SB_DISARM (R114): A VALID=0 write disarms a sward buffer at once. -/
  | sbDisarm (p : Nat) (n : Nat)
  /-- WIN_ARM (R326): A VALID=1 write to LK.WIN_HI starts arming a remote window. -/
  | winArm (p : Nat) (w : Nat) (v : BitVec 64)
  /-- WIN_ARM_DONE (R326): Window arming ends, incrementing EPOCH and setting VALID, or records ERR. -/
  | winArmDone (p : Nat) (w : Nat)
  /-- WIN_DISARM (R326): A VALID=0 write disarms a remote window. -/
  | winDisarm (p : Nat) (w : Nat)
  /-- B2_WIN_ARM (R389): A VALID=1 write to HP.B2_WIN_LO starts arming a BAR2 window. -/
  | b2WinArm (p : Nat) (n : Nat) (v : BitVec 64)
  /-- B2_WIN_ARM_DONE (R389): BAR2 window checks end with VALID set or ERR recorded. -/
  | b2WinArmDone (p : Nat) (n : Nat)
  /-- B2_WIN_DISARM (R389): A VALID=0 write disarms a BAR2 window. -/
  | b2WinDisarm (p : Nat) (n : Nat)
  /-- SCRUB_READ (R253): A scrubber reads, checks and rewrites a correct-class word or burst. -/
  | scrubRead (r : StoreRef)
  /-- CORRECTED_WRITEBACK (R240): A corrected value is written back into the store and re-read. -/
  | correctedWriteback (r : StoreRef)
  /-- SPARE_COPY_DONE (R259): A row copy to a spare finishes and the map entry is set. -/
  | spareCopyDone (b : BankRef) (row : Nat)
  /-- GRANULE_COPY_DONE (R261): A granule copy to a remap slot finishes and the granule switches. -/
  | granuleCopyDone (g : Nat)
  /-- PPR_DONE (R264): A soft post-package repair completes and the row is written back. -/
  | pprDone (r : DdrRow)
  /-- PPR_TIMEOUT (R264): A repair not done within 200 µs is abandoned and the row is unrepairable. -/
  | pprTimeout (r : DdrRow)
  /-- DDR_GRANULE_COPY_DONE (R265): A granule of an unrepairable row finishes moving to the spare pool. -/
  | ddrGranuleCopyDone (g : Nat)
  /-- REPAIR_RECORD_WRITE (R267): A REPAIR record is written through the journal area. -/
  | repairRecordWrite
  /-- BEAT_REPLAY (R247): A replayed vertical-channel beat arrives and is decoded. -/
  | beatReplay (c : Nat) (a : Nat) (ok : Bool)
  /-- BOND_ERASED (R245): A bond group in error for 16 beats is marked as an erasure, or the cluster is retired. -/
  | bondErased (c : Nat) (grp : Nat)
  /-- D2D_LANE_REPAIRED (R20): Hayward repairs a failed die-to-die lane from redundant lanes. -/
  | d2dLaneRepaired (grp : Nat) (ok : Bool)
  /-- DDR_REFRESH (R256): A per-bank LPDDR6 refresh is issued. -/
  | ddrRefresh (k : Nat) (bank : Nat)
  /-- DDR_TEMP_READ (R256): An LPDDR6 package temperature report is read. -/
  | ddrTempRead (pkg : Nat) (degC : Nat)
  /-- DDR_RETRAIN_STEP (R428): One retraining step runs in a refresh window. -/
  | ddrRetrainStep (k : Nat)
  /-- CHANNEL_SCAN (R274): The dispatcher reads every channel entry's state and producer index. -/
  | channelScan
  /-- CHANNEL_ABORT_DONE (R282): Once every copied command has a record, STATE becomes DISABLED. -/
  | channelAbortDone (ch : Nat)
  /-- COMMAND_RECORD_COPY (R275): A ring record is copied, checked and CI written. -/
  | commandRecordCopy (ch : Nat)
  /-- COMMAND_DISPATCH (R283): A held head command is dispatched once its causes clear. -/
  | commandDispatch (ch : Nat)
  /-- KERNEL (R287): A kernel command is accepted for its core mask. -/
  | kernelAccept (id : Nat)
  /-- KERNEL_START (R288): Selected cores reset their state and enter the runtime with ENTRY. -/
  | kernelStart (id : Nat)
  /-- KERNEL_COMPLETE (R289): All cores, tickets, stores and folds finish and the status is ranked. -/
  | kernelComplete (id : Nat)
  /-- SE_LIST (R297): A stream list command is checked and its descriptors started. -/
  | seList (c : Nat)
  /-- BAR_ARM (R293): Adjusts or resets barrier thresholds at dispatch. -/
  | barArm (id : Nat)
  /-- NOP_COMMAND (R278): A dispatcher command that only waits and signals. -/
  | nopCommand (id : Nat)
  /-- COMMAND_COMPLETION (R280): A command's effects become visible, barriers are signalled, record and index written. -/
  | commandCompletion (id : Nat)
  /-- PROGRESS_WATCHDOG_EXPIRE (R308): A channel watchdog expires and the waits-for graph is built. -/
  | progressWatchdogExpire (ch : Nat)
  /-- DESCRIPTOR_FETCH (R297): A burst of stream descriptors arrives and each is checked. -/
  | descriptorFetch (c : Nat)
  /-- SLOT_GRANT (R302): A descriptor's buffer slots are granted all at once. -/
  | slotGrant (c : Nat)
  /-- COPY (R296): Copies rows from source to destination. -/
  | streamCopy (c : Nat)
  /-- FILL (R296): Fills rows with a pattern. -/
  | streamFill (c : Nat)
  /-- FOLD (R296): Folds source lines or elements into a destination. -/
  | streamFold (c : Nat)
  /-- BCAST (R296): Copies to the same offset in staging windows of a cluster set. -/
  | streamBcast (c : Nat)
  /-- SWREAD (R296): Reads sward cells out into FP64 elements. -/
  | streamSwread (c : Nat)
  /-- CV_REREAD (R305): A mismatched block is re-read once from its source. -/
  | cvReread (c : Nat)
  /-- DESCRIPTOR_DONE (R298): A descriptor's last write completes. -/
  | descriptorDone (c : Nat)
  /-- MOVED_NACK (R307): A moved NACK makes the sender re-resolve and resend. -/
  | movedNack (c : Nat)
  /-- STALE_NACK (R307): A stale NACK fails the command STALE_ROLE. -/
  | staleNack (c : Nat)
  /-- HOST_READ_FAIL (R387): A failed or timed-out host read fails the command OUT_OF_BOUNDS. -/
  | hostReadFail (id : Nat) (a : Nat)
  /-- LK_XFER (R336): Writes, folds or reads through one partner's remote window. -/
  | lkXfer (id : Nat)
  /-- LK_COLL (R338): Starts an all-reduce, reduce-scatter, all-gather or broadcast. -/
  | lkColl (id : Nat)
  /-- LK_MCAST (R344): Multicasts a buffer to up to 64 receivers. -/
  | lkMcast (id : Nat)
  /-- LK_VOTE (R347): Exchanges sheaf digests and votes. -/
  | lkVote (id : Nat)
  /-- LK_EXPEL (R348): Expels one partner. -/
  | lkExpel (id : Nat)
  /-- LINK_CONTEXT_GRANT (R335): A waiting link command obtains an operation context. -/
  | linkContextGrant (die : Nat)
  /-- REMOTE_WRITE_FRAME (R327): A received write frame is admitted and applied or refused. -/
  | remoteWriteFrame (k : Nat) (f : Frame)
  /-- REMOTE_FOLD_FRAME (R327): A received fold frame is sent to the fold units or refused. -/
  | remoteFoldFrame (k : Nat) (f : Frame)
  /-- READ_REQUEST (R336): A received read request is answered from the window or NACKed. -/
  | readRequest (k : Nat) (f : Frame)
  /-- READ_RESPONSE (R336): Read response data is written locally. -/
  | readResponse (k : Nat) (f : Frame)
  /-- COLLECTIVE_FRAME (R339): A collective frame is applied, NACKed not-ready or refused. -/
  | collectiveFrame (k : Nat) (f : Frame)
  /-- VOTE_FRAME (R347): A member's digest arrives for the vote. -/
  | voteFrame (k : Nat) (f : Frame)
  /-- ACK (R331): An acknowledgement releases frames and may complete link commands. -/
  | ackFrame (k : Nat) (f : Frame)
  /-- NACK (R327): A refusal stops the operation with its status. -/
  | nackFrame (k : Nat) (f : Frame)
  /-- NOTICE (R345): A progress notice may grant the sender a lag extension. -/
  | noticeFrame (k : Nat) (f : Frame)
  /-- ABORT_FRAME (R343): An ABORT for a running operation completes it PEER_LOST. -/
  | abortFrame (k : Nat) (f : Frame)
  /-- KEEPALIVE (R332): A keepalive frame counts as traffic from the partner. -/
  | keepaliveFrame (k : Nat) (f : Frame)
  /-- HELLO (R316): A HELLO exchange is accepted or refused in native training. -/
  | helloExchange (k : Nat) (node : Nat) (part : Nat)
  /-- ACK_TIMER (R332): The acknowledgement delay expires and an ACK is sent. -/
  | ackTimer (ref : Nat)
  /-- RETRANSMISSION_TIMEOUT (R332): Unacknowledged frames are resent and the timeout doubles. -/
  | retransmissionTimeout (ref : Nat)
  /-- KEEPALIVE_SEND (R332): 200 µs without sending to an active partner sends a keepalive. -/
  | keepaliveSend (ref : Nat)
  /-- PEER_SILENCE (R333): The peer-silence limit expires and the partner becomes LOST. -/
  | peerSilence (ref : Nat)
  /-- LAG_LIMIT_EXPIRE (R343): A member's data misses the lag limit. -/
  | lagLimitExpire (id : Nat) (m : Nat)
  /-- NOTICE_SEND (R345): While a package is throttled a NOTICE goes every 100 µs. -/
  | noticeSend
  /-- PFC_FRAME (R319): A received PFC frame pauses or resumes a priority. -/
  | pfcFrame (k : Nat) (prio : Nat) (pause : Bool)
  /-- PFC_WATCHDOG (R319): A priority paused for 100 ms is no longer honoured. -/
  | pfcWatchdog (k : Nat) (prio : Nat)
  /-- LINK_DROPS (R325): Once per powered minute with rising drop counters, a masked event is logged. -/
  | linkDrops (k : Nat)
  /-- PARTNER_ENTRY_WRITE (R324): LK.PT_CTL CMD 0b01 replaces a partner entry and resets it to ADMITTED. -/
  | partnerEntryWrite (p : Nat) (ref : Nat)
  /-- PARTNER_ENTRY_READ (R324): LK.PT_CTL CMD 0b10 reads a partner entry into LK.PT_DATA. -/
  | partnerEntryRead (p : Nat) (ref : Nat)
  /-- EXPEL (R328): LK.PT_CTL CMD 0b11 sets a partner EXPELLED. -/
  | expelPartner (p : Nat) (ref : Nat)
  /-- KEY_LOAD (R322): LK.KEY_CTL LOAD installs a key slot with next PN 1. -/
  | keyLoad (p : Nat) (v : BitVec 64)
  /-- PORT_ENABLE (R316): Setting LK.PORT_CFG.EN starts link training. -/
  | portEnable (k : Nat)
  /-- EQUALISER_TRAINED (R316): Native phase 1 lane training completes. -/
  | equaliserTrained (k : Nat)
  /-- LANE_DESKEW_DONE (R316): Native phase 2 codeword lock and deskew complete. -/
  | laneDeskewDone (k : Nat)
  /-- TRAINING_TIMEOUT (R316): A training phase exceeds its bound and returns to phase 1. -/
  | trainingTimeout (k : Nat)
  /-- HELLO_RETRY (R316): A refused HELLO is retried every 10 ms. -/
  | helloRetry (k : Nat)
  /-- AUTO_NEGOTIATION (R318): Clause 73 auto-negotiation and link training in Ethernet mode. -/
  | autoNegotiation (k : Nat) (ok : Bool)
  /-- LANE_RECAL_TRIGGER (R317): High error ratio or the 24-hour timer starts a lane recalibration. -/
  | laneRecalTrigger (k : Nat) (lane : Nat)
  /-- DEGRADE (R317): A DEGRADE control flit moves both directions to two lanes after acknowledgement. -/
  | degradeFlit (k : Nat)
  /-- LANE_RECAL_DONE (R317): Recalibration ends and the port returns to four lanes or stays on two. -/
  | laneRecalDone (k : Nat) (ok : Bool)
  /-- PERST_ASSERT (R394): Assertion of a port's PERST# starts a partition reset. -/
  | perstAssert (p : Nat)
  /-- PERST_DEASSERT (R423): Deassertion starts the port's readiness countdown. -/
  | perstDeassert (p : Nat)
  /-- HOT_RESET (R394): A hot reset starts a partition reset. -/
  | hotReset (p : Nat)
  /-- DATA_LINK_DOWN (R394): The Data Link Layer going down starts a partition reset. -/
  | dataLinkDown (p : Nat)
  /-- FUNCTION_LEVEL_RESET (R394): An FLR of the PF starts a partition reset. -/
  | functionLevelReset (p : Nat)
  /-- VF_FUNCTION_LEVEL_RESET (R394): An FLR of a VF aborts its channels and clears them. -/
  | vfFunctionLevelReset (p : Nat) (n : Nat)
  /-- PRESET_IDLE (R395): All engines and cores of the resetting partition are idle. -/
  | presetIdle (p : Nat)
  /-- PRESET_CLEARED (R395): Partition state is cleared and the role epoch incremented. -/
  | presetCleared (p : Nat)
  /-- PRESET_ERASE_DONE (R395): Granted granules are erased and PRESET reads 0. -/
  | presetEraseDone (p : Nat)
  /-- PARTITION_RESET_FAIL (R397): A reset not done within its bound makes the partition fatal. -/
  | partitionResetFail (p : Nat)
  /-- CONFIG_REQUEST (R423): A configuration request is served or answered with Request Retry Status. -/
  | configRequest (p : Nat) (q : ConfigReq)
  /-- D3HOT_ENTRY (R384): A function in D3hot stops issuing requests. -/
  | d3hotEntry (p : Nat) (n : Nat)
  /-- D0_RETURN (R384): Return to D0 resumes waiting work. -/
  | d0Return (p : Nat) (n : Nat)
  /-- BAR2_READ (R390): A host read through a BAR2 window is translated and checked. -/
  | bar2Read (p : Nat) (o : Nat) (len : Nat)
  /-- BAR2_WRITE (R390): A host write through a BAR2 window is translated and checked. -/
  | bar2Write (p : Nat) (o : Nat) (data : List (BitVec 8)) (ep : Bool)
  /-- IDE_KM (R392): IDE keys are installed in a secured SPDM session. -/
  | ideKm (p : Nat) (st : Nat)
  /-- IDE_INSECURE (R392): A stream moved to insecure drops traffic until rekeyed. -/
  | ideInsecure (p : Nat) (st : Nat)
  /-- SPDM_REQUEST (R439): The SPDM responder answers a DOE request. -/
  | spdmRequest (p : Nat) (q : SpdmReq)
  /-- GET_ID (R451): Returns identity, nonce, public keys and certificates. -/
  | getId (p : Nat)
  /-- ATTEST (R452): Returns a signed attestation report for the port's partition. -/
  | attest (p : Nat)
  /-- BEGIN (R425): Erases the target slot. -/
  | imageBegin (p : Nat)
  /-- WRITE (R425): Programs image data into the target slot. -/
  | imageWrite (p : Nat)
  /-- COMMIT (R425): Verifies the target slot and writes it as trial. -/
  | imageCommit (p : Nat)
  /-- APPLY (R426): Starts the live change from the committed slot. -/
  | imageApply (p : Nat)
  /-- POLICY_QUIESCE_APPLY (R430): A field waiting for quiesce applies when all its partitions are quiesced. -/
  | policyQuiesceApply
  /-- MONITOR_IN_PLACE (R427): A cluster unmigrated 30 minutes after APPLY gets its monitor updated in place. -/
  | monitorInPlace (c : Nat)
  /-- PLANNED_SWITCHOVER (R429): The updated standby takes over at a journal point. -/
  | plannedSwitchover
  /-- APPLY_COMPLETE (R425): All sections applied; the slot is written confirmed. -/
  | applyComplete
  /-- MAILBOX_RESPONSE (R399): Hayward writes the response, sets DONE and may raise VECTOR. -/
  | mailboxResponse (p : Nat)
  /-- DEBUG (R447): Opens debug instruments for the named partitions for a time. -/
  | tokenDebug (p : Nat)
  /-- RELEASE (R446): Arms return to maker for 600 powered seconds. -/
  | tokenRelease (p : Nat)
  /-- VENDOR_RETURN (R448): Stops partitions, burns STATE and erases slot-select records. -/
  | tokenVendorReturn (p : Nat)
  /-- PROVISION (R450): Burns a new owner digest. -/
  | tokenProvision (p : Nat)
  /-- SCRAP (R449): Burns UDS_KILL and STATE and schedules the reset. -/
  | tokenScrap (p : Nat)
  /-- SVN (R436): Raises the minimum security version of a section type. -/
  | tokenSvn (p : Nat)
  /-- REVOKE (R444): Revokes a vendor key index. -/
  | tokenRevoke (p : Nat)
  /-- RET_ARM_EXPIRE (R446): RET_ARMED clears after 600 powered seconds. -/
  | retArmExpire
  /-- DEBUG_EXPIRE (R447): Debug access closes when its time runs out. -/
  | debugExpire
  /-- DEBUG_HALT_REQUEST (R447): Instruments request HAYWARD code 2 to halt a core. -/
  | debugHaltRequest (d : Nat)
  /-- LIFECYCLE_RESET (R442): 10 ms after the last token answer the device resets itself. -/
  | lifecycleReset
  /-- ENTDAA (R401): The I3C controller assigns a dynamic address. -/
  | entdaa (da : BitVec 7)
  /-- SETDASA (R401): A dynamic address is assigned from the static address. -/
  | setdasa (sa : BitVec 7) (da : BitVec 7)
  /-- MCTP_CONTROL (R401): An MCTP control message is answered. -/
  | mctpControl (cmd : Nat) (eid : Nat)
  /-- GET_TID (R402): PLDM GetTID. -/
  | getTid
  /-- GET_PLDM_VERSION (R402): PLDM GetPLDMVersion. -/
  | getPldmVersion
  /-- GET_PLDM_TYPES (R402): PLDM GetPLDMTypes. -/
  | getPldmTypes
  /-- GET_PLDM_COMMANDS (R402): PLDM GetPLDMCommands. -/
  | getPldmCommands
  /-- GET_PDR_REPOSITORY_INFO (R402): PLDM GetPDRRepositoryInfo. -/
  | getPdrRepositoryInfo
  /-- GET_PDR (R402): PLDM GetPDR. -/
  | getPdr (h : Nat)
  /-- GET_SENSOR_READING (R402): Returns a numeric sensor reading. -/
  | getSensorReading (id : Nat)
  /-- GET_STATE_SENSOR_READINGS (R402): Returns state sensor readings. -/
  | getStateSensorReadings (id : Nat)
  /-- SENSOR_REFRESH (R402): Every 100 ms the PLDM sensors are refreshed. -/
  | sensorRefresh (rd : List Nat)
  /-- STATUS (R403): Returns Hayward status, guarantee, fallow, log and powered time. -/
  | mgmtStatus
  /-- LOG_READ (R403): Returns up to four full log entries. -/
  | mgmtLogRead (sq : Nat) (n : Nat)
  /-- LOG_ACK (R403): Acknowledges log entries up to a SEQ. -/
  | mgmtLogAck (sq : Nat)
  /-- ROT_SUSPEND (R371): Suspends fallow rotation. -/
  | rotSuspend
  /-- ROT_RESUME (R371): Resumes rotation and flags past-due clusters. -/
  | rotResume
  /-- PV_ACK (R379): Writing the presented SEQ to HW.PV_ACK presents the next view entry. -/
  | pvAck (p : Nat) (v : BitVec 64)
  /-- LOCKSTEP_MISMATCH (R356): A Hayward pair's comparator mismatches, suppresses outputs and stops the pair. -/
  | lockstepMismatch (active : Bool)
  /-- STANDBY_TAKEOVER (R357): The standby finishes journal replay and becomes active. -/
  | standbyTakeover
  /-- CLOCK_FAULT (R359): A clock monitor reading leaves its window; device-fatal. -/
  | clockFault (clk : Nat)
  /-- SUPPLY_FAULT (R359): A rail leaves its window; device-fatal. -/
  | supplyFault (rail : Nat)
  /-- RECOVERY_ACTION_START (R364): A queued recovery action starts when fewer than 16 run. -/
  | recoveryActionStart
  /-- CLUSTER_DUE (R366): A cluster becomes due 5 h 40 min after its last passing test. -/
  | clusterDue (c : Nat)
  /-- CLUSTER_BORROWED (R368): At 6 hours past due a cluster borrows a fallow cluster from another die. -/
  | clusterBorrowed (c : Nat)
  /-- MIGRATION_START (R367): A cluster at the queue head reaches its command boundary and its role moves. -/
  | migrationStart (c : Nat)
  /-- MIGRATION_DONE (R367): The new physical cluster takes the role and dispatch resumes. -/
  | migrationDone (c : Nat)
  /-- MIGRATION_HOLD_RELEASE (R367): A due cluster with no boundary in 10 ms has its hold released. -/
  | migrationHoldRelease (c : Nat)
  /-- MIGRATION_RETRY (R367): A released migration is tried again each powered minute. -/
  | migrationRetry (c : Nat)
  /-- TEST_KERNEL_DONE (R369): A test kernel's digests are compared with the expected ones. -/
  | testKernelDone (ph : Nat) (agrees : Bool) (last : Bool)
  /-- CLUSTER_REPLACE (R370): A retired cluster's role moves to a fallow cluster at its boundary. -/
  | clusterReplace (c : Nat)
  /-- ROTATION_RECORD_WRITE (R366): A rotation record is written after a pass or retirement. -/
  | rotationRecordWrite (ph : Nat)
  /-- POWER_SAMPLE (R410): Input power is measured each 1 µs and the divider decision made. -/
  | powerSample (watts : Nat)
  /-- DIVIDER_SWITCH (R408): After the 32 ac hold the divider switches at a root clock edge. -/
  | dividerSwitch
  /-- ADMISSION_RESUME (R408): 16 ac after the switch, row admission and issue resume. -/
  | admissionResume
  /-- THERMAL_SAMPLE (R412): Die sensors set the temperature divider. -/
  | thermalSample (degC : Nat)
  /-- THERMAL_STOP_END (R414): After 1 s below the limits dispatch resumes. -/
  | thermalStopEnd
  /-- EN_RISE (R463): EN rises and the rails come up in order. -/
  | enRise
  /-- EN_FALL (R464): EN falls, power-good drops and the rails go down. -/
  | enFall
  /-- VIN_OUT_OF_RANGE (R462): VIN_48 outside 38–62 V for 20 µs stops the converters. -/
  | vinOutOfRange (dv : Nat)
  /-- POWER_UP_RESTART (R464): Rails below 10 % for 10 ms with EN high start the power-up again. -/
  | powerUpRestart
  /-- POWER_GOOD (R463): Power-good rises and the device reset starts. -/
  | powerGood (straps : BitVec 3)
  /-- SYS_RST_N_ASSERT (R420): SYS_RST_N asserted holds the device in reset. -/
  | sysRstNAssert
  /-- SYS_RST_N_DEASSERT (R420): SYS_RST_N deasserted starts a device reset. -/
  | sysRstNDeassert
  /-- BOOT_ROM (R421): PLL lock, fuse read, Hayward self-test and slot-select read complete. -/
  | bootRom (iaOk : Bool) (ibOk : Bool)
  /-- BOOT_IMAGE (R421): The chosen slot is read and verified, with fallback. -/
  | bootImage
  /-- BOOT_INIT (R421): BOOT firmware, die training, SRAM zeroing, REPAIR replay and POLICY complete. -/
  | bootInit
  /-- BOOT_MEMORY (R421): LPDDR6 training, repairs and zeroing complete. -/
  | bootMemory (ms : Nat)
  /-- PSEC_WRITE (R416): Every 15 powered minutes the powered-seconds record is written. -/
  | psecWrite
  /-- BYPASS (R441): JTAG BYPASS instruction. -/
  | jtagBypass
  /-- IDCODE (R441): JTAG IDCODE returns the 32-bit identity. -/
  | jtagIdcode
  /-- SAMPLE_PRELOAD (R441): JTAG SAMPLE/PRELOAD. -/
  | jtagSamplePreload
  /-- EXTEST (R441): JTAG EXTEST, only while SYS_RST_N is asserted. -/
  | jtagExtest
  /-- CLAMP (R441): JTAG CLAMP, only while SYS_RST_N is asserted. -/
  | jtagClamp
  /-- PORT_CONFIG_READY (R423): A PCIe port's configuration space becomes ready, and configuration requests are served instead of answered with Request Retry Status. -/
  | portConfigReady (p : Nat)
  /-- PCIE_LINK_UP (R382): A host port's PCIe link completes training and comes up at a negotiated rate and width, shown in HP.STATUS SPEED and WIDTH. -/
  | pcieLinkUp (p : Nat) (speed : Nat) (width : Nat)
  /-- VIN_48_IN_RANGE (R463): VIN_48 enters 38.0 to 62.0 V while EN is already high, and the rails start to come up. -/
  | vin48InRange
  /-- INSTRUMENT_ACCESS (R447): An IEEE 1687 instrument access through the TAP reaches clusters, cores, memory or device-level state within the open DEBUG scope, or is refused outside it. -/
  | instrumentAccess (q : InstrumentReq)
  deriving DecidableEq, Repr

end Sys2Proof
end

