-- ==== Sys2Proof/Decode.lean ====
section
/-! DEFINITION. The words that spell commands. The operation table gives no row any bits, so no word spells a command. -/

namespace Sys2Proof

/-- The command that a word of the table spells: the table gives no row bits, so none. -/
def decodeTableWord (_nbits _w : Nat) : Option Instr := none

end Sys2Proof
end

