-- ==== Sys2Proof/Config.lean ====
section
/-! DEFINITION. What the manual leaves open or names only by a published standard: free values. Every constant here is
opaque, with no body, so that no proof can know its value. -/

namespace Sys2Proof.Config

/-- R128: VRSQRT, VEXP, VLOG, VTANH and VSIG return one of the two format values that enclose the exact result; which
one is not stated (log entry 3). Arguments: the function's number, the element format code, the operand's pattern. -/
opaque roundsUp : Nat → Nat → Nat → Bool
/-- R232, R362: the partition, if any, to which alone the device-private state in a word of device-private base SRAM belongs; where
the structures stand is not stated (log entry 13). -/
opaque privateOwner : Nat → Option Nat
/-- R243: what a pattern beyond the storage code's promise is delivered as: 0 corrected (with altered data), 1 poisoned,
otherwise clean (log entry 4). Argument: the word number. -/
opaque beyondCode : Nat → Nat
/-- R243: the data such a pattern delivers when it is delivered as corrected. -/
opaque beyondData : Nat → BitVec 64
/-- R30: the offset of a cluster's own ac count from the others, not synchronised (log entry 5). -/
opaque acSkew : Nat → Nat
/-- R445: the n-th token nonce drawn from the CTR_DRBG (log entry 6). -/
opaque drbg : Nat → BitVec 256
/-- SHA-384 (R418, R434), named by its standard only (log entry 7). -/
opaque sha384 : List (BitVec 8) → BitVec 384
/-- ECDSA over brainpoolP384r1 with SHA-384 (R418, R444): key (97 bytes), message, r and s (96 bytes) → verifies. -/
opaque ecdsaVerifies : List (BitVec 8) → List (BitVec 8) → List (BitVec 8) → Bool
/-- The signature of a message under the device's attestation key (R437, R452): 96 bytes, from the derivation inputs. -/
opaque attestationSign : List (BitVec 8) → List (BitVec 8) → BitVec 768
/-- R437: the device identity public key derived from the UDS (97 bytes); the UDS itself is readable by no agent. -/
opaque identityPub : BitVec 776
/-- R437: the attestation public key, from the L1 derivation inputs (digests of BOOT and CAL, lc, oi, od). -/
opaque attestationPub : List (BitVec 8) → BitVec 776
/-- R438: the DER certificates (identity, attestation, SPDM), from the same inputs. -/
opaque certificates : List (BitVec 8) → List (BitVec 8)
/-- R439: the SPDM responder's answer to a request, which DSP0274 and DSP0277 define: session state, request → answer. -/
opaque spdmAnswer : Nat → List (BitVec 8) → List (BitVec 8)
/-- Bytes of a POLICY section → its field values, as numbers in an order of the builder's own: the manual names the fields
(Table 13.11) and gives the section no byte layout (log entry 8). -/
opaque policyField : List (BitVec 8) → Nat → Nat
/-- Whether a POLICY section gives a value to every field that the manual names (R419 condition 6). -/
opaque policyComplete : List (BitVec 8) → Bool
/-- R369: the digest that the FIELDTEST section expects is compared outside the model; the answer enters with the command.
R401, DSP0236: the rest of an MCTP control answer of a completing command. -/
opaque mctpAnswer : Nat → List (BitVec 8)
/-- R402, DSP0240 and DSP0248: the fixed bytes of PLDM answers that the standards define. -/
opaque pldmAnswer : Nat → Nat → List (BitVec 8)
/-- PCIe, Table 12.1: what a configuration register that the model does not hold reads as. -/
opaque configSpace : Nat → Nat → BitVec 32
/-- PCIe, Table 12.1: where the capability structures stand in configuration space (0 MSI-X, 1 SR-IOV, 2 Resizable BAR). -/
opaque capOff : Nat → Nat
/-- PCIe: the bits of a configuration register, by function and offset, that a host can write. -/
opaque configMask : Nat → Nat → BitVec 32
/-- DSP0274: whether a FINISH request's body completes its session. -/
opaque spdmFinishOk : List (BitVec 8) → Bool
/-- R441: Renyen's JEP106 code in the IDCODE (11 bits), not stated in the manual (log entry 9). -/
opaque jep106 : BitVec 11
/-- The PCIe vendor ID that PCI-SIG has assigned to Renyen (R381), not stated. -/
opaque vendorId : BitVec 16
/-- R230: the bank and row of its LPDDR6 channel that hold an address, as bank + 256 · row; the row mapping is the device's own
and not stated (log entry 12). -/
opaque ddrRow : Nat → Nat
/-- R230, R265: the other granule, if any, whose data that row holds: channel, bank + 256 · row → granule number. -/
opaque ddrRowOther : Nat → Nat → Option Nat
/-- R266: whether an LPDDR6 part has a hard repair resource left for a row, by channel and bank + 256 · row. -/
opaque hardResource : Nat → Nat → Bool
/-- R429: the number of the journal format that a BOOT section's bytes use. -/
opaque journalFormat : BitVec 384 → Nat
/-- R441: what the boundary-scan register captures, the n-th time. -/
opaque boundaryScan : Nat → BitVec 32
/-- R382: physical events of the board that a reading leaves open: the n-th free value. -/
opaque freeValue : Nat → BitVec 64

end Sys2Proof.Config
end

