-- ==== Sys2Proof/Machine/State.lean ====
section
/-! DEFINITION. The state of the device as plain data, and State.reset. Control-space registers that belong to a
partition, a cluster or the device stand in `regs` by their control-space address (Table 8.2); a register that the
sparse map does not list holds its reset value (Machine/Regs.lean's table). Core registers stand in `Core`. -/

namespace Sys2Proof.Machine

/-- The status codes of Table 9.7 (R281). -/
inductive Status where
  | ok | partialDone | staleRole | noProgress | checkFail | poisoned | outOfBounds | thermal | peerLost | denied
  | aborted | illegalCommand | rangeCheck | illegalTarget
  deriving DecidableEq, Repr

/-- Privilege levels (R195). -/
inductive Priv where
  | U | S | M
  deriving DecidableEq, Repr

/-- One stack entry: 64 bits and one poison bit (R158). -/
structure Entry where
  val : W64
  psn : Bool
  deriving DecidableEq, Repr

/-- One open hardware loop level (R176, Table 7.3 E8, E9). -/
structure LoopLevel where
  start : Nat
  lenM1 : Nat
  count : Nat
  deriving DecidableEq, Repr

/-- The two engines that a core enqueues to (R181). -/
inductive Engine where
  | mx | se
  deriving DecidableEq, Repr

/-- A ticket that is not free (R181, R182): waiting at the core on its WAIT mask, in the engine's queue or running, ended
in the engine, or completed with its completion word. -/
inductive TicketState where
  | waiting (words ext : List W64)
  | queued
  | ended (w : W64)
  | done (w : W64)
  deriving DecidableEq, Repr

/-- A ticket with its engine and its place in issue order (R183). -/
structure Ticket where
  eng : Engine
  order : Nat
  st : TicketState
  deriving DecidableEq, Repr

/-- Operand cache line states (Table 5.5). -/
inductive OcState where
  | invalid | filling | clean | dirty
  deriving DecidableEq, Repr

/-- One operand cache line (R134): state, bound address, 64 bytes, poison bit; a write-back not yet acknowledged. -/
structure OcLine where
  st : OcState
  addr : Nat
  data : BitVec 512
  psn : Bool
  wbPending : Bool
  deriving DecidableEq, Repr

/-- A line of the instruction or data cache (R185, R186): 64-byte-aligned address, data, poison marks of its eight words
(R186), and whether its parity is in error (R244). -/
structure CacheLine where
  addr : Nat
  data : BitVec 512
  psn : BitVec 8
  bad : Bool
  deriving DecidableEq, Repr

/-- One set of a four-way cache: its lines, most recently used first. -/
abbrev CacheSet := List CacheLine

/-- One miss register of the data cache (R187): the line being filled, what its read found, the loads merged into it. -/
structure Miss where
  line : CacheLine
  loads : Nat
  deriving DecidableEq, Repr

/-- What a core is doing. -/
inductive CoreRun where
  /-- no kernel: KEND executed, stopped, or never started -/
  | idle
  /-- issues instructions -/
  | running
  /-- QWAIT holds issue on ticket t (R182) -/
  | waitTicket (t : Nat)
  /-- WFI holds issue (R221) -/
  | waitIrq
  /-- a control-space load holds issue; its data (R171) -/
  | waitControl (x : Entry)
  /-- held at M, or halted for owner debug, by HAYWARD requests (R224, R447) -/
  | debugHalt
  /-- halted: a sixteenth frame in the machine frame area (R213) -/
  | halted
  deriving DecidableEq, Repr

/-- The state of one core: control core (R157), vector unit (R118), caches, and its VX, CC and EX registers. -/
structure Core where
  run : CoreRun
  /-- program counter -/
  pc : Nat
  /-- a transfer has executed and its delay slot is next: the address control passes to after the slot (R173) -/
  slot : Option Nat
  /-- current privilege level, `CC.STATUS.PRIV` -/
  priv : Priv
  /-- `CC.MODE` IE and DCE -/
  ie : Bool
  dce : Bool
  /-- data stack: the entries held in hardware, top first (at most 32), and the number spilled to local memory (R159) -/
  ds : List Entry
  dsSpill : Nat
  /-- return stack: the entries held in hardware, top first (at most 16), and the number spilled (R160) -/
  rs : List Entry
  rsSpill : Nat
  /-- open hardware loop levels, outermost first (R176) -/
  loops : List LoopLevel
  /-- core local memory, 64 KiB (R163): bytes by offset, an unlisted byte is 0; numbers of its poisoned 8-byte words -/
  lm : List Host.Cell
  lmPsn : List Nat
  /-- outstanding tickets 0-7 (R181) -/
  tickets : SMap Ticket
  ticketOrder : Nat
  /-- vector registers v0-v2047, unlisted 0; numbers of the poisoned ones (R118, R151) -/
  vr : SMap (BitVec 128)
  vrPsn : List Nat
  /-- mask registers m0-m15, unlisted 0 -/
  mr : SMap (BitVec 2048)
  /-- operand cache lines 0-2047, unlisted INVALID (R134) -/
  oc : SMap OcLine
  /-- results claimed and not yet filled: scalar (R184) and reductions or summaries (R145) -/
  claims : Nat
  redClaims : Nat
  /-- stores not yet acknowledged; vector loads whose data has not arrived (R171, R127) -/
  storesOut : Nat
  vloadsOut : Nat
  /-- instruction and data caches by set (R185, R186); miss registers (R187); the line an instruction miss waits for -/
  icache : SMap CacheSet
  dcache : SMap CacheSet
  misses : List Miss
  /-- the VX block (Table 5.11); PENDING of OC_STAT is counted from the lines -/
  vxCtl : W64
  vxVl : W64
  vxStatus : W64
  vxRstat : W64
  vxFault : W64
  vxFaultAddr : W64
  vxRangeLo : W64
  vxRangeHi : W64
  vxRcStat : W64
  vxSrState : W64
  vxDiscard : Nat
  vxPairMis : Nat
  /-- the CC block's stored registers (Table 6.8) -/
  ccDsBnd : W64
  ccRsBnd : W64
  ccLmProt : W64
  /-- the EX block (Table 7.4); VBAR_M none: the vector base that Hayward wrote at boot (R475); WIN is held as open, remaining
  ac, CLAMP, OVERRUN -/
  exVbarS : W64
  exVbarM : Option W64
  exLastCause : W64
  exLastDetail : W64
  winOpen : Bool
  winRem : Nat
  winClamp : Bool
  winOverrun : Bool
  softPend : Bool
  post : BitVec 32
  abortPend : Option Status
  hwPend : Option Nat
  exKstat : W64
  /-- `EX.MFA`: the area is in use, its frames; the frames' entries stand in local memory 0xF800-0xFFFF (R212) -/
  mfaActive : Bool
  mfaFrames : Nat
  exAbort : W64
  /-- the dispatched KERNEL this core runs, the IEEE mode of its header (R150), and its status once ended (R222, R289) -/
  kernel : Option Nat
  ieee : Bool
  endStatus : Option Status
  /-- a poisoned store, reduction or compare happened in this kernel (R151, R158) -/
  sawPoison : Bool
  /-- a store of this kernel needed a check-table entry outside the region table (R303) -/
  cvOut : Bool
  /-- bytes that this kernel's vector stores and write-backs have written, by 4 KiB block, as a mask (R304, fresh values) -/
  cvCover : SMap Nat
  /-- CB_BASE and PB_BASE of the channel that started the kernel (R277) -/
  cbBase : Nat
  pbBase : Nat
  /-- writes by other agents that take effect at the core's next command (R153, R193, R225): offset, value, byte enable -/
  later : List (Nat × W64 × BitVec 8)
  /-- the instruction address of the last paired mismatch in this kernel (R154) -/
  pairAt : Option Nat
  /-- physical condition: how many further paired comparisons a lane fault makes mismatch -/
  laneFault : Nat
  deriving DecidableEq, Repr

/-- What asked an engine or the fold units for a command: a dispatched channel command, or ticket t of a core. -/
inductive Src where
  | cmd (id : Nat)
  | ticket (d t : Nat)
  deriving DecidableEq, Repr

/-- A command in an engine queue: its record, its MX_EXT record if one is joined, who asked, and the bases, partition,
role epoch and function that go with it. -/
structure EngCmd where
  src : Src
  words : List W64
  ext : Option (List W64)
  part : Nat
  deriving DecidableEq, Repr

/-- A number in the matrix engine's common internal form (R41): sign, class, and for finite values significand and
exponent; `nan` is any NaN. -/
inductive Num where
  | nan
  | inf (neg : Bool)
  | fin (neg : Bool) (m : Nat) (e : Int)
  deriving DecidableEq, Repr

/-- A matrix operand value with its poison. -/
structure MxOp where
  v : Num
  psn : Bool
  deriving DecidableEq, Repr

/-- The fields of an MX_MATMUL record and its MX_EXT record (Tables 3.5, 3.6). -/
structure MxCmd where
  aAddr : Nat
  aFmt : Nat
  bFmt : Nat
  bAddr : Nat
  rowBlock : Nat
  cAddr : Nat
  aTrans : Bool
  bTrans : Bool
  acc64 : Bool
  ext : Bool
  rowSc : Bool
  chanSc : Bool
  aBlk : Bool
  bBlk : Bool
  range : Bool
  aLd : Nat
  bLd : Nat
  cLd : Nat
  m : Nat
  k : Nat
  n : Nat
  rowScA : Nat
  chanScA : Nat
  aBlkA : Nat
  bBlkA : Nat
  rangeLo : W64
  rangeHi : W64
  seq : Nat
  deriving DecidableEq, Repr

/-- One accumulator tile element: its pattern (FP32 and INT32 in the low 32 bits) and its poison (R71, R83). -/
structure TileEl where
  bits : W64
  psn : Bool
  deriving DecidableEq, Repr

/-- The pass result of one column for one A row: the exact aligned sum or a special value, the alignment exponent (none
where every product is zero), poison, and what it raises (R95-R100). -/
structure ColRes where
  v : Num
  e : Option Int
  psn : Bool
  ovf : Bool
  nan : Bool
  scaleUf : Bool
  deriving DecidableEq, Repr

/-- A row whose windrow verdict is awaited: its columns' results, the check column's result and alignment exponent, and
whether it is skipped (R89-R91). -/
structure RowPend where
  row : Nat
  cols : List ColRes
  chk : Dy
  chkE : Option Int
  skip : Bool
  /-- a mismatch was found: the column of the original run in error, and its error; re-runs are in progress -/
  mismatch : Option (Nat × Dy)
  deriving DecidableEq, Repr

/-- The weights of one pass, each scaled by its channel and block scales, by K index and then by column, and the check
weights by K index (R67, R88). -/
structure PassW where
  pass : Nat
  w : List (List MxOp)
  chk : List MxOp
  deriving DecidableEq, Repr

/-- A tile that waits for, or is under, its drain: block number, first row, elements by row (R71, R72). -/
structure Tile where
  isB : Bool
  firstRow : Nat
  els : List (List TileEl)
  deriving DecidableEq, Repr

/-- The running matrix command (R67-R73). -/
structure MxRun where
  src : Src
  part : Nat
  cmd : MxCmd
  hdr : W64
  /-- SAME_FMT as it stood at the command's start (R94) -/
  sameFmt : Bool
  cls : Nat
  block : Nat
  pass : Nat
  row : Nat
  active : Option PassW
  shadow : Option PassW
  retained : Option PassW
  tile : Tile
  drain : List Tile
  pend : Option RowPend
  flags : BitVec 8
  wrotePsn : Bool
  viol : Option Nat
  /-- bytes written by 4 KiB block, as a mask (R304, fresh values) -/
  cover : SMap Nat
  failed : Bool
  stop : Option Status
  deriving DecidableEq, Repr

/-- How far the current stream descriptor is: waiting for its slots, granted them, moved, or stopped at a source block whose
check value mismatched and which is to be read again (R302, R305). -/
inductive DescPhase where
  | waitSlots | granted | moved
  | reread (blk : Nat)
  deriving DecidableEq, Repr

/-- The current descriptor: index, words, slots it needs at each of its engines, the order of its request, and the source
blocks whose second comparison matched or failed (R305). -/
structure Desc where
  idx : Nat
  words : List W64
  phase : DescPhase
  slots : Nat
  engines : List Nat
  req : Nat
  good : List Nat
  wrong : List Nat
  deriving DecidableEq, Repr

/-- The running SE_LIST (R295-R305). -/
structure SeRun where
  src : Src
  part : Nat
  hdr : W64
  list : Nat
  count : Nat
  /-- the next descriptor to fetch; those fetched and checked, not yet begun; the one that failed its check -/
  next : Nat
  fetched : List (Nat × List W64)
  bad : Option (Nat × Status × W64)
  cur : Option Desc
  flags : BitVec 8
  /-- why the list stops before its end -/
  status : Option Status
  /-- a rejected fold; the first CHECK_FAIL source block; what POISONED's DETAIL holds -/
  rej : Option Status
  failAt : Option Nat
  psnAt : Option Nat
  /-- re-resolved routes (R307) -/
  retries : Nat
  /-- bytes written by 4 KiB block; blocks whose value was carried; blocks that get none (R303, R304) -/
  cover : SMap Nat
  carried : List Nat
  noValue : List Nat
  deriving DecidableEq, Repr

/-- One logical cluster's engines and dispatch state; its MX, SE and CH.CB registers stand in `regs`. -/
structure Cluster where
  mxQ : List EngCmd
  mx : Option MxRun
  /-- the tile that the latest command's last row block used (R70): true is tile B -/
  lastTileB : Bool
  seQ : List EngCmd
  se : Option SeRun
  slotsFree : Nat
  /-- times a waiting slot request was passed over (R302) -/
  passedOver : Nat
  /-- channels that occupy a slot of this cluster (R284) -/
  chans : List Nat
  /-- dispatch held for a migration or replacement (R367, R364); a migration to be retried (R367) -/
  hold : Bool
  retry : Bool
  /-- a migration in progress: the new physical cluster (R367) -/
  moving : Option Nat
  /-- no physical cluster left for this role (R370) -/
  absent : Bool
  /-- the cluster runs the new MONITOR of an APPLY (R427) -/
  newMon : Bool
  /-- physical condition: how many further check-value comparisons a transfer fault makes mismatch (R305) -/
  xferFault : Nat
  deriving DecidableEq, Repr

/-- What a physical cluster is (R366, R370). -/
inductive PhysCond where
  | role (c : Nat) | testing | passed | untested | retired
  deriving DecidableEq, Repr

/-- A physical cluster with its rotation record (R366): lifetime powered seconds at the start of the latest passing test. -/
structure Phys where
  cond : PhysCond
  lastPass : Option Nat
  testStart : Nat
  retried : Bool
  /-- place in the order of flagging (R366 point 1) -/
  flagged : Option Nat
  due : Bool
  /-- due for 6 h and to borrow from another die (R368) -/
  borrow : Bool
  /-- the rotation record in flash is out of date; the record there: start of the latest passing test, retired mark (R366) -/
  recDirty : Bool
  recPass : Option Nat
  recRetired : Bool
  /-- partitions whose roles it has held since the start of its latest passing test (R377) -/
  heldParts : BitVec 4
  /-- bond groups of its vertical channel marked as erasures (R245) -/
  erased : List Nat
  deriving DecidableEq, Repr

/-- A dispatched command of a channel, until its record is written (R279-R282). -/
structure Cmd where
  id : Nat
  ch : Nat
  part : Nat
  cluster : Nat
  words : List W64
  ext : Option (List W64)
  /-- handed to its executor -/
  started : Bool
  status : Option Status
  flags : BitVec 8
  detail : W64
  /-- ended by a partition reset: no record (R395) -/
  silent : Bool
  deriving DecidableEq, Repr

/-- The dispatcher's view of a channel (R272-R275): the generation last loaded, whether it has been armed and neither halted nor
found in another STATE since, whether the static words are loaded, words 0, 1, 2 and 6 as loaded, the records copied from the
ring and not yet dispatched, and how recently it was used. -/
structure Chan where
  gen : Option Nat
  live : Bool
  cached : Bool
  w0 : W64
  w1 : W64
  w2 : W64
  w6 : W64
  fetched : List (List W64 × Bool)
  recency : Nat
  deriving DecidableEq, Repr

/-- A kernel accepted by the dispatcher (R286-R289): its command, cluster, cores (0-7), and whether it has started. -/
structure Kernel where
  id : Nat
  cluster : Nat
  cores : List Nat
  entry : Nat
  args : List W64
  ieee : Bool
  started : Bool
  abort : Option Status
  deriving DecidableEq, Repr

/-- Why a storage word or burst is in error and not yet found (physical condition, R240-R243). -/
inductive StoreErr where
  /-- within correction: one bit, or one or two symbols; hard or soft -/
  | correctable (hard : Bool)
  /-- two bits, or three or four symbols -/
  | uncorrectable
  /-- beyond the code's promise (R243) -/
  | beyond
  deriving DecidableEq, Repr

/-- Device memory (Table 8.1, without control space): bytes, numbers of poisoned 8-byte words, errors not yet found by
word number, words read in error once and corrected that await the write-back (R240), and the granules whose first
detect-class error is logged (R241). -/
structure Mem where
  bytes : List Host.Cell
  psn : List Nat
  latent : SMap StoreErr
  writeback : List Nat
  detected : List Nat
  deriving DecidableEq, Repr

/-- An SRAM bank's or an LPDDR6 row's repair state (R258-R265). -/
structure Bank where
  /-- failed row → spare row -/
  map : SMap Nat
  spareUsed : Nat
  /-- a copy of this row to this spare is in progress -/
  copying : Option (Nat × Nat)
  retired : Bool
  /-- granules still to be moved (R261) -/
  moving : List Nat
  deriving DecidableEq, Repr

/-- An LPDDR6 row under soft post-package repair, or repaired (R264). -/
structure RowRepair where
  chan : Nat
  bank : Nat
  row : Nat
  addr : Nat
  inProgress : Bool
  deriving DecidableEq, Repr

/-- A REPAIR record (Table 8.9), and the number of the bank, granule or LPDDR6 place that it names, as this model counts them
(log entry 37). -/
structure RepairRec where
  type : Nat
  die : Nat
  unit : Nat
  row : Nat
  place : Nat
  target : Nat
  psec : Nat
  seq : Nat
  crcOk : Bool
  deriving DecidableEq, Repr

/-- Repair of the stores that several partitions share. -/
structure Repair where
  /-- base SRAM banks 0-895 and, from 1,000 on, compute-die banks: 1,000 + 128 · physical cluster + bank -/
  banks : SMap Bank
  /-- base SRAM granule → remap slot 0-127 or 1,000,000 + ungranted granule (R261) -/
  granuleAt : SMap Nat
  slotsUsed : List Nat
  /-- LPDDR6 granule → spare granule (R265) -/
  ddrAt : SMap Nat
  ddrPoolUsed : Nat
  /-- granule copies in progress: base SRAM or LPDDR6 granule → target -/
  copying : SMap Nat
  ddrCopying : SMap Nat
  rows : List RowRepair
  /-- absent granules, by first address (R262) -/
  absent : List Nat
  /-- remap slots that a partition has drawn from its reservation -/
  resvUsed : SMap Nat
  /-- REPAIR section, and records not yet written (R267) -/
  recs : List RepairRec
  pending : List RepairRec
  nextSeq : Nat
  /-- die-to-die lane groups retired (R20) -/
  d2dRetired : List Nat
  /-- scrub of the whole device restarted (R430) -/
  scrubPass : Nat
  /-- LPDDR6 channels whose refresh and retraining counters run: refreshes issued, retraining steps done -/
  refreshes : SMap Nat
  retrainSteps : SMap Nat
  deriving DecidableEq, Repr

/-- One entry of Hayward's error log (Table 11.6). -/
structure LogEntry where
  seq : Nat
  sev : Nat
  cls : Nat
  code : Nat
  parts : BitVec 4
  ukind : Nat
  unit : Nat
  lcluster : Nat
  channel : Nat
  cmdseq : Nat
  status : Nat
  rstate : Nat
  psec : Nat
  ptime : Nat
  since : Nat
  count : Nat
  addr : Nat
  detail : Nat
  tag : W64
  deriving DecidableEq, Repr

/-- A unit of Table 11.3 with its recovery state: kind and number as in Table 11.6, retired or recovering (R363). -/
structure UnitState where
  kind : Nat
  num : Nat
  retired : Bool
  deriving DecidableEq, Repr

/-- A recovery action (R364): the unit, the detection PTIME, the row in error (a bank's row, or bank + 256 · row of an LPDDR6
channel) and an address that it holds. -/
structure Action where
  kind : Nat
  num : Nat
  ptime : Nat
  arg : Nat
  addr : Nat
  deriving DecidableEq, Repr

/-- Hayward (R356-R358, R363-R365, R371, R375). -/
structure Hayward where
  /-- `HW.STATUS` ACTIVE (true is IOB), STANDBY, FATAL -/
  activeB : Bool
  standby : Bool
  fatal : Bool
  /-- the active pair has stopped and the standby is taking over (R357) -/
  takeover : Bool
  /-- events buffered during a takeover, by die 0-17 (R357) -/
  buffers : SMap (List LogEntry)
  log : List LogEntry
  nextSeq : Nat
  lost : Nat
  /-- highest SEQ that the management reader has acknowledged, plus one (R403) -/
  acked : Nat
  /-- masked and contained events by unit, newest first: kind, number, severity, powered seconds (R365) -/
  events : List (Nat × Nat × Nat × Nat)
  units : List UnitState
  running : List Action
  queued : List Action
  flagOrder : Nat
  suspended : Bool
  /-- partitions' view positions (R379): 2p: SEQ + 1 of the presented entry, 0 where none is; 2p + 1: lowest SEQ not yet
  presented -/
  viewAt : SMap Nat
  deriving DecidableEq, Repr

/-- A phase of a native port's training, or its state (Table 10.2, R318). -/
inductive LinkPhase where
  | down | equalise | deskew | hello | up
  deriving DecidableEq, Repr

/-- A MACsec key slot (R322). -/
structure KeySlot where
  sak : BitVec 256
  salt : BitVec 96
  ssci : BitVec 32
  an : Nat
  nextPn : Nat
  deriving DecidableEq, Repr

/-- A DATA frame to be sent, or sent and not yet acknowledged: PSN, the link operation it belongs to, the transport header
fields and the source that a retransmission repeats (R331, R332, R337), and what SACK and fast retransmission have done. -/
structure TxFrame where
  psn : Nat
  opId : Option Nat
  op : Nat
  code : Nat
  ctx : Nat
  window : Nat
  epoch : Nat
  offset : Nat
  len : Nat
  src : Nat
  flags : Nat
  step : Nat
  aux : Nat
  /-- KIND, n and LEN of the LK_COLL that it belongs to (R339) -/
  coll : Nat × Nat × Nat
  sacked : Bool
  fast : Bool
  /-- of a detached receiver: not sent again (R344) -/
  dead : Bool
  deriving DecidableEq, Repr

/-- The transport state kept for one partner entry (R331, R332, R325): the PSN of the next frame sent and of the next frame
expected, frames unacknowledged, responses that wait to be sent, frames held out of order, DATA frames since the last
acknowledgement, the timeout in µs, the token bucket's deficit in thousandths of a byte and when it was last reckoned, and the
bytes accepted. -/
structure Transport where
  txPsn : Nat
  rxPsn : Nat
  unacked : List TxFrame
  queue : List TxFrame
  held : List (Nat × Frame)
  sinceAck : Nat
  rtoUs : Nat
  deficit : Nat
  bucketAt : Nat
  bytesIn : Nat
  deriving DecidableEq, Repr

/-- One link port (R312-R319). -/
structure LinkPort where
  phase : LinkPhase
  lanes : BitVec 4
  /-- the lane under recalibration, and whether the port runs on two lanes (R317) -/
  recal : Option Nat
  degraded : Bool
  helloRefused : Bool
  /-- priorities paused, and those whose pause is ignored (R319) -/
  paused : List Nat
  ignored : List Nat
  /-- a PFC pause has been sent and no resume since -/
  pfcSent : Bool
  /-- a drop counter has risen since the last LINK_DROPS -/
  dropped : Bool
  recals : Nat
  deriving DecidableEq, Repr

/-- What a running link operation is (R334). -/
inductive LinkKind where
  | xfer | coll | mcast | vote
  deriving DecidableEq, Repr

/-- A running link command (R335-R348), or one that waits for its context. -/
structure LinkOp where
  id : Nat
  part : Nat
  die : Nat
  kind : LinkKind
  /-- holds an operation context; otherwise it waits for one -/
  ctxHeld : Bool
  ctx : Nat
  /-- members, receivers or the one partner: reference and window epoch -/
  members : List (Nat × Nat)
  rank : Nat
  window : Nat
  off : Nat
  len : Nat
  /-- DIR, fold code, local sward buffer, NOTIFY; KIND, direct algorithm, ROOT; EXPEL -/
  dir : Nat
  code : Nat
  buf : Nat
  notify : Bool
  ckind : Nat
  direct : Bool
  root : Nat
  expel : Bool
  /-- the local address of the source, buffer or digest, or of a read's destination -/
  loc : Nat
  /-- frames issued to, and applied from, each member -/
  sent : SMap Nat
  recvd : SMap Nat
  /-- nothing more is sent -/
  stop : Bool
  refusals : List Status
  /-- detached receivers and their causes (R344) -/
  detached : List (Nat × Status)
  /-- digests received: member, digest; members whose digest has not arrived within the lag limit (R347) -/
  digests : List (Nat × BitVec 128)
  absent : List Nat
  /-- extensions granted to members, in µs (R345) -/
  granted : SMap Nat
  flags : BitVec 8
  detail : W64
  deriving DecidableEq, Repr

/-- A step of a partition reset (Table 12.4). -/
inductive PresetPhase where
  | none | stopping | clearing | erasing
  deriving DecidableEq, Repr

/-- One host port and its functions (R381-R397). -/
structure HostPort where
  perst : Bool
  linkUp : Bool
  cfgReady : Bool
  preset : PresetPhase
  /-- partition-fatal (R362) -/
  fatal : Bool
  /-- Bus Master Enable, MSI-X Enable and Function Mask by function; functions in D3hot (R384, R386, R391) -/
  bme : List Nat
  msixOn : List Nat
  fnMask : List Nat
  d3hot : List Nat
  vfEnable : Bool
  /-- configuration registers written, by function · 4,096 + offset -/
  cfg : SMap (BitVec 32)
  /-- MSI-X tables: (function · 2,048 + vector) · 2 + word; vectors pending (function · 2,048 + vector) -/
  msix : SMap W64
  msixPend : List Nat
  /-- selective IDE streams 0-7 and the link stream 8: secure, or moved to insecure (R392) -/
  ideSecure : List Nat
  ideInsecure : List Nat
  /-- mailbox: the operation's answer is formed and awaits MAILBOX_RESPONSE: RESULT, bytes (R399) -/
  mbAnswer : Option (Nat × List Byte)
  spdmSession : Nat
  /-- log2 of the BAR2 size that the host has set through the Resizable BAR capability (R389) -/
  bar2Log2 : Option Nat
  /-- negotiated rate and width (`HP.STATUS` SPEED and WIDTH) -/
  speed : Nat
  width : Nat
  deriving DecidableEq, Repr

/-- A slot-select record (R422). -/
structure SlotRec where
  seq : Nat
  crcOk : Bool
  trialValid : Bool
  trial : Bool
  confirmed : Bool
  deriving DecidableEq, Repr

/-- A powered-seconds record (R416). -/
structure CounterRec where
  seq : Nat
  secs : Nat
  crcOk : Bool
  deriving DecidableEq, Repr

/-- What POLICY says of one partition (Table 13.11, Table 14.9). -/
structure PartPolicy where
  enabled : Bool
  clusters : List Nat
  /-- first address, granules of 2 MiB -/
  grants : List (Nat × Nat)
  chanFirst : Nat
  chanCount : Nat
  sEntry : Nat
  resvSlots : Nat
  bar2Log2 : Nat
  ideRequired : Bool
  lkCtxA : Nat
  lkCtxB : Nat
  deriving DecidableEq, Repr

/-- POLICY (Table 13.11): partitions P0-P3, the eight link ports' owner and mode, and the device fields. -/
structure Policy where
  parts : List PartPolicy
  portOwner : List (Option Nat)
  portEth : List Bool
  portKr : List Bool
  powerCap : Nat
  scrub : Bool
  integrity : Bool
  mgmtWrite : Bool
  ownerPart : Nat
  resetErase : Bool
  ddrHarden : Bool
  deriving DecidableEq, Repr

/-- One section of an image in force (Table 13.6). -/
structure SecInfo where
  type : Nat
  svn : Nat
  digest : BitVec 384
  deriving DecidableEq, Repr

/-- Boot, image and live change (R415-R430). -/
structure Boot where
  /-- `CK.BOOT.STAGE`, the other fields of CK.BOOT stand in `regs` -/
  stage : Nat
  /-- slot running: true is B -/
  slotB : Bool
  /-- flash bytes of the two slots, an unlisted byte is 0xFF, erased (R425) -/
  flash : List Host.Cell
  slotRecs : List SlotRec
  counterRecs : List CounterRec
  /-- sections in force, the previous MONITOR digest, a section applied live since boot (Table 14.8) -/
  secs : List SecInfo
  monOld : Option (BitVec 384)
  liveApplied : Bool
  /-- address of the MONITOR copy in device-private base SRAM and its length and vector base; the same of the MONITOR of the
  latest APPLY, placed beside it (R475, R427) -/
  monBase : Nat
  monLen : Nat
  monVec : Nat
  newMonBase : Nat
  newMonLen : Nat
  newMonVec : Nat
  /-- staging has begun; the target slot is committed; APPLY in progress; the sections still to apply (R425, R426) -/
  staging : Bool
  committed : Bool
  applying : Bool
  pendingSecs : List Nat
  /-- BOOT is to apply by planned switchover (R429) -/
  bootLive : Bool
  /-- the POLICY whose fields are being applied (R430), or that boot stage 2 has read and stage 3 applies -/
  newPolicy : Option Policy
  /-- the KEYS section in force (R434), and what the attestation key was derived from at boot (R437) -/
  keys : List Byte
  l1 : List Byte
  deriving DecidableEq, Repr

/-- Life cycle (R433-R450). -/
structure Life where
  /-- the state code of `LC.STATE` and the number of owner digests burnt, as boot stage 1 read them (R442) -/
  lc : Nat
  ownerN : Nat
  /-- UDS_KILL as burnt, and as boot stage 1 read it -/
  udsKill : Bool
  noId : Bool
  vendorDig : List (BitVec 384)
  vendorRev : BitVec 4
  ownerDig : List (BitVec 384)
  /-- provisionings, returns and the scrap bit of the STATE fuse -/
  provisions : Nat
  returns : Nat
  scrapped : Bool
  svnMin : List Nat
  /-- token nonces drawn so far (R445) -/
  nonceNo : Nat
  retArmed : Bool
  /-- the fuses that the pending change burns have been burnt, and the reset is awaited (R442) -/
  pending : Bool
  newOwnerDig : Option (BitVec 384)
  dbgParts : BitVec 4
  dbgDev : Bool
  dbgSecs : Nat
  deriving DecidableEq, Repr

/-- Power, clocks and temperature (R405-R414, R461-R464). -/
structure Power where
  en : Bool
  vinOk : Bool
  rails : Bool
  /-- rails coming down, a re-raised EN is held (R464) -/
  held : Bool
  pwrGood : Bool
  sysRstN : Bool
  /-- `CK.DIV`: in force, required by power, required by temperature -/
  div : Nat
  pwrDiv : Nat
  thermDiv : Nat
  /-- a divider change decided and not yet switched; admission and issue held (R408) -/
  divPending : Option Nat
  holdIssue : Bool
  /-- input power samples of 1 µs, newest first, at most 1,000 (R410) -/
  samples : List Nat
  /-- ms-long runs: consecutive samples for which the downward condition has held -/
  lowFor : Nat
  /-- µs since the latest upward and downward step, at most 1,000 (R409) -/
  sinceUp : Nat
  sinceDown : Nat
  /-- the hottest die; the ÷10 response is in force; sc since when the die has read below 95 °C and below 100 °C, and since when
  R414's limits have all held -/
  hotDie : Nat
  hold10 : Bool
  below95 : Option Nat
  below100 : Option Nat
  coolFrom : Option Nat
  /-- reports of the twenty packages (R412) -/
  pkgTemp : SMap Nat
  thermStop : Bool
  straps : BitVec 3
  /-- lifetime powered seconds at power-good -/
  psecOn : Nat
  deriving DecidableEq, Repr

/-- What the device has put on its outputs: host buses, link ports, the sideband and the TAP. -/
inductive BusEvent where
  | hostWrite (p fn addr : Nat) (data : List Byte) (ep : Bool)
  | msixMsg (p fn vector : Nat) (addr data : W64)
  | bar2Data (p : Nat) (data : List Byte) (ep : Bool)
  | cfgAnswer (p : Nat) (retry : Bool) (data : BitVec 32)
  | spdm (p : Nat) (data : List Byte)
  | frame (k ref : Nat) (f : Frame)
  | pfc (k prio : Nat) (pause : Bool)
  | trainFlit (k kind : Nat)
  | sideband (status : Nat) (data : List Byte)
  | jtag (data : BitVec 32)
  | instrument (ok : Bool) (data : Byte)
  | foldValue (p : Nat) (val : W64) (psn : Bool)
  deriving DecidableEq, Repr

/-- The management sideband and the TAP (R401-R403, R441). -/
structure Mgmt where
  staticAddr : Nat
  dynAddr : Option Nat
  eid : Nat
  /-- PLDM sensor readings as last refreshed (R402) -/
  sensors : SMap Nat
  /-- the TAP's instruction: 0 BYPASS, 1 IDCODE, 2 SAMPLE/PRELOAD, 3 EXTEST, 4 CLAMP (R441) -/
  tap : Nat
  deriving DecidableEq, Repr

/-- The state of the device. -/
structure State where
  /-- the commands that wait, first in, first out -/
  pending : List Instr
  /-- registers of the device, partition and cluster blocks, by control-space address; unlisted: the reset value -/
  regs : SMap W64
  mem : Mem
  /-- host memory as the bus would find it: port · 2^64 + bus address; unlisted 0; reads that arrive poisoned -/
  hostMem : List Host.Cell
  hostPsn : List Nat
  cores : SMap Core
  clusters : SMap Cluster
  phys : SMap Phys
  /-- the channel table (R271): channel · 8 + word -/
  chanTab : SMap W64
  chans : SMap Chan
  cmds : List Cmd
  kernels : List Kernel
  nextId : Nat
  policy : Policy
  repair : Repair
  hw : Hayward
  /-- partner tables (R324): (port · 8,192 + entry) · 8 + word; key slots: port · 16,384 + slot -/
  partners : SMap W64
  keys : SMap KeySlot
  transports : SMap Transport
  ports : SMap LinkPort
  linkOps : List LinkOp
  hosts : SMap HostPort
  boot : Boot
  life : Life
  power : Power
  mgmt : Mgmt
  /-- arming in progress: kind (0 region, 1 sward, 2 remote window, 3 BAR2), partition, entry (R474) -/
  arming : List (Nat × Nat × Nat)
  /-- disarmed region entries that still read VALID: partition, entry (R235) -/
  disarming : List (Nat × Nat)
  /-- base dies' copies of sward flags: (partition · 64 + entry) · 8 + die (R115) -/
  sbFlags : SMap (BitVec 4)
  /-- outputs, newest first -/
  bus : List BusEvent
  /-- the clusters' ac counts, less their skew; the remainder of root clock cycles -/
  acCount : Nat
  acRem : Nat
  /-- lifetime powered seconds, `HW.PSEC` -/
  psec : Nat
  /-- MODEL'S OWN, not the spec's: counter of free values drawn -/
  freeCtr : Nat
  deriving DecidableEq, Repr

/-- Why the device stops. -/
inductive Fault where
  /-- Raised by VIN_OUT_OF_RANGE, never by another command, where the state says that the package has been exposed beyond
  its absolute maximum ratings (R471); safe. -/
  | beyondAbsoluteMaximum
  deriving DecidableEq, Repr

/-- Why a command has no meaning. -/
inductive Refusal where
  /-- An arm of exec that has no meaning yet; safe. -/
  | notModelled (mnemonic : String)
  deriving DecidableEq, Repr

/-- The POLICY in force before any image is read: nothing is granted to anyone (no value is given; log entry 2). -/
def Policy.none : Policy :=
  { parts := [], portOwner := [], portEth := [], portKr := [], powerCap := 3600, scrub := false, integrity := false,
    mgmtWrite := false, ownerPart := 0, resetErase := false, ddrHarden := false }

/-- Right after power-good or the release of SYS_RST_N: boot stage 1 (R420, Table 13.13), every register at its reset
value, no memory written, the flash erased and unrecorded, a part on which no fuse of the life cycle is burnt. -/
def State.reset : State :=
  { pending := []
    regs := []
    mem := { bytes := [], psn := [], latent := [], writeback := [], detected := [] }
    hostMem := []
    hostPsn := []
    cores := []
    clusters := []
    phys := []
    chanTab := []
    chans := []
    cmds := []
    kernels := []
    nextId := 0
    policy := Policy.none
    repair := { banks := [], granuleAt := [], slotsUsed := [], ddrAt := [], ddrPoolUsed := 0, copying := [],
                ddrCopying := [], rows := [], absent := [], resvUsed := [], recs := [], pending := [], nextSeq := 0,
                d2dRetired := [], scrubPass := 0, refreshes := [], retrainSteps := [] }
    hw := { activeB := false, standby := true, fatal := false, takeover := false, buffers := [], log := [], nextSeq := 0,
            lost := 0, acked := 0, events := [], units := [], running := [], queued := [], flagOrder := 0,
            suspended := false, viewAt := [] }
    partners := []
    keys := []
    transports := []
    ports := []
    linkOps := []
    hosts := []
    boot := { stage := 1, slotB := false, flash := [], slotRecs := [], counterRecs := [], secs := [], monOld := none,
              liveApplied := false, monBase := 0, monLen := 0, monVec := 0, newMonBase := 0, newMonLen := 0, newMonVec := 0,
              staging := false, committed := false, applying := false, pendingSecs := [], bootLive := false, newPolicy := none,
              keys := [], l1 := [] }
    life := { lc := 0, ownerN := 0, udsKill := false, noId := false, vendorDig := [], vendorRev := 0, ownerDig := [], provisions := 0, returns := 0,
              scrapped := false, svnMin := [], nonceNo := 0, retArmed := false, pending := false, newOwnerDig := none,
              dbgParts := 0, dbgDev := false, dbgSecs := 0 }
    power := { en := true, vinOk := true, rails := true, held := false, pwrGood := true, sysRstN := true, div := 8,
               pwrDiv := 8, thermDiv := 8, divPending := none, holdIssue := false, samples := [], lowFor := 0,
               sinceUp := 1000, sinceDown := 1000, hotDie := 0, hold10 := false, below95 := none, below100 := none,
               coolFrom := none, pkgTemp := [], thermStop := false, straps := 0, psecOn := 0 }
    mgmt := { staticAddr := 0x30, dynAddr := none, eid := 0, sensors := [], tap := 0 }
    arming := []
    disarming := []
    sbFlags := []
    bus := []
    acCount := 0
    acRem := 0
    psec := 0
    freeCtr := 0 }

end Sys2Proof.Machine
end

