-- ==== Sys2Proof/Machine/Ops.lean ====
section
/-! DEFINITION. Named operations over the plain data of State: sparse maps, bit fields, byte order, the accessors of cores,
clusters, ports and registers, and the reset values of what the sparse maps do not list. -/

namespace Sys2Proof.Machine

/-! ### Sparse maps and sets -/

/-- The value at key k; d where the map lists none. -/
def mget {α : Type} (d : α) : SMap α → Nat → α
  | [], _ => d
  | (k', v) :: t, k => if k = k' then v else mget d t k

/-- Set key k to v, keeping keys rising; a value equal to d is not listed. -/
def mput {α : Type} [DecidableEq α] (d : α) : SMap α → Nat → α → SMap α
  | [], k, v => if v = d then [] else [(k, v)]
  | (k', v') :: t, k, v =>
    if k < k' then (if v = d then (k', v') :: t else (k, v) :: (k', v') :: t)
    else if k = k' then (if v = d then t else (k, v) :: t)
    else (k', v') :: mput d t k v

/-- The value at key k, if listed. -/
def mfind {α : Type} (m : SMap α) (k : Nat) : Option α := mget none (m.map fun q => (q.1, some q.2)) k

/-- List key k with v. -/
def madd {α : Type} : SMap α → Nat → α → SMap α
  | [], k, v => [(k, v)]
  | (k', v') :: t, k, v =>
    if k < k' then (k, v) :: (k', v') :: t else if k = k' then (k, v) :: t else (k', v') :: madd t k v

/-- Unlist key k. -/
def mdel {α : Type} (m : SMap α) (k : Nat) : SMap α := m.filter fun q => q.1 != k

/-- Add k to a rising list of numbers. -/
def sadd : List Nat → Nat → List Nat
  | [], k => [k]
  | h :: t, k => if k < h then k :: h :: t else if k = h then h :: t else h :: sadd t k

/-- Remove k from a list of numbers. -/
def sdel (l : List Nat) (k : Nat) : List Nat := l.filter (· != k)

/-- Add k where b holds, else remove it. -/
def sset (l : List Nat) (k : Nat) (b : Bool) : List Nat := if b then sadd l k else sdel l k

/-- Replace element n of a list. -/
def lset {α : Type} (l : List α) (n : Nat) (v : α) : List α := l.set n v

/-! ### Bit fields and byte order (R5, R6) -/

/-- Bits [hi:lo] of a word as a number. -/
def fld (w : W64) (hi lo : Nat) : Nat := (w.toNat / 2 ^ lo) % 2 ^ (hi + 1 - lo)

/-- The mask of bits [hi:lo]. -/
def maskW (hi lo : Nat) : W64 := BitVec.ofNat 64 ((2 ^ (hi + 1 - lo) - 1) * 2 ^ lo)

/-- w with bits [hi:lo] replaced by v. -/
def setFld (w : W64) (hi lo : Nat) (v : Nat) : W64 :=
  (w &&& ~~~ maskW hi lo) ||| (BitVec.ofNat 64 (v * 2 ^ lo) &&& maskW hi lo)

/-- Bit n of a word. -/
def bitW (w : W64) (n : Nat) : Bool := w.getLsbD n

/-- 1 or 0. -/
def b2n (b : Bool) : Nat := if b then 1 else 0

/-- 64-bit word from a number, modulo 2^64. -/
def w64 (n : Nat) : W64 := BitVec.ofNat 64 n

/-- min(n, 2^k − 1): the saturating counters. -/
def satN (k n : Nat) : Nat := min n (2 ^ k - 1)

/-- w with its field [hi:lo] raised by n, saturating at all ones. -/
def bumpFld (w : W64) (hi lo n : Nat) : W64 := setFld w hi lo (satN (hi + 1 - lo) (fld w hi lo + n))

/-- The number that bytes spell, least significant first. -/
def leNat : List Byte → Nat
  | [] => 0
  | b :: t => b.toNat + 256 * leNat t

/-- The n low bytes of v, least significant first. -/
def leBytes : Nat → Nat → List Byte
  | 0, _ => []
  | n + 1, v => BitVec.ofNat 8 v :: leBytes n (v / 256)

/-- Bytes a, a + 1, … of a cell list; an unlisted byte is d. -/
def rdBytes (d : Byte) (m : List Host.Cell) (a : Nat) : Nat → List Byte
  | 0 => []
  | n + 1 => mget d m a :: rdBytes d m (a + 1) n

/-- Write bytes at a, a + 1, …. -/
def wrBytes (d : Byte) (m : List Host.Cell) : Nat → List Byte → List Host.Cell
  | _, [] => m
  | a, b :: t => wrBytes d (mput d m a b) (a + 1) t

/-- The signed value of the low n bits of v. -/
def sx (n v : Nat) : Int := if v % 2 ^ n < 2 ^ (n - 1) then (v % 2 ^ n : Nat) else ((v % 2 ^ n : Nat) : Int) - (2 ^ n : Nat)

/-- An integer modulo 2^64 as a word. -/
def wInt (i : Int) : W64 := BitVec.ofInt 64 i

/-- Bounded search and folds over 0 … n − 1. -/
def upTo (n : Nat) : List Nat := List.range n

/-! ### Reset values of what the maps do not list -/

/-- A core after a device reset and after its SRAM has been cleared: level M, data cache enabled, stack bounds and local
memory bound of Table 6.11, Table 6.12; the VX and EX resets of Tables 5.12 to 7.12. -/
def Core.reset : Core :=
  { run := .idle, pc := 0, slot := none, priv := .M, ie := false, dce := true, ds := [], dsSpill := 0, rs := [], rsSpill := 0,
    loops := [], lm := [], lmPsn := [], tickets := [], ticketOrder := 0, vr := [], vrPsn := [], mr := [], oc := [],
    claims := 0, redClaims := 0, storesOut := 0, vloadsOut := 0, icache := [], dcache := [], misses := [],
    vxCtl := 0, vxVl := 0x1000, vxStatus := 0, vxRstat := 0, vxFault := 0, vxFaultAddr := 0, vxRangeLo := 0,
    vxRangeHi := 0x7FF0000000000000, vxRcStat := 0, vxSrState := 0x9E3779B9, vxDiscard := 0, vxPairMis := 0,
    ccDsBnd := w64 (4096 + 6144 * 2 ^ 16), ccRsBnd := w64 (6144 + 7936 * 2 ^ 16), ccLmProt := 0x8000,
    exVbarS := 0, exVbarM := none, exLastCause := 0, exLastDetail := 0, winOpen := false, winRem := 0, winClamp := false,
    winOverrun := false, softPend := false, post := 0, abortPend := none, hwPend := none, exKstat := 0, mfaActive := false,
    mfaFrames := 0, exAbort := 0, kernel := none, ieee := false, endStatus := none, sawPoison := false, cvOut := false, cvCover := [], cbBase := 0,
    pbBase := 0, later := [], pairAt := none, laneFault := 0 }

/-- An idle cluster: empty queues, tile A next, 64 free slots (Table 9.24). -/
def Cluster.reset : Cluster :=
  { mxQ := [], mx := none, lastTileB := true, seQ := [], se := none, slotsFree := 64, passedOver := 0, chans := [],
    hold := false, retry := false, moving := none, absent := false, newMon := false, xferFault := 0 }

/-- At shipment each compute die holds four fallow clusters; which four is not given: positions 32 to 35 (log entry 10).
The others hold logical clusters in ascending order (R22, R23). -/
def Phys.reset (ph : Nat) : Phys :=
  { cond := if ph % 36 < 32 then .role (ph / 36 * 32 + ph % 36) else .untested, lastPass := none, testStart := 0,
    retried := false, flagged := none, due := false, borrow := false, recDirty := false, recPass := none,
    recRetired := false, heldParts := 0, erased := [] }

/-- A bank with no row spared. -/
def Bank.reset : Bank := { map := [], spareUsed := 0, copying := none, retired := false, moving := [] }

/-- A port that is down. -/
def LinkPort.reset : LinkPort :=
  { phase := .down, lanes := 0, recal := none, degraded := false, helloRefused := false, paused := [], ignored := [],
    pfcSent := false, dropped := false, recals := 0 }

/-- Transport state as an entry write leaves it (R324, R331): sequence numbers zero, the first timeout 40 µs. -/
def Transport.reset : Transport :=
  { txPsn := 0, rxPsn := 0, unacked := [], queue := [], held := [], sinceAck := 0, rtoUs := 40, deficit := 0, bucketAt := 0,
    bytesIn := 0 }

/-- A host port whose link is down. -/
def HostPort.reset : HostPort :=
  { perst := false, linkUp := false, cfgReady := false, preset := .none, fatal := false, bme := [], msixOn := [],
    fnMask := [], d3hot := [], vfEnable := false, cfg := [], msix := [], msixPend := [], ideSecure := [],
    ideInsecure := [], mbAnswer := none, spdmSession := 0, bar2Log2 := none, speed := 0, width := 0 }

/-- A channel whose entry the dispatcher has never loaded (R272). -/
def Chan.reset : Chan :=
  { gen := none, live := false, cached := false, w0 := 0, w1 := 0, w2 := 0, w6 := 0, fetched := [], recency := 0 }

/-- A partition that POLICY does not describe. -/
def PartPolicy.none : PartPolicy :=
  { enabled := false, clusters := [], grants := [], chanFirst := 0, chanCount := 0, sEntry := 0, resvSlots := 0,
    bar2Log2 := 34, ideRequired := false, lkCtxA := 0, lkCtxB := 0 }

/-! ### Accessors -/

def State.core (s : State) (d : Nat) : Core := mget Core.reset s.cores d
def State.setCore (s : State) (d : Nat) (c : Core) : State := { s with cores := mput Core.reset s.cores d c }
def State.cluster (s : State) (c : Nat) : Cluster := mget Cluster.reset s.clusters c
def State.setCluster (s : State) (c : Nat) (k : Cluster) : State := { s with clusters := mput Cluster.reset s.clusters c k }
def State.physOf (s : State) (ph : Nat) : Phys := mget (Phys.reset ph) s.phys ph
def State.setPhys (s : State) (ph : Nat) (x : Phys) : State := { s with phys := mput (Phys.reset ph) s.phys ph x }
def State.chan (s : State) (ch : Nat) : Chan := mget Chan.reset s.chans ch
def State.setChan (s : State) (ch : Nat) (x : Chan) : State := { s with chans := mput Chan.reset s.chans ch x }
/-- Word w of channel table entry ch (R271). -/
def State.chW (s : State) (ch w : Nat) : W64 := mget 0 s.chanTab (ch * 8 + w)
def State.setChW (s : State) (ch w : Nat) (v : W64) : State := { s with chanTab := mput 0 s.chanTab (ch * 8 + w) v }
def State.port (s : State) (k : Nat) : LinkPort := mget LinkPort.reset s.ports k
def State.setPort (s : State) (k : Nat) (x : LinkPort) : State := { s with ports := mput LinkPort.reset s.ports k x }
def State.transport (s : State) (r : Nat) : Transport := mget Transport.reset s.transports r
def State.setTransport (s : State) (r : Nat) (x : Transport) : State :=
  { s with transports := mput Transport.reset s.transports r x }
def State.host (s : State) (p : Nat) : HostPort := mget HostPort.reset s.hosts p
def State.setHost (s : State) (p : Nat) (x : HostPort) : State := { s with hosts := mput HostPort.reset s.hosts p x }
/-- Word w of the partner entry that reference r names: port r / 8,192, entry r mod 8,192 (R313, Table 10.4). -/
def State.partner (s : State) (r w : Nat) : W64 := mget 0 s.partners (r * 8 + w)
def State.setPartner (s : State) (r w : Nat) (v : W64) : State := { s with partners := mput 0 s.partners (r * 8 + w) v }
def State.bank (s : State) (b : Nat) : Bank := mget Bank.reset s.repair.banks b
def State.setBank (s : State) (b : Nat) (x : Bank) : State :=
  { s with repair := { s.repair with banks := mput Bank.reset s.repair.banks b x } }
/-- What POLICY says of partition p. -/
def State.part (s : State) (p : Nat) : PartPolicy := s.policy.parts.getD p PartPolicy.none
/-- Put an event on the outputs. -/
def State.emit (s : State) (e : BusEvent) : State := { s with bus := e :: s.bus }

/-- The partition that owns logical cluster c. -/
def State.ownerOf (s : State) (c : Nat) : Option Nat := (upTo 4).find? fun p => (s.part p).clusters.contains c
/-- The partition that owns core d's cluster (R231). -/
def State.corePart (s : State) (d : Nat) : Nat := (s.ownerOf (d / 8)).getD 4
/-- The partition whose channel range holds channel ch (R270). -/
def State.chanPart (s : State) (ch : Nat) : Option Nat :=
  (upTo 4).find? fun p => (s.part p).chanFirst ≤ ch && ch < (s.part p).chanFirst + (s.part p).chanCount
/-- The partition that owns link port k (R312). -/
def State.portPart (s : State) (k : Nat) : Option Nat := (s.policy.portOwner.getD k none)
/-- The partition whose grants hold address a (R232). -/
def State.grantPart (s : State) (a : Nat) : Option Nat :=
  (upTo 4).find? fun p => (s.part p).grants.any fun g => g.1 ≤ a && a < g.1 + g.2 * 0x200000
/-- The physical cluster that holds role c (R23). -/
def State.physOfRole (s : State) (c : Nat) : Option Nat := (upTo 288).find? fun ph => (s.physOf ph).cond = .role c

/-! ### Status codes (Table 9.7) -/

/-- The code of a status. -/
def Status.code : Status → Nat
  | .ok => 0 | .partialDone => 1 | .staleRole => 2 | .noProgress => 3 | .checkFail => 4 | .poisoned => 5 | .outOfBounds => 6
  | .thermal => 7 | .peerLost => 8 | .denied => 9 | .aborted => 10 | .illegalCommand => 11 | .rangeCheck => 12
  | .illegalTarget => 13

/-- The rank of a status; 1 first. -/
def Status.rank : Status → Nat
  | .ok => 14 | .partialDone => 13 | .staleRole => 2 | .noProgress => 7 | .checkFail => 10 | .poisoned => 11
  | .outOfBounds => 4 | .thermal => 6 | .peerLost => 9 | .denied => 1 | .aborted => 8 | .illegalCommand => 3
  | .rangeCheck => 12 | .illegalTarget => 5

/-- The status of a code, where the table lists it. -/
def Status.ofCode : Nat → Option Status
  | 0 => some .ok | 1 => some .partialDone | 2 => some .staleRole | 3 => some .noProgress | 4 => some .checkFail
  | 5 => some .poisoned | 6 => some .outOfBounds | 7 => some .thermal | 8 => some .peerLost | 9 => some .denied
  | 10 => some .aborted | 11 => some .illegalCommand | 12 => some .rangeCheck | 13 => some .illegalTarget | _ => none

/-- The higher-ranked of two statuses. -/
def Status.worse (a b : Status) : Status := if b.rank < a.rank then b else a

/-- The highest-ranked of a list, OK where it is empty. -/
def Status.worst (l : List Status) : Status := l.foldl Status.worse .ok

/-- Signals the command's SIGNAL barriers (R292). -/
def Status.signals : Status → Bool
  | .ok | .partialDone | .rangeCheck | .poisoned => true
  | _ => false

/-- Halts the channel whose word 0 is w (R281). -/
def Status.halts (w : W64) : Status → Bool
  | .ok | .partialDone => false
  | .poisoned => bitW w 15
  | .rangeCheck => bitW w 14
  | _ => true

/-! ### Control-space addresses (Table 8.2) -/

def aHW : Nat := 0x700000000000
def aCK : Nat := 0x700000010000
def aLC : Nat := 0x700000020000
def aCoreWin (d : Nat) : Nat := 0x700001000000 + d * 0x1000
def aMX (c : Nat) : Nat := 0x700002000000 + c * 0x1000
def aSE (c : Nat) : Nat := aMX c + 0x400
def aCB (c b : Nat) : Nat := aMX c + 0x800 + 8 * b
def aPart (p : Nat) : Nat := 0x700003000000 + p * 0x100000
def aMM (p : Nat) : Nat := aPart p
def aFD (p : Nat) : Nat := aPart p + 0x10000
def aCH (p : Nat) : Nat := aPart p + 0x20000
def aLK (p : Nat) : Nat := aPart p + 0x30000
def aHP (p : Nat) : Nat := aPart p + 0x40000
def aPV (p : Nat) : Nat := aPart p + 0x50000
def aRgnLo (p n : Nat) : Nat := aMM p + 0x10 * n
def aRgnHi (p n : Nat) : Nat := aMM p + 0x10 * n + 8
def aSbBase (p n : Nat) : Nat := aFD p + 0x20 * n
def aSbCfg (p n : Nat) : Nat := aFD p + 0x20 * n + 8
def aSbStat (p n : Nat) : Nat := aFD p + 0x20 * n + 0x10
def aReject (p : Nat) : Nat := aFD p + 0x800
def aWinLo (p w : Nat) : Nat := aLK p + 0x400 + 0x10 * w
def aWinHi (p w : Nat) : Nat := aLK p + 0x408 + 0x10 * w
def aB2Lo (p n : Nat) : Nat := aHP p + 0x40 + 0x10 * n
def aB2Hi (p n : Nat) : Nat := aHP p + 0x48 + 0x10 * n
def aPB (p b : Nat) : Nat := aCH p + 0x100 + 8 * b
def aEpoch (p : Nat) : Nat := aCH p + 8
def aCSet (p cs w : Nat) : Nat := aCH p + 0x400 + 0x20 * cs + 8 * w
def aCvt (p k : Nat) : Nat := aCH p + 0x600 + 8 * k
def aDrop (p k : Nat) : Nat := aLK p + 0x110 + 0x20 * k
def aPortCfg (p k : Nat) : Nat := aLK p + 0x100 + 0x20 * k
def aPortStat (p k : Nat) : Nat := aLK p + 0x108 + 0x20 * k

/-! ### Registers by address -/

/-- The reset value of the register at a control-space address, where it is not zero (Tables 10.14, 10.19, 11.16). -/
def regReset (a : Nat) : W64 :=
  if a < aPart 0 ∨ aPart 4 ≤ a then 0
  else
    let o := (a - aPart 0) % 0x100000
    if o = 0x30000 then w64 (2000 + 10 * 2 ^ 20 + 1000 * 2 ^ 34)
    else if 0x30100 ≤ o ∧ o < 0x30200 ∧ o % 0x20 = 0 then w64 (3 * 2 ^ 16 + 50712 * 2 ^ 19 + 1024 * 2 ^ 35)
    else if o = 0x50008 then w64 (2 ^ 15)
    else 0

/-- The stored register at a control-space address. -/
def State.reg (s : State) (a : Nat) : W64 := mget (regReset a) s.regs a
/-- s with that register set. -/
def State.setReg (s : State) (a : Nat) (v : W64) : State := { s with regs := mput (regReset a) s.regs a v }
/-- s with a field of that register raised by n, saturating at all ones. -/
def State.bump (s : State) (a hi lo n : Nat) : State := s.setReg a (bumpFld (s.reg a) hi lo n)
/-- `HW.SC_COUNT`: sc cycles since power-good. -/
def State.sc (s : State) : Nat := (s.reg (aHW + 8)).toNat

end Sys2Proof.Machine
end

