-- ==== Sys2Proof/Machine/Log.lean ====
section
/-! DEFINITION. MSI-X messages (R391), Hayward's error log and the partition views (R375-R379), and the event codes of
Table 11.7. -/

namespace Sys2Proof.Machine

/-! ### Event codes (Table 11.7) -/

def eStoreCe : Nat := 0x01
def eStoreUe : Nat := 0x02
def eDetectErr : Nat := 0x03
def eRowSpared : Nat := 0x04
def eBankRetired : Nat := 0x05
def eGranuleMoved : Nat := 0x06
def eGranuleAbsent : Nat := 0x07
def eDdrRepaired : Nat := 0x08
def eBondErased : Nat := 0x09
def ePathUe : Nat := 0x0A
def eCacheParity : Nat := 0x0B
def eRepairLog : Nat := 0x0C
def eD2dLaneRepaired : Nat := 0x0D
def eD2dGroupRetired : Nat := 0x0E
def ePrivateLost : Nat := 0x0F
def eWrMasked : Nat := 0x10
def eWrChecker : Nat := 0x11
def eWrEngine : Nat := 0x12
def ePairMismatch : Nat := 0x13
def eMfaEntry : Nat := 0x14
def eCoreHalted : Nat := 0x15
def eWinOverrun : Nat := 0x16
def eBadAccess : Nat := 0x17
def eMFault : Nat := 0x18
def eCvRetry : Nat := 0x20
def eCvFail : Nat := 0x21
def eNoProgress : Nat := 0x22
def eLaneDegraded : Nat := 0x30
def eLinkDrops : Nat := 0x31
def ePfcIgnored : Nat := 0x32
def ePeerLost : Nat := 0x33
def eTestRetry : Nat := 0x40
def eTestFail : Nat := 0x41
def eClusterRetired : Nat := 0x42
def eClusterAbsent : Nat := 0x43
def eTestDeferred : Nat := 0x44
def eClusterBorrowed : Nat := 0x45
def eThreshold : Nat := 0x46
def eEscalated : Nat := 0x47
def eFailover : Nat := 0x50
def eStandbyLost : Nat := 0x51
def eClockFault : Nat := 0x52
def eSupplyFault : Nat := 0x53
def ePartitionFatal : Nat := 0x54
def eHaywardLost : Nat := 0x55

/-- The severity of a code (Tables 11.2, 11.7): 0 masked, 1 contained, 2 unit-retired, 3 partition-fatal, 4 device-fatal. -/
def sevOf (code : Nat) : Nat :=
  if [0x0F, 0x52, 0x53, 0x55].contains code then 4
  else if code = 0x54 then 3
  else if [0x05, 0x07, 0x0E, 0x12, 0x41, 0x42, 0x43, 0x47].contains code then 2
  else if [0x02, 0x03, 0x0A, 0x11, 0x13, 0x14, 0x15, 0x18, 0x21, 0x22, 0x30, 0x33, 0x40, 0x46, 0x50, 0x51].contains code then 1
  else 0

/-- The fault class of a code (Table 11.1), 0 outside the guarantee; CLUSTER_RETIRED and the storage events take theirs from what
raised them (log entry 26). -/
def clsOf (code : Nat) : Nat :=
  if [0x04, 0x05, 0x06, 0x07, 0x09, 0x0D, 0x0E, 0x30].contains code then 3
  else if [0x01, 0x02, 0x08].contains code then 1
  else if code = 0x03 then 2
  else if [0x10, 0x11, 0x12].contains code then 4
  else if [0x13, 0x40, 0x41].contains code then 5
  else if [0x0A, 0x20, 0x21].contains code then 6
  else if [0x50, 0x51, 0x55].contains code then 7
  else if [0x52, 0x53].contains code then 8
  else 0

/-- An event with its code's severity and nothing named (Table 11.6). -/
def ev (code : Nat) : LogEntry :=
  { seq := 0, sev := sevOf code, cls := clsOf code, code, parts := 0, ukind := 0, unit := 0, lcluster := 0xFFFF, channel := 0xFFFF,
    cmdseq := 0, status := 0xFF, rstate := 0, psec := 0, ptime := 0, since := 0, count := 1, addr := 0, detail := 0, tag := 0 }

/-- The PARTS bit of a partition. -/
def pbit (p : Nat) : BitVec 4 := BitVec.ofNat 4 (2 ^ p)
/-- The PARTS bit of an optional partition. -/
def pbitO : Option Nat → BitVec 4
  | none => 0
  | some p => pbit p
/-- Every enabled partition. -/
def State.allParts (s : State) : BitVec 4 :=
  (upTo 4).foldl (fun b p => if (s.part p).enabled then b ||| pbit p else b) 0
/-- The partition that PARTS names, where it names exactly one. -/
def onlyPart (b : BitVec 4) : Option Nat := (upTo 4).find? fun p => b == pbit p

/-! ### MSI-X -/

/-- The number of vectors of a function (Table 12.1). -/
def msixSize (fn : Nat) : Nat := if fn = 0 then 2048 else 128
/-- Word w (0 address, 1 data and control) of vector v of function fn; every vector is masked at reset (PCIe). -/
def HostPort.msixW (h : HostPort) (fn v w : Nat) : W64 := mget (if w = 1 then w64 (2 ^ 32) else 0) h.msix ((fn * 2048 + v) * 2 + w)
/-- Whether a vector may send now: MSI-X not masked by the function or the vector, bus mastering on, and D0. -/
def HostPort.msixOpen (h : HostPort) (fn v : Nat) : Bool :=
  !h.fnMask.contains fn && !bitW (h.msixW fn v 1) 32 && h.bme.contains fn && !h.d3hot.contains fn
/-- The message of a vector. -/
def State.msixPut (s : State) (p fn v : Nat) : State :=
  s.emit (.msixMsg p fn v ((s.host p).msixW fn v 0) ((s.host p).msixW fn v 1 &&& 0xFFFFFFFF))

/-- R391: a message is due; also, whether the vector lies outside the function's table. -/
def msixSend (s : State) (p fn v : Nat) : State × Bool :=
  if !(s.host p).msixOn.contains fn then (s, false)
  else if v ≥ msixSize fn then (s, true)
  else if (s.host p).msixOpen fn v then (s.msixPut p fn v, false)
  else (s.setHost p { s.host p with msixPend := sadd (s.host p).msixPend (fn * 2048 + v) }, false)

/-- Pending messages that a change has let through are sent (PCIe; R384, R391). -/
def State.msixFlush (s : State) (p : Nat) : State :=
  let h := s.host p
  let go := h.msixPend.filter fun n => h.msixOn.contains (n / 2048) && h.msixOpen (n / 2048) (n % 2048)
  let s1 := s.setHost p { h with msixPend := h.msixPend.filter fun n => !go.contains n }
  go.foldl (fun s n => s.msixPut p (n / 2048) (n % 2048)) s1

/-! ### The log -/

/-- The eight words of an entry as partition p's view shows it (Table 11.6, R379); p = 4: unfiltered. -/
def LogEntry.word (e : LogEntry) (p i : Nat) : W64 :=
  let parts := if p < 4 then e.parts &&& pbit p else e.parts
  let tag := if p < 4 ∧ e.parts ≠ pbit p then 0 else e.tag
  match i with
  | 0 => w64 (e.seq % 2 ^ 32 + e.sev * 2 ^ 32 + e.cls * 2 ^ 40 + e.code * 2 ^ 48)
  | 1 => w64 (parts.toNat + e.ukind * 2 ^ 8 + e.unit * 2 ^ 16 + e.lcluster * 2 ^ 32 + e.channel * 2 ^ 48)
  | 2 => w64 (e.cmdseq + e.status * 2 ^ 16 + e.rstate * 2 ^ 24 + e.psec % 2 ^ 32 * 2 ^ 32)
  | 3 => w64 e.ptime
  | 4 => w64 (e.since % 2 ^ 32 + e.count * 2 ^ 32)
  | 5 => w64 e.addr
  | 6 => w64 e.detail
  | _ => tag

/-- The oldest entry of partition p's view that has not been presented, latched into `HW.PV_DATA` where none stands there. -/
def State.present (s : State) (p : Nat) : State :=
  if mget 0 s.hw.viewAt (2 * p) ≠ 0 then s
  else
    match s.hw.log.reverse.find? fun e => e.seq ≥ mget 0 s.hw.viewAt (2 * p + 1) && (e.parts &&& pbit p) != 0 with
    | none => s
    | some e =>
      let s1 := (upTo 8).foldl (fun s i => s.setReg (aPV p + 0x40 + 8 * i) (e.word p i)) s
      { s1 with hw := { s1.hw with viewAt := mput 0 (mput 0 s1.hw.viewAt (2 * p) (e.seq + 1)) (2 * p + 1) (e.seq + 1) } }

/-- The place, oldest first, of the oldest entry of the lowest severity present. -/
def victim (l : List LogEntry) : Option LogEntry :=
  l.reverse.foldl (fun b e => match b with
    | none => some e
    | some v => if e.sev < v.sev then some e else some v) none

/-- Count an entry that is lost (R375). -/
def State.lose (s : State) : State := { s with hw := { s.hw with lost := satN 32 (s.hw.lost + 1) } }

/-- The partitions whose view still awaited an entry that is replaced: `HW.PV_STAT.LOST` (R379). -/
def State.viewLost (s : State) (v : LogEntry) : State :=
  (upTo 4).foldl (fun s p =>
    if (v.parts &&& pbit p) != 0 && v.seq ≥ mget 0 s.hw.viewAt (2 * p + 1) then s.bump (aPV p) 47 32 1 else s) s

/-- Write an entry (R375, R377), and the vectors due for the views (R379): partition, function, vector. -/
def putLog (s : State) (e : LogEntry) : State × List (Nat × Nat × Nat) :=
  match s.hw.log with
  | n :: rest =>
    if e.sev = 0 ∧ n.code = e.code ∧ n.unit = e.unit ∧ n.psec = e.psec then
      ({ s with hw := { s.hw with log := { n with count := satN 32 (n.count + 1) } :: rest } }, [])
    else go s e
  | [] => go s e
where
  /-- a new entry -/
  go (s : State) (e : LogEntry) : State × List (Nat × Nat × Nat) :=
    let e := { e with seq := s.hw.nextSeq, tag := match onlyPart e.parts with
      | some p => s.reg (aPV p + 0x18)
      | none => 0 }
    let s := { s with hw := { s.hw with nextSeq := s.hw.nextSeq + 1 } }
    if s.hw.log.length < 1024 then add { s with hw := { s.hw with log := e :: s.hw.log } } e
    else
      match victim s.hw.log with
      | none => (s, [])
      | some v =>
        if v.sev ≤ e.sev then
          let s1 := { s with hw := { s.hw with log := e :: s.hw.log.filter fun x => x.seq != v.seq } }
          let s2 := if v.seq ≥ s.hw.acked then s1.lose else s1
          add (s2.viewLost v) e
        else (s.lose, [])
  /-- the views take notice of a new entry -/
  add (s : State) (e : LogEntry) : State × List (Nat × Nat × Nat) :=
    (upTo 4).foldl (fun (r : State × List (Nat × Nat × Nat)) p =>
      if (e.parts &&& pbit p) = 0 then r
      else
        let c := r.1.reg (aPV p + 8)
        (r.1.present p, if bitW c 18 && fld c 17 15 ≤ e.sev then r.2 ++ [(p, fld c 14 11, fld c 10 0)] else r.2)) (s, [])

/-- Write an entry and send what is due; a vector outside its table is logged in its turn, which the coalescing of R377
bounds. -/
def logW : Nat → State → LogEntry → State
  | 0, s, e => (putLog s e).1
  | n + 1, s, e =>
    let r := putLog s e
    r.2.foldl (fun s d =>
      let m := msixSend s d.1 d.2.1 d.2.2
      if m.2 then logW n m.1 { ev eBadAccess with parts := pbit d.1, psec := s.psec, ptime := s.sc } else m.1) r.1

/-- SINCE of an entry of fault class 5 or 8: the start of the latest passing test of the unit's physical cluster, or of the
session (Table 11.6). -/
def State.sinceOf (s : State) (kind num : Nat) : Nat :=
  (if kind = 1 then (s.physOf num).lastPass else if kind = 2 then (s.physOf (num / 8)).lastPass else none).getD s.power.psecOn

/-- Hayward logs an event that an agent on a die detects: dies C0-C7 are 0-7, B0-B7 8-15, IOA 16, IOB 17. During a takeover
it waits in the die's buffer (R357). -/
def logEv (s : State) (die : Nat) (e : LogEntry) : State :=
  let e := { e with psec := s.psec, ptime := s.sc
                    since := if e.cls = 5 ∨ e.cls = 8 then s.sinceOf e.ukind e.unit else 0 }
  if s.hw.takeover then
    if (mget [] s.hw.buffers die).length < 64 then
      { s with hw := { s.hw with buffers := mput [] s.hw.buffers die (mget [] s.hw.buffers die ++ [e]) } }
    else s.lose
  else logW 2 s e

/-- A message is due (R391), with the BAD_ACCESS entry where the vector lies outside the table. -/
def msixDue (s : State) (p fn v : Nat) : State :=
  let m := msixSend s p fn v
  if m.2 then logEv m.1 (16 + p / 2) { ev eBadAccess with parts := pbit p } else m.1

/-- R14, R388: a refused access of partition p is logged. -/
def badAccess (s : State) (die p a : Nat) : State := logEv s die { ev eBadAccess with parts := pbit p, addr := a }

/-- The compute die of a logical cluster. -/
def State.dieOf (s : State) (c : Nat) : Nat := ((s.physOfRole c).getD 0) / 36
/-- The physical cluster of a logical one, as a unit number. -/
def State.phOf (s : State) (c : Nat) : Nat := (s.physOfRole c).getD 0xFFFF

end Sys2Proof.Machine
end

