-- ==== Sys2Proof/Machine/Cmd.lean ====
section
/-! DEFINITION. Dispatched commands as data: their end, their abort (R223, R282, R290, R361, R362), a channel's halt (R281),
and the requests that Hayward raises on cores (R224). -/

namespace Sys2Proof.Machine

/-- The dispatched command with an id. -/
def State.cmd (s : State) (id : Nat) : Option Cmd := s.cmds.find? fun c => c.id == id
/-- Change that command. -/
def State.updCmd (s : State) (id : Nat) (f : Cmd → Cmd) : State :=
  { s with cmds := s.cmds.map fun c => if c.id = id then f c else c }
/-- Give a command its status, once; flags accumulate. -/
def State.finish (s : State) (id : Nat) (st : Status) (flags : BitVec 8) (detail : W64) : State :=
  s.updCmd id fun c => match c.status with
    | some _ => c
    | none => { c with status := some st, flags := c.flags ||| flags, detail := detail }

/-- The channel of the command that asked for an engine's work: its own, or that of the kernel whose core asked. -/
def State.srcChannel (s : State) (x : Src) : Nat :=
  match (match x with
    | .cmd id => s.cmd id
    | .ticket d _ => (s.core d).kernel.bind s.cmd) with
  | none => 0xFFFF
  | some c => c.ch
/-- An event of core d in the name of its kernel's command (Table 11.6: CHANNEL, CMDSEQ). -/
def State.ofKernel (s : State) (d : Nat) (e : LogEntry) : LogEntry :=
  match (s.core d).kernel.bind s.cmd with
  | none => e
  | some c => { e with channel := c.ch, cmdseq := fld (c.words.getD 0 0) 63 48 }

/-- The function that a channel belongs to (R385): the lowest-numbered VF whose subrange holds it, else 0, the PF. -/
def State.chanFn (s : State) (ch : Nat) : Nat :=
  match s.chanPart ch with
  | none => 0
  | some p =>
    let i := ch - (s.part p).chanFirst
    (((List.range 15).map (· + 1)).find? fun n =>
      let r := s.reg (aHP p + 0x200 + 8 * n)
      fld r 11 0 ≤ i && i < fld r 11 0 + fld r 24 12).getD 0

/-- The dispatcher serves the channel no longer, until it is armed again (R272, R281). -/
def State.restChan (s : State) (ch : Nat) : State := s.setChan ch { s.chan ch with live := false }
/-- R281: the device writes HALTED with the status and the sequence. -/
def State.haltChan (s : State) (ch : Nat) (st : Status) (sq : Nat) : State :=
  let s1 := (s.restChan ch).setChW ch 0 (setFld (s.chW ch 0) 1 0 2)
  s1.setChW ch 7 (setFld (setFld (s1.chW ch 7) 7 0 st.code) 23 8 sq)
/-- A channel whose STATE is ARMED. -/
def State.armed (s : State) (ch : Nat) : Bool := fld (s.chW ch 0) 1 0 == 1
/-- A channel whose STATE is ARMED and that the dispatcher has armed: STATE alone, written with no new GEN, arms nothing (R272). -/
def State.serves (s : State) (ch : Nat) : Bool := s.armed ch && (s.chan ch).live
/-- The channels of a partition. -/
def State.chansOf (s : State) (p : Nat) : List Nat := (upTo (s.part p).chanCount).map (· + (s.part p).chanFirst)

/-- Core d takes ABORT with a status (R223). -/
def State.abortCore (s : State) (d : Nat) (st : Status) : State :=
  s.setCore d { s.core d with abortPend := some st, exAbort := w64 st.code }
/-- R290: every core of the kernel that has not ended takes ABORT; a kernel whose cores have not started ends at once. -/
def State.abortKernel (s : State) (id : Nat) (st : Status) : State :=
  match s.kernels.find? fun k => k.id == id with
  | none => s
  | some k =>
    let s1 := { s with kernels := s.kernels.map fun x => if x.id = id then { x with abort := some (x.abort.getD st) } else x }
    if k.started then
      k.cores.foldl (fun s i =>
        if (s.core (k.cluster * 8 + i)).kernel = some id ∧ (s.core (k.cluster * 8 + i)).endStatus = none
        then s.abortCore (k.cluster * 8 + i) st else s) s1
    else s1

/-- The command that asked for an engine's work. -/
def Src.is (x : Src) (id : Nat) : Bool := x == .cmd id

/-- Abort a command with a status: a kernel through its cores, a running engine command at its current tile or descriptor,
anything else at once. -/
def State.abortCmd (s : State) (id : Nat) (st : Status) : State :=
  match s.cmd id with
  | none => s
  | some c =>
    if c.status.isSome then s
    else if s.kernels.any fun k => k.id == id then s.abortKernel id st
    else
      let k := s.cluster c.cluster
      match k.mx, k.se with
      | some m, e =>
        if m.src.is id then s.setCluster c.cluster { k with mx := some { m with stop := some (m.stop.getD st) } }
        else match e with
          | some x =>
            if x.src.is id then s.setCluster c.cluster { k with se := some { x with status := some (x.status.getD st) } }
            else drop s c k
          | none => drop s c k
      | none, some x =>
        if x.src.is id then s.setCluster c.cluster { k with se := some { x with status := some (x.status.getD st) } }
        else drop s c k
      | none, none => drop s c k
where
  /-- out of every queue, ended -/
  drop (s : State) (c : Cmd) (k : Cluster) : State :=
    let s1 := s.setCluster c.cluster { k with mxQ := k.mxQ.filter fun q => !q.src.is id, seQ := k.seQ.filter fun q => !q.src.is id }
    ({ s1 with linkOps := s1.linkOps.filter fun o => o.id != id }).finish id st 0 0

/-- HAYWARD request n on core d (R224). -/
def State.hayward (s : State) (d n : Nat) : State := s.setCore d { s.core d with hwPend := some n }
/-- Quarantine: code 1 on every core of a cluster that runs a kernel (R224). -/
def State.quarantine (s : State) (c : Nat) : State :=
  (upTo 8).foldl (fun s i => if (s.core (c * 8 + i)).kernel.isSome then s.hayward (c * 8 + i) 1 else s) s

/-- R361 steps 1 to 3: every engine, core and link stops, every dispatched command ends ABORTED, every armed channel halts. -/
def State.stopAll (s : State) : State :=
  let cores : SMap Core := s.cores.map fun q => (q.1, { q.2 with run := CoreRun.halted })
  let ks : SMap Cluster := s.clusters.map fun q => (q.1, { q.2 with mxQ := [], mx := none, seQ := [], se := none, hold := true })
  let ports : SMap LinkPort := s.ports.map fun q => (q.1, { q.2 with phase := LinkPhase.down })
  let cmds : List Cmd := s.cmds.map fun c => { c with status := some .aborted, started := true }
  let s1 := { s with cores, clusters := ks, ports, linkOps := [], kernels := [], cmds }
  (upTo 4).foldl (fun s p => (s.chansOf p).foldl (fun s ch => if s.armed ch then s.haltChan ch .aborted 0 else s) s) s1

/-- R361: a device-fatal event is logged, all work stops, and `HW.STATUS.FATAL` is set. -/
def State.deviceFatal (s : State) (die : Nat) (e : LogEntry) : State :=
  if s.hw.fatal then s
  else
    let s0 := logEv s die e
    { s0 with hw := { s0.hw with fatal := true }, boot := { s0.boot with stage := 7 } }.stopAll

/-- R362: the partition's running commands are aborted and its channels halted; only a partition reset is accepted. -/
def State.partFatal (s : State) (p : Nat) : State :=
  if (s.host p).fatal then s
  else
    let s1 := logEv (s.setHost p { s.host p with fatal := true }) (16 + p / 2) { ev ePartitionFatal with parts := pbit p }
    let s2 := ((s1.cmds.filter fun c => c.part == p).map (·.id)).foldl (fun s id => s.abortCmd id .aborted) s1
    (s2.chansOf p).foldl (fun s ch => s.haltChan ch .aborted 0) s2

end Sys2Proof.Machine
end

