-- ==== Sys2Proof/Machine/Check.lean ====
section
/-! DEFINITION. CRC-32C, which block check values and repair records carry (R303, R267), and the sheaf digest (R372). -/

namespace Sys2Proof.Machine

/-- n steps of the reflected CRC-32C register. -/
def crcBits : Nat → BitVec 32 → BitVec 32
  | 0, c => c
  | n + 1, c => crcBits n (if c.getLsbD 0 then (c >>> 1) ^^^ 0x82F63B78 else c >>> 1)

/-- CRC-32C (Castagnoli) of bytes. -/
def crc32c (l : List Byte) : BitVec 32 :=
  (l.foldl (fun c b => crcBits 8 (c ^^^ b.setWidth 32)) 0xFFFFFFFF) ^^^ 0xFFFFFFFF

/-- R372: n steps of the product in GF(2^128): z collects, x doubles, y gives its bits from bit 0. -/
def gmulN : Nat → BitVec 128 → BitVec 128 → BitVec 128 → BitVec 128
  | 0, z, _, _ => z
  | n + 1, z, x, y =>
    gmulN n (if y.getLsbD 0 then z ^^^ x else z) (if x.getLsbD 127 then (x <<< 1) ^^^ 0x87 else x <<< 1) (y >>> 1)

/-- The product in GF(2^128) modulo t^128 + t^7 + t^2 + t + 1. -/
def gmul (x y : BitVec 128) : BitVec 128 := gmulN 128 0 x y

/-- The constant h of R372. -/
def sheafH : BitVec 128 := 0xC2B38E4F1D0796A55E3C7B19A0F46D21

/-- Digest of the rest of a sequence: n blocks left, power p of h. -/
def sheafN : Nat → List Byte → BitVec 128 → BitVec 128 → BitVec 128
  | 0, _, _, d => d
  | n + 1, l, p, d =>
    sheafN n (l.drop 16) (gmul p sheafH) (d ^^^ gmul (BitVec.ofNat 128 (leNat (l.take 16))) p)

/-- The sheaf digest of a byte sequence. -/
def sheaf (l : List Byte) : BitVec 128 := sheafN ((l.length + 15) / 16) l sheafH 0

/-- h^a. -/
def sheafPow : Nat → BitVec 128
  | 0 => 1
  | n + 1 => gmul (sheafPow n) sheafH

end Sys2Proof.Machine
end

