-- ==== Sys2Proof/Machine/Spare.lean ====
section
/-! DEFINITION. Units and their recovery (R363-R365), the fallow queue's flags (R366), sparing and remapping (R258-R267). -/

namespace Sys2Proof.Machine

/-! ### Units (Table 11.3; kinds of Table 11.6) -/

/-- Unit kinds. -/
def uCluster : Nat := 1
def uCore : Nat := 2
def uBaseBank : Nat := 3
def uComputeBank : Nat := 4
def uDdrRow : Nat := 5
def uLane : Nat := 6
def uBond : Nat := 7
def uD2d : Nat := 8
def uPair : Nat := 9

/-- A unit is RETIRED for the power session. -/
def State.unitRetired (s : State) (kind num : Nat) : Bool := s.hw.units.any fun u => u.kind == kind && u.num == num && u.retired
/-- Retire a unit. -/
def State.retireUnit (s : State) (kind num : Nat) : State :=
  if s.unitRetired kind num then s
  else { s with hw := { s.hw with units := { kind, num, retired := true } :: s.hw.units } }
/-- A unit has an action running or queued: RECOVERING (R363). -/
def State.recovering (s : State) (kind num : Nat) : Bool :=
  (s.hw.running ++ s.hw.queued).any fun a => a.kind == kind && a.num == num
/-- RSTATE of a log entry. -/
def State.rstate (s : State) (kind num : Nat) : Nat :=
  if s.unitRetired kind num then 2 else if s.recovering kind num then 1 else 0
/-- The action of a unit ends; the oldest queued one starts by RECOVERY_ACTION_START. -/
def State.endAction (s : State) (kind num : Nat) : State :=
  { s with hw := { s.hw with running := s.hw.running.filter fun a => !(a.kind == kind && a.num == num),
                             queued := s.hw.queued.filter fun a => !(a.kind == kind && a.num == num) } }
/-- Whether a further action may start now: fewer than 16 run, and Hayward is not taking over (R357, R364). -/
def State.actionFree (s : State) : Bool := s.hw.running.length < 16 && !s.hw.takeover

/-- The order of Table 11.3, which breaks ties. -/
def actionRank (k : Nat) : Nat :=
  if k = uCluster then 0 else if k = uBaseBank then 1 else if k = uDdrRow then 2 else if k = uLane then 3
  else if k = uD2d then 4 else 5
/-- Queue an action in order of detection. -/
def queueAction : List Action → Action → List Action
  | [], a => [a]
  | b :: t, a =>
    if a.ptime < b.ptime ∨ (a.ptime = b.ptime ∧ actionRank a.kind < actionRank b.kind) then a :: b :: t
    else b :: queueAction t a

/-! ### Repair records (R267, Table 8.9) -/

/-- A record to be written through the journal area. -/
def State.record (s : State) (type die unit row place target : Nat) : State :=
  { s with repair := { s.repair with
      pending := s.repair.pending ++ [{ type, die, unit, row, place, target, psec := s.psec, seq := s.repair.nextSeq, crcOk := true }]
      nextSeq := s.repair.nextSeq + 1 } }

/-! ### Granules -/

/-- The number of a base SRAM granule (R228). -/
def granuleOf (a : Nat) : Nat := (a - 0x400000000000) / 0x200000
/-- The address of a base SRAM granule. -/
def granuleAddr (g : Nat) : Nat := 0x400000000000 + g * 0x200000
/-- The base die of a granule. -/
def granuleDie (g : Nat) : Nat := g / 448
/-- The bank 0-895 of a granule: die · 112 + bank. -/
def granuleBank (g : Nat) : Nat := g / 448 * 112 + (g % 448) / 4
/-- Die boundaries between two base or compute dies (R242, R370). -/
def dieDist (a b : Nat) : Nat := (a % 4 - b % 4) + (b % 4 - a % 4) + (a / 4 - b / 4) + (b / 4 - a / 4)

/-- Whether the granule at an address is absent (R262). -/
def State.isAbsent (s : State) (a : Nat) : Bool := s.repair.absent.contains (a / 0x200000 * 0x200000)
/-- A grant holds the granule's address. -/
def State.granted (s : State) (a : Nat) : Bool := (s.grantPart a).isSome
/-- The ungranted granules of base SRAM, ascending. -/
def State.ungranted (s : State) : List Nat := (upTo 3584).filter fun g => !s.granted (granuleAddr g)
/-- Granules that hold device-private structures: the 96 lowest ungranted ones (R232; which ones is not given, log entry 13). -/
def State.privGranules (s : State) : List Nat := s.ungranted.take 96

/-- R262: a granule without a place becomes absent. -/
def State.makeAbsent (s : State) (a : Nat) : State :=
  let a := a / 0x200000 * 0x200000
  if s.isAbsent a then s
  else
    match s.grantPart a with
    | none => s
    | some p =>
      let s1 := { s with repair := { s.repair with absent := s.repair.absent ++ [a] } }
      let s2 := s1.bump (aMM p + (if a < 0x400000000000 then 0x1208 else 0x1200)) 55 40 1
      let s3 := s2.record 5 (if a < 0x400000000000 then a / 256 % 80 / 4 else granuleDie (granuleOf a))
        (if a < 0x400000000000 then a / 256 % 80 else granuleBank (granuleOf a)) 0 a a
      logEv s3 (if a < 0x400000000000 then 16 else 8 + granuleDie (granuleOf a))
        { ev eGranuleAbsent with parts := pbit p, addr := a
                                 ukind := if a < 0x400000000000 then uDdrRow else uBaseBank
                                 unit := if a < 0x400000000000 then a / 256 % 80 else granuleBank (granuleOf a), rstate := 2 }

/-- Remap slots that partition p has still reserved (`MM.STATUS.RESV_LEFT`). -/
def State.resvLeft (s : State) (p : Nat) : Nat := (s.part p).resvSlots - mget 0 s.repair.resvUsed p
/-- Unreserved slots that are free. -/
def State.slotsUnreserved (s : State) : Nat :=
  128 - s.repair.slotsUsed.length - ((upTo 4).foldl (fun n p => n + s.resvLeft p) 0)
/-- The free slot nearest to a die: on the die first, then by boundaries crossed, then the lowest number (16 a die). -/
def State.slotNear (s : State) (die : Nat) : Option Nat :=
  ((upTo 128).filter fun n => !s.repair.slotsUsed.contains n).foldl (fun b n => match b with
    | none => some n
    | some m => if dieDist (n / 16) die < dieDist (m / 16) die then some n else some m) none

/-- R261: choose a place for a granule of a retired bank and start its copy; without a place it becomes absent, or the
device-private structures are lost. -/
def State.startMove (s : State) (g : Nat) : State :=
  let die := granuleDie g
  let put (s : State) (t : Nat) : State := { s with repair := { s.repair with copying := madd s.repair.copying g t } }
  let slot (s : State) (n : Nat) : State := { s with repair := { s.repair with slotsUsed := sadd s.repair.slotsUsed n } }
  match s.grantPart (granuleAddr g) with
  | some p =>
    match s.slotNear die with
    | none => s.makeAbsent (granuleAddr g)
    | some n =>
      if s.resvLeft p > 0 then
        put (slot { s with repair := { s.repair with resvUsed := mput 0 s.repair.resvUsed p (mget 0 s.repair.resvUsed p + 1) } } n) n
      else if s.slotsUnreserved > 0 then put (slot s n) n
      else s.makeAbsent (granuleAddr g)
  | none =>
    match (if s.slotsUnreserved > 0 then s.slotNear die else none) with
    | some n => put (slot s n) n
    | none =>
      match s.ungranted.find? fun x => !s.privGranules.contains x && !(s.repair.copying.any fun q => q.2 == 1000000 + x)
          && !(s.repair.granuleAt.any fun q => q.2 == 1000000 + x) && !(s.bank (granuleBank x)).retired with
      | some x => put s (1000000 + x)
      | none => s.deviceFatal (8 + die) { ev ePrivateLost with parts := s.allParts, ukind := uBaseBank, unit := granuleBank g, addr := granuleAddr g }

/-- Start the next granule of a bank whose granules are being moved, until one copy is in progress. -/
def State.nextMove (s : State) (b : Nat) : Nat → State
  | 0 => s
  | n + 1 =>
    match (s.bank b).moving with
    | [] => s.endAction uBaseBank b
    | g :: rest =>
      let s1 := (s.setBank b { s.bank b with moving := rest }).startMove g
      if (mfind s1.repair.copying g).isSome then s1 else s1.nextMove b n

/-- The granules that a bank holds: its own, or those in a spare bank's four slots (spare banks are 896 + slot / 4). -/
def State.bankGranules (s : State) (b : Nat) : List Nat :=
  if b < 896 then (upTo 4).map fun q => b / 112 * 448 + (b % 112) * 4 + q
  else (s.repair.granuleAt.filter fun q => q.2 / 4 == b - 896).map (·.1)

/-- The base die of a bank. -/
def baseDieOf (b : Nat) : Nat := if b < 896 then b / 112 else (b - 896) / 4

/-- R261: a base SRAM bank is retired: its device-private granules move first, then its granted ones. -/
def State.retireBank (s : State) (b : Nat) : State :=
  if (s.bank b).retired then s
  else
    let gs := s.bankGranules b
    let priv := gs.filter fun g => s.privGranules.contains g
    let own := gs.filter fun g => s.granted (granuleAddr g) && !s.isAbsent (granuleAddr g)
    let parts := own.foldl (fun m g => m ||| pbitO (s.grantPart (granuleAddr g))) 0
    let s1 := ((s.retireUnit uBaseBank b).setBank b { s.bank b with retired := true, copying := none, moving := priv ++ own }).record
      3 (baseDieOf b) (if b < 896 then b % 112 else b) 0 b 0
    (logEv s1 (8 + baseDieOf b) { ev eBankRetired with parts, ukind := uBaseBank, unit := b, rstate := 2 }).nextMove b 5

/-! ### Clusters -/

/-- The role that a physical cluster holds. -/
def State.roleOf (s : State) (ph : Nat) : Option Nat :=
  match (s.physOf ph).cond with
  | .role c => some c
  | _ => none
/-- The PARTS of a physical cluster: the partition of its role. -/
def State.phParts (s : State) (ph : Nat) : BitVec 4 := pbitO ((s.roleOf ph).bind s.ownerOf)
/-- An action of a unit is detected: it starts, or waits in the queue (R364). -/
def State.startAction (s : State) (kind num arg addr : Nat) : State × Bool :=
  if s.recovering kind num then (s, false)
  else
    let a : Action := { kind, num, ptime := s.sc, arg, addr }
    if s.actionFree then ({ s with hw := { s.hw with running := s.hw.running ++ [a] } }, true)
    else ({ s with hw := { s.hw with queued := queueAction s.hw.queued a } }, false)

/-! ### The fallow queue (R366-R368) -/

/-- The physical clusters in a condition. -/
def State.inCond (s : State) (x : PhysCond) : List Nat := (upTo 288).filter fun ph => (s.physOf ph).cond == x
/-- Those of a list that sit on a compute die. -/
def onDie (l : List Nat) (die : Nat) : List Nat := l.filter fun ph => ph / 36 == die
/-- R370: from a list, the lowest number on the own die; else on the die that has most of them, the nearer and then the lower die
winning a tie. -/
def pickPhys (l : List Nat) (die : Nat) : Option Nat :=
  match onDie l die with
  | x :: _ => some x
  | [] =>
    (upTo 8).foldl (fun (b : Option Nat) d =>
      match onDie l d, b with
      | [], _ => b
      | x :: _, none => some x
      | x :: t, some y =>
        let n := (onDie l (y / 36)).length
        if n < t.length + 1 ∨ (n = t.length + 1 ∧ dieDist d die < dieDist (y / 36) die) then some x else b) none

/-- When a cluster becomes due: 5 h 40 min after its latest passing test, or at power-good (R366). -/
def State.dueAt (s : State) (ph : Nat) : Nat :=
  match (s.physOf ph).lastPass with
  | some t => t + 20400
  | none => s.power.psecOn
/-- The place of a role's cluster in the queue: flagged ones by order of flagging, due ones by due time while tests run (R353, R371),
then those that wait for the new MONITOR (R427); none where it does not wait. -/
def State.queueKey (s : State) (ph : Nat) : Option (Nat × Nat) :=
  match s.roleOf ph with
  | none => none
  | some c =>
    let x := s.physOf ph
    let tests := s.policy.integrity && !s.hw.suspended
    if s.unitRetired uCluster ph || (s.cluster c).moving.isSome || (s.ownerOf c).isNone then none
    else
      match x.flagged with
      | some n => some (0, n)
      | none =>
        if x.due && tests then some (1, s.dueAt ph)
        else if s.boot.applying && s.boot.pendingSecs.contains 2 && tests && !(s.cluster c).newMon then some (2, ph) else none
/-- Insert by key. -/
def queueIns : List ((Nat × Nat) × Nat) → (Nat × Nat) × Nat → List ((Nat × Nat) × Nat)
  | [], x => [x]
  | y :: t, x =>
    if x.1.1 < y.1.1 ∨ (x.1.1 = y.1.1 ∧ x.1.2 < y.1.2) then x :: y :: t else y :: queueIns t x
/-- The fallow queue. -/
def State.fallowQueue (s : State) : List Nat :=
  (((upTo 288).filterMap fun ph => (s.queueKey ph).map fun k => (k, ph)).foldl queueIns []).map (·.2)
/-- R368: who takes which PASSED cluster, in the queue's order: from the own die, or where it may borrow from any. -/
def State.assign (s : State) : List Nat → List Nat → List (Nat × Nat)
  | [], _ => []
  | ph :: t, av =>
    let x := s.physOf ph
    match (if x.flagged.isSome || x.borrow then pickPhys av (ph / 36) else (onDie av (ph / 36)).head?) with
    | none => s.assign t av
    | some y => (ph, y) :: s.assign t (av.erase y)
/-- The queue's heads and their targets; a target that a migration in progress takes is not available. -/
def State.targets (s : State) : List (Nat × Nat) :=
  s.assign s.fallowQueue ((s.inCond .passed).filter fun ph => !s.clusters.any fun q => q.2.moving == some ph)
/-- The hold of a logical cluster's dispatch: as it is for a role whose cluster is retired or already moves; else whether its physical
cluster is a head of the queue and its hold has not been released to be retried (R367). -/
def State.holdOf (s : State) (t : List (Nat × Nat)) (c : Nat) : Bool :=
  let k := s.cluster c
  match s.physOfRole c with
  | none => k.hold
  | some ph => if s.unitRetired uCluster ph || k.moving.isSome then k.hold else (t.any fun q => q.1 == ph) && !k.retry
/-- R367 step 1: the dispatcher places no new command on the queue's heads, and again on those that are heads no more. -/
def State.refreshHolds (s : State) : State :=
  let t := s.targets
  let cs := (s.clusters.filter fun q => q.2.hold).map (·.1) ++ t.filterMap fun q => s.roleOf q.1
  cs.foldl (fun s c => s.setCluster c { s.cluster c with hold := s.holdOf t c }) s

/-- A physical cluster that holds a role goes to the front of the fallow queue, in order of flagging (R366). -/
def State.flagOnly (s : State) (ph : Nat) : State :=
  if (s.physOf ph).flagged.isSome ∨ (s.roleOf ph).isNone ∨ s.unitRetired uCluster ph then s
  else
    let s1 := s.setPhys ph { s.physOf ph with flagged := some s.hw.flagOrder }
    { s1 with hw := { s1.hw with flagOrder := s1.hw.flagOrder + 1 } }.refreshHolds

/-- A physical cluster leaves service for the power session: its role is held for replacement at its command boundary (R370), its
rotation record is marked; with quarantine, its running kernels end (R224). -/
def State.retirePhys (s : State) (ph : Nat) (quar : Bool) : State :=
  if s.unitRetired uCluster ph then s
  else
    let x := s.physOf ph
    let s1 := (s.retireUnit uCluster ph).setPhys ph { x with recDirty := true, flagged := none, due := false, borrow := false
                                                             cond := match x.cond with
                                                               | .role c => .role c
                                                               | _ => .retired }
    match s.roleOf ph with
    | some c =>
      let s2 := s1.setCluster c { s1.cluster c with hold := true }
      ((if quar then s2.quarantine c else s2).startAction uCluster ph 0 0).1
    | none => s1.endAction uCluster ph
/-- The CLUSTER_RETIRED entry of a physical cluster, as its state was. -/
def State.retiredEv (s : State) (ph cls : Nat) : LogEntry :=
  { ev eClusterRetired with parts := if cls = 5 then s.phParts ph ||| (s.physOf ph).heldParts else s.phParts ph
                            ukind := uCluster, unit := ph, lcluster := (s.roleOf ph).getD 0xFFFF, cls, rstate := 2 }
/-- Retirement under R91, R213, R245 and R263. -/
def State.retireCluster (s : State) (ph cls : Nat) : State :=
  if s.unitRetired uCluster ph then s else logEv (s.retirePhys ph true) (ph / 36) (s.retiredEv ph cls)
/-- What the event that brings an escalation about says of it: fault class, logical cluster, partitions (log entry 26). -/
def about (code : Nat) (o : LogEntry) : LogEntry := { ev code with cls := o.cls, lcluster := o.lcluster, parts := o.parts }
/-- ESCALATED for a unit (R363, R365). -/
def State.escalated (s : State) (o : LogEntry) (kind num : Nat) : State :=
  logEv s 16 { about eEscalated o with ukind := kind, unit := num % 65536, rstate := 2 }
/-- A fault of a class flags a physical cluster, and its action starts (R364); a second one while it recovers retires it
(R363). -/
def State.flagCluster (s : State) (ph cls : Nat) : State :=
  if s.unitRetired uCluster ph then s
  else if s.recovering uCluster ph then
    logEv ((s.escalated (s.retiredEv ph cls) uCluster ph).retirePhys ph false) (ph / 36) (s.retiredEv ph cls)
  else ((s.flagOnly ph).startAction uCluster ph 0 0).1
/-- The same for a rule that is no new fault of a recovering cluster: the threshold of R365. -/
def State.flagFront (s : State) (ph cls : Nat) : State :=
  if s.recovering uCluster ph then s else s.flagCluster ph cls

/-! ### Rows -/

/-- Spare rows of a bank (Table 8.8): base SRAM, staging, other compute-die SRAM. -/
def spareRows (b : Nat) : Nat := if b < 1000 then 64 else if (b - 1000) % 128 < 16 then 4 else 2
/-- The die that a bank sits on. -/
def bankDie (b : Nat) : Nat := if b < 1000 then 8 + baseDieOf b else (b - 1000) / 128 / 36
/-- The unit of a bank (Table 11.6): its kind and number. -/
def bankUnit (b : Nat) : Nat × Nat := if b < 1000 then (uBaseBank, b) else (uComputeBank, b - 1000)
/-- The partitions that a bank's row touches. -/
def State.bankParts (s : State) (b row : Nat) : BitVec 4 :=
  if b < 896 then pbitO (s.grantPart (granuleAddr (b / 112 * 448 + (b % 112) * 4 + row / 1024)))
  else if b < 1000 then (s.bankGranules b).foldl (fun m g => m ||| pbitO (s.grantPart (granuleAddr g))) 0
  else s.phParts ((b - 1000) / 128)

/-- R259, R260: begin the copy of row r to a free spare, or retire the bank or the cluster where none is free (R261, R263). -/
def State.beginSpare (s : State) (b row : Nat) : State :=
  let k := s.bank b
  if k.retired then s
  else if k.spareUsed < spareRows b then
    let s1 := (s.setBank b { k with spareUsed := k.spareUsed + 1, copying := some (row, k.spareUsed) }).record
      (if (mfind k.map row).isSome then 2 else 1) (if b < 1000 then baseDieOf b else (b - 1000) / 128 / 36)
      (if b < 896 then b % 112 else if b < 1000 then b else (b - 1000) / 128) row b k.spareUsed
    logEv s1 (bankDie b) { ev eRowSpared with parts := s.bankParts b row, ukind := (bankUnit b).1, unit := (bankUnit b).2
                                              detail := row, rstate := 1 }
  else if b < 1000 then s.retireBank b
  else
    let ph := (b - 1000) / 128
    let s1 := logEv (s.setBank b { k with retired := true }) (bankDie b)
      { ev eBankRetired with parts := s.phParts ph, ukind := uComputeBank, unit := b - 1000, rstate := 2 }
    s1.retireCluster ph 3

/-- A hard or uncorrectable error in row r of bank b (R259). A second fault while the bank recovers retires it, or the
cluster of a compute-die bank (R363). -/
def State.spareRow (s : State) (b row : Nat) : State :=
  if b < 1000 then
    if s.recovering uBaseBank b then (s.escalated { ev eRowSpared with parts := s.bankParts b row } uBaseBank b).retireBank b
    else
      let r := s.startAction uBaseBank b row 0
      if r.2 then r.1.beginSpare b row else r.1
  else if (s.bank b).copying.isSome then s.retireCluster ((b - 1000) / 128) 3
  else s.beginSpare b row

/-- Number of LPDDR6 granules that POLICY grants to nobody: the spare pool (R232, R265). -/
def State.ddrPool (s : State) : Nat :=
  655360 - (upTo 4).foldl (fun n p => n + ((s.part p).grants.filter fun g => g.1 < 0x400000000000).foldl (fun m g => m + g.2) 0) 0

/-- R265: an unrepairable row: its at most two granules move to the spare pool, or become absent. -/
def State.unrepairable (s : State) (chan arg addr : Nat) : State :=
  let gs := [addr / 0x200000] ++ (match Config.ddrRowOther chan arg with
    | some g => [g]
    | none => [])
  gs.foldl (fun s g =>
    if s.repair.ddrPoolUsed < s.ddrPool then
      { s with repair := { s.repair with ddrCopying := madd s.repair.ddrCopying g s.repair.ddrPoolUsed
                                         ddrPoolUsed := s.repair.ddrPoolUsed + 1 } }
    else s.makeAbsent (g * 0x200000)) s

/-- R264: begin soft post-package repair of an LPDDR6 row. -/
def State.beginPpr (s : State) (chan arg addr : Nat) : State :=
  { s with repair := { s.repair with
      rows := { chan, bank := arg % 256, row := arg / 256, addr, inProgress := true }
        :: s.repair.rows.filter fun r => !(r.chan == chan && r.bank == arg % 256 && r.row == arg / 256) } }

/-- A hard or uncorrectable error in an LPDDR6 row; a second fault while it recovers makes it unrepairable (R264, R363). -/
def State.pprRow (s : State) (chan arg addr : Nat) : State :=
  if s.recovering uDdrRow (chan + 128 * arg) then
    (((s.endAction uDdrRow (chan + 128 * arg)).retireUnit uDdrRow (chan + 128 * arg)).escalated
      { ev eStoreUe with parts := pbitO (s.grantPart addr) } uDdrRow chan).unrepairable chan arg addr
  else
    let r := s.startAction uDdrRow (chan + 128 * arg) arg addr
    if r.2 then r.1.beginPpr chan arg addr else r.1

/-! ### Escalation (R365) -/

/-- Events of a unit with a severity in the last n powered seconds. -/
def State.eventsIn (s : State) (kind num sev n : Nat) : Nat :=
  (s.hw.events.filter fun x => x.1 == kind && x.2.1 == num && x.2.2.1 == sev && decide (s.psec < x.2.2.2 + n)).length

/-- The physical cluster that a unit belongs to: itself, a core's (number / 8), a compute-die bank's (number / 128). -/
def unitCluster (kind num : Nat) : Option Nat :=
  if kind = uCluster then some num else if kind = uCore then some (num / 8)
  else if kind = uComputeBank then some (num / 128) else none

/-- Retirement by escalation: the outcome of Table 11.3's last column. A link lane's and a lane group's follow in their
own operations, which look at the retired mark. -/
def State.escalate (s : State) (o : LogEntry) (kind num arg addr : Nat) : State :=
  let s1 := s.escalated o kind (if kind = uDdrRow then num % 128 else num)
  match unitCluster kind num with
  | some ph => s1.retirePhys ph false
  | none =>
    if kind = uBaseBank then s1.retireBank num
    else if kind = uDdrRow then (s1.retireUnit kind num).unrepairable (num % 128) arg addr
    else if kind = uPair then s
    else s1.retireUnit kind num

/-- Count a contained event o of a unit; the third in 24 powered hours retires it. -/
def State.countContained (s : State) (o : LogEntry) (kind num arg addr : Nat) : State :=
  let s1 := { s with hw := { s.hw with events := (kind, num, 1, s.psec) :: s.hw.events } }
  if s1.eventsIn kind num 1 86400 = 3 ∧ !s1.unitRetired kind num then s1.escalate o kind num arg addr else s1

/-- Count an event o of a unit by severity; the sixteenth masked one in a powered hour logs THRESHOLD and flags a cluster. -/
def State.countEvent (s : State) (o : LogEntry) (kind num arg addr : Nat) : State :=
  if o.sev = 1 then s.countContained o kind num arg addr
  else if o.sev = 0 then
    let s1 := { s with hw := { s.hw with events := (kind, num, 0, s.psec) :: s.hw.events } }
    if s1.eventsIn kind num 0 3600 = 16 then
      let s2 := logEv s1 16 { about eThreshold o with ukind := kind, unit := num % 65536, rstate := s1.rstate kind num }
      let s3 := match unitCluster kind num with
        | some ph => s2.flagFront ph o.cls
        | none => s2
      s3.countContained o kind num arg addr
    else s1
  else s

/-- Log an event that names a unit, and count it. -/
def logUnit (s : State) (die : Nat) (e : LogEntry) (arg : Nat) : State :=
  (logEv s die { e with rstate := s.rstate e.ukind e.unit }).countEvent e e.ukind
    (if e.ukind = uDdrRow then e.unit + 128 * arg else e.unit) arg e.addr

/-- Log an event of a logical cluster's physical cluster. -/
def logCluster (s : State) (c : Nat) (e : LogEntry) : State :=
  logUnit s (s.dieOf c) { e with ukind := uCluster, unit := s.phOf c, lcluster := c, parts := pbitO (s.ownerOf c) } 0

end Sys2Proof.Machine
end

