-- ==== Sys2Proof/Machine/Access.lean ====
section
/-! DEFINITION. The device address space (R226): region checks (R233-R237), storage reads and writes with their codes and
poison (R239-R251), block check values (R303), and host memory as the buses would find it. -/

namespace Sys2Proof.Machine

/-! ### The address map (Table 8.1) -/

def isDdr (a : Nat) : Bool := a < 0x14000000000
def isBase (a : Nat) : Bool := 0x400000000000 ≤ a && a < 0x4001C0000000
def isStaging (a : Nat) : Bool := 0x500000000000 ≤ a && a < 0x500020000000
def isControl (a : Nat) : Bool := 0x700000000000 ≤ a && a < 0x700003400000
/-- Memory that region tables and staging ownership describe. -/
def isMemory (a : Nat) : Bool := isDdr a || isBase a || isStaging a
/-- The logical cluster of a staging address. -/
def stagingCluster (a : Nat) : Nat := (a - 0x500000000000) / 0x200000
/-- The first address of a logical cluster's staging window (R229). -/
def stagingBase (c : Nat) : Nat := 0x500000000000 + c * 0x200000

/-! ### Region tables -/

/-- Bit numbers of `MM.RGN_LO`: FOLD, R, W, X, HOST. -/
def pFold : Nat := 3
def pR : Nat := 4
def pW : Nat := 5
def pX : Nat := 6
def pHost : Nat := 7

/-- First address of an entry. -/
def rgnBase (lo : W64) : Nat := fld lo 47 21 * 0x200000
/-- Bytes of an entry. -/
def rgnLen (lo hi : W64) : Nat := fld hi 19 0 * (if bitW lo 1 then 0x40000000 else 0x200000)
/-- The entries of partition p that hold anything: number, LO, HI. -/
def State.rgns (s : State) (p : Nat) : List (Nat × W64 × W64) :=
  (s.regs.filter fun q => aRgnLo p 0 ≤ q.1 && q.1 < aRgnLo p 256 && q.1 % 16 == 0).map fun q =>
    ((q.1 - aRgnLo p 0) / 16, q.2, s.reg (q.1 + 8))
/-- The entries that let accesses through: VALID, and no disarming write has come (R235). -/
def State.liveRgns (s : State) (p : Nat) : List (Nat × W64 × W64) :=
  (s.rgns p).filter fun r => bitW r.2.1 0 && !s.disarming.contains (p, r.1)
/-- The live entry that holds address a. -/
def State.rgnAt (s : State) (p a : Nat) : Option (Nat × W64 × W64) :=
  (s.liveRgns p).find? fun r => rgnBase r.2.1 ≤ a && a < rgnBase r.2.1 + rgnLen r.2.1 r.2.2

/-- What a region check finds: admitted, or the first address that fails and why. -/
inductive Acc where
  | ok
  | unmapped (a : Nat)
  | outside (a : Nat)
  | perm (a : Nat)
  deriving DecidableEq, Repr

/-- Admitted. -/
def Acc.isOk : Acc → Bool
  | .ok => true
  | _ => false
/-- The address that failed. -/
def Acc.addr : Acc → Nat
  | .ok => 0
  | .unmapped a => a
  | .outside a => a
  | .perm a => a

/-- The first absent granule above a, or e. -/
def State.nextAbsent (s : State) (a e : Nat) : Nat :=
  s.repair.absent.foldl (fun m x => if a < x ∧ x < m then x else m) e

/-- R233, R236, R237: every byte of [a, e) lies in staging of the partition or in a live entry with every permission of
need; absent granules are refused (R262). -/
def State.walk (s : State) (p : Nat) (need : List Nat) : Nat → Nat → Nat → Acc
  | 0, a, _ => .outside a
  | n + 1, a, e =>
    if e ≤ a then .ok
    else if !isMemory a then .unmapped a
    else if isStaging a then
      if s.ownerOf (stagingCluster a) = some p then
        if need.all fun b => b == pR || b == pW || b == pX then s.walk p need n (stagingBase (stagingCluster a + 1)) e
        else .perm a
      else .outside a
    else if s.isAbsent a then .unmapped a
    else
      match s.rgnAt p a with
      | none => .outside a
      | some r =>
        if need.all fun b => bitW r.2.1 b then
          s.walk p need n (s.nextAbsent a (rgnBase r.2.1 + rgnLen r.2.1 r.2.2)) e
        else .perm a

/-- The check of n bytes at a for partition p with the permissions named. -/
def State.chk (s : State) (p : Nat) (need : List Nat) (a n : Nat) : Acc := s.walk p need 4096 a (a + n)

/-- Every granule of [a, a + n) lies within the partition's grants (Table 8.3 check 3). -/
def State.inGrants (s : State) (p a n : Nat) : Bool := go 64 a
where
  /-- follow the grants -/
  go : Nat → Nat → Bool
    | 0, _ => false
    | k + 1, x =>
      if a + n ≤ x then true
      else
        match (s.part p).grants.find? fun g => g.1 ≤ x && x < g.1 + g.2 * 0x200000 with
        | none => false
        | some g => go k (g.1 + g.2 * 0x200000)

/-! ### Storage -/

/-- A byte with its poison. -/
abbrev PB := Byte × Bool

/-- The bytes that poison travels with: 8-byte words, or 32-byte bursts of LPDDR6 (R249, R250). -/
def unitSize (a : Nat) : Nat := if isDdr a then 32 else 8
/-- The word number that stands for an address's word or burst. -/
def unitOf (a : Nat) : Nat := if isDdr a then a / 32 * 4 else a / 8
/-- The word numbers of that word or burst. -/
def unitWords (a : Nat) : List Nat := if isDdr a then (upTo 4).map (· + a / 32 * 4) else [a / 8]

/-- The address lies in a detect-class region (R239). -/
def State.isDetect (s : State) (a : Nat) : Bool :=
  match s.grantPart a with
  | none => false
  | some p =>
    ((s.rgns p).filter fun r => bitW r.2.1 0).any fun r =>
      rgnBase r.2.1 ≤ a && decide (a < rgnBase r.2.1 + rgnLen r.2.1 r.2.2) && bitW r.2.1 2

/-- The bank and row of an SRAM address (R228, R258, Table 8.8), after remaps of granules. -/
def State.bankRow (s : State) (a : Nat) : Nat × Nat :=
  if isStaging a then (1000 + 128 * s.phOf (stagingCluster a) + a % 0x200000 / 0x20000, a % 0x20000 / 2048)
  else
    let g := granuleOf a
    match mfind s.repair.granuleAt g with
    | none => (granuleBank g, (g % 448 % 4 * 0x200000 + a % 0x200000) / 2048)
    | some t =>
      if t < 1000000 then (896 + t / 4, (t % 4 * 0x200000 + a % 0x200000) / 2048)
      else (granuleBank (t - 1000000), ((t - 1000000) % 448 % 4 * 0x200000 + a % 0x200000) / 2048)

/-- The log entry of a storage event at an address, and the action argument of its unit. -/
def State.storeEv (s : State) (code a : Nat) : LogEntry × Nat :=
  if isDdr a then
    ({ ev code with parts := pbitO (s.grantPart a), ukind := uDdrRow, unit := a / 256 % 80
                    addr := a / 256 * 256, detail := Config.ddrRow a }, Config.ddrRow a)
  else
    let b := s.bankRow a
    ({ ev code with parts := if isStaging a then pbitO (s.ownerOf (stagingCluster a)) else pbitO (s.grantPart a)
                    ukind := (bankUnit b.1).1, unit := (bankUnit b.1).2
                    lcluster := if isStaging a then stagingCluster a else 0xFFFF
                    addr := a / 8 * 8, detail := b.2 }, b.2)

/-- Count in the `MM.ERR_CNT` of the partition whose granules hold an address (Table 8.16); staging is no granule. -/
def State.errCnt (s : State) (a hi lo : Nat) : State :=
  match s.grantPart a with
  | some p => s.bump (aMM p + 0x1210) hi lo 1
  | none => s

/-- The row of an address needs sparing, or post-package repair (R259, R264). -/
def State.rowFails (s : State) (a : Nat) : State :=
  if isDdr a then s.pprRow (a / 256 % 80) (Config.ddrRow a) a
  else s.spareRow (s.bankRow a).1 (s.bankRow a).2

/-- A correction: logged masked, counted, and the corrected value awaits its write-back (R240). -/
def State.corrected (s : State) (die w : Nat) : State :=
  let e := s.storeEv eStoreCe (w * 8)
  let s1 := (logUnit s die e.1 e.2).errCnt (w * 8) 31 0
  { s1 with mem := { s1.mem with writeback := sadd s1.mem.writeback w } }

/-- An uncorrectable word or burst: delivered and stored poisoned, logged contained, its row spared or repaired (R240, R249);
one in the private state of a partition makes that partition fatal (R362). -/
def State.uncorrected (s : State) (die w : Nat) : State :=
  let e := s.storeEv eStoreUe (w * 8)
  let s1 := { s with mem := { s.mem with latent := mdel s.mem.latent w
                                         psn := (unitWords (w * 8)).foldl sadd s.mem.psn } }
  let s2 := ((logUnit s1 die e.1 e.2).errCnt (w * 8) 47 32).rowFails (w * 8)
  if isBase (w * 8) && s2.privGranules.contains (granuleOf (w * 8)) then
    match Config.privateOwner w with
    | some p => if p < 4 then s2.partFatal p else s2
    | none => s2
  else s2

/-- A detect-class error: the first of its granule is logged, the rest are counted (R241). -/
def State.detectHit (s : State) (die w : Nat) : State :=
  let s1 := s.errCnt (w * 8) 47 32
  let g := w * 8 / 0x200000
  if s1.mem.detected.contains g then s1
  else
    let e := s1.storeEv eDetectErr (w * 8)
    logUnit { s1 with mem := { s1.mem with detected := sadd s1.mem.detected g } } die e.1 e.2

/-- Read a word or burst whose store is in error: what the code finds. The answer says whether it is delivered poisoned, and
whether with altered data (R240, R241, R243). -/
def readErr (s : State) (die w : Nat) (x : StoreErr) : State × Bool × Bool :=
  if s.isDetect (w * 8) then
    match x with
    | .beyond => if Config.beyondCode w = 1 then (s.detectHit die w, true, false) else (s, false, false)
    | _ => (s.detectHit die w, true, false)
  else
    match x with
    | .correctable _ => (s.corrected die w, false, false)
    | .uncorrectable => (s.uncorrected die w, true, false)
    | .beyond =>
      if Config.beyondCode w = 0 then (s.corrected die w, false, true)
      else if Config.beyondCode w = 1 then (s.uncorrected die w, true, false) else (s, false, false)

/-- Errors in the words and bursts that n bytes at a touch. -/
def State.errsIn (s : State) (a n : Nat) : List (Nat × StoreErr) :=
  if n = 0 then [] else s.mem.latent.filter fun q => unitOf a ≤ q.1 && q.1 ≤ unitOf (a + n - 1)

/-- The stored bytes at a with their poison marks, unread by any code. -/
def State.peek (s : State) (a n : Nat) : List PB :=
  (rdBytes 0 s.mem.bytes a n).zipIdx.map fun q => (q.1, s.mem.psn.contains ((a + q.2) / 8))

/-- Read n bytes at a: the data as delivered to the requester on a die. Absent granules deliver poison (R262). -/
def readMem (s : State) (die a n : Nat) : State × List PB :=
  let r := (s.errsIn a n).foldl (fun (r : State × List Nat × List Nat) q =>
    let x := readErr r.1 die q.1 q.2
    (x.1, if x.2.1 then (unitWords (q.1 * 8)) ++ r.2.1 else r.2.1, if x.2.2 then q.1 :: r.2.2 else r.2.2)) (s, [], [])
  (r.1, (s.peek a n).zipIdx.map fun q =>
    let b := a + q.2
    (if r.2.2.contains (unitOf b) then (Config.beyondData (b / 8)).extractLsb' (8 * (b % 8)) 8 else q.1.1,
     q.1.2 || r.2.1.contains (b / 8) || s.isAbsent b))

/-- The words or bursts that n bytes at a touch, each with whether the write covers it. -/
def unitsIn (a n : Nat) : List (Nat × Bool) :=
  if n = 0 then []
  else
    let z := unitSize a
    (List.range ((a + n - 1) / z - a / z + 1)).map fun i =>
      let u := (a / z + i) * z
      (u, a ≤ u && decide (u + z ≤ a + n))

/-- Write poisoned and unpoisoned bytes at a (R249, R250): a whole unpoisoned word or burst clears poison, a partial one is
merged. What a hard fault holds stays in error. A write to an absent granule is discarded (R262). -/
def writeMem (s : State) (die a : Nat) (l : List PB) : State :=
  if s.isAbsent a then s
  else
    let s1 := ((s.errsIn a l.length).filter fun q => (unitsIn a l.length).any fun u => unitOf u.1 == q.1 && !u.2).foldl
      (fun s q => (readErr s die q.1 q.2).1) s
    let units := unitsIn a l.length
    let bad := fun (u : Nat) => (l.zipIdx.any fun q => q.1.2 && u ≤ a + q.2 && decide (a + q.2 < u + unitSize a))
    let psn := units.foldl (fun (m : List Nat) u =>
      if bad u.1 then (unitWords u.1).foldl sadd m
      else if u.2 then m.filter fun w => !(unitWords u.1).contains w else m) s1.mem.psn
    let fixed := fun (w : Nat) => units.any fun u => unitOf u.1 == w && (u.2 || !s.isDetect u.1)
    { s1 with mem := { s1.mem with
        bytes := wrBytes 0 s1.mem.bytes a (l.map (·.1))
        psn
        latent := s1.mem.latent.filter fun q => !(fixed q.1) || q.2 == .correctable true
        writeback := s1.mem.writeback.filter fun w => !(fixed w) } }

/-- The value of bytes as delivered, and whether any is poisoned. -/
def pbNat (l : List PB) : Nat := leNat (l.map (·.1))
def pbPsn (l : List PB) : Bool := l.any (·.2)
/-- Unpoisoned bytes of a number. -/
def pbOf (n v : Nat) (psn : Bool) : List PB := (leBytes n v).map fun b => (b, psn)

/-! ### Block check values (R303) -/

/-- The check-table entry of the 4 KiB block that holds an address: the address of its entry, where its grant's table is
enabled. -/
def State.cvEntry (s : State) (a : Nat) : Option Nat :=
  match s.grantPart a with
  | none => none
  | some p =>
    match (s.part p).grants.zipIdx.find? fun g => g.1.1 ≤ a && a < g.1.1 + g.1.2 * 0x200000 with
    | none => none
    | some g => if bitW (s.reg (aCvt p g.2)) 0 then some (fld (s.reg (aCvt p g.2)) 47 3 * 8 + 8 * ((a - g.1.1) / 4096)) else none

/-- The entry as it stands: CRC, VALID, poison. -/
def State.cvRead (s : State) (e : Nat) : Nat × Bool × Bool :=
  let l := s.peek e 8
  (pbNat l % 2 ^ 32, pbNat l / 2 ^ 32 % 2 == 1, pbPsn l)

/-- Clear VALID of the block that holds an address, and so on along the entries' own blocks while they read VALID (R303). -/
def State.cvClearN (s : State) (die : Nat) : Nat → Nat → State
  | 0, _ => s
  | n + 1, a =>
    match s.cvEntry a with
    | none => s
    | some e =>
      if (s.cvRead e).2.1 || (s.cvRead e).2.2 then (writeMem s die e (pbOf 8 0 false)).cvClearN die n e else s

/-- Clear VALID of every block that n bytes at a touch. -/
def State.cvClear (s : State) (die a n : Nat) : State :=
  if n = 0 then s
  else (List.range ((a + n - 1) / 4096 - a / 4096 + 1)).foldl
    (fun s i => s.cvClearN die (s.mem.bytes.length + 2) ((a / 4096 + i) * 4096)) s

/-- Give the block that holds an address a value. -/
def State.cvSet (s : State) (die a : Nat) (crc : Nat) : State :=
  match s.cvEntry a with
  | none => s
  | some e => (writeMem s die e (pbOf 8 (crc + 2 ^ 32) false)).cvClearN die (s.mem.bytes.length + 2) e

/-- Every enabled check entry of the blocks that n bytes at a touch lies in the region table, readable and writable. -/
def State.cvOk (s : State) (p a n : Nat) : Option Nat :=
  if n = 0 then none
  else ((List.range ((a + n - 1) / 4096 - a / 4096 + 1)).filterMap fun i => s.cvEntry ((a / 4096 + i) * 4096)).find? fun e =>
    !(s.chk p [pR, pW] e 8).isOk

/-- A write that carries no check value: it clears VALID of each block it touches (R304, other writes). -/
def storeMem (s : State) (die a : Nat) (l : List PB) : State := (writeMem s die a l).cvClear die a l.length

/-! ### Host memory -/

/-- Bytes of host memory behind port p. -/
def State.hostRead (s : State) (p a n : Nat) : List PB :=
  (rdBytes 0 s.hostMem (p * 2 ^ 64 + a) n).zipIdx.map fun q => (q.1, s.hostPsn.contains ((p * 2 ^ 64 + a + q.2) / 8))
/-- A write to host memory: what the host finds there, and the TLP on the bus. -/
def State.hostWrite (s : State) (p fn a : Nat) (l : List PB) : State :=
  { (s.emit (.hostWrite p fn a (l.map (·.1)) (pbPsn l))) with hostMem := wrBytes 0 s.hostMem (p * 2 ^ 64 + a) (l.map (·.1)) }

end Sys2Proof.Machine
end

