-- ==== Sys2Proof/Machine/Arm.lean ====
section
/-! DEFINITION. Arming and disarming of region entries (R234, R235), sward buffers (R114), remote windows (R326) and BAR2
windows (R389) under R474. -/

namespace Sys2Proof.Machine

/-- Table kinds of `State.arming`. -/
def kRgn : Nat := 0
def kSb : Nat := 1
def kWin : Nat := 2
def kB2 : Nat := 3

/-- An arming of this entry is in progress. -/
def State.isArming (s : State) (k p n : Nat) : Bool := s.arming.contains (k, p, n)
/-- Its turn has come: no arming of the same table stands before it, and Hayward is in service (R357, R474). -/
def State.armTurn (s : State) (k p n : Nat) : Bool :=
  (s.arming.find? fun x => x.1 == k && x.2.1 == p) == some (k, p, n) && !s.hw.takeover
/-- An arming starts, behind those of its table. -/
def State.armPut (s : State) (k p n : Nat) : State := { s with arming := s.arming ++ [(k, p, n)] }
/-- An arming ends. -/
def State.armEnd (s : State) (k p n : Nat) : State := { s with arming := s.arming.filter fun x => x != (k, p, n) }
/-- Two ranges overlap. -/
def overlap (a n b m : Nat) : Bool := decide (a < b + m) && decide (b < a + n) && decide (0 < n) && decide (0 < m)

/-! ### Region entries -/

/-- The fields of `MM.RGN_LO` that software writes, VALID apart. -/
def rgnLoMask : W64 := maskW 7 1 ||| maskW 47 21

/-- R234: a VALID = 1 write of `MM.RGN_LO[n]`. -/
def rgnArmWrite (s : State) (p n : Nat) (v : W64) : State :=
  if bitW (s.reg (aRgnLo p n)) 0 ∨ s.isArming kRgn p n then s
  else ((s.setReg (aRgnLo p n) (v &&& rgnLoMask)).setReg (aMM p + 0x1218) (w64 n)).armPut kRgn p n

/-- The first failing check of Table 8.3; 0 where all pass. An absent granule is no longer in the grant (R262). -/
def rgnCheck (s : State) (p n : Nat) : Nat :=
  let lo := s.reg (aRgnLo p n)
  let hi := s.reg (aRgnHi p n)
  let b := rgnBase lo
  let l := rgnLen lo hi
  if fld hi 19 0 = 0 then 1
  else if bitW lo 1 ∧ fld lo 29 21 ≠ 0 then 2
  else if !s.inGrants p b l ∨ s.isAbsent b ∨ s.nextAbsent b (b + l) < b + l then 3
  else if bitW lo 3 ∧ !(isBase b && isBase (b + l - 1)) then 4
  else if bitW lo 3 ∧ !(bitW lo 4 && bitW lo 5) then 5
  else if (s.rgns p).any fun r => r.1 != n && bitW r.2.1 0 && overlap b l (rgnBase r.2.1) (rgnLen r.2.1 r.2.2) then 6
  else 0

/-- The checks end: VALID reads 1, or the error is recorded. -/
def rgnArmEnd (s : State) (p n : Nat) : State :=
  let c := rgnCheck s p n
  let t := s.armEnd kRgn p n
  if c = 0 then t.setReg (aRgnLo p n) (setFld (s.reg (aRgnLo p n)) 0 0 1)
  else t.setReg (aMM p + 0x1218) (w64 (n + c * 256))

/-- R235: a VALID = 0 write of `MM.RGN_LO[n]`; an entry that is not valid just takes its other fields. -/
def rgnDisarmWrite (s : State) (p n : Nat) (v : Option W64) : State :=
  if s.isArming kRgn p n then s
  else if bitW (s.reg (aRgnLo p n)) 0 then
    if s.disarming.contains (p, n) then s else { s with disarming := s.disarming ++ [(p, n)] }
  else
    match v with
    | some w => s.setReg (aRgnLo p n) (w &&& rgnLoMask)
    | none => s

/-- `MM.RGN_HI[n]`: without effect while VALID reads 1 or the arming is in progress. -/
def rgnHiWrite (s : State) (p n : Nat) (v : W64) : State :=
  if bitW (s.reg (aRgnLo p n)) 0 ∨ s.isArming kRgn p n then s else s.setReg (aRgnHi p n) (v &&& maskW 19 0)

/-! ### Sward buffers -/

/-- Base address, cells and anchor of buffer n of partition p; VALID. -/
def State.sbBase (s : State) (p n : Nat) : Nat := fld (s.reg (aSbBase p n)) 47 6 * 64
def State.sbCells (s : State) (p n : Nat) : Nat := fld (s.reg (aSbCfg p n)) 43 16
def State.sbAnchor (s : State) (p n : Nat) : Int := sx 16 (fld (s.reg (aSbCfg p n)) 15 0)
def State.sbStat (s : State) (p n : Nat) : Nat := fld (s.reg (aSbStat p n)) 47 6 * 64
def State.sbValid (s : State) (p n : Nat) : Bool := n < 64 && bitW (s.reg (aSbCfg p n)) 63

/-- R114: a VALID = 1 write of `FD.SB_CFG[n]`. -/
def sbArmWrite (s : State) (p n : Nat) (v : W64) : State :=
  if s.sbValid p n ∨ s.isArming kSb p n then s
  else (s.setReg (aSbCfg p n) (v &&& maskW 43 0)).armPut kSb p n

/-- ARM_ERR of an arming; 0 where every check passes. -/
def sbCheck (s : State) (p n : Nat) : Nat :=
  let b := s.sbBase p n
  let l := s.sbCells p n * 64
  if s.sbCells p n = 0 then 2
  else if !((s.chk p [pFold] b l).isOk && (s.chk p [pFold] (s.sbStat p n) 64).isOk) then 1
  else if b ≤ s.sbStat p n ∧ s.sbStat p n < b + l then 3 else 0

/-- The checks end: the status line is written, the dies' copies cleared, and VALID reads 1; or ARM_ERR records the failure. -/
def sbArmEnd (s : State) (p n : Nat) : State :=
  let c := sbCheck s p n
  let t := s.armEnd kSb p n
  if c = 0 then
    let line := pbOf 8 0 false ++ pbOf 2 (fld (s.reg (aSbCfg p n)) 15 0) false ++ pbOf 54 0 false
    let t1 := storeMem t 16 (s.sbStat p n) line
    let t2 := { t1 with sbFlags := (upTo 8).foldl (fun m d => mput 0 m ((p * 64 + n) * 8 + d) 0) t1.sbFlags }
    t2.setReg (aSbCfg p n) (setFld (s.reg (aSbCfg p n)) 63 63 1)
  else t.setReg (aSbCfg p n) (setFld (s.reg (aSbCfg p n)) 61 60 c)

/-- R114: a VALID = 0 write of `FD.SB_CFG[n]` disarms at once; an entry that is not valid just takes its other fields. -/
def sbDisarmWrite (s : State) (p n : Nat) (v : Option W64) : State :=
  if s.isArming kSb p n then s
  else if s.sbValid p n then s.setReg (aSbCfg p n) (setFld (s.reg (aSbCfg p n)) 63 63 0)
  else
    match v with
    | some w => s.setReg (aSbCfg p n) ((s.reg (aSbCfg p n) &&& maskW 61 60) ||| (w &&& maskW 43 0))
    | none => s

/-- `FD.SB_BASE[n]` and `FD.SB_STAT[n]`: without effect while the entry is valid or being armed. -/
def sbAddrWrite (s : State) (p n a : Nat) (v : W64) : State :=
  if s.sbValid p n ∨ s.isArming kSb p n then s else s.setReg a (v &&& maskW 47 6)

/-! ### Remote windows -/

/-- Base, bytes and VALID of remote window w of partition p. -/
def State.winBase (s : State) (p w : Nat) : Nat := fld (s.reg (aWinLo p w)) 47 6 * 64
def State.winLen (s : State) (p w : Nat) : Nat := fld (s.reg (aWinHi p w)) 31 0 * 64
def State.winEpoch (s : State) (p w : Nat) : Nat := fld (s.reg (aWinLo p w)) 63 48
def State.winValid (s : State) (p w : Nat) : Bool := w < 64 && bitW (s.reg (aWinHi p w)) 32

/-- R326: a VALID = 1 write of `LK.WIN_HI[w]`. -/
def winArmWrite (s : State) (p w : Nat) (v : W64) : State :=
  if s.winValid p w ∨ s.isArming kWin p w then s
  else (s.setReg (aWinHi p w) (v &&& (maskW 31 0 ||| maskW 49 33))).armPut kWin p w

/-- ERR of an arming, in the order in which R326 lists the checks (log entry 14); 0 where every check passes. -/
def winCheck (s : State) (p w : Nat) : Nat :=
  let hi := s.reg (aWinHi p w)
  let b := s.winBase p w
  let l := s.winLen p w
  let inside := (s.liveRgns p).any fun r =>
    bitW r.2.1 3 && rgnBase r.2.1 ≤ b && decide (b + l ≤ rgnBase r.2.1 + rgnLen r.2.1 r.2.2)
  if !inside then 1
  else if l = 0 then 2
  else if bitW hi 36 then
    let n := fld hi 42 37
    if s.sbValid p n && s.sbBase p n ≤ b && decide (b + l ≤ s.sbBase p n + s.sbCells p n * 64) then 0 else 3
  else 0

/-- The checks end: EPOCH increments and VALID reads 1, or ERR records the failure. -/
def winArmEnd (s : State) (p w : Nat) : State :=
  let c := winCheck s p w
  let t := s.armEnd kWin p w
  if c = 0 then
    (t.setReg (aWinLo p w) (setFld (s.reg (aWinLo p w)) 63 48 (s.winEpoch p w + 1))).setReg (aWinHi p w)
      (setFld (s.reg (aWinHi p w)) 32 32 1)
  else t.setReg (aWinHi p w) (setFld (s.reg (aWinHi p w)) 51 50 c)

/-- A VALID = 0 write of `LK.WIN_HI[w]`. -/
def winDisarmWrite (s : State) (p w : Nat) (v : Option W64) : State :=
  if s.isArming kWin p w then s
  else if s.winValid p w then s.setReg (aWinHi p w) (setFld (s.reg (aWinHi p w)) 32 32 0)
  else
    match v with
    | some x => s.setReg (aWinHi p w) ((s.reg (aWinHi p w) &&& maskW 51 50) ||| (x &&& (maskW 31 0 ||| maskW 49 33)))
    | none => s

/-- `LK.WIN_LO[w]`: without effect while the window is valid or being armed; EPOCH is the device's. -/
def winLoWrite (s : State) (p w : Nat) (v : W64) : State :=
  if s.winValid p w ∨ s.isArming kWin p w then s
  else s.setReg (aWinLo p w) ((s.reg (aWinLo p w) &&& maskW 63 48) ||| (v &&& maskW 47 6))

/-! ### BAR2 windows -/

/-- log2 of the current BAR2 size: as the host has set it, else as POLICY gives it (R389). -/
def State.bar2Log2 (s : State) (p : Nat) : Nat := (s.host p).bar2Log2.getD (s.part p).bar2Log2
def State.b2Dev (s : State) (p n : Nat) : Nat := fld (s.reg (aB2Lo p n)) 47 21 * 0x200000
def State.b2Off (s : State) (p n : Nat) : Nat := fld (s.reg (aB2Hi p n)) 40 21 * 0x200000
def State.b2Len (s : State) (p n : Nat) : Nat := fld (s.reg (aB2Hi p n)) 19 0 * 0x200000
def State.b2Valid (s : State) (p n : Nat) : Bool := n < 16 && bitW (s.reg (aB2Lo p n)) 0

/-- R389: a VALID = 1 write of `HP.B2_WIN_LO[n]`. -/
def b2ArmWrite (s : State) (p n : Nat) (v : W64) : State :=
  if s.b2Valid p n ∨ s.isArming kB2 p n then s
  else ((s.setReg (aB2Lo p n) (v &&& maskW 47 21)).setReg (aB2Hi p n) (setFld (s.reg (aB2Hi p n)) 43 41 0)).armPut kB2 p n

/-- The first failing check of Table 12.3; 0 where all pass. -/
def b2Check (s : State) (p n : Nat) : Nat :=
  let o := s.b2Off p n
  let l := s.b2Len p n
  if l = 0 then 1
  else if 2 ^ s.bar2Log2 p < o + l then 2
  else if (upTo 16).any fun m => m != n && s.b2Valid p m && overlap o l (s.b2Off p m) (s.b2Len p m) then 3
  else if !s.inGrants p (s.b2Dev p n) l then 4 else 0

/-- The checks end. -/
def b2ArmEnd (s : State) (p n : Nat) : State :=
  let c := b2Check s p n
  let t := s.armEnd kB2 p n
  if c = 0 then t.setReg (aB2Lo p n) (setFld (s.reg (aB2Lo p n)) 0 0 1)
  else t.setReg (aB2Hi p n) (setFld (s.reg (aB2Hi p n)) 43 41 c)

/-- A VALID = 0 write of `HP.B2_WIN_LO[n]`. -/
def b2DisarmWrite (s : State) (p n : Nat) (v : Option W64) : State :=
  if s.isArming kB2 p n then s
  else if s.b2Valid p n then s.setReg (aB2Lo p n) (setFld (s.reg (aB2Lo p n)) 0 0 0)
  else
    match v with
    | some x => s.setReg (aB2Lo p n) (x &&& maskW 47 21)
    | none => s

/-- `HP.B2_WIN_HI[n]`. -/
def b2HiWrite (s : State) (p n : Nat) (v : W64) : State :=
  if s.b2Valid p n ∨ s.isArming kB2 p n then s
  else s.setReg (aB2Hi p n) ((s.reg (aB2Hi p n) &&& maskW 43 41) ||| (v &&& (maskW 19 0 ||| maskW 40 21)))

end Sys2Proof.Machine
end

