-- ==== Sys2Proof/Machine/Partner.lean ====
section
/-! DEFINITION. Partner tables, key slots, expulsion and the ports' enable (R312-R328), as `LK` register writes act on them. -/

namespace Sys2Proof.Machine

/-- The port and the entry of a partner reference (R313). -/
def refPort (r : Nat) : Nat := r / 8192 % 8
def refEntry (r : Nat) : Nat := r % 8192
/-- STATE of an entry: 0 ADMITTED, 1 LOST, 2 EXPELLED. -/
def State.ptState (s : State) (r : Nat) : Nat := fld (s.partner r 0) 2 1
def State.ptValid (s : State) (r : Nat) : Bool := bitW (s.partner r 0) 0
def State.setPtState (s : State) (r st : Nat) : State := s.setPartner r 0 (setFld (s.partner r 0) 2 1 st)

/-- Member m is one whose entry the command uses: another member, in a ring only the neighbours (R338). -/
def LinkOp.usesMember (o : LinkOp) (m : Nat) : Bool :=
  let n := o.members.length
  match o.kind with
  | .coll => m != o.rank && (o.direct || m == (o.rank + 1) % n || m == (o.rank + n - 1) % n)
  | .vote => m != o.rank
  | _ => true
/-- The members that partner reference r is. -/
def LinkOp.memberOf (o : LinkOp) (r : Nat) : Option Nat :=
  (upTo o.members.length).find? fun m => o.usesMember m && (o.members.getD m (0, 0)).1 == r
/-- The partner references that the command uses. -/
def LinkOp.refs (o : LinkOp) : List Nat :=
  ((upTo o.members.length).filter o.usesMember).map fun m => (o.members.getD m (0, 0)).1

/-- Every operation with partner r, the one excepted, ends with a status (R328, R333). -/
def State.endOpsWith (s : State) (r : Nat) (st : Status) (except : Option Nat) : State :=
  let ops := s.linkOps.filter fun o => o.refs.contains r && some o.id != except
  ops.foldl (fun s o => ({ s with linkOps := s.linkOps.filter fun x => x.id != o.id }).finish o.id st o.flags o.detail) s

/-- R328: the entry becomes EXPELLED and the operations with it end DENIED. -/
def State.expel (s : State) (r : Nat) (except : Option Nat) : State :=
  ((s.setPtState r 2).setTransport r { s.transport r with unacked := [], queue := [], held := [] }).endOpsWith r .denied except

/-- Set `LK.PT_CTL.ERR`. -/
def State.ptErr (s : State) (p e : Nat) : State := s.setReg (aLK p + 8) (setFld (s.reg (aLK p + 8)) 20 19 e)

/-- CMD 0b01: `LK.PT_DATA` replaces the entry, its transport state and quota count are cleared, STATE is ADMITTED and QOUT 0
(R324). -/
def ptWrite (s : State) (p r : Nat) : State :=
  if s.portPart (refPort r) ≠ some p then s.ptErr p 1
  else
    let s1 := (upTo 8).foldl (fun s i => s.setPartner r i (s.reg (aLK p + 0x40 + 8 * i))) s
    let s2 := s1.setPartner r 0 (setFld (s1.partner r 0) 3 1 0)
    (s2.setTransport r Transport.reset).ptErr p 0

/-- CMD 0b10: the entry is read into `LK.PT_DATA`. -/
def ptRead (s : State) (p r : Nat) : State :=
  if s.portPart (refPort r) ≠ some p then s.ptErr p 1
  else ((upTo 8).foldl (fun s i => s.setReg (aLK p + 0x40 + 8 * i) (s.partner r i)) s).ptErr p 0

/-- CMD 0b11: expel; entry 0 is refused. -/
def ptExpel (s : State) (p r : Nat) : State :=
  if s.portPart (refPort r) ≠ some p then s.ptErr p 1
  else if refEntry r = 0 then s.ptErr p 2
  else (s.expel r none).ptErr p 0

/-- R322: `LK.KEY_CTL` with LOAD installs a key slot with next PN 1; a port of another partition ignores the write. -/
def keyWrite (s : State) (p : Nat) (v : W64) : State :=
  let k := fld v 16 14
  let d (i : Nat) : Nat := (s.reg (aLK p + 0x80 + 8 * i)).toNat
  if !bitW v 19 ∨ s.portPart k ≠ some p then s
  else
    let x : KeySlot :=
      { sak := BitVec.ofNat 256 (d 0 + d 1 * 2 ^ 64 + d 2 * 2 ^ 128 + d 3 * 2 ^ 192)
        salt := BitVec.ofNat 96 (d 4 + d 5 % 2 ^ 32 * 2 ^ 64), ssci := BitVec.ofNat 32 (d 5 / 2 ^ 32)
        an := fld v 18 17, nextPn := 1 }
    { s with keys := madd s.keys (k * 16384 + fld v 13 0) x }

/-- Setting `LK.PORT_CFG.EN` starts training on an owned port; clearing it takes the port down (R316, R318). -/
def portEn (s : State) (k : Nat) (en : Bool) : State :=
  if (s.portPart k).isNone then s
  else if en then
    if (s.port k).phase = .down then s.setPort k { s.port k with phase := .equalise, lanes := 0, degraded := false, recal := none } else s
  else s.setPort k { LinkPort.reset with recals := (s.port k).recals }

/-- Port k works in Ethernet mode, as POLICY sets. -/
def State.portEth (s : State) (k : Nat) : Bool := s.policy.portEth.getD k false

end Sys2Proof.Machine
end

