-- ==== Sys2Proof/Machine/Regs.lean ====
section
/-! DEFINITION. Control-space registers: what a read returns and what a write does, by the access codes of R11 and the field
rules of each register map. -/

namespace Sys2Proof.Machine

/-! ### Values that have another home -/

/-- DEVICE_ID (R438): the first 16 bytes of the digest of the identity key; zero when UDS_KILL is 1. -/
def State.deviceId (s : State) : BitVec 128 :=
  if s.life.noId then 0 else (Config.sha384 (leBytes 97 Config.identityPub.toNat)).setWidth 128
/-- Minutes that the most overdue owned cluster is past due: 5 h 40 min after its latest passing test, or since power-good
without a record (R352, R366). -/
def State.pastDueSecs (s : State) : Nat :=
  (upTo 288).foldl (fun m ph => match (s.physOf ph).cond with
    | .role c =>
      if (s.ownerOf c).isSome then
        max m (match (s.physOf ph).lastPass with
          | some t => s.psec - (t + 20400)
          | none => s.psec - s.power.psecOn)
      else m
    | _ => m) 0
/-- `HW.GUAR` (Table 11.12). -/
def State.guar (s : State) : W64 :=
  let owned := s.life.lc == 1
  let rotOk := s.pastDueSecs ≤ 21600
  w64 (b2n (owned && s.policy.integrity && s.policy.scrub && rotOk) + 2 * b2n owned + 4 * b2n s.policy.integrity
    + 8 * b2n s.policy.scrub + 16 * b2n rotOk + 32 * b2n s.hw.suspended + 65536 * satN 16 (s.pastDueSecs / 60))
/-- Physical cluster ph is fallow: TESTING, PASSED or UNTESTED (R366). -/
def Phys.fallow (x : Phys) : Bool := x.cond == .testing || x.cond == .passed || x.cond == .untested
/-- `HW.FALLOW` (Table 11.13). -/
def State.fallowReg (s : State) : W64 :=
  w64 ((upTo 8).foldl (fun n d => n + ((upTo 36).filter fun i => (s.physOf (d * 36 + i)).fallow).length * 2 ^ (6 * d)) 0
    + ((upTo 288).filter fun ph => (s.physOf ph).cond == .testing).length * 2 ^ 48)
/-- `HW.STATUS` (Table 11.11). -/
def State.hwStatus (s : State) : W64 :=
  w64 (b2n s.hw.activeB + 2 * b2n s.hw.standby + 4 * b2n s.hw.fatal + 256 * min 16 s.hw.running.length
    + 65536 * satN 16 s.hw.queued.length)
/-- `HW.LOG_STAT` (Table 11.14). -/
def State.logStat (s : State) : W64 :=
  w64 ((match s.hw.log with
    | [] => 0
    | e :: _ => e.seq % 2 ^ 32) + s.hw.lost * 2 ^ 32)
/-- Re-provisionings left. -/
def Life.provLeft (l : Life) : Nat := min 4 (5 - l.ownerN)
/-- `LC.STATE` (Table 14.11). -/
def State.lcReg (s : State) : W64 :=
  let l := s.life
  w64 (l.lc + 4 * b2n l.pending + 8 * (if l.ownerN = 0 then 7 else l.ownerN - 1) + 64 * b2n l.retArmed + 256 * l.provLeft
    + 4096 * l.dbgParts.toNat + 65536 * b2n l.dbgDev + 2 ^ 32 * l.dbgSecs)
/-- The power cap in force (R31). -/
def State.cap (s : State) : Nat := max 3000 (min 3600 s.policy.powerCap)

/-- The target slot of IMAGE_STAGE: the one that does not run; in RECOVERY the one that the valid slot-select record does not name
as confirmed, or A (R425). True is B. -/
def State.targetB (s : State) : Bool :=
  if s.boot.stage = 6 then
    match (s.boot.slotRecs.filter (·.crcOk)).foldl (fun b r => match b with
        | none => some r
        | some x => if x.seq < r.seq then some r else some x) none with
    | none => false
    | some r => !r.confirmed
  else !s.boot.slotB
/-- Partitions that a field of a POLICY under application waits for (R430): those that gain or lose a cluster, and those whose
channel range changes. -/
def State.clusterWaits (s : State) (n : Policy) : List Nat :=
  (upTo 4).filter fun p => (s.part p).clusters != (n.parts.getD p PartPolicy.none).clusters
def State.rangeWaits (s : State) (n : Policy) : List Nat :=
  (upTo 4).filter fun p => (s.part p).chanFirst != (n.parts.getD p PartPolicy.none).chanFirst
    || (s.part p).chanCount != (n.parts.getD p PartPolicy.none).chanCount
/-- `CK.UPD` (Table 13.17); SLOT reads 0, its reset value, until the boot has chosen a slot. -/
def State.updReg (s : State) : W64 :=
  let b := s.boot
  let wait := match b.applying, b.newPolicy with
    | true, some n => (upTo 4).foldl (fun m p => if (s.clusterWaits n ++ s.rangeWaits n).contains p then m + 2 ^ p else m) 0
    | _, _ => 0
  w64 ((if b.applying then 3 else if b.committed then 2 else b2n b.staging) + 4 * b2n (decide (3 ≤ b.stage) && s.targetB)
    + (b.pendingSecs.foldl (fun m t => m ||| 2 ^ (t - 1)) 0) * 256
    + ((upTo 256).filter fun c => (s.cluster c).newMon).length * 2 ^ 16 + wait * 2 ^ 32)

/-- A device block's register: HW, CK, LC. -/
def State.devReg (s : State) (o : Nat) : W64 :=
  if o = 0 then w64 (0x2048 + 0xB0 * 2 ^ 16 + 2 ^ 24)
  else if o = 8 then s.reg (aHW + 8)
  else if o = 0x10 then w64 (s.psec % 2 ^ 32)
  else if o = 0x18 then s.hwStatus
  else if o = 0x20 then s.guar
  else if o = 0x28 then s.fallowReg
  else if o = 0x30 then s.logStat
  else if o = 0x10000 then setFld (s.reg aCK) 2 0 s.boot.stage
  else if o = 0x10008 then
    setFld (setFld (setFld (s.reg (aCK + 8)) 3 0 s.power.div) 7 4 s.power.pwrDiv) 11 8 s.power.thermDiv
  else if o = 0x10010 then setFld (s.reg (aCK + 0x10)) 11 0 s.cap
  else if o = 0x10018 then setFld (s.reg (aCK + 0x18)) 22 22 (b2n s.power.thermStop)
  else if o = 0x10020 then s.updReg
  else if o = 0x20000 then s.lcReg
  else if o = 0x20008 then s.deviceId.setWidth 64
  else if o = 0x20010 then (s.deviceId >>> 64).setWidth 64
  else if o = 0x20018 then
    w64 (s.life.svnMin.zipIdx.foldl (fun n q => if q.2 < 6 then n + min 32 q.1 * 2 ^ (6 * q.2) else n) 0)
  else 0

/-- Absent granules of partition p, in order of absence. -/
def State.absentOf (s : State) (p : Nat) : List Nat := s.repair.absent.filter fun a => s.grantPart a == some p
/-- `MM.CAP_SRAM` and `MM.CAP_DDR` (Table 8.15). -/
def State.capReg (s : State) (p : Nat) (ddr : Bool) : W64 :=
  let g := ((s.part p).grants.filter fun g => isDdr g.1 == ddr).foldl (fun n g => n + g.2) 0
  let x := ((s.absentOf p).filter fun a => isDdr a == ddr).length
  setFld (setFld (s.reg (aMM p + (if ddr then 0x1208 else 0x1200))) 19 0 g) 39 20 (g - x)

/-- Operation contexts of partition p in use on the engine of an I/O die (R335). -/
def State.ctxInUse (s : State) (p die : Nat) : Nat :=
  (s.linkOps.filter fun o => o.part == p && o.die == die && o.ctxHeld).length

/-- A partition block's register at offset o. -/
def State.partReg (s : State) (p o : Nat) : W64 :=
  let v := s.reg (aPart p + o)
  if o < 0x10000 then
    if 0x1000 ≤ o ∧ o < 0x1200 then
      match (s.part p).grants[(o - 0x1000) / 16]? with
      | none => 0
      | some g => if o % 16 = 0 then w64 (g.1 + 1) else w64 g.2
    else if o = 0x1200 then s.capReg p false
    else if o = 0x1208 then s.capReg p true
    else if o = 0x1220 then
      w64 (b2n s.policy.scrub + 2 * b2n (64 < (s.absentOf p).length) + 256 * satN 8 (s.resvLeft p))
    else if 0x1400 ≤ o ∧ o < 0x1600 then
      match (s.absentOf p)[(o - 0x1400) / 8]? with
      | none => 0
      | some a => w64 (a + 1)
    else v
  else if o = 0x20000 then w64 ((s.part p).chanFirst + (s.part p).chanCount * 4096)
  else if 0x30000 ≤ o ∧ o < 0x40000 then
    let q := o - 0x30000
    if q = 0x10 ∨ (0x80 ≤ q ∧ q < 0xB0) then 0
    else if q = 0x20 then
      w64 (s.ctxInUse p 0 + 256 * (s.part p).lkCtxA + 2 ^ 16 * s.ctxInUse p 1 + 2 ^ 24 * (s.part p).lkCtxB)
    else if 0x100 ≤ q ∧ q < 0x200 then
      let k := (q - 0x100) / 0x20
      if s.portPart k ≠ some p then 0
      else if q % 0x20 = 0 then setFld (setFld v 0 0 (b2n (s.portEth k))) 1 1 (b2n (s.policy.portKr.getD k false))
      else if q % 0x20 = 8 then
        let x := s.port k
        let link := match x.phase with
          | .down => 0
          | .up => if x.degraded then 3 else 2
          | _ => 1
        setFld (setFld (setFld v 1 0 link) 5 2 x.lanes.toNat) 31 16 (satN 16 x.recals)
      else v
    else v
  else if o = 0x40000 then
    let h := s.host p
    w64 (b2n (h.preset != .none) + 2 * (if h.linkUp then h.speed else 0) + 16 * (if h.linkUp then h.width else 0)
      + 256 * b2n (h.ideSecure.contains 8)
      + 512 * ((upTo 8).foldl (fun n i => n + b2n (h.ideSecure.contains i) * 2 ^ i) 0)
      + 2 ^ 17 * b2n (s.part p).ideRequired + 2 ^ 18 * s.bar2Log2 p)
  else if o = 0x50000 then
    let n := (s.hw.log.filter fun e => (e.parts &&& pbit p) != 0 && mget 0 s.hw.viewAt (2 * p + 1) ≤ e.seq).length
      + b2n (mget 0 s.hw.viewAt (2 * p) != 0)
    setFld v 10 0 n
  else if o = 0x50010 then 0
  else v

/-- A cluster window's register at offset o. -/
def State.cluReg (s : State) (c o : Nat) : W64 :=
  let k := s.cluster c
  let v := s.reg (aMX c + o)
  if o = 8 then
    match k.mx with
    | none => w64 (256 * min 7 k.mxQ.length)
    | some m => w64 (1 + 2 * b2n (m.active.isNone || m.shadow.isSome) + 4 * b2n (!m.drain.isEmpty)
        + 8 * b2n ((m.pend.bind (·.mismatch)).isSome) + 256 * min 7 k.mxQ.length)
  else if o = 0x10 then
    match k.mx with
    | none => w64 (b2n (!k.lastTileB))
    | some m => w64 (b2n m.tile.isB + 2 * b2n (m.drain.any fun t => !t.isB) + 4 * b2n (m.drain.any fun t => t.isB))
  else if o = 0x400 then w64 (b2n k.se.isSome + 2 * k.slotsFree + 256 * min 7 k.seQ.length)
  else v

/-! ### Core windows -/

/-- Depths of the stacks: hardware and spilled. -/
def Core.dsDepth (k : Core) : Nat := k.ds.length + k.dsSpill
def Core.rsDepth (k : Core) : Nat := k.rs.length + k.rsSpill
/-- The level's code. -/
def Priv.code : Priv → Nat
  | .U => 0
  | .S => 1
  | .M => 3
/-- Lines FILLING or awaiting an acknowledgement (`VX.OC_STAT.PENDING`). -/
def Core.ocPending (k : Core) : Nat := (k.oc.filter fun q => q.2.st == .filling || q.2.wbPending).length
/-- `CC.MODE`. -/
def Core.mode (k : Core) : W64 := w64 (b2n k.ie + 2 * b2n k.dce)

/-- The vector base of level M: what M wrote, else the base that Hayward gave the core (R196, R475). -/
def State.vbarM (s : State) (d : Nat) (k : Core) : Nat :=
  match k.exVbarM with
  | some v => v.toNat
  | none => if (s.cluster (d / 8)).newMon then s.boot.newMonVec else s.boot.monVec

/-- A core window's register at offset o. -/
def State.coreReg (s : State) (d o : Nat) : W64 :=
  let k := s.core d
  if o = 0 then k.vxCtl
  else if o = 8 then k.vxVl
  else if o = 0x10 then k.vxStatus
  else if o = 0x18 then k.vxRstat
  else if o = 0x20 then k.vxFault
  else if o = 0x28 then k.vxFaultAddr
  else if o = 0x30 then k.vxRangeLo
  else if o = 0x38 then k.vxRangeHi
  else if o = 0x40 then k.vxRcStat
  else if o = 0x48 then k.vxSrState
  else if o = 0x50 then w64 (k.ocPending + k.vxDiscard * 2 ^ 32)
  else if o = 0x58 then w64 k.vxPairMis
  else if o = 0x100 then w64 (k.priv.code + k.dsDepth * 2 ^ 16 + k.rsDepth * 2 ^ 32 + k.loops.length * 2 ^ 48)
  else if o = 0x108 then k.mode
  else if o = 0x110 then k.ccDsBnd
  else if o = 0x118 then k.ccRsBnd
  else if o = 0x120 then k.ccLmProt
  else if o = 0x128 then w64 (k.misses.length + 16 * b2n k.dce)
  else if o = 0x130 then w64 (d + (d % 8) * 2 ^ 11 + (d / 8) * 2 ^ 14)
  else if o = 0x200 then k.exVbarS
  else if o = 0x208 then w64 (s.vbarM d k)
  else if o = 0x210 then k.exLastCause
  else if o = 0x218 then k.exLastDetail
  else if o = 0x220 then w64 (b2n k.winOpen + 2 * b2n k.winClamp + 4 * b2n k.winOverrun + (if k.winOpen then k.winRem else 0) * 2 ^ 16)
  else if o = 0x228 then w64 (b2n k.softPend + 2 * b2n k.abortPend.isSome + 4 * b2n k.hwPend.isSome + k.post.toNat * 2 ^ 16)
  else if o = 0x230 then k.exKstat
  else if o = 0x238 then w64 (b2n k.mfaActive + 256 * k.mfaFrames)
  else if o = 0x240 then k.exAbort
  else 0

/-- A read of the 8-byte register at a control-space address. -/
def readReg (s : State) (a : Nat) : W64 :=
  if a < aCoreWin 0 then s.devReg (a - aHW)
  else if a < aCoreWin 2048 then s.coreReg ((a - aCoreWin 0) / 0x1000) (a % 0x1000)
  else if aMX 0 ≤ a ∧ a < aMX 256 then s.cluReg ((a - aMX 0) / 0x1000) (a % 0x1000)
  else if aPart 0 ≤ a ∧ a < aPart 4 then s.partReg ((a - aPart 0) / 0x100000) (a % 0x100000)
  else 0

/-- Table 8.2: partition p reaches this control-space address; device blocks are read by all. -/
def ctlReach (s : State) (p a : Nat) : Bool :=
  if aHW ≤ a ∧ a < aCoreWin 0 then true
  else if aCoreWin 0 ≤ a ∧ a < aCoreWin 2048 then s.ownerOf ((a - aCoreWin 0) / 0x1000 / 8) == some p
  else if aMX 0 ≤ a ∧ a < aMX 256 then s.ownerOf ((a - aMX 0) / 0x1000) == some p
  else aPart p ≤ a && a < aPart (p + 1) && p < 4

/-! ### Writes -/

/-- Field kinds of a plain register: read-write, write-one-to-clear. -/
inductive FK where
  | rw | w1c
  deriving DecidableEq, Repr

/-- A write of v under the byte enables m to a register of such fields (R11). -/
def applyFields (old m v : W64) (fs : List (Nat × Nat × FK)) : W64 :=
  fs.foldl (fun o f =>
    let k := maskW f.1 f.2.1 &&& m
    match f.2.2 with
    | .rw => (o &&& ~~~ k) ||| (v &&& k)
    | .w1c => o &&& ~~~ (v &&& k)) old

/-- The fields of the plain registers of a partition block (Tables 4.10, 8.16, 9.19 to 9.23, 10.15 to 10.21, 11.15, 11.17,
12.12, 12.14), by offset; none where nothing is writable or the register has rules of its own. -/
def partFields (o : Nat) : List (Nat × Nat × FK) :=
  if o = 0x1210 then [(31, 0, .w1c), (47, 32, .w1c)]
  else if o = 0x10800 then [(31, 0, .w1c)]
  else if o = 0x20010 then [(47, 32, .w1c)]
  else if 0x20100 ≤ o ∧ o < 0x20300 then [(63, 0, .rw)]
  else if 0x20400 ≤ o ∧ o < 0x20600 then [(63, 0, .rw)]
  else if 0x20600 ≤ o ∧ o < 0x20700 then [(0, 0, .rw), (47, 3, .rw)]
  else if o = 0x30018 then [(15, 0, .w1c), (31, 16, .w1c), (47, 32, .w1c)]
  else if 0x30040 ≤ o ∧ o < 0x30080 then [(63, 0, .rw)]
  else if 0x30080 ≤ o ∧ o < 0x300B0 then [(63, 0, .rw)]
  else if 0x30100 ≤ o ∧ o < 0x30200 then
    if o % 0x20 = 0 then [(50, 2, .rw)]
    else if o % 0x20 = 8 then [(6, 6, .w1c), (7, 7, .w1c)]
    else if o % 0x20 = 0x10 then [(63, 0, .w1c)] else []
  else if o = 0x40018 then [(1, 1, .w1c), (2, 2, .w1c)]
  else if o = 0x50000 then [(47, 32, .w1c)]
  else if o = 0x50018 then [(63, 0, .rw)]
  else []

/-- `LK.CFG` (Table 10.14): small lag limits store 100, the silence limit is held to 1 to 10,000. -/
def lkCfgFix (v : W64) : W64 :=
  let v1 := if fld v 19 0 < 100 then setFld v 19 0 100 else v
  let s := fld v1 33 20
  if s = 0 then setFld v1 33 20 1 else if 10000 < s then setFld v1 33 20 10000 else v1

/-- R379: a write to `HW.PV_ACK`. Any value but the SEQ presented has no effect. -/
def pvAckWrite (s : State) (p : Nat) (v : W64) : State :=
  if mget 0 s.hw.viewAt (2 * p) = fld v 31 0 + 1 then
    let s1 := { s with hw := { s.hw with viewAt := mput 0 s.hw.viewAt (2 * p) 0 } }
    ((upTo 8).foldl (fun s i => s.setReg (aPV p + 0x40 + 8 * i) 0) s1).present p
  else s

/-- R399: a host write to `HP.MB_CMD`: GO submits the request, and while BUSY only sets ERR. -/
def mbWrite (s : State) (p : Nat) (m v : W64) : State :=
  let st := aHP p + 0x18
  if bitW (v &&& m) 16 ∧ bitW (s.reg st) 0 then s.setReg st (setFld (s.reg st) 2 2 1)
  else
    let s1 := s.setReg (aHP p + 0x10) (applyFields (s.reg (aHP p + 0x10)) m v [(12, 0, .rw), (17, 17, .rw), (28, 18, .rw)])
    if bitW (v &&& m) 16 then s1.setReg st (setFld (s1.reg st) 0 0 1) else s1

/-- v on the bytes that m enables, the register's own value on the rest. -/
def merge (old m v : W64) : W64 := (old &&& ~~~ m) ||| (v &&& m)

/-- The clusters 64w to 64w + 63 that partition p owns, as bits (Table 9.22). -/
def State.ownedWord (s : State) (p w : Nat) : W64 :=
  w64 ((s.part p).clusters.foldl (fun n c => if c / 64 = w then n ||| 2 ^ (c % 64) else n) 0)

/-- A write by partition p to its own block; host tells a host's write through BAR0 of the PF from a core's. -/
def partWrite (s : State) (host : Bool) (p o : Nat) (m v : W64) : State :=
  let a := aPart p + o
  let x := merge (s.reg a) m v
  if o < 0x1000 then
    if o % 16 = 0 then (if bitW x 0 ∧ ¬ (bitW (s.reg a) 0 ∧ ¬ bitW m 0) then rgnArmWrite s p (o / 16) x else
      if bitW (s.reg a) 0 ∧ ¬ bitW m 0 then s else rgnDisarmWrite s p (o / 16) (some x))
    else rgnHiWrite s p (o / 16) x
  else if 0x10000 ≤ o ∧ o < 0x10800 then
    let n := (o - 0x10000) / 0x20
    if o % 0x20 = 8 then
      if bitW x 63 then sbArmWrite s p n x else sbDisarmWrite s p n (some x)
    else if o % 0x20 = 0x18 then s
    else sbAddrWrite s p n a x
  else if o = 0x30000 then s.setReg a (lkCfgFix (applyFields (s.reg a) m v [(49, 0, .rw)]))
  else if o = 0x30008 then
    let s1 := s.setReg a (applyFields (s.reg a) m v [(15, 0, .rw)])
    let r := fld (s1.reg a) 15 0
    let c := fld (v &&& m) 17 16
    if c = 1 then ptWrite s1 p r else if c = 2 then ptRead s1 p r else if c = 3 then ptExpel s1 p r else s1
  else if o = 0x30010 then keyWrite s p (v &&& m)
  else if 0x30100 ≤ o ∧ o < 0x30200 then
    let k := (o - 0x30100) / 0x20
    if s.portPart k ≠ some p then s
    else
      let s1 := s.setReg a (applyFields (s.reg a) m v (partFields o))
      if o % 0x20 = 0 ∧ bitW (s1.reg a) 2 ≠ bitW (s.reg a) 2 then portEn s1 k (bitW (s1.reg a) 2) else s1
  else if 0x30400 ≤ o ∧ o < 0x30800 then
    let w := (o - 0x30400) / 16
    if o % 16 = 0 then winLoWrite s p w x
    else if bitW x 32 then winArmWrite s p w x else winDisarmWrite s p w (some x)
  else if o = 0x40010 then if host then mbWrite s p m v else s
  else if 0x40040 ≤ o ∧ o < 0x40140 then
    let n := (o - 0x40040) / 16
    if o % 16 = 0 then (if bitW x 0 then b2ArmWrite s p n x else b2DisarmWrite s p n (some x))
    else b2HiWrite s p n x
  else if 0x40208 ≤ o ∧ o < 0x40280 then
    if (s.host p).vfEnable then s else s.setReg a (applyFields (s.reg a) m v [(24, 0, .rw)])
  else if 0x41000 ≤ o ∧ o < 0x42000 then if host then s.setReg a x else s
  else if o = 0x50008 then
    let f := applyFields (s.reg a) m v [(18, 0, .rw)]
    s.setReg a (if 4 < fld f 17 15 then setFld f 17 15 (fld (s.reg a) 17 15) else f)
  else if o = 0x50010 then pvAckWrite s p (v &&& m)
  else if 0x20400 ≤ o ∧ o < 0x20600 then
    s.setReg a (applyFields (s.reg a) m v (partFields o) &&& s.ownedWord p ((o - 0x20400) % 0x20 / 8))
  else s.setReg a (applyFields (s.reg a) m v (partFields o))

/-- A write to a cluster window (Tables 3.13, 9.21, 9.25, 9.26). -/
def cluWrite (s : State) (c o : Nat) (m v : W64) : State :=
  let a := aMX c + o
  let fs : List (Nat × Nat × FK) :=
    if o = 0 then [(0, 0, .rw)]
    else if o = 0x408 then [(31, 0, .w1c)]
    else if o = 0x410 then [(15, 0, .w1c), (31, 16, .w1c)]
    else if 0x800 ≤ o ∧ o < 0x900 then [(63, 0, .rw)] else []
  s.setReg a (applyFields (s.reg a) m v fs)

/-- A stack bound: LIMIT above 7,936 stores 7,936 (R162). -/
def bndFix (v : W64) : W64 := if 7936 < fld v 29 16 then setFld v 29 16 7936 else v

/-- A write that reaches a core's window with the rights of a level: the VX, CC and EX blocks (R153, R193, R225). -/
def Core.write (k : Core) (lvl : Priv) (o : Nat) (m v : W64) : Core :=
  if o = 0 then { k with vxCtl := applyFields k.vxCtl m v [(0, 0, .rw)] }
  else if o = 8 then
    let x := applyFields k.vxVl m v [(12, 0, .rw)]
    { k with vxVl := if 4096 < fld x 12 0 then w64 4096 else x }
  else if o = 0x10 then { k with vxStatus := applyFields k.vxStatus m v [(5, 0, .w1c)] }
  else if o = 0x18 then { k with vxRstat := applyFields k.vxRstat m v [(1, 1, .w1c)] }
  else if o = 0x30 then { k with vxRangeLo := applyFields k.vxRangeLo m v [(63, 0, .rw)] }
  else if o = 0x38 then { k with vxRangeHi := applyFields k.vxRangeHi m v [(63, 0, .rw)] }
  else if o = 0x40 then { k with vxRcStat := applyFields k.vxRcStat m v [(0, 0, .w1c)] }
  else if o = 0x48 then
    let x := applyFields k.vxSrState m v [(31, 0, .rw)]
    { k with vxSrState := if fld x 31 0 = 0 then 0x9E3779B9 else x }
  else if o = 0x50 then { k with vxDiscard := fld (applyFields (w64 (k.vxDiscard * 2 ^ 32)) m v [(47, 32, .w1c)]) 47 32 }
  else if o = 0x110 then { k with ccDsBnd := bndFix (applyFields k.ccDsBnd m v [(13, 0, .rw), (29, 16, .rw)]) }
  else if o = 0x118 then { k with ccRsBnd := bndFix (applyFields k.ccRsBnd m v [(13, 0, .rw), (29, 16, .rw)]) }
  else if o = 0x120 then { k with ccLmProt := applyFields k.ccLmProt m v [(15, 0, .rw)] }
  else if o = 0x200 then { k with exVbarS := applyFields k.exVbarS m v [(47, 12, .rw)] }
  else if o = 0x208 then
    if lvl = .M then { k with exVbarM := some (applyFields (k.exVbarM.getD 0) m v [(47, 12, .rw)]) } else k
  else if o = 0x220 then
    { k with winClamp := k.winClamp && !bitW (v &&& m) 1, winOverrun := k.winOverrun && !bitW (v &&& m) 2 }
  else if o = 0x228 then
    let b := fld (v &&& m) 47 16
    if b = 0 then k else { k with post := k.post ||| BitVec.ofNat 32 b, softPend := true }
  else if o = 0x230 then
    let x := applyFields k.exKstat m v [(8, 0, .rw)]
    { k with exKstat := if (Status.ofCode (fld x 7 0)).isSome then x else setFld x 7 0 (fld k.exKstat 7 0) }
  else k

/-- A write by another agent of the partition to a core's window: CC and EX fields and PAIRED wait for the core's next command,
`EX.IRQ.POST` acts at once (R153, R193, R225). -/
def coreWriteOther (s : State) (d o : Nat) (m v : W64) : State :=
  let k := s.core d
  if o = 0x228 ∨ (8 ≤ o ∧ o < 0x100) then s.setCore d (k.write .S o m v)
  else if o = 0x208 then s
  else s.setCore d { k with later := k.later ++ [(o, v, if m = maskW 63 0 then 0xFF else if bitW m 63 then 0xF0 else 0x0F)] }

/-- The writes that waited for the core's next command, applied with the rights of S. -/
def Core.applyLater (k : Core) : Core :=
  k.later.foldl (fun k q => k.write .S q.1
    (if q.2.2 = 0xFF then maskW 63 0 else if q.2.2 = 0xF0 then maskW 63 32 else maskW 31 0) q.2.1) { k with later := [] }

/-- A register write of partition p at an 8-byte-aligned control-space address under byte enables; the device blocks take
none (R231, R380, R455). -/
def writeReg (s : State) (host : Bool) (_p a : Nat) (m v : W64) : State :=
  if a < aCoreWin 0 then s
  else if a < aCoreWin 2048 then coreWriteOther s ((a - aCoreWin 0) / 0x1000) (a % 0x1000) m v
  else if aMX 0 ≤ a ∧ a < aMX 256 then cluWrite s ((a - aMX 0) / 0x1000) (a % 0x1000) m v
  else if aPart 0 ≤ a ∧ a < aPart 4 then partWrite s host ((a - aPart 0) / 0x100000) (a % 0x100000) m v
  else s

/-- R14: the address and size of a register access are one of the two admitted; the byte enables it gives. -/
def regLanes (a size : Nat) : Option W64 :=
  if size = 8 ∧ a % 8 = 0 then some (maskW 63 0)
  else if size = 4 ∧ a % 8 = 0 then some (maskW 31 0)
  else if size = 4 ∧ a % 8 = 4 then some (maskW 63 32) else none

/-- A value of size 4 or 8 put in its half. -/
def laneVal (a : Nat) (v : W64) : W64 := if a % 8 = 4 then v <<< 32 else v

end Sys2Proof.Machine
end

