-- ==== Sys2Proof/Machine/Stack.lean ====
section
/-! DEFINITION. The control core's stacks and its local memory (R158-R163): pushes that spill, pops that refill, and the
checks on local accesses. -/

namespace Sys2Proof.Machine

/-! ### Local memory -/

/-- Bytes at a local offset, each with the poison of its 8-byte word. -/
def Core.lmRead (k : Core) (off n : Nat) : List PB :=
  (rdBytes 0 k.lm off n).zipIdx.map fun q => (q.1, k.lmPsn.contains ((off + q.2) / 8))
/-- Write bytes at a local offset: a poisoned write poisons its words, a whole unpoisoned word clears the mark, a part of a
word leaves it (R249). -/
def Core.lmWrite (k : Core) (off : Nat) (l : List PB) : Core :=
  let ws := (List.range ((off + l.length - 1) / 8 + 1 - off / 8)).map (· + off / 8)
  { k with lm := wrBytes 0 k.lm off (l.map (·.1))
           lmPsn := if l.isEmpty then k.lmPsn else ws.foldl (fun m w =>
             if l.any (·.2) then sadd m w
             else if off ≤ w * 8 ∧ w * 8 + 8 ≤ off + l.length then sdel m w else m) k.lmPsn }
/-- Word i of local memory as a stack entry. -/
def Core.lmEntry (k : Core) (i : Nat) : Entry := ⟨w64 (leNat (rdBytes 0 k.lm (8 * i) 8)), k.lmPsn.contains i⟩
/-- Store an entry in word i, with its poison. -/
def Core.lmPutEntry (k : Core) (i : Nat) (x : Entry) : Core :=
  { k with lm := wrBytes 0 k.lm (8 * i) (leBytes 8 x.val.toNat), lmPsn := sset k.lmPsn i x.psn }

/-- R163: n bytes at a local offset are admitted at a level. -/
def Core.lmOk (k : Core) (lvl : Priv) (off n : Nat) : Bool :=
  decide (off + n ≤ 0x10000) &&
  match lvl with
  | .M => true
  | .S => decide (off + n ≤ 0xF800)
  | .U => decide (off + n ≤ 0xF800) && decide (off + n ≤ fld k.ccLmProt 15 0)

/-! ### The data stack -/

/-- First and limit word of a spill region. -/
def bndBase (w : W64) : Nat := fld w 13 0
def bndLimit (w : W64) : Nat := fld w 29 16

/-- Refill spilled entries until the hardware holds n, at most m times; none where a word lies at or beyond LIMIT (R162). -/
def Core.dsFill (k : Core) (n : Nat) : Nat → Option Core
  | 0 => some k
  | m + 1 =>
    if n ≤ k.ds.length ∨ k.dsSpill = 0 then some k
    else if bndLimit k.ccDsBnd ≤ bndBase k.ccDsBnd + (k.dsSpill - 1) then none
    else
      ({ k with ds := k.ds ++ [k.lmEntry (bndBase k.ccDsBnd + (k.dsSpill - 1))], dsSpill := k.dsSpill - 1 }).dsFill n m

/-- The core with its top n data entries in hardware, or the detail of the STACK fault (R161, R162). -/
def Core.need (k : Core) (n : Nat) : Except Nat Core :=
  if k.dsDepth < n then .error 0
  else
    match k.dsFill n (n + 1) with
    | none => .error 1
    | some k' => .ok k'

/-- Push an entry; a full hardware stack spills its bottom entry (R159). -/
def Core.push (k : Core) (x : Entry) : Except Nat Core :=
  if k.ds.length < 32 then .ok { k with ds := x :: k.ds }
  else if bndLimit k.ccDsBnd ≤ bndBase k.ccDsBnd + k.dsSpill then .error 1
  else
    .ok ({ k with ds := x :: k.ds.take 31, dsSpill := k.dsSpill + 1 }.lmPutEntry (bndBase k.ccDsBnd + k.dsSpill)
      (k.ds.getD 31 ⟨0, false⟩))

/-- Push entries, the last of the list on top. -/
def Core.pushAll (k : Core) : List Entry → Except Nat Core
  | [] => .ok k
  | x :: t =>
    match k.push x with
    | .error e => .error e
    | .ok k' => k'.pushAll t

/-- Entry i from the top, in hardware or spilled (R162). -/
def Core.dsAt (k : Core) (i : Nat) : Except Nat Entry :=
  if i < k.ds.length then .ok (k.ds.getD i ⟨0, false⟩)
  else if k.dsDepth ≤ i then .error 0
  else
    let w := bndBase k.ccDsBnd + (k.dsDepth - 1 - i)
    if bndLimit k.ccDsBnd ≤ w then .error 1 else .ok (k.lmEntry w)

/-- Pop n entries, the top one last in the list as the stack effects write them, and push what f makes of them. -/
def Core.stackOp (k : Core) (n : Nat) (f : List Entry → List Entry) : Except Nat Core :=
  match k.need n with
  | .error e => .error e
  | .ok k1 => ({ k1 with ds := k1.ds.drop n }).pushAll (f (k1.ds.take n).reverse)

/-! ### The return stack -/

/-- Refill until n entries are in hardware (R160). -/
def Core.rsFill (k : Core) (n : Nat) : Nat → Option Core
  | 0 => some k
  | m + 1 =>
    if n ≤ k.rs.length ∨ k.rsSpill = 0 then some k
    else if bndLimit k.ccRsBnd ≤ bndBase k.ccRsBnd + (k.rsSpill - 1) then none
    else
      ({ k with rs := k.rs ++ [k.lmEntry (bndBase k.ccRsBnd + (k.rsSpill - 1))], rsSpill := k.rsSpill - 1 }).rsFill n m

/-- The core with its top n return entries in hardware, or the detail of the fault: fewer exist, or a word lies beyond LIMIT.
While the machine frame area is in use the ordinary stack is frozen and has none to give (R212; log entry 15). -/
def Core.rsNeed (k : Core) (n : Nat) : Except Nat Core :=
  if k.mfaActive ∨ k.rsDepth < n then .error 2
  else
    match k.rsFill n (n + 1) with
    | none => .error 3
    | some k' => .ok k'

/-- Push a return entry (R160); STACK with detail 3 while the machine frame area is in use (R212). -/
def Core.rsPush (k : Core) (x : Entry) : Except Nat Core :=
  if k.mfaActive then .error 3
  else if k.rs.length < 16 then .ok { k with rs := x :: k.rs }
  else if bndLimit k.ccRsBnd ≤ bndBase k.ccRsBnd + k.rsSpill then .error 3
  else
    .ok ({ k with rs := x :: k.rs.take 15, rsSpill := k.rsSpill + 1 }.lmPutEntry (bndBase k.ccRsBnd + k.rsSpill)
      (k.rs.getD 15 ⟨0, false⟩))

/-- Push entries, the last of the list on top. -/
def Core.rsPushAll (k : Core) : List Entry → Except Nat Core
  | [] => .ok k
  | x :: t =>
    match k.rsPush x with
    | .error e => .error e
    | .ok k' => k'.rsPushAll t

/-- R159, R160: one background refill. -/
def Core.refillDs (k : Core) : Core :=
  if k.ds.length < 24 then (k.dsFill (k.ds.length + 1) 1).getD k else k
def Core.refillRs (k : Core) : Core :=
  if k.rs.length < 12 ∧ !k.mfaActive then (k.rsFill (k.rs.length + 1) 1).getD k else k

end Sys2Proof.Machine
end

