-- ==== Sys2Proof/Machine/Exception.lean ====
section
/-! DEFINITION. Exception entry and return (R197-R215): the causes of Table 7.1, the frame of Table 7.3, the machine frame
area, and the interrupts that R201 admits. -/

namespace Sys2Proof.Machine

/-! ### Causes (Table 7.1) -/

def cIllegal : Nat := 0x01
def cPlacement : Nat := 0x02
def cLoopDepth : Nat := 0x03
def cStack : Nat := 0x04
def cPrivilege : Nat := 0x05
def cAccess : Nat := 0x06
def cAlign : Nat := 0x07
def cFetch : Nat := 0x08
def cDataPoison : Nat := 0x09
def cEnqueue : Nat := 0x0A
def cEcall : Nat := 0x0B
def cVecOperand : Nat := 0x0C
def cVecAccess : Nat := 0x0D
def cVecAlign : Nat := 0x0E
def cVecPair : Nat := 0x0F
def cPrivReturn : Nat := 0x10
def cSoft : Nat := 0x20
def cAbort : Nat := 0x21
def cHayward : Nat := 0x22

/-- An interrupt cause. -/
def causeIsInt (c : Nat) : Bool := 0x20 ≤ c
/-- The table target of a cause; ECALL's depends on the level. -/
def causeTarget (c : Nat) (lvl : Priv) : Priv :=
  if c = cEcall then (if lvl = .U then .S else .M)
  else if c = cDataPoison ∨ c = cVecPair ∨ c = cPrivReturn ∨ c = cAbort ∨ c = cHayward then .M else .S
/-- The level at which an exception is taken: the higher of its target and the current level (R197). -/
def takenAt (c : Nat) (lvl : Priv) : Priv :=
  match causeTarget c lvl, lvl with
  | .M, _ => .M
  | _, .M => .M
  | .S, _ => .S
  | .U, l => l

/-- The Default status of a cause (Table 7.1). -/
def defaultStatus (cause detail vxDetail : Nat) : Status :=
  if cause = cAccess ∨ cause = cFetch then .outOfBounds
  else if cause = cDataPoison then .poisoned
  else if cause = cEcall ∨ cause = cSoft ∨ cause = cHayward then .aborted
  else if cause = cVecAccess then (if vxDetail = 3 ∨ vxDetail = 4 then .illegalTarget else .outOfBounds)
  else if cause = cVecPair then .checkFail
  else if cause = cPrivReturn then .denied
  else if cause = cAbort then (Status.ofCode (detail % 256)).getD .aborted
  else .illegalCommand

/-! ### The frame (Table 7.3) -/

/-- Loop level i of a core as frame entries E8 + 2i and E9 + 2i. -/
def loopEntries (l : List LoopLevel) (i : Nat) : List W64 :=
  match l[i]? with
  | some x => [w64 (x.start % 2 ^ 48 + x.lenM1 % 4096 * 2 ^ 48 + 2 ^ 63), w64 x.count]
  | none => [0, 0]

/-- E0 to E15 of an entry. -/
def Core.frame (k : Core) (c mfa detail : Nat) (tlvl : Priv) (instr : BitVec 16) (ac : Nat) : List W64 :=
  [ w64 (k.pc % 2 ^ 48 + b2n k.slot.isSome * 2 ^ 48 + b2n (causeIsInt c) * 2 ^ 49 + mfa * 2 ^ 50),
    w64 (k.slot.getD 0),
    w64 (k.priv.code + b2n k.ie * 2 ^ 8 + b2n k.dce * 2 ^ 9 + k.loops.length * 2 ^ 16
      + (if k.winOpen then k.winRem * 2 ^ 32 + 2 ^ 43 else 0)),
    w64 (c + tlvl.code * 2 ^ 8 + instr.toNat * 2 ^ 16),
    w64 detail,
    w64 (k.dsDepth + k.rsDepth * 2 ^ 16),
    w64 ac, 0 ]
  ++ loopEntries k.loops 0 ++ loopEntries k.loops 1 ++ loopEntries k.loops 2 ++ loopEntries k.loops 3

/-- The level that a PRIV field names. -/
def Priv.ofCode (n : Nat) : Option Priv := if n = 0 then some .U else if n = 1 then some .S else if n = 3 then some .M else none
/-- Level a ranks above level b. -/
def Priv.above (a b : Priv) : Bool := b.code < a.code

/-- The loop levels that E8 to E15 hold open, outermost first. -/
def frameLoops (e : List W64) : List LoopLevel :=
  (upTo 4).filterMap fun i =>
    let x := e.getD (8 + 2 * i) 0
    if bitW x 63 then some ⟨fld x 47 0, fld x 59 48, (e.getD (9 + 2 * i) 0).toNat⟩ else none

/-! ### The machine frame area (R212) -/

/-- First local word of frame n of the area. -/
def mfaWord (n : Nat) : Nat := 0x1F10 + 16 * n
/-- The sixteen hardware entries into 0xF800-0xF87F, top first. -/
def Core.mfaFreeze (k : Core) : Core :=
  (upTo 16).foldl (fun k' i => k'.lmPutEntry (0x1F00 + i) (k.rs.getD i ⟨0, false⟩)) k
/-- The hardware entries reloaded. -/
def Core.mfaThaw (k : Core) : Core :=
  { k with rs := (upTo k.rs.length).map fun i => k.lmEntry (0x1F00 + i), mfaActive := false, mfaFrames := 0 }
/-- A frame into the area, E15 at the lowest word. -/
def Core.mfaPut (k : Core) (f : List W64) : Core :=
  let k1 := f.reverse.zipIdx.foldl (fun k' q => k'.lmPutEntry (mfaWord k.mfaFrames + q.2) ⟨q.1, false⟩) k
  { k1 with mfaActive := true, mfaFrames := k.mfaFrames + 1 }
/-- The last frame of the area, E0 first. -/
def Core.mfaTop (k : Core) : List Entry :=
  ((upTo 16).map fun i => k.lmEntry (mfaWord (k.mfaFrames - 1) + i)).reverse

/-! ### Entry (R203) -/

/-- Steps 3 to 6 of entry. -/
def Core.enter (k : Core) (c detail : Nat) (lvl : Priv) (instr : BitVec 16) (vbar : Nat) : Core :=
  { k with run := .running, pc := (vbar + 0x40 * c) % 2 ^ 48, slot := none, priv := lvl, ie := false, loops := [],
           winOpen := false, winRem := 0, claims := 0, redClaims := 0,
           exLastCause := w64 (c + lvl.code * 2 ^ 8 + instr.toNat * 2 ^ 16), exLastDetail := w64 detail }

/-- Core d takes a cause: the frame goes onto the return stack, into the machine frame area where a spill word at or beyond
LIMIT would be needed, and the core halts where that area is full (R203, R212, R213). -/
def takeException (s : State) (d c detail : Nat) (instr : BitVec 16) : State :=
  let k := s.core d
  let ac := s.acCount + Config.acSkew (d / 8)
  let lvl := takenAt c k.priv
  let ent := s.ofKernel d { ev eMfaEntry with parts := pbitO (s.ownerOf (d / 8)), ukind := uCore, unit := s.phOf (d / 8) * 8 + d % 8
                                              lcluster := d / 8, addr := k.pc, detail := c }
  if k.mfaActive = true ∧ k.mfaFrames = 15 then
    let st := (k.endStatus.getD .ok).worse .aborted
    let s1 := s.setCore d { k with run := .halted, endStatus := some st }
    (logUnit s1 (s.dieOf (d / 8)) { ent with code := eCoreHalted, status := st.code } 0).flagCluster (s.phOf (d / 8)) 0
  else if k.mfaActive then
    s.setCore d ((k.mfaPut (k.frame c 1 detail .M instr ac)).enter c detail .M instr (s.vbarM d k))
  else
    match k.rsPushAll ((k.frame c 0 detail lvl instr ac).reverse.map fun w => ⟨w, false⟩) with
    | .ok k1 => s.setCore d (k1.enter c detail lvl instr (if lvl = .M then s.vbarM d k else k.exVbarS.toNat))
    | .error _ =>
      let s1 := s.setCore d ((k.mfaFreeze.mfaPut (k.frame c 1 detail .M instr ac)).enter c detail .M instr (s.vbarM d k))
      logUnit s1 (s.dieOf (d / 8)) ent 0

/-! ### Interrupts (R200, R201) -/

/-- The interrupt that the core takes at this boundary: cause and detail. -/
def Core.admitted (k : Core) : Option (Nat × Nat) :=
  match k.abortPend, k.hwPend with
  | some st, _ => some (cAbort, st.code)
  | none, some n => some (cHayward, n)
  | none, none =>
    if k.softPend && (k.priv == .U || (k.priv == .S && k.ie && !k.winOpen)) then some (cSoft, k.post.toNat) else none

/-- The core with a taken interrupt no longer pending. -/
def Core.ack (k : Core) (c : Nat) : Core :=
  if c = cAbort then { k with abortPend := none }
  else if c = cHayward then { k with hwPend := none } else { k with softPend := false, post := 0 }

/-- Take an interrupt. HAYWARD code 2 halts the core at M once entered (R224). -/
def takeInterrupt (s : State) (d c detail : Nat) : State :=
  let s1 := takeException (s.setCore d ((s.core d).ack c)) d c detail 0
  if c = cHayward ∧ detail = 2 ∧ (s1.core d).run = .running then s1.setCore d { s1.core d with run := .debugHalt } else s1

/-- Apply R200 at a boundary: the admitted interrupt is taken, if there is one. -/
def State.boundary (s : State) (d : Nat) : State :=
  match (s.core d).admitted with
  | some x => takeInterrupt s d x.1 x.2
  | none => s

end Sys2Proof.Machine
end

