-- ==== Sys2Proof/Machine/Float.lean ====
section
/-! DEFINITION. The sixteen element formats (R32-R36), their decoding (R41), rounding and conversion (R44-R50, R473), stochastic
rounding (R52, R53), and arithmetic and comparison on their values (R56-R63, R128). -/

namespace Sys2Proof.Machine

/-- The conditions of R61 in the bit order of `VX.STATUS`: IV, OF, UF, NX, DZ. -/
abbrev Fl := BitVec 5
def fIV : Fl := 1
def fOF : Fl := 2
def fUF : Fl := 4
def fNX : Fl := 8
def fDZ : Fl := 16

/-! ### Formats by code (Tables 2.1, 2.2) -/

/-- Exponent bits. -/
def fmtE : Nat → Nat
  | 0 => 11 | 1 => 8 | 2 => 5 | 3 => 8 | 4 => 4 | 5 => 5 | 6 => 2 | 7 => 3 | 8 => 2 | _ => 0
/-- Trailing significand bits. -/
def fmtM : Nat → Nat
  | 0 => 52 | 1 => 23 | 2 => 10 | 3 => 7 | 4 => 3 | 5 => 2 | 6 => 3 | 7 => 2 | 8 => 1 | _ => 0
/-- Bias. -/
def fmtBias : Nat → Nat
  | 0 => 1023 | 1 => 127 | 2 => 15 | 3 => 127 | 4 => 7 | 5 => 15 | 6 => 1 | 7 => 3 | 8 => 1 | _ => 0
/-- Width in memory, in bits. -/
def fmtBits : Nat → Nat
  | 0 => 64 | 1 => 32 | 2 => 16 | 3 => 16 | 4 => 8 | 5 => 8 | 6 => 6 | 7 => 6 | 8 => 4 | 9 => 8 | 10 => 8 | 11 => 4 | 12 => 4
  | 13 => 32 | 14 => 64 | _ => 8
/-- A float format. -/
def isFloat (c : Nat) : Bool := c ≤ 8
/-- An integer format. -/
def isIntF (c : Nat) : Bool := 9 ≤ c && c ≤ 14
/-- A format that vector arithmetic admits (Table 2.1). -/
def isArith (c : Nat) : Bool := c ≤ 3 || c == 9 || c == 10 || c == 13 || c == 14
/-- A signed integer format. -/
def isSigned (c : Nat) : Bool := c == 9 || c == 11 || c == 13 || c == 14
/-- A format with infinities (Table 2.2). -/
def hasInf (c : Nat) : Bool := c ≤ 3 || c == 5
/-- A 16-bit or narrower float format, which FTZ covers (R63). -/
def isNarrow (c : Nat) : Bool := 2 ≤ c && c ≤ 8
/-- The pattern of the largest finite value. -/
def maxFin (c : Nat) : Nat :=
  if hasInf c then (2 ^ fmtE c - 1) * 2 ^ fmtM c - 1 else if c = 4 then 0x7E else 2 ^ (fmtE c + fmtM c) - 1
/-- The exponent of the smallest normal. -/
def fmtMin (c : Nat) : Int := 1 - fmtBias c
/-- The pattern bit of the sign. -/
def signPat (c : Nat) (neg : Bool) : Nat := if neg then 2 ^ (fmtE c + fmtM c) else 0

/-! ### Values -/

/-- What a pattern stands for. A NaN keeps its sign, whether it is quiet, and its payload below the quiet bit, left-aligned in
51 bits. -/
inductive Val where
  | nan (neg quiet : Bool) (pay : Nat)
  | inf (neg : Bool)
  | fin (neg : Bool) (m : Nat) (e : Int)
  deriving DecidableEq, Repr

/-- The integer of a pattern (R35). -/
def intVal (c bits : Nat) : Int := if isSigned c then sx (fmtBits c) bits else ((bits % 2 ^ fmtBits c : Nat) : Int)

/-- The value of a pattern (R33, R35, R36). -/
def decode (c bits : Nat) : Val :=
  if c = 15 then (if bits % 256 = 255 then .nan false true 0 else .fin false 1 (((bits % 256 : Nat) : Int) - 127))
  else if 9 ≤ c then .fin (intVal c bits < 0) (intVal c bits).natAbs 0
  else
    let neg := bits / 2 ^ (fmtE c + fmtM c) % 2 == 1
    let x := bits / 2 ^ fmtM c % 2 ^ fmtE c
    let f := bits % 2 ^ fmtM c
    if hasInf c ∧ x = 2 ^ fmtE c - 1 then
      if f = 0 then .inf neg else .nan neg (f / 2 ^ (fmtM c - 1) == 1) (f % 2 ^ (fmtM c - 1) * 2 ^ (52 - fmtM c))
    else if c = 4 ∧ x = 15 ∧ f = 7 then .nan neg true 0
    else if x = 0 then .fin neg f (fmtMin c - fmtM c)
    else .fin neg (2 ^ fmtM c + f) ((x : Int) + fmtMin c - 1 - fmtM c)

/-- With FTZ in the main mode, a subnormal of a narrow format reads as a zero of its sign (R63). -/
def decodeZ (ftz : Bool) (c bits : Nat) : Val :=
  if ftz ∧ isNarrow c ∧ bits / 2 ^ fmtM c % 2 ^ fmtE c = 0 then .fin (bits / 2 ^ (fmtE c + fmtM c) % 2 == 1) 0 0
  else decode c bits

/-- Any NaN. -/
def Val.isNan : Val → Bool
  | .nan _ _ _ => true
  | _ => false
/-- A signalling NaN. -/
def Val.isSig : Val → Bool
  | .nan _ q _ => !q
  | _ => false
/-- Infinity of either sign. -/
def Val.isInf : Val → Bool
  | .inf _ => true
  | _ => false
/-- Zero of either sign. -/
def Val.isZero : Val → Bool
  | .fin _ m _ => m == 0
  | _ => false
/-- The sign bit. -/
def Val.neg : Val → Bool
  | .nan n _ _ => n
  | .inf n => n
  | .fin n _ _ => n
/-- The other sign; a NaN as it is. -/
def Val.negate : Val → Val
  | .nan n q p => .nan n q p
  | .inf n => .inf !n
  | .fin n m e => .fin (!n) m e

/-- The pattern of a NaN, quieted (R49, Table 2.8). -/
def encNan (c : Nat) (neg : Bool) (pay : Nat) : Nat :=
  if c = 4 then 0x7F else if c = 15 then 0xFF else if !hasInf c then 0
  else signPat c neg + (2 ^ fmtE c - 1) * 2 ^ fmtM c + 2 ^ (fmtM c - 1) + pay / 2 ^ (52 - fmtM c)
/-- The default NaN (Table 2.8). -/
def defNan (c : Nat) : Nat := encNan c false 0
/-- The pattern of an infinity. -/
def encInf (c : Nat) (neg : Bool) : Nat := signPat c neg + (2 ^ fmtE c - 1) * 2 ^ fmtM c

/-! ### Rounding -/

/-- The number of bits of n. -/
def blen (n : Nat) : Nat := if n = 0 then 0 else Nat.log2 n + 1

/-- m · 2^e as a multiple of 2^q: to nearest, ties to even, or with the generator's output under R53; whether it changed. -/
def roundQ (out : Option (BitVec 32)) (m : Nat) (e q : Int) : Nat × Bool :=
  if q ≤ e then (m * 2 ^ (e - q).toNat, false)
  else
    let k := (q - e).toNat
    let n := m / 2 ^ k
    let r := m % 2 ^ k
    if r = 0 then (n, false)
    else
      match out with
      | none => (if 2 ^ k < 2 * r ∨ (2 * r = 2 ^ k ∧ n % 2 = 1) then n + 1 else n, true)
      | some o => (if 2 ^ 32 ≤ r * 2 ^ 32 / 2 ^ k + o.toNat then n + 1 else n, true)

/-- How a conversion rounds (Table 2.4): the generator's output under stochastic rounding, SAT, and FTZ as it applies. -/
structure Rnd where
  out : Option (BitVec 32)
  sat : Bool
  ftz : Bool
  deriving DecidableEq, Repr

/-- Arithmetic rounding (R45). -/
def Rnd.arith : Rnd := ⟨none, false, false⟩

/-- What an overflow gives (Table 2.5). -/
def overflowPat (c : Nat) (sat neg : Bool) : Nat :=
  if sat ∨ (!hasInf c ∧ c ≠ 4) then signPat c neg + maxFin c else if c = 4 then 0x7F else encInf c neg

/-- The last place of m · 2^e at a format's precision, its exponent unbounded. -/
def fmtUlp (c m : Nat) (e : Int) : Int := e + blen m - 1 - fmtM c

/-- Tiny after rounding, the exponent unbounded (R61; log entry 69). -/
def tinyRounded (out : Option (BitVec 32)) (c m : Nat) (e : Int) : Bool :=
  let q := fmtUlp c m e
  if fmtMin c - fmtM c ≤ q then false
  else if q = fmtMin c - fmtM c - 1 then (roundQ out m e q).1 != 2 ^ (fmtM c + 1) else true

/-- ± m · 2^e rounded to a float format (R46, R47, R63), with its flags (R61). -/
def roundF (c : Nat) (r : Rnd) (neg : Bool) (m : Nat) (e : Int) : Nat × Fl :=
  if m = 0 then (signPat c neg, 0)
  else
    let q := max (fmtUlp c m e) (fmtMin c - fmtM c)
    let n := roundQ r.out m e q
    let pat := (q + fmtM c + fmtBias c - 1).toNat * 2 ^ fmtM c + n.1
    if maxFin c < pat then (overflowPat c r.sat neg, fOF ||| fNX)
    else if r.ftz ∧ isNarrow c ∧ pat < 2 ^ fmtM c then (signPat c neg, fUF ||| fNX)
    else
      (signPat c neg + pat, if n.2 then (if tinyRounded r.out c m e then fUF ||| fNX else fNX) else 0)

/-- A positive value rounded to a power of two (R473). -/
def roundE8 (r : Rnd) (m : Nat) (e : Int) : Nat × Fl :=
  let top := e + blen m - 1
  if top < -127 then (0, fUF ||| fNX)
  else
    let n := roundQ r.out m e top
    let x := match r.out with
      | none => if decide (2 ^ (blen m) ≤ m * 2 - 2 ^ (blen m - 1)) then top + 1 else top
      | some _ => if n.1 = 2 then top + 1 else top
    if 127 < x then ((if r.sat then 0xFE else 0xFF), fOF ||| fNX)
    else ((x + 127).toNat, if n.2 then fNX else 0)

/-- The range of an integer format (R35). -/
def intMin (c : Nat) : Int := if isSigned c then -(2 ^ (fmtBits c - 1) : Nat) else 0
def intMax (c : Nat) : Int := if isSigned c then (2 ^ (fmtBits c - 1) : Nat) - 1 else (2 ^ fmtBits c : Nat) - 1
/-- The pattern of an integer, wrapped to its width. -/
def encInt (c : Nat) (i : Int) : Nat := (i % (2 ^ fmtBits c : Nat)).toNat
/-- An integer saturated to its range. -/
def satInt (c : Nat) (i : Int) : Int := max (intMin c) (min (intMax c) i)

/-- A value converted to an integer format (R48). -/
def toInt (c : Nat) (out : Option (BitVec 32)) : Val → Nat × Fl
  | .nan _ _ _ => (0, fIV)
  | .inf n => (encInt c (if n then intMin c else intMax c), fIV)
  | .fin n m e =>
    let x := roundQ out m e 0
    let i : Int := if n then -(x.1 : Int) else x.1
    if i < intMin c ∨ intMax c < i then (encInt c (satInt c i), fIV) else (encInt c i, if x.2 then fNX else 0)

/-- A value converted to a format (R46 to R49, R473). -/
def convert (c : Nat) (r : Rnd) (ieee : Bool) (v : Val) : Nat × Fl :=
  if isIntF c then toInt c r.out v
  else
    match v with
    | .nan n q p =>
      if c = 15 ∨ c = 4 then (encNan c n p, if ieee && !q then fIV else 0)
      else if hasInf c then (if ieee then encNan c n p else defNan c, if ieee && !q then fIV else 0)
      else (0, fIV)
    | .inf n =>
      if hasInf c then (encInf c n, 0)
      else if c = 15 then (0xFF, fIV)
      else if c = 4 then (if r.sat then signPat c n + maxFin c else 0x7F, fIV)
      else (signPat c n + maxFin c, fIV)
    | .fin n m e =>
      if c = 15 then (if n || m == 0 then (0xFF, fIV) else roundE8 r m e)
      else roundF c r n m e

/-! ### Stochastic rounding and conversion controls -/

/-- One generator step (R52). -/
def srStep (s : BitVec 32) : BitVec 32 :=
  let a := s ^^^ (s <<< 13)
  let b := a ^^^ (a >>> 17)
  b ^^^ (b <<< 5)

/-- The conversion control (Table 2.4): RND is stochastic. -/
def ctlStoch (ctl : Nat) : Bool := ctl % 4 == 1
def ctlSat (ctl : Nat) : Bool := ctl / 4 % 2 == 1
/-- FTZ, which IEEE mode ignores. -/
def ctlFtz (ctl : Nat) (ieee : Bool) : Bool := ctl / 8 % 2 == 1 && !ieee

/-- One element's conversion from format c0 to c under a control: pattern, flags, the generator after it (R54). -/
def convEl (ctl : Nat) (ieee : Bool) (c0 c bits : Nat) (sr : BitVec 32) : Nat × Fl × BitVec 32 :=
  let sr1 := if ctlStoch ctl then srStep sr else sr
  let r : Rnd := ⟨if ctlStoch ctl then some sr1 else none, ctlSat ctl, ctlFtz ctl ieee⟩
  let x := convert c r ieee (decodeZ (ctlFtz ctl ieee) c0 bits)
  (x.1, x.2, sr1)

/-! ### Arithmetic in one format (R45, R56 to R61) -/

/-- The first NaN operand, quieted, in IEEE mode; the default NaN in the main mode (Table 2.9). -/
def nanOf (ieee : Bool) (c : Nat) (ops : List Val) : Nat × Fl :=
  if ieee then
    (match ops.find? Val.isNan with
      | some (.nan n _ p) => encNan c n p
      | _ => defNan c, if ops.any Val.isSig then fIV else 0)
  else (defNan c, 0)

/-- The exact sum of finite values; an exact zero of opposite signs is +0 (R60). -/
def addFin (n1 : Bool) (m1 : Nat) (e1 : Int) (n2 : Bool) (m2 : Nat) (e2 : Int) : Bool × Nat × Int :=
  let e := min e1 e2
  let a : Int := (m1 * 2 ^ (e1 - e).toNat : Nat)
  let b : Int := (m2 * 2 ^ (e2 - e).toNat : Nat)
  let s := (if n1 then -a else a) + (if n2 then -b else b)
  (if s = 0 then n1 && n2 else decide (s < 0), s.natAbs, e)

/-- a + b. -/
def addV (ieee : Bool) (c : Nat) (a b : Val) : Nat × Fl :=
  match a, b with
  | .fin n1 m1 e1, .fin n2 m2 e2 => let s := addFin n1 m1 e1 n2 m2 e2; roundF c .arith s.1 s.2.1 s.2.2
  | .inf n1, .inf n2 => if n1 = n2 then (encInf c n1, 0) else (defNan c, fIV)
  | .inf n1, .fin _ _ _ => (encInf c n1, 0)
  | .fin _ _ _, .inf n2 => (encInf c n2, 0)
  | _, _ => nanOf ieee c [a, b]

/-- a − b; a NaN operand keeps its sign. -/
def subV (ieee : Bool) (c : Nat) (a b : Val) : Nat × Fl := addV ieee c a b.negate

/-- a × b. -/
def mulV (ieee : Bool) (c : Nat) (a b : Val) : Nat × Fl :=
  if a.isNan || b.isNan then nanOf ieee c [a, b]
  else if a.isInf || b.isInf then
    if a.isZero || b.isZero then (defNan c, fIV) else (encInf c (a.neg != b.neg), 0)
  else
    match a, b with
    | .fin n1 m1 e1, .fin n2 m2 e2 => roundF c .arith (n1 != n2) (m1 * m2) (e1 + e2)
    | _, _ => (0, 0)

/-- a × b + d, rounded once (R126); 0 × infinity is invalid even beside a NaN addend (R61). -/
def fmaV (ieee : Bool) (c : Nat) (a b d : Val) : Nat × Fl :=
  let bad := (a.isInf && b.isZero) || (a.isZero && b.isInf)
  if a.isNan || b.isNan || d.isNan then
    let x := nanOf ieee c [a, b, d]
    (x.1, if bad then x.2 ||| fIV else x.2)
  else if bad then (defNan c, fIV)
  else if a.isInf || b.isInf then
    if d.isInf && d.neg != (a.neg != b.neg) then (defNan c, fIV) else (encInf c (a.neg != b.neg), 0)
  else
    match a, b, d with
    | .fin n1 m1 e1, .fin n2 m2 e2, .fin n3 m3 e3 =>
      let s := addFin (n1 != n2) (m1 * m2) (e1 + e2) n3 m3 e3
      roundF c .arith s.1 s.2.1 s.2.2
    | _, _, .inf n => (encInf c n, 0)
    | _, _, _ => (0, 0)

/-- a ÷ b, correctly rounded (R128). -/
def divV (ieee : Bool) (c : Nat) (a b : Val) : Nat × Fl :=
  let sg := a.neg != b.neg
  if a.isNan || b.isNan then nanOf ieee c [a, b]
  else
    match a, b with
    | .inf _, .inf _ => (defNan c, fIV)
    | .inf _, _ => (encInf c sg, 0)
    | _, .inf _ => (signPat c sg, 0)
    | .fin _ m1 e1, .fin _ m2 e2 =>
      if m2 = 0 then (if m1 = 0 then (defNan c, fIV) else (encInf c sg, fDZ))
      else
        let k := fmtM c + 4 + blen m2
        let q := m1 * 2 ^ k / m2
        roundF c .arith sg (2 * q + (if m1 * 2 ^ k % m2 = 0 then 0 else 1)) (e1 - e2 - k - 1)
    | _, _ => (0, 0)

/-- Square root by digits: the largest r with r · r ≤ n, from k bits. -/
def isqrtN : Nat → Nat → Nat → Nat
  | 0, _, r => r
  | k + 1, n, r => isqrtN k n (if (r + 2 ^ k) * (r + 2 ^ k) ≤ n then r + 2 ^ k else r)
/-- ⌊√n⌋. -/
def isqrt (n : Nat) : Nat := isqrtN (blen n / 2 + 1) n 0

/-- √a, correctly rounded; of a negative value NaN, of −0 −0 (IEEE 754-2019). -/
def sqrtV (ieee : Bool) (c : Nat) (a : Val) : Nat × Fl :=
  match a with
  | .nan _ _ _ => nanOf ieee c [a]
  | .inf n => if n then (defNan c, fIV) else (encInf c false, 0)
  | .fin n m e =>
    if m = 0 then (signPat c n, 0)
    else if n then (defNan c, fIV)
    else
      let k := 2 * (fmtM c + 4) + (e % 2).toNat
      let s := isqrt (m * 2 ^ k)
      roundF c .arith false (2 * s + (if s * s = m * 2 ^ k then 0 else 1)) ((e - k) / 2 - 1)

/-- Comparison of values that are no NaN: less than, equal (R59). -/
def finLt (n1 : Bool) (m1 : Nat) (e1 : Int) (n2 : Bool) (m2 : Nat) (e2 : Int) : Bool :=
  let s := addFin n1 m1 e1 (!n2) m2 e2
  s.1 && s.2.1 != 0
/-- a < b. -/
def Val.lt : Val → Val → Bool
  | .nan _ _ _, _ => false
  | _, .nan _ _ _ => false
  | .inf n, .inf n' => n && !n'
  | .inf n, .fin _ _ _ => n
  | .fin _ _ _, .inf n => !n
  | .fin n1 m1 e1, .fin n2 m2 e2 => finLt n1 m1 e1 n2 m2 e2
/-- a = b. -/
def Val.eqv (a b : Val) : Bool := !a.isNan && !b.isNan && !a.lt b && !b.lt a
/-- a ≤ b. -/
def Val.le (a b : Val) : Bool := a.lt b || a.eqv b
/-- The flag of a comparison: invalid for a signalling NaN in IEEE mode (Table 2.9). -/
def cmpFl (ieee : Bool) (a b : Val) : Fl := if ieee && (a.isSig || b.isSig) then fIV else 0

/-- a is below b where −0 is below +0 (Table 2.10). -/
def Val.below (a b : Val) : Bool := a.lt b || (a.isZero && b.isZero && a.neg && !b.neg)

/-- Maximum or minimum of two patterns (R58). -/
def maxMin (mx ieee : Bool) (c x y : Nat) : Nat × Fl :=
  let a := decode c x
  let b := decode c y
  if a.isNan || b.isNan then
    if ieee then
      let f := if a.isSig || b.isSig then fIV else 0
      if a.isNan && b.isNan then ((nanOf true c [a, b]).1, f) else (if a.isNan then y else x, f)
    else (defNan c, 0)
  else (if a.below b then (if mx then y else x) else (if mx then x else y), 0)

/-! ### The elementary functions of R128 -/

/-- Terms of exp(y) = Σ yⁿ/n! at scale 2^P, y below 2^P. -/
def expTerms (P y : Nat) : Nat → Nat → Nat → Nat → Nat
  | 0, _, _, s => s
  | k + 1, n, t, s => let t1 := t * y / 2 ^ P / n; expTerms P y k (n + 1) t1 (s + t1)
/-- A bound squared k times at scale 2^P, from below or from above. -/
def sqBelow (P : Nat) : Nat → Nat → Nat
  | 0, x => x
  | k + 1, x => sqBelow P k (x * x / 2 ^ P)
def sqAbove (P : Nat) : Nat → Nat → Nat
  | 0, x => x
  | k + 1, x => sqAbove P k (x * x / 2 ^ P + 1)
/-- m · 2^e at scale 2^P, rounded down. -/
def scaled (P m : Nat) (e : Int) : Nat := if 0 ≤ e + P then m * 2 ^ (e + P).toNat else m / 2 ^ (-(e + P)).toNat
/-- Bounds on exp(m · 2^e) at scale 2^P, from below and from above. -/
def expBounds (P m : Nat) (e : Int) : Nat × Nat :=
  let k := (e + blen m).toNat
  let s := expTerms P (scaled P m (e - k)) (P / 4 + 20) 1 (2 ^ P) (2 ^ P)
  (sqBelow P k s, sqAbove P k (s + P + 64))
/-- Terms of artanh(z) = Σ z^(2n+1)/(2n+1) at scale 2^P. -/
def artTerms (P z2 : Nat) : Nat → Nat → Nat → Nat → Nat
  | 0, _, _, s => s
  | k + 1, n, t, s => let t1 := t * z2 / 2 ^ P; artTerms P z2 k (n + 2) t1 (s + t1 / (n + 2))
/-- 2 · artanh(a / b) at scale 2^P, from below; it falls short by less than 4 · P + 64. -/
def ln2art (P a b : Nat) : Nat :=
  let z := a * 2 ^ P / b
  2 * artTerms P (z * z / 2 ^ P) P 1 z z
/-- The scale at which an argument's function is formed: beyond every distance of a function's value from a format value. -/
def fnScale (m : Nat) (e : Int) : Nat := 1400 + 3 * (-(e + blen m)).toNat

/-- The functions, by number. -/
def nRsqrt : Nat := 0
def nExp : Nat := 1
def nLog : Nat := 2
def nTanh : Nat := 3
def nSig : Nat := 4

/-- A lower bound, at scale 2^P, on the magnitude of a function of ± m · 2^e that no format value lies between it and. -/
def fnBelow (fn P : Nat) (neg : Bool) (m : Nat) (e : Int) : Nat :=
  let big := decide (11 < e + blen m)
  if fn = nExp then
    if big then (if neg then 0 else 2 ^ (P + 2000))
    else if neg then 2 ^ (2 * P) / (expBounds P m e).2 else (expBounds P m e).1
  else if fn = nTanh then
    if big then 2 ^ P - 1
    else let x := (expBounds P m (e + 1)).1; (x - 2 ^ P) * 2 ^ P / (x + 2 ^ P)
  else if fn = nSig then
    if big then (if neg then 0 else 2 ^ P - 1)
    else if neg then 2 ^ (2 * P) / ((expBounds P m e).2 + 2 ^ P)
    else let x := (expBounds P m e).1; x * 2 ^ P / (x + 2 ^ P)
  else if fn = nLog then
    let k := e + blen m - 1
    let one := 2 ^ (blen m - 1)
    let l := ln2art P (m - one) (m + one)
    let l2 := ln2art P 1 3
    if 0 ≤ k then l + k.toNat * l2 else (-k).toNat * l2 - (l + 4 * P + 64)
  else isqrt (if 0 ≤ e then 2 ^ (2 * P) / (m * 2 ^ e.toNat) else 2 ^ (2 * P + (-e).toNat) / m)

/-- A function whose exact value lies between two format values: one of them, which one a free value (log entry 3). -/
def enclosed (fn c bits : Nat) (neg : Bool) (P lo : Nat) : Nat × Fl :=
  let q := max (fmtUlp c lo (-(P : Int))) (fmtMin c - fmtM c)
  let p := if lo = 0 then 0
    else min (maxFin c) ((q + fmtM c + fmtBias c - 1).toNat * 2 ^ fmtM c + lo / 2 ^ (q + P).toNat)
  let r := if Config.roundsUp fn c bits then p + 1 else p
  (signPat c neg + r, (if maxFin c < r then fOF ||| fNX else if r < 2 ^ fmtM c then fUF ||| fNX else fNX))

/-- VRSQRT, VEXP, VLOG, VTANH and VSIG of one element (R128). -/
def elemFn (fn : Nat) (ieee : Bool) (c bits : Nat) : Nat × Fl :=
  match decode c bits with
  | .nan n q p => nanOf ieee c [.nan n q p]
  | .inf n =>
    if fn = nExp then (if n then 0 else encInf c false, 0)
    else if fn = nTanh then (signPat c n + fmtBias c * 2 ^ fmtM c, 0)
    else if fn = nSig then (if n then 0 else fmtBias c * 2 ^ fmtM c, 0)
    else if n then (defNan c, fIV)
    else if fn = nLog then (encInf c false, 0) else (0, 0)
  | .fin n m e =>
    if m = 0 then
      if fn = nExp then (fmtBias c * 2 ^ fmtM c, 0)
      else if fn = nTanh then (bits, 0)
      else if fn = nSig then ((fmtBias c - 1) * 2 ^ fmtM c, 0)
      else if fn = nLog then (encInf c true, fDZ) else (encInf c n, fDZ)
    else if n ∧ (fn = nLog ∨ fn = nRsqrt) then (defNan c, fIV)
    else
      let P := fnScale m e
      let lo := fnBelow fn P n m e
      if fn = nLog ∧ bits = fmtBias c * 2 ^ fmtM c then (0, 0)
      else if fn = nRsqrt ∧ (if 0 ≤ e then lo * lo * m * 2 ^ e.toNat = 2 ^ (2 * P) else lo * lo * m = 2 ^ (2 * P + (-e).toNat)) then
        roundF c .arith false lo (-(P : Int))
      else
        enclosed fn c bits (if fn = nTanh then n else if fn = nLog then decide (e + blen m - 1 < 0) else false) P lo

end Sys2Proof.Machine
end

