-- ==== Sys2Proof/Machine/Issue.lean ====
section
/-! DEFINITION. Issue of one control-core instruction: fetch through the instruction cache (R185), the boundary rules (R200),
placement (R174, R180), delay slots (R173) and hardware loop back edges (R177). -/

namespace Sys2Proof.Machine

/-! ### Caches (R185, R186) -/

/-- The set of a line address: 128 sets of 64-byte lines. -/
def cacheSet (a : Nat) : Nat := a / 64 % 128
/-- The line that holds an address, if present. -/
def cacheFind (c : SMap CacheSet) (a : Nat) : Option CacheLine := (mget [] c (cacheSet a)).find? fun l => l.addr == a / 64 * 64
/-- The cache without that line. -/
def cacheDrop (c : SMap CacheSet) (a : Nat) : SMap CacheSet :=
  mput [] c (cacheSet a) ((mget [] c (cacheSet a)).filter fun l => l.addr != a / 64 * 64)
/-- The cache with a line most recently used; a fifth line of a set displaces the least recently used (R186; log entry 18). -/
def cachePut (c : SMap CacheSet) (l : CacheLine) : SMap CacheSet :=
  mput [] c (cacheSet l.addr) ((l :: (mget [] c (cacheSet l.addr)).filter fun x => x.addr != l.addr).take 4)

/-- A line as memory delivers it. -/
def lineOf (a : Nat) (l : List PB) : CacheLine :=
  { addr := a / 64 * 64, data := BitVec.ofNat 512 (pbNat l),
    psn := BitVec.ofNat 8 ((upTo 8).foldl (fun n i => n + b2n (((l.drop (8 * i)).take 8).any (·.2)) * 2 ^ i) 0), bad := false }
/-- Read the line of an address for core d. -/
def readLine (s : State) (d a : Nat) : State × CacheLine :=
  let r := readMem s (s.dieOf (d / 8)) (a / 64 * 64) 64
  (r.1, lineOf a r.2)
/-- n bytes of a line at an address, with poison. -/
def CacheLine.bytes (l : CacheLine) (a n : Nat) : List PB :=
  (upTo n).map fun i => (l.data.extractLsb' (8 * (a % 64 + i)) 8, l.psn.getLsbD ((a % 64 + i) / 8))

/-- R244: a parity error in a line of core d; the line's third within a powered hour is contained and flags the cluster. -/
def parityError (s : State) (d : Nat) (ic : Bool) (a : Nat) : State :=
  let key := (d * 2 + b2n ic) * 2 ^ 48 + a / 64
  let s1 := { s with hw := { s.hw with events := (20, key, 0, s.psec) :: s.hw.events } }
  let e := s.ofKernel d { ev eCacheParity with parts := pbitO (s.ownerOf (d / 8)), ukind := uCore
                                               unit := s.phOf (d / 8) * 8 + d % 8, lcluster := d / 8, addr := a / 64 * 64 }
  if s1.eventsIn 20 key 0 3600 = 3 then
    (logUnit s1 (s.dieOf (d / 8)) { e with sev := 1 } 0).flagCluster (s.phOf (d / 8)) 0
  else logUnit s1 (s.dieOf (d / 8)) e 0

/-! ### Fetch -/

/-- n bytes at a lie in the MONITOR copy, which level M alone reaches (R475). -/
def State.inMonitor (s : State) (a n : Nat) : Bool :=
  (s.boot.monLen != 0 && decide (s.boot.monBase ≤ a) && decide (a + n ≤ s.boot.monBase + s.boot.monLen))
    || (s.boot.newMonLen != 0 && decide (s.boot.newMonBase ≤ a) && decide (a + n ≤ s.boot.newMonBase + s.boot.newMonLen))

/-- R185: the instruction address can be fetched at the core's level. -/
def State.canFetch (s : State) (d a : Nat) : Bool :=
  ((s.core d).priv == .M && s.inMonitor a 2) || (s.chk (s.corePart d) [pX] a 2).isOk

/-- Install a line in the instruction cache of core d. -/
def State.icFill (s : State) (d a : Nat) : State × CacheLine :=
  let r := readLine s d a
  (r.1.setCore d { r.1.core d with icache := cachePut (r.1.core d).icache r.2 }, r.2)

/-- Fetch the instruction at the pc: the line from the cache, or from memory on a miss or a parity error; whether the
instruction's word is poisoned. -/
def fetch (s : State) (d : Nat) : State × Bool :=
  let pc := (s.core d).pc
  match cacheFind (s.core d).icache pc with
  | some l =>
    if l.bad then
      let s1 := s.setCore d { s.core d with icache := cacheDrop (s.core d).icache pc }
      let r := (parityError s1 d true pc).icFill d pc
      (r.1, r.2.psn.getLsbD (pc % 64 / 8))
    else (s, l.psn.getLsbD (pc % 64 / 8))
  | none => let r := s.icFill d pc; (r.1, r.2.psn.getLsbD (pc % 64 / 8))

/-! ### Retirement -/

/-- R177: the back edges at an end address, innermost level first: the levels left, and where control goes if a body repeats. -/
def backEdge (pc : Nat) : List LoopLevel → List LoopLevel × Option Nat
  | [] => ([], none)
  | l :: t =>
    if l.start + 2 * l.lenM1 = pc then
      if 1 < l.count then ({ l with count := l.count - 1 } :: t, some l.start) else backEdge pc t
    else (l :: t, none)

/-- The instruction at the pc retires: to the target after a delay slot, by R177 at a loop end, else to the next. -/
def Core.retire (k : Core) : Core :=
  match k.slot with
  | some t => { k with pc := t, slot := none }
  | none =>
    let r := backEdge k.pc k.loops.reverse
    { k with loops := r.1.reverse, pc := r.2.getD (k.pc + 2) }

/-- A transfer executes: its slot is next, and control then passes to the target (R173). -/
def Core.transfer (k : Core) (target : Nat) : Core := { k with slot := some target, pc := k.pc + 2 }

/-! ### Placement -/

/-- How R174 and R180 class an instruction: plain; barred from delay slots (LEXIT, MODEW, KEND); barred from slots and loop
ends (the transfers, RTE and LOOP). -/
inductive Place where
  | plain | noSlot | noEnd
  deriving DecidableEq, Repr

/-- The pc is the end address of the innermost open level. -/
def Core.atEnd (k : Core) : Bool :=
  match k.loops.getLast? with
  | none => false
  | some l => l.start + 2 * l.lenM1 == k.pc

/-- The detail of the placement fault, if the instruction meets one. -/
def Core.misplaced (k : Core) (pl : Place) : Option Nat :=
  if k.slot.isSome && pl != .plain then some 0
  else if k.atEnd && (k.slot.isSome || pl == .noEnd) then some 1 else none

/-! ### Issue -/

/-- What an instruction does: it faults and commits nothing (s keeps only what the fault records), it retires, it transfers
control, it completes and traps, or it ends or holds issue in a state of its own. -/
inductive Body where
  | fault (s : State) (cause detail : Nat)
  | retire (s : State)
  | transfer (s : State) (target : Nat)
  | trap (s : State) (cause detail : Nat)
  | stay (s : State)
  deriving DecidableEq, Repr

/-- Retire the instruction of core d. -/
def State.retire (s : State) (d : Nat) : State := s.setCore d (s.core d).retire

/-- Carry out what an instruction of core d does. -/
def Body.run (b : Body) (d : Nat) (instr : BitVec 16) : State :=
  match b with
  | .fault s c x => takeException s d c x instr
  | .retire s => s.retire d
  | .transfer s t => s.setCore d ((s.core d).transfer t)
  | .trap s c x => takeException (s.retire d) d c x instr
  | .stay s => s

/-- The core can issue now: it runs, and no divider change holds issue (R408). -/
def State.issuing (s : State) (d : Nat) : Bool := (s.core d).run == .running && !s.power.holdIssue

/-- Core d issues the instruction at its pc. A core that is not issuing is left alone; an interrupt that R200 admits at
this boundary is taken first; then fetch, placement and the instruction itself. -/
def issue (s : State) (d : Nat) (instr : BitVec 16) (pl : Place) (body : State → Body) : State :=
  if !s.issuing d then s
  else
    match (if (s.core d).slot.isNone then (s.core d).admitted else none) with
    | some x => takeInterrupt s d x.1 x.2
    | none =>
      if !s.canFetch d (s.core d).pc then takeException s d cFetch (s.core d).pc 0
      else
        let f := fetch s d
        if f.2 then takeException f.1 d cDataPoison 0 instr
        else
          match (f.1.core d).misplaced pl with
          | some x => takeException f.1 d cPlacement x instr
          | none => (body f.1).run d instr

/-- A stack instruction: STACK with its detail, or the new core. -/
def stackBody (s : State) (d : Nat) (r : Except Nat Core) : Body :=
  match r with
  | .error e => .fault s cStack e
  | .ok k => .retire (s.setCore d k)

/-- An instruction that pops n entries and pushes what f makes of them. -/
def aluOp (d n : Nat) (f : List Entry → List Entry) (s : State) : Body := stackBody s d ((s.core d).stackOp n f)

/-- A result that a latency above 1 ac claims until it is filled (R184, Table 6.6). -/
def Core.claim (k : Core) : Core := { k with claims := k.claims + 1 }

/-- An instruction like it whose result has a latency. -/
def slowOp (d n : Nat) (f : List Entry → List Entry) (s : State) : Body :=
  stackBody s d (((s.core d).stackOp n f).map Core.claim)

/-- An integer result of one operand, of two; the result's poison is theirs (R158). -/
def un (f : W64 → W64) : List Entry → List Entry
  | [a] => [⟨f a.val, a.psn⟩]
  | _ => []
def bin (f : W64 → W64 → W64) : List Entry → List Entry
  | [a, b] => [⟨f a.val b.val, a.psn || b.psn⟩]
  | _ => []

/-- 1 or 0 as an entry's word. -/
def flagW (b : Bool) : W64 := if b then 1 else 0

/-- `VX.STATUS` gains condition flags. -/
def Core.raise (k : Core) (f : Fl) : Core := { k with vxStatus := k.vxStatus ||| f.setWidth 64 }

/-- An FP64 instruction of n operands (R168). -/
def fpOp (d n : Nat) (f : Bool → List Nat → Nat × Fl) (s : State) : Body :=
  match (s.core d).need n with
  | .error e => .fault s cStack e
  | .ok k =>
    let ops := (k.ds.take n).reverse
    let r := f k.ieee (ops.map fun x => x.val.toNat)
    stackBody s d (({ k with ds := k.ds.drop n }.raise r.2).claim.push ⟨w64 r.1, ops.any (·.psn)⟩)

end Sys2Proof.Machine
end

