-- ==== Sys2Proof/Machine/Alu.lean ====
section
/-! DEFINITION. The literal, extend and stack ALU instructions (classes 0x0 to 0x2; R165-R168). -/

namespace Sys2Proof.Machine

/-- LIT (R166). -/
def execLit (d : Nat) (imm : BitVec 12) (s : State) : Host.Outcome State Fault Refusal :=
  .next (issue s d (imm.setWidth 16) .plain (aluOp d 0 fun _ => [⟨imm.signExtend 64, false⟩]))
/-- EXT (R166). -/
def execExt (d : Nat) (imm : BitVec 12) (s : State) : Host.Outcome State Fault Refusal :=
  .next (issue s d (0x1000 ||| imm.setWidth 16) .plain (aluOp d 1 (un fun x => (x <<< 12) ||| imm.setWidth 64)))

/-! ### Stack manipulation (R158, R165): entries move with their poison -/

/-- DUP. -/
def execDup (d : Nat) (s : State) : Host.Outcome State Fault Refusal :=
  .next (issue s d 0x2000 .plain (aluOp d 1 fun | [a] => [a, a] | _ => []))
/-- DROP. -/
def execDrop (d : Nat) (s : State) : Host.Outcome State Fault Refusal :=
  .next (issue s d 0x2001 .plain (aluOp d 1 fun _ => []))
/-- SWAP. -/
def execSwap (d : Nat) (s : State) : Host.Outcome State Fault Refusal :=
  .next (issue s d 0x2002 .plain (aluOp d 2 fun | [a, b] => [b, a] | _ => []))
/-- OVER. -/
def execOver (d : Nat) (s : State) : Host.Outcome State Fault Refusal :=
  .next (issue s d 0x2003 .plain (aluOp d 2 fun | [a, b] => [a, b, a] | _ => []))
/-- ROT. -/
def execRot (d : Nat) (s : State) : Host.Outcome State Fault Refusal :=
  .next (issue s d 0x2004 .plain (aluOp d 3 fun | [a, b, c] => [b, c, a] | _ => []))
/-- NIP. -/
def execNip (d : Nat) (s : State) : Host.Outcome State Fault Refusal :=
  .next (issue s d 0x2005 .plain (aluOp d 2 fun | [_, b] => [b] | _ => []))
/-- TUCK. -/
def execTuck (d : Nat) (s : State) : Host.Outcome State Fault Refusal :=
  .next (issue s d 0x2006 .plain (aluOp d 2 fun | [a, b] => [b, a, b] | _ => []))

/-- PICK's effect: the entry n places below n; n is an index (R158), and n beyond the remaining depth is a stack fault. -/
def pickBody (d : Nat) (s : State) : Body :=
  match (s.core d).need 1 with
  | .error e => .fault s cStack e
  | .ok k =>
    let n := k.ds.getD 0 ⟨0, false⟩
    let k1 := { k with ds := k.ds.drop 1 }
    match k1.dsAt n.val.toNat with
    | .error e => .fault s cStack e
    | .ok y => if n.psn then .fault s cDataPoison 0 else stackBody s d (k1.push y)
/-- PICK. -/
def execPick (d : Nat) (s : State) : Host.Outcome State Fault Refusal := .next (issue s d 0x2007 .plain (pickBody d))

/-- TOR's effect. -/
def torBody (d : Nat) (s : State) : Body :=
  match (s.core d).need 1 with
  | .error e => .fault s cStack e
  | .ok k => stackBody s d ({ k with ds := k.ds.drop 1 }.rsPush (k.ds.getD 0 ⟨0, false⟩))
/-- TOR. -/
def execTor (d : Nat) (s : State) : Host.Outcome State Fault Refusal := .next (issue s d 0x2008 .plain (torBody d))
/-- FROMR and RFETCH: the top return entry to the data stack, popped or not. -/
def fromrBody (pop : Bool) (d : Nat) (s : State) : Body :=
  match (s.core d).rsNeed 1 with
  | .error e => .fault s cStack e
  | .ok k => stackBody s d ({ k with rs := if pop then k.rs.drop 1 else k.rs }.push (k.rs.getD 0 ⟨0, false⟩))
/-- FROMR. -/
def execFromr (d : Nat) (s : State) : Host.Outcome State Fault Refusal := .next (issue s d 0x2009 .plain (fromrBody true d))
/-- RFETCH. -/
def execRfetch (d : Nat) (s : State) : Host.Outcome State Fault Refusal := .next (issue s d 0x200A .plain (fromrBody false d))
/-- DEPTH. -/
def execDepth (d : Nat) (s : State) : Host.Outcome State Fault Refusal :=
  .next (issue s d 0x200B .plain fun s => stackBody s d ((s.core d).push ⟨w64 (s.core d).dsDepth, false⟩))

/-! ### Integer arithmetic, logic, shifts and comparisons (R165, R167) -/

/-- ADD. -/
def execAdd (d : Nat) (s : State) : Host.Outcome State Fault Refusal :=
  .next (issue s d 0x2010 .plain (aluOp d 2 (bin fun a b => a + b)))
/-- SUB. -/
def execSub (d : Nat) (s : State) : Host.Outcome State Fault Refusal :=
  .next (issue s d 0x2011 .plain (aluOp d 2 (bin fun a b => a - b)))
/-- MUL. -/
def execMul (d : Nat) (s : State) : Host.Outcome State Fault Refusal :=
  .next (issue s d 0x2012 .plain (slowOp d 2 (bin fun a b => a * b)))
/-- MULHS. -/
def execMulhs (d : Nat) (s : State) : Host.Outcome State Fault Refusal :=
  .next (issue s d 0x2013 .plain (slowOp d 2 (bin fun a b => wInt (a.toInt * b.toInt / 2 ^ 64))))
/-- MULHU. -/
def execMulhu (d : Nat) (s : State) : Host.Outcome State Fault Refusal :=
  .next (issue s d 0x2014 .plain (slowOp d 2 (bin fun a b => w64 (a.toNat * b.toNat / 2 ^ 64))))
/-- DIVS: toward zero; 0 by zero; −2^63 by −1 wraps. -/
def execDivs (d : Nat) (s : State) : Host.Outcome State Fault Refusal :=
  .next (issue s d 0x2015 .plain (slowOp d 2 (bin fun a b => if b = 0 then 0 else wInt (Int.tdiv a.toInt b.toInt))))
/-- DIVU. -/
def execDivu (d : Nat) (s : State) : Host.Outcome State Fault Refusal :=
  .next (issue s d 0x2016 .plain (slowOp d 2 (bin fun a b => if b = 0 then 0 else w64 (a.toNat / b.toNat))))
/-- REMS: with the sign of a; a by zero. -/
def execRems (d : Nat) (s : State) : Host.Outcome State Fault Refusal :=
  .next (issue s d 0x2017 .plain (slowOp d 2 (bin fun a b => if b = 0 then a else wInt (Int.tmod a.toInt b.toInt))))
/-- REMU. -/
def execRemu (d : Nat) (s : State) : Host.Outcome State Fault Refusal :=
  .next (issue s d 0x2018 .plain (slowOp d 2 (bin fun a b => if b = 0 then a else w64 (a.toNat % b.toNat))))
/-- NEG. -/
def execNeg (d : Nat) (s : State) : Host.Outcome State Fault Refusal :=
  .next (issue s d 0x2019 .plain (aluOp d 1 (un fun a => -a)))
/-- AND. -/
def execBand (d : Nat) (s : State) : Host.Outcome State Fault Refusal :=
  .next (issue s d 0x2020 .plain (aluOp d 2 (bin fun a b => a &&& b)))
/-- OR. -/
def execBor (d : Nat) (s : State) : Host.Outcome State Fault Refusal :=
  .next (issue s d 0x2021 .plain (aluOp d 2 (bin fun a b => a ||| b)))
/-- XOR. -/
def execBxor (d : Nat) (s : State) : Host.Outcome State Fault Refusal :=
  .next (issue s d 0x2022 .plain (aluOp d 2 (bin fun a b => a ^^^ b)))
/-- NOT. -/
def execBnot (d : Nat) (s : State) : Host.Outcome State Fault Refusal :=
  .next (issue s d 0x2023 .plain (aluOp d 1 (un fun a => ~~~ a)))

/-- A shift; its amount may not be poisoned (R158). -/
def shiftBody (d : Nat) (f : W64 → Nat → W64) (s : State) : Body :=
  match (s.core d).need 2 with
  | .error e => .fault s cStack e
  | .ok k =>
    if (k.ds.getD 0 ⟨0, false⟩).psn then .fault s cDataPoison 0
    else aluOp d 2 (bin fun a n => f a (n.toNat % 64)) s
/-- SHL. -/
def execShl (d : Nat) (s : State) : Host.Outcome State Fault Refusal :=
  .next (issue s d 0x2024 .plain (shiftBody d fun a n => a <<< n))
/-- SHR. -/
def execShr (d : Nat) (s : State) : Host.Outcome State Fault Refusal :=
  .next (issue s d 0x2025 .plain (shiftBody d fun a n => a >>> n))
/-- SAR. -/
def execSar (d : Nat) (s : State) : Host.Outcome State Fault Refusal :=
  .next (issue s d 0x2026 .plain (shiftBody d fun a n => a.sshiftRight n))
/-- EQ. -/
def execEq (d : Nat) (s : State) : Host.Outcome State Fault Refusal :=
  .next (issue s d 0x2030 .plain (aluOp d 2 (bin fun a b => flagW (a == b))))
/-- NE. -/
def execNe (d : Nat) (s : State) : Host.Outcome State Fault Refusal :=
  .next (issue s d 0x2031 .plain (aluOp d 2 (bin fun a b => flagW (a != b))))
/-- LTS. -/
def execLts (d : Nat) (s : State) : Host.Outcome State Fault Refusal :=
  .next (issue s d 0x2032 .plain (aluOp d 2 (bin fun a b => flagW (a.slt b))))
/-- LTU. -/
def execLtu (d : Nat) (s : State) : Host.Outcome State Fault Refusal :=
  .next (issue s d 0x2033 .plain (aluOp d 2 (bin fun a b => flagW (a.ult b))))
/-- LES. -/
def execLes (d : Nat) (s : State) : Host.Outcome State Fault Refusal :=
  .next (issue s d 0x2034 .plain (aluOp d 2 (bin fun a b => flagW (a.sle b))))
/-- LEU. -/
def execLeu (d : Nat) (s : State) : Host.Outcome State Fault Refusal :=
  .next (issue s d 0x2035 .plain (aluOp d 2 (bin fun a b => flagW (a.ule b))))
/-- EQZ. -/
def execEqz (d : Nat) (s : State) : Host.Outcome State Fault Refusal :=
  .next (issue s d 0x2036 .plain (aluOp d 1 (un fun a => flagW (a == 0))))

/-- SEL's effect: the condition may not be poisoned (R158); the result carries the poison of what it reads. -/
def selBody (d : Nat) (s : State) : Body :=
  match (s.core d).need 3 with
  | .error e => .fault s cStack e
  | .ok k =>
    if (k.ds.getD 0 ⟨0, false⟩).psn then .fault s cDataPoison 0
    else aluOp d 3 (fun
      | [a, b, f] => [⟨if f.val = 0 then b.val else a.val, a.psn || b.psn⟩]
      | _ => []) s
/-- SEL. -/
def execSel (d : Nat) (s : State) : Host.Outcome State Fault Refusal := .next (issue s d 0x2037 .plain (selBody d))

/-! ### FP64 (R168) -/

/-- Two FP64 operands. -/
def fp2 (f : Bool → Val → Val → Nat × Fl) (ieee : Bool) : List Nat → Nat × Fl
  | [a, b] => f ieee (decode 0 a) (decode 0 b)
  | _ => (0, 0)
/-- A predicate of two FP64 operands. -/
def fpCmp (f : Val → Val → Bool) (ieee : Bool) : List Nat → Nat × Fl
  | [a, b] => (b2n (f (decode 0 a) (decode 0 b)), cmpFl ieee (decode 0 a) (decode 0 b))
  | _ => (0, 0)

/-- FADD. -/
def execFadd (d : Nat) (s : State) : Host.Outcome State Fault Refusal :=
  .next (issue s d 0x2040 .plain (fpOp d 2 (fp2 fun i a b => addV i 0 a b)))
/-- FSUB. -/
def execFsub (d : Nat) (s : State) : Host.Outcome State Fault Refusal :=
  .next (issue s d 0x2041 .plain (fpOp d 2 (fp2 fun i a b => subV i 0 a b)))
/-- FMUL. -/
def execFmul (d : Nat) (s : State) : Host.Outcome State Fault Refusal :=
  .next (issue s d 0x2042 .plain (fpOp d 2 (fp2 fun i a b => mulV i 0 a b)))
/-- FDIV. -/
def execFdiv (d : Nat) (s : State) : Host.Outcome State Fault Refusal :=
  .next (issue s d 0x2043 .plain (fpOp d 2 (fp2 fun i a b => divV i 0 a b)))
/-- FMAX (R58). -/
def execFmax (d : Nat) (s : State) : Host.Outcome State Fault Refusal :=
  .next (issue s d 0x2044 .plain (fpOp d 2 fun i l => match l with | [a, b] => maxMin true i 0 a b | _ => (0, 0)))
/-- FMIN (R58). -/
def execFmin (d : Nat) (s : State) : Host.Outcome State Fault Refusal :=
  .next (issue s d 0x2045 .plain (fpOp d 2 fun i l => match l with | [a, b] => maxMin false i 0 a b | _ => (0, 0)))
/-- FSQRT. -/
def execFsqrt (d : Nat) (s : State) : Host.Outcome State Fault Refusal :=
  .next (issue s d 0x2046 .plain (fpOp d 1 fun i l => match l with | [a] => sqrtV i 0 (decode 0 a) | _ => (0, 0)))
/-- FLT (R59). -/
def execFlt (d : Nat) (s : State) : Host.Outcome State Fault Refusal :=
  .next (issue s d 0x2047 .plain (fpOp d 2 (fpCmp Val.lt)))
/-- FLE (R59). -/
def execFle (d : Nat) (s : State) : Host.Outcome State Fault Refusal :=
  .next (issue s d 0x2048 .plain (fpOp d 2 (fpCmp Val.le)))
/-- FEQ (R59). -/
def execFeq (d : Nat) (s : State) : Host.Outcome State Fault Refusal :=
  .next (issue s d 0x2049 .plain (fpOp d 2 (fpCmp Val.eqv)))
/-- CVTIF: INT64 to FP64 under RNE. -/
def execCvtif (d : Nat) (s : State) : Host.Outcome State Fault Refusal :=
  .next (issue s d 0x204A .plain (fpOp d 1 fun i l => match l with
    | [a] => convert 0 .arith i (decode 14 a)
    | _ => (0, 0)))
/-- CVTFI: FP64 to INT64 toward zero, saturating. -/
def cvtfi (v : Val) : Nat × Fl :=
  match v with
  | .fin n m e =>
    let q := if 0 ≤ e then m * 2 ^ e.toNat else m / 2 ^ (-e).toNat
    let r := toInt 14 none (.fin n q 0)
    (r.1, if r.2 = 0 ∧ e < 0 ∧ m % 2 ^ (-e).toNat ≠ 0 then fNX else r.2)
  | v => toInt 14 none v
/-- CVTFI (R168). -/
def execCvtfi (d : Nat) (s : State) : Host.Outcome State Fault Refusal :=
  .next (issue s d 0x204B .plain (fpOp d 1 fun _ l => match l with | [a] => cvtfi (decode 0 a) | _ => (0, 0)))

end Sys2Proof.Machine
end

