-- ==== Sys2Proof/Machine/Reset.lean ====
section
/-! DEFINITION. The device reset (R415, R420), the power pins (R462-R464), and the records that the flash keeps through both: the
powered-seconds counter (R416) and the slot-select records (R422). -/

namespace Sys2Proof.Machine

/-! ### Records in flash -/

/-- The valid powered-seconds record with the higher sequence number. -/
def newestCounter (l : List CounterRec) : Option CounterRec :=
  (l.filter (·.crcOk)).foldl (fun b r => match b with
    | none => some r
    | some x => if x.seq < r.seq then some r else some x) none
/-- R416: at power-good the counter takes the newer valid record's value, else 0. -/
def psecAtPower (l : List CounterRec) : Nat := ((newestCounter l).map (·.secs)).getD 0
/-- A record goes to the older of the two places; an invalid one counts as the oldest. -/
def putCounter (l : List CounterRec) (secs : Nat) : List CounterRec :=
  let r : CounterRec := { seq := ((newestCounter l).map fun x => x.seq + 1).getD 0, secs, crcOk := true }
  match newestCounter l with
  | none => [r]
  | some x => [x, r]

/-- The valid slot-select record with the higher sequence number (R422). -/
def newestSlot (l : List SlotRec) : Option SlotRec :=
  (l.filter (·.crcOk)).foldl (fun b r => match b with
    | none => some r
    | some x => if x.seq < r.seq then some r else some x) none
/-- A slot-select record goes to the copy that does not govern. -/
def putSlot (l : List SlotRec) (trialValid trial confirmed : Bool) : List SlotRec :=
  let r : SlotRec := { seq := ((newestSlot l).map fun x => x.seq + 1).getD 0, crcOk := true, trialValid, trial, confirmed }
  match newestSlot l with
  | none => [r]
  | some x => [x, r]

/-! ### Device reset -/

/-- What a physical cluster keeps: its rotation record in flash. -/
def Phys.afterReset (ph : Nat) (x : Phys) : Phys := { Phys.reset ph with recPass := x.recPass, recRetired := x.recRetired }

/-- R420: all state is discarded except the flash contents and the fuses. What is no state of the device is left as it stands: the
waiting commands, host memory, the pins, the storage faults that are physical, and what the buses have carried. -/
def State.deviceReset (s : State) : State :=
  let z := State.reset
  { z with
    pending := s.pending, hostMem := s.hostMem, hostPsn := s.hostPsn
    mem := { z.mem with latent := s.mem.latent.filter fun q => q.2 == .correctable true }
    phys := s.phys.foldl (fun m q => mput (Phys.reset q.1) m q.1 (q.2.afterReset q.1)) []
    repair := { z.repair with recs := s.repair.recs, nextSeq := s.repair.nextSeq }
    hosts := (upTo 4).foldl (fun m p => mput HostPort.reset m p { HostPort.reset with perst := (s.host p).perst }) []
    boot := { z.boot with flash := s.boot.flash, slotRecs := s.boot.slotRecs, counterRecs := s.boot.counterRecs }
    life := { s.life with retArmed := false, pending := false, newOwnerDig := none, dbgParts := 0, dbgDev := false, dbgSecs := 0 }
    power := { z.power with en := s.power.en, vinOk := s.power.vinOk, rails := s.power.rails, held := s.power.held,
                            pwrGood := s.power.pwrGood, sysRstN := s.power.sysRstN, straps := s.power.straps,
                            psecOn := s.power.psecOn }
    mgmt := { z.mgmt with staticAddr := s.mgmt.staticAddr }
    bus := s.bus, psec := s.psec, freeCtr := s.freeCtr }

/-! ### Power -/

/-- R464: power-good falls at once, and the rails come down; nothing of the device runs, and its state is lost. -/
def State.powerOff (s : State) : State :=
  let t := { s with power := { s.power with pwrGood := false, held := s.power.held || s.power.rails, rails := false } }
  t.deviceReset
/-- The converters bring the rails up, once EN is high, VIN_48 is in range and no rail is still coming down (R463, R464). -/
def State.powerUp (s : State) : State :=
  if s.power.en && s.power.vinOk && !s.power.held then { s with power := { s.power with rails := true } } else s

/-- EN_RISE (R463, R464). -/
def execEnRise (s : State) : Host.Outcome State Fault Refusal :=
  .next ({ s with power := { s.power with en := true } }.powerUp)
/-- EN_FALL (R464). -/
def execEnFall (s : State) : Host.Outcome State Fault Refusal :=
  .next ({ s with power := { s.power with en := false } }.powerOff)
/-- VIN_OUT_OF_RANGE (R462, R471): VIN_48, in tenths of a volt, has stayed outside its range for 20 µs. A device that has met more
than its absolute maximum is outside the manual. -/
def execVinOutOfRange (dv : Nat) (s : State) : Host.Outcome State Fault Refusal :=
  if 650 < dv then .fault .beyondAbsoluteMaximum
  else if 380 ≤ dv ∧ dv ≤ 620 then .next s
  else .next ({ s with power := { s.power with vinOk := false } }.powerOff)
/-- VIN_48_IN_RANGE (R463). -/
def execVin48InRange (s : State) : Host.Outcome State Fault Refusal :=
  .next ({ s with power := { s.power with vinOk := true } }.powerUp)
/-- POWER_UP_RESTART (R464): every rail has been below 10 % for 10 ms and EN is high. -/
def execPowerUpRestart (s : State) : Host.Outcome State Fault Refusal :=
  .next (if s.power.en ∧ s.power.held then ({ s with power := { s.power with held := false } }).powerUp else s)
/-- POWER_GOOD (R463, R416, R469): the straps are sampled, the powered seconds taken from flash, and a device reset starts. -/
def execPowerGood (straps : BitVec 3) (s : State) : Host.Outcome State Fault Refusal :=
  .next (if s.power.pwrGood || !s.power.en || !s.power.vinOk || !s.power.rails then s
    else
      let n := psecAtPower s.boot.counterRecs
      let t := s.deviceReset
      { t with power := { t.power with pwrGood := true, straps, psecOn := n }, psec := n
               mgmt := { t.mgmt with staticAddr := 0x30 + straps.toNat } })
/-- SYS_RST_N_ASSERT (R420): the device is held in reset. -/
def execSysRstNAssert (s : State) : Host.Outcome State Fault Refusal :=
  .next ({ s with power := { s.power with sysRstN := false } }.deviceReset)
/-- SYS_RST_N_DEASSERT (R420): a device reset starts, where power is good. -/
def execSysRstNDeassert (s : State) : Host.Outcome State Fault Refusal :=
  .next (if s.power.sysRstN then s else { s with power := { s.power with sysRstN := true } }.deviceReset)
/-- PSEC_WRITE (R416). -/
def execPsecWrite (s : State) : Host.Outcome State Fault Refusal :=
  .next (if s.power.pwrGood then { s with boot := { s.boot with counterRecs := putCounter s.boot.counterRecs s.psec } } else s)

end Sys2Proof.Machine
end

