-- ==== Sys2Proof/Machine/Image.lean ====
section
/-! DEFINITION. Holal images (R418, R419), their keys (R434, R435), the POLICY that a section's bytes give (log entry 8), and the
flash slots (R417, R425). -/

namespace Sys2Proof.Machine

/-! ### Flash -/

/-- The flash offset and the bytes of a slot; true is B (Table 13.4). -/
def slotBase (b : Bool) : Nat := if b then 0x3000000 else 0
def slotSize : Nat := 0x3000000
/-- n bytes at a slot offset; an erased byte reads 0xFF. -/
def Boot.slotBytes (f : Boot) (b : Bool) (o n : Nat) : List Byte := rdBytes 0xFF f.flash (slotBase b + o) n
/-- Erase a slot. -/
def Boot.eraseSlot (f : Boot) (b : Bool) : Boot :=
  { f with flash := f.flash.filter fun q => !(slotBase b ≤ q.1 && decide (q.1 < slotBase b + slotSize)) }
/-- Program bytes at a slot offset. -/
def Boot.program (f : Boot) (b : Bool) (o : Nat) (l : List Byte) : Boot := { f with flash := wrBytes 0xFF f.flash (slotBase b + o) l }

/-! ### Sections -/

/-- A section entry as read (Table 13.6), with its 64 signed bytes and its signature. -/
structure SecEntry where
  type : Nat
  zeros : Bool
  svn : Nat
  off : Nat
  len : Nat
  digest : List Byte
  signed : List Byte
  sig : List Byte
  deriving DecidableEq, Repr

/-- Every byte is zero. -/
def allZero (l : List Byte) : Bool := l.all fun b => b == 0
/-- 384 bits of a digest in the order in which its bytes stand. -/
def digNat (l : List Byte) : BitVec 384 := BitVec.ofNat 384 (leNat l)
/-- The bytes of a digest. -/
def digBytes (d : BitVec 384) : List Byte := leBytes 48 d.toNat
/-- Bytes lo to hi of a list. -/
def cut (l : List Byte) (lo hi : Nat) : List Byte := (l.drop lo).take (hi + 1 - lo)

/-- Section entry i of a slot. -/
def Boot.entry (f : Boot) (b : Bool) (i : Nat) : SecEntry :=
  let l := f.slotBytes b (16 + 192 * i) 192
  { type := leNat (cut l 0 0), zeros := allZero (cut l 1 3) && allZero (cut l 160 191), svn := leNat (cut l 4 7)
    off := leNat (cut l 8 11), len := leNat (cut l 12 15), digest := cut l 16 63, signed := cut l 0 63, sig := cut l 64 159 }
/-- The six entries. -/
def Boot.entries (f : Boot) (b : Bool) : List SecEntry := (upTo 6).map fun i => f.entry b i
/-- The entry of a section type. -/
def entryOf (l : List SecEntry) (t : Nat) : SecEntry :=
  (l.find? fun e => e.type == t).getD { type := 0, zeros := true, svn := 0, off := 0, len := 0, digest := [], signed := [], sig := [] }
/-- The bytes of a section. -/
def Boot.section (f : Boot) (b : Bool) (e : SecEntry) : List Byte := f.slotBytes b e.off e.len

/-- R419 condition 1, with the zero bytes of the entries and each type exactly once. -/
def Boot.headerOk (f : Boot) (b : Bool) : Bool :=
  let h := f.slotBytes b 0 16
  let es := f.entries b
  leNat (cut h 0 3) == 0x414C4F48 && leNat (cut h 4 5) == 1 && leNat (cut h 6 7) == 6 && allZero (cut h 8 15)
    && (es.all fun e => e.zeros) && (([1, 2, 3, 4, 5, 6] : List Nat).all fun t => es.any fun e => e.type == t)
/-- R419 condition 2. -/
def rangesOk (es : List SecEntry) : Bool :=
  es.all fun e => e.off % 4096 == 0 && decide (e.off + e.len ≤ slotSize) &&
    es.all fun x => x.type == e.type || decide (x.off + x.len ≤ e.off) || decide (e.off + e.len ≤ x.off)
/-- The DIGEST of an entry matches its section. -/
def Boot.digestOk (f : Boot) (b : Bool) (e : SecEntry) : Bool := digNat e.digest == Config.sha384 (f.section b e)

/-! ### Keys -/

/-- Record i of a KEYS section, and its 97-byte key. -/
def keyRecord (keys : List Byte) (i : Nat) : List Byte := (keys.drop (128 * i)).take 128
def keyOf (r : List Byte) : List Byte := cut r 16 112
/-- The number of records. -/
def keyCount (keys : List Byte) : Nat := keys.length / 128
/-- Table 14.2: the record types and zero bytes. -/
def keysWell (keys : List Byte) : Bool :=
  keys.length % 128 == 0 && decide (2 ≤ keyCount keys) && decide (keyCount keys ≤ 10) &&
    (upTo (keyCount keys)).all fun i =>
      let r := keyRecord keys i
      leNat (cut r 0 0) == (if i < 2 then i + 1 else 3) && allZero (cut r 3 15) && allZero (cut r 113 127)
        && (decide (2 ≤ i) || leNat (cut r 1 1) == 0) && (i == 0 || leNat (cut r 2 2) == 0)
/-- A vendor key record is accepted: INDEX not revoked, and the key's digest is the fused one (R435 step 1). -/
def Life.vendorOk (l : Life) (r : List Byte) : Bool :=
  let i := leNat (cut r 2 2)
  decide (i < 4) && !l.vendorRev.getLsbD i && l.vendorDig[i]? == some (Config.sha384 (keyOf r))
/-- The expected owner digest (R435 step 2): of the highest provisioning in OWNED, of the vendor key of record 0 otherwise; under a
pending PROVISION, KEYDIG (R450). -/
def Life.ownerExpected (l : Life) (keys : List Byte) (commit : Bool) : BitVec 384 :=
  match l.newOwnerDig, commit with
  | some d, true => d
  | _, _ => if l.lc = 1 then l.ownerDig.getD (l.ownerN - 1) 0 else Config.sha384 (keyOf (keyRecord keys 0))

/-! ### POLICY -/

/-- A field that is a truth value. -/
def polB (l : List Byte) (n : Nat) : Bool := Config.policyField l n != 0
/-- Partition p of a POLICY section (log entry 8). -/
def decodePart (l : List Byte) (p : Nat) : PartPolicy :=
  let b := 1000 * p
  let v := Config.policyField l
  { enabled := polB l b, clusters := (upTo 256).filter fun c => (v (b + 1)).testBit c
    grants := ((upTo 32).map fun i => (v (b + 10 + 2 * i) * 0x200000, v (b + 11 + 2 * i))).filter fun g => g.2 != 0
    chanFirst := v (b + 2), chanCount := v (b + 3), sEntry := v (b + 4), resvSlots := v (b + 5)
    bar2Log2 := max 30 (min 41 (v (b + 6))), ideRequired := polB l (b + 7), lkCtxA := v (b + 8), lkCtxB := v (b + 9) }
/-- The POLICY that a section's bytes give. -/
def decodePolicy (l : List Byte) : Policy :=
  let v := Config.policyField l
  { parts := (upTo 4).map (decodePart l)
    portOwner := (upTo 8).map fun k => if v (4000 + 3 * k) < 4 then some (v (4000 + 3 * k)) else none
    portEth := (upTo 8).map fun k => polB l (4001 + 3 * k), portKr := (upTo 8).map fun k => polB l (4002 + 3 * k)
    powerCap := v 5000, scrub := polB l 5001, integrity := polB l 5002, mgmtWrite := polB l 5003, ownerPart := v 5004
    resetErase := polB l 5005, ddrHarden := polB l 5006 }
/-- Base SRAM granules that a POLICY grants to no partition. -/
def Policy.baseUngranted (n : Policy) : Nat :=
  3584 - (n.parts.flatMap (·.grants)).foldl (fun k g => if 0x400000000000 ≤ g.1 then k + g.2 else k) 0
/-- R419 condition 6. -/
def policyOk (l : List Byte) : Bool := Config.policyComplete l && decide (96 ≤ (decodePolicy l).baseUngranted)

/-! ### The whole image -/

/-- A valid image: its sections, and the bytes of KEYS, POLICY and MONITOR. -/
structure ImageRead where
  secs : List SecInfo
  keys : List Byte
  policy : List Byte
  monitor : List Byte
  deriving DecidableEq, Repr

/-- The signature of an entry verifies with a key. -/
def SecEntry.signedBy (e : SecEntry) (key : List Byte) : Bool := Config.ecdsaVerifies key e.signed e.sig
/-- R435: the image keys are established. -/
def Boot.keysOk (f : Boot) (l : Life) (b commit : Bool) (k : SecEntry) : Bool :=
  let keys := f.section b k
  keysWell keys && l.vendorOk (keyRecord keys 0)
    && Config.sha384 (keyOf (keyRecord keys 1)) == l.ownerExpected keys commit && k.signedBy (keyOf (keyRecord keys 1))

/-- R419 and R435 over a slot: the image, or the first condition that fails, by the codes of `CK.BOOT.REFUSED`. The keys are
established before any other section is verified (log entry 39). -/
def Boot.check (f : Boot) (l : Life) (b commit : Bool) : Except Nat ImageRead :=
  let es := f.entries b
  let k := entryOf es 6
  if !f.headerOk b then .error 1
  else if !rangesOk es then .error 2
  else if !f.digestOk b k then .error 3
  else if !f.keysOk l b commit k then .error 4
  else if !(es.all fun e => f.digestOk b e) then .error 3
  else
    let keys := f.section b k
    let vendor := keyOf (keyRecord keys 0)
    let owner := keyOf (keyRecord keys 1)
    if !(es.all fun e => e.signedBy (if e.type ≤ 4 then vendor else owner)) then .error 4
    else if !(es.all fun e => decide (l.svnMin.getD (e.type - 1) 0 ≤ e.svn)) then .error 5
    else if !policyOk (f.section b (entryOf es 5)) then .error 6
    else
      .ok { secs := ([1, 2, 3, 4, 5, 6] : List Nat).map fun t =>
              { type := t, svn := (entryOf es t).svn, digest := digNat (entryOf es t).digest }
            keys, policy := f.section b (entryOf es 5), monitor := f.section b (entryOf es 2) }

/-- The section of a type among those in force. -/
def secOf (l : List SecInfo) (t : Nat) : SecInfo := (l.find? fun x => x.type == t).getD { type := t, svn := 0, digest := 0 }

end Sys2Proof.Machine
end

