-- ==== Sys2Proof/Machine/Repair.lean ====
section
/-! DEFINITION. Scrubbing (R252-R254), write-backs (R240), the ends of sparing and moving (R258-R268), and the transfer codes
(R20, R245, R247). -/

namespace Sys2Proof.Machine

/-! ### Core local memory as a scrubbed store -/

/-- The number under which `Mem.latent` keeps word off / 8 of core d's local memory. -/
def lmWord (d off : Nat) : Nat := 2 ^ 50 + d * 8192 + off / 8
/-- The bank number of core d's local memory: the bank after the sixteen of staging, by core (log entry 28). -/
def State.lmBank (s : State) (d : Nat) : Nat := 1000 + 128 * s.phOf (d / 8) + 16 + d % 8
/-- The bank and row of a word number, of device memory or of local memory. -/
def State.wordRow (s : State) (w : Nat) : Nat × Nat :=
  if 2 ^ 50 ≤ w then (s.lmBank ((w - 2 ^ 50) / 8192), (w - 2 ^ 50) % 8192 * 8 / 1024) else s.bankRow (w * 8)
/-- Mark a word, of device memory or of local memory, as poisoned. -/
def State.poisonWord (s : State) (w : Nat) : State :=
  if 2 ^ 50 ≤ w then
    let d := (w - 2 ^ 50) / 8192
    s.setCore d { s.core d with lmPsn := sadd (s.core d).lmPsn ((w - 2 ^ 50) % 8192) }
  else { s with mem := { s.mem with psn := (unitWords (w * 8)).foldl sadd s.mem.psn } }
/-- R240 for a word of local memory: corrected and rewritten, or poisoned. -/
def State.lmFound (s : State) (w : Nat) (x : StoreErr) : State :=
  let d := (w - 2 ^ 50) / 8192
  let b := s.wordRow w
  let e := fun code => { ev code with parts := pbitO (s.ownerOf (d / 8)), ukind := (bankUnit b.1).1, unit := (bankUnit b.1).2
                                      lcluster := d / 8, detail := b.2 }
  let die := s.dieOf (d / 8)
  let gone := fun (s : State) => { s with mem := { s.mem with latent := mdel s.mem.latent w } }
  let bad := (logUnit ((gone s).poisonWord w) die (e eStoreUe) b.2).spareRow b.1 b.2
  match x with
  | .correctable hard =>
    let s1 := logUnit s die (e eStoreCe) b.2
    if hard then s1.spareRow b.1 b.2 else gone s1
  | .uncorrectable => bad
  | .beyond =>
    if Config.beyondCode w = 0 then gone (logUnit s die (e eStoreCe) b.2) else if Config.beyondCode w = 1 then bad else s

/-! ### Scrubbing and write-backs -/

/-- The write-back of a corrected value, and the second read (R240, R253): an error that is still there is hard. -/
def State.writeBack (s : State) (w : Nat) : State :=
  let s1 := { s with mem := { s.mem with writeback := sdel s.mem.writeback w } }
  match mfind s.mem.latent w with
  | some (.correctable true) => s1.rowFails (w * 8)
  | some (.correctable false) => { s1 with mem := { s1.mem with latent := mdel s1.mem.latent w } }
  | _ => s1

/-- SCRUB_READ (R252-R254). -/
def execScrubRead (r : StoreRef) (s : State) : Host.Outcome State Fault Refusal :=
  if !s.policy.scrub then .next s
  else
    match r with
    | .lm d off =>
      match mfind s.mem.latent (lmWord d off) with
      | none => .next s
      | some x => .next (s.lmFound (lmWord d off) x)
    | .dev a =>
      if !isMemory a || s.isDetect a || s.isAbsent a then .next s
      else
        match mfind s.mem.latent (unitOf a) with
        | none => .next s
        | some x =>
          let die := if isDdr a then 16 else bankDie (s.bankRow a).1
          let s1 := (readErr s die (unitOf a) x).1
          .next (if s1.mem.writeback.contains (unitOf a) then s1.writeBack (unitOf a) else s1)

/-- CORRECTED_WRITEBACK (R240), unless a write to the same word or burst came first. -/
def execCorrectedWriteback (r : StoreRef) (s : State) : Host.Outcome State Fault Refusal :=
  match r with
  | .lm _ _ => .next s
  | .dev a => .next (if s.mem.writeback.contains (unitOf a) then s.writeBack (unitOf a) else s)

/-! ### Sparing and moving -/

/-- The words of a store that is copied to good storage: correctable ones copied corrected, the others as poisoned (R259). -/
def State.copied (s : State) (here : Nat → Bool) : State :=
  let l := s.mem.latent.filter fun q => here q.1
  let bad := l.filter fun q => match q.2 with
    | .correctable _ => false
    | .uncorrectable => true
    | .beyond => Config.beyondCode q.1 == 1
  let s1 := bad.foldl (fun s q => s.poisonWord q.1) s
  { s1 with mem := { s1.mem with latent := s1.mem.latent.filter fun q => !here q.1
                                 writeback := s1.mem.writeback.filter fun w => !here w } }

/-- A bank's number. -/
def State.bankNo (s : State) : BankRef → Nat
  | .base b => b
  | .staging c b => 1000 + 128 * s.phOf c + b
  | .compute c b => 1000 + 128 * s.phOf c + 16 + b

/-- SPARE_COPY_DONE (R259, R260): the map entry row → spare is set, replacing an earlier one. -/
def execSpareCopyDone (b : BankRef) (row : Nat) (s : State) : Host.Outcome State Fault Refusal :=
  let n := s.bankNo b
  let k := s.bank n
  match k.copying with
  | none => .next s
  | some (r, sp) =>
    if r ≠ row then .next s
    else
      let s1 := s.copied fun w => (decide (2 ^ 50 ≤ w) || (isMemory (w * 8) && !isDdr (w * 8))) && s.wordRow w == (n, row)
      let s2 := s1.setBank n { k with map := madd k.map row sp, copying := none }
      .next (if n < 1000 then s2.endAction uBaseBank n else s2)

/-- The bank that holds a granule now. -/
def State.homeBank (s : State) (g : Nat) : Nat :=
  match mfind s.repair.granuleAt g with
  | none => granuleBank g
  | some t => if t < 1000000 then 896 + t / 4 else granuleBank (t - 1000000)

/-- GRANULE_COPY_DONE (R261): the granule switches to its place, and the bank's next granule follows. -/
def execGranuleCopyDone (g : Nat) (s : State) : Host.Outcome State Fault Refusal :=
  match mfind s.repair.copying g with
  | none => .next s
  | some t =>
    let b := s.homeBank g
    let s1 := s.copied fun w => isBase (w * 8) && granuleOf (w * 8) == g
    let s2 := { s1 with repair := { s1.repair with copying := mdel s1.repair.copying g, granuleAt := madd s1.repair.granuleAt g t } }
    let s3 := s2.record 4 (granuleDie g) (granuleBank g) 0 (0x400000000000 / 0x200000 + g) t
    let s4 := logEv s3 (8 + granuleDie g) { ev eGranuleMoved with parts := pbitO (s.grantPart (granuleAddr g)), ukind := uBaseBank
                                                                  unit := b, addr := granuleAddr g, rstate := 2 }
    .next (s4.nextMove b 5)

/-! ### LPDDR6 -/

/-- The words of an LPDDR6 row: channel, bank + 256 · row. -/
def inDdrRow (chan arg w : Nat) : Bool := isDdr (w * 8) && w * 8 / 256 % 80 == chan && Config.ddrRow (w * 8) == arg
/-- A repair of this row is in progress. -/
def State.pprOn (s : State) (r : DdrRow) : Bool :=
  s.repair.rows.any fun x => x.chan == r.chan && x.bank == r.bank && x.row == r.row && x.inProgress
/-- The repair records without one row's. -/
def State.dropRow (s : State) (r : DdrRow) : List RowRepair :=
  s.repair.rows.filter fun x => !(x.chan == r.chan && x.bank == r.bank && x.row == r.row)

/-- PPR_DONE (R264): the row is written back from the holding buffer. -/
def execPprDone (r : DdrRow) (s : State) : Host.Outcome State Fault Refusal :=
  if !s.pprOn r then .next s
  else
    let arg := r.bank + 256 * r.row
    let s1 := s.copied (inDdrRow r.chan arg)
    let done : RowRepair := { chan := r.chan, bank := r.bank, row := r.row, addr := r.addr, inProgress := false }
    let s2 := { s1 with repair := { s1.repair with rows := done :: s1.dropRow r } }
    let s3 := s2.record 6 (r.chan / 4) (r.chan + 256 * r.bank) r.row (r.chan + 128 * arg) r.addr
    .next ((logEv s3 16 { ev eDdrRepaired with parts := pbitO (s.grantPart r.addr), ukind := uDdrRow, unit := r.chan
                                               addr := r.addr, detail := arg }).endAction uDdrRow (r.chan + 128 * arg))

/-- PPR_TIMEOUT (R264, R265): the repair is abandoned and the row is unrepairable. -/
def execPprTimeout (r : DdrRow) (s : State) : Host.Outcome State Fault Refusal :=
  if !s.pprOn r then .next s
  else
    let arg := r.bank + 256 * r.row
    let s1 := { s with repair := { s.repair with rows := s.dropRow r } }
    .next (((s1.endAction uDdrRow (r.chan + 128 * arg)).retireUnit uDdrRow (r.chan + 128 * arg)).unrepairable r.chan arg r.addr)

/-- DDR_GRANULE_COPY_DONE (R265): granule number g of the address map stands in the spare pool. -/
def execDdrGranuleCopyDone (g : Nat) (s : State) : Host.Outcome State Fault Refusal :=
  match mfind s.repair.ddrCopying g with
  | none => .next s
  | some t =>
    let s1 := s.copied fun w => isDdr (w * 8) && w * 8 / 0x200000 == g
    let s2 := { s1 with repair := { s1.repair with ddrCopying := mdel s1.repair.ddrCopying g, ddrAt := madd s1.repair.ddrAt g t } }
    let ch := g * 0x200000 / 256 % 80
    let e := { ev eGranuleMoved with parts := pbitO (s.grantPart (g * 0x200000)), ukind := uDdrRow, unit := ch, addr := g * 0x200000 }
    .next (logEv (s2.record 4 (ch / 4) ch 0 g t) 16 e)

/-- DDR_REFRESH: one per-bank refresh on channel k (R256). -/
def execDdrRefresh (k bank : Nat) (s : State) : Host.Outcome State Fault Refusal :=
  .next (if k < 80 ∧ bank < 256 then
    { s with repair := { s.repair with refreshes := mput 0 s.repair.refreshes k (mget 0 s.repair.refreshes k + 1) } } else s)
/-- DDR_RETRAIN_STEP (R428): one step of periodic retraining on channel k. -/
def execDdrRetrainStep (k : Nat) (s : State) : Host.Outcome State Fault Refusal :=
  .next (if k < 80 then
    { s with repair := { s.repair with retrainSteps := mput 0 s.repair.retrainSteps k (mget 0 s.repair.retrainSteps k + 1) } } else s)

/-! ### REPAIR records (R267) -/

/-- A record that one later in the list supersedes: the same location, and 0x02 over 0x01 or 0x02, or 0x07 over 0x06. -/
def RepairRec.over (x r : RepairRec) : Bool :=
  x.die == r.die && x.unit == r.unit && x.row == r.row && decide (r.seq < x.seq)
    && ((x.type == 2 && (r.type == 1 || r.type == 2)) || (x.type == 7 && r.type == 6))

/-- REPAIR_RECORD_WRITE: the oldest record not yet written. -/
def execRepairRecordWrite (s : State) : Host.Outcome State Fault Refusal :=
  match s.repair.pending with
  | [] => .next s
  | r :: rest =>
    let s1 := { s with repair := { s.repair with pending := rest } }
    let all := s.repair.recs ++ [r]
    let kept := if all.length ≤ 16384 then all else all.filter fun x => !all.any fun y => y.over x
    if kept.length ≤ 16384 then .next { s1 with repair := { s1.repair with recs := kept } }
    else .next (logEv s1 16 { ev eRepairLog with detail := 2 })

/-! ### Transfer codes -/

/-- BEAT_REPLAY (R247): the replayed beat of 256 bytes on its way to address a in cluster c's traffic; one that cannot be
corrected lands poisoned. -/
def execBeatReplay (c a : Nat) (ok : Bool) (s : State) : Host.Outcome State Fault Refusal :=
  if ok then .next s
  else
    let b := a / 256 * 256
    let s1 := if isMemory b ∧ !s.isAbsent b then
        { s with mem := { s.mem with psn := ((upTo 32).map (· + b / 8)).foldl sadd s.mem.psn } } else s
    .next (logCluster s1 c { ev ePathUe with addr := b })

/-- BOND_ERASED (R245): bond group grp of the channel of cluster c's physical cluster becomes an erasure; a third one of its
codeword, by grp mod 8 (log entry 27), retires the cluster. -/
def execBondErased (c grp : Nat) (s : State) : Host.Outcome State Fault Refusal :=
  match s.physOfRole c with
  | none => .next s
  | some ph =>
    let x := s.physOf ph
    if 288 ≤ grp ∨ x.erased.contains grp then .next s
    else if 2 ≤ (x.erased.filter fun g => g % 8 == grp % 8).length then .next (s.retireCluster ph 3)
    else
      let s1 := (s.setPhys ph { x with erased := sadd x.erased grp }).record 8 (ph / 36) ph grp ph 0
      .next (logEv s1 (ph / 36) { ev eBondErased with parts := pbitO (s.ownerOf c), ukind := uBond, unit := grp, lcluster := c })

/-- A die-to-die lane group leaves service (R20, R363). -/
def State.d2dRetire (s : State) (grp : Nat) : State :=
  logEv { (s.retireUnit uD2d grp) with repair := { s.repair with d2dRetired := sadd s.repair.d2dRetired grp } } 16
    { ev eD2dGroupRetired with ukind := uD2d, unit := grp, rstate := 2 }

/-- D2D_LANE_REPAIRED (R20): repaired from a redundant lane, or the group is retired. -/
def execD2dLaneRepaired (grp : Nat) (ok : Bool) (s : State) : Host.Outcome State Fault Refusal :=
  if s.repair.d2dRetired.contains grp then .next s
  else if ok then
    let s1 := logUnit s 16 { ev eD2dLaneRepaired with ukind := uD2d, unit := grp } 0
    .next (if s1.unitRetired uD2d grp then s1.d2dRetire grp else s1)
  else .next (s.d2dRetire grp)

end Sys2Proof.Machine
end

