-- ==== Sys2Proof/Machine/Rotate.lean ====
section
/-! DEFINITION. Fallow rotation (R366-R371): due clusters, migrations, in-field tests, replacement, rotation records. -/

namespace Sys2Proof.Machine

/-! ### Boundaries -/

/-- R367: neither an engine nor a core of a logical cluster runs a command, and nothing of it is outstanding (Table 11.4). -/
def State.atBoundary (s : State) (c : Nat) : Bool :=
  let k := s.cluster c
  k.mx.isNone && k.se.isNone && k.mxQ.isEmpty && k.seQ.isEmpty && (upTo 8).all fun i =>
    let x := s.core (c * 8 + i)
    x.kernel.isNone && x.storesOut == 0 && x.ocPending == 0 && x.tickets.all fun t => match t.2.st with
      | .done _ => true
      | _ => false
/-- The words of a logical cluster's compute-die SRAM: its staging window and its cores' local memories. -/
def clusterWord (c w : Nat) : Bool :=
  if 2 ^ 50 ≤ w then (w - 2 ^ 50) / 8192 / 8 == c else isStaging (w * 8) && stagingCluster (w * 8) == c

/-! ### Taking and leaving a role -/

/-- A physical cluster takes a role. `MX.WR_STATE` and `MX.WR_SKIP` restart (Table 3.12), the role's cores run the MONITOR that the
cluster is to run (R427), and a quarantined core is released (R224). -/
def State.takeRole (s : State) (c ph : Nat) : State :=
  let s1 := s.setPhys ph { s.physOf ph with cond := .role c }
  let s2 := (s1.setReg (aMX c + 0x18) 0).setReg (aMX c + 0x20) 0
  let new := s2.boot.applying && s2.boot.pendingSecs.contains 2
  let s3 := s2.setCluster c { s2.cluster c with moving := none, hold := false, retry := false, newMon := new || (s2.cluster c).newMon }
  let s4 := if new && !(s2.cluster c).newMon then
      (upTo 8).foldl (fun s i => s.setCore (c * 8 + i) { s.core (c * 8 + i) with exVbarM := none }) s3 else s3
  (upTo 8).foldl (fun s i =>
    let k := s.core (c * 8 + i)
    if k.run = .debugHalt ∨ k.run = .halted then s.setCore (c * 8 + i) { k with run := .idle } else s) s4
/-- A freed cluster is zeroed, and its test starts unless tests are off (R353, R369, R371); without a test its action ends. -/
def State.freed (s : State) (ph : Nat) (parts : BitVec 4) : State :=
  let x := s.physOf ph
  let test := s.policy.integrity && !s.hw.suspended
  let y := { x with cond := if test then .testing else .untested, testStart := s.psec, retried := false, flagged := none, due := false
                    borrow := false, heldParts := x.heldParts ||| parts }
  if test then s.setPhys ph y else (s.setPhys ph y).endAction uCluster ph

/-! ### Due clusters -/

/-- The state has a target for this cluster now. -/
def State.hasTarget (s : State) (ph : Nat) : Bool := s.targets.any fun q => q.1 == ph

/-- CLUSTER_DUE (R366, R368): logical cluster c's physical cluster has not passed a test for 5 h 40 min. -/
def execClusterDue (c : Nat) (s : State) : Host.Outcome State Fault Refusal :=
  match s.physOfRole c with
  | none => .next s
  | some ph =>
    if (s.ownerOf c).isNone || (s.physOf ph).due || s.unitRetired uCluster ph || decide (s.psec < s.dueAt ph) then .next s
    else
      let s1 := (s.setPhys ph { s.physOf ph with due := true }).refreshHolds
      .next (if s1.hasTarget ph || !s.policy.integrity || s.hw.suspended || (s.physOf ph).flagged.isSome then s1
        else logEv s1 (ph / 36) { ev eTestDeferred with parts := pbitO (s.ownerOf c), ukind := uCluster, unit := ph, lcluster := c })
/-- CLUSTER_BORROWED (R368): at 6 powered hours past due it takes a PASSED cluster of another die. -/
def execClusterBorrowed (c : Nat) (s : State) : Host.Outcome State Fault Refusal :=
  match s.physOfRole c with
  | none => .next s
  | some ph =>
    let x := s.physOf ph
    if !x.due || x.borrow || x.flagged.isSome || s.unitRetired uCluster ph || decide (s.psec < s.dueAt ph + 21600) || s.hasTarget ph then .next s
    else
      let s1 := (s.setPhys ph { x with borrow := true }).refreshHolds
      .next (if s1.hasTarget ph then
        logEv s1 (ph / 36) { ev eClusterBorrowed with parts := pbitO (s.ownerOf c), ukind := uCluster, unit := ph, lcluster := c } else s1)

/-! ### Migration -/

/-- MIGRATION_START (R367): the head of the queue is at its command boundary; its role begins to move. -/
def execMigrationStart (c : Nat) (s : State) : Host.Outcome State Fault Refusal :=
  match s.physOfRole c with
  | none => .next s
  | some ph =>
    if !(s.cluster c).hold || !s.atBoundary c || s.hw.takeover || (s.hw.queued.any fun a => a.kind == uCluster && a.num == ph) then .next s
    else
      match s.targets.find? fun q => q.1 == ph with
      | none => .next s
      | some q => .next (s.setCluster c { s.cluster c with moving := some q.2 })
/-- MIGRATION_DONE (R367): the new physical cluster has the role, and dispatch resumes; the old one is zeroed and tested. -/
def execMigrationDone (c : Nat) (s : State) : Host.Outcome State Fault Refusal :=
  match (s.cluster c).moving, s.physOfRole c with
  | some new, some old =>
    if s.hw.takeover then .next s
    else .next ((((s.copied (clusterWord c)).freed old (pbitO (s.ownerOf c))).takeRole c new).refreshHolds)
  | _, _ => .next s
/-- MIGRATION_HOLD_RELEASE (R367): a due cluster found no boundary within 10 ms. A flagged one, or one 6 h past due, stays held. -/
def execMigrationHoldRelease (c : Nat) (s : State) : Host.Outcome State Fault Refusal :=
  match s.physOfRole c with
  | none => .next s
  | some ph =>
    let x := s.physOf ph
    .next (if (s.cluster c).hold && (s.cluster c).moving.isNone && x.due && x.flagged.isNone && !s.unitRetired uCluster ph
        && decide (s.psec ≤ s.dueAt ph + 21600) && !s.atBoundary c then
      s.setCluster c { s.cluster c with hold := false, retry := true } else s)
/-- MIGRATION_RETRY (R367): a powered minute later it is tried again. -/
def execMigrationRetry (c : Nat) (s : State) : Host.Outcome State Fault Refusal :=
  .next (if (s.cluster c).retry then (s.setCluster c { s.cluster c with retry := false }).refreshHolds else s)

/-! ### In-field tests (R369) -/

/-- The test of a cluster passes. -/
def State.testPass (s : State) (ph : Nat) : State :=
  let x := s.physOf ph
  ((s.setPhys ph { x with cond := .passed, lastPass := some x.testStart, retried := false, recDirty := true, heldParts := 0 }).endAction
    uCluster ph).refreshHolds
/-- An UNTESTED fallow cluster begins its test where tests run (log entry 38). -/
def State.testBegin (s : State) (ph : Nat) : State :=
  if (s.physOf ph).cond = .untested ∧ s.policy.integrity ∧ !s.hw.suspended then
    s.setPhys ph { s.physOf ph with cond := .testing, testStart := s.psec, retried := false } else s
/-- TEST_KERNEL_DONE: a known-answer kernel has ended; its digests agree or differ; it is the last one or not. -/
def execTestKernelDone (ph : Nat) (agrees last : Bool) (s : State) : Host.Outcome State Fault Refusal :=
  let s := s.testBegin ph
  let x := s.physOf ph
  if 288 ≤ ph ∨ x.cond ≠ .testing then .next s
  else if agrees then
    if x.retried then
      .next (logUnit (s.setPhys ph { x with retried := false, testStart := s.psec }) (ph / 36)
        { ev eTestRetry with ukind := uCluster, unit := ph, parts := x.heldParts } 0)
    else .next (if last then s.testPass ph else s)
  else if x.retried then
    .next ((logEv s (ph / 36) { ev eTestFail with ukind := uCluster, unit := ph, parts := x.heldParts, rstate := 2 }).retirePhys ph false)
  else .next (s.setPhys ph { x with retried := true })

/-! ### Replacement (R370) -/

/-- The fallow clusters that are not already the target of a migration. -/
def State.pool (s : State) (x : PhysCond) : List Nat :=
  (s.inCond x).filter fun ph => !s.clusters.any fun q => q.2.moving == some ph
/-- The replacement for a role on a die, and whether it is to be flagged. -/
def State.choose (s : State) (die : Nat) : Option (Nat × Bool) :=
  match pickPhys (s.pool .passed) die with
  | some ph => some (ph, false)
  | none =>
    match pickPhys (s.pool .untested) die with
    | some ph => some (ph, true)
    | none => (pickPhys (s.pool .testing) die).map fun ph => (ph, true)
/-- A role goes to the cluster that R370 chooses. -/
def State.replaceRole (s : State) (c ph : Nat) (flag : Bool) : State :=
  let s1 := (s.endAction uCluster ph).takeRole c ph
  if flag then s1.flagOnly ph else s1
/-- No fallow cluster remains: the logical cluster is absent. -/
def State.roleAbsent (s : State) (c : Nat) : State :=
  let s1 := s.setCluster c { s.cluster c with absent := true, hold := false, moving := none }
  match s.ownerOf c with
  | none => s1
  | some p =>
    let s2 := (upTo 16).foldl (fun s i => s.setReg (aCSet p i (c / 64)) (setFld (s.reg (aCSet p i (c / 64))) (c % 64) (c % 64) 0)) s1
    let s3 := s2.setReg (aEpoch p) (setFld (s2.reg (aEpoch p)) 15 0 (fld (s2.reg (aEpoch p)) 15 0 + 1))
    let s4 := logEv s3 (c / 32) { ev eClusterAbsent with parts := pbit p, lcluster := c, rstate := 2 }
    if (s4.part p).clusters.all fun x => (s4.cluster x).absent then s4.partFatal p else s4

/-- CLUSTER_REPLACE (R370): the retired cluster of a role is at its command boundary. -/
def execClusterReplace (c : Nat) (s : State) : Host.Outcome State Fault Refusal :=
  match s.physOfRole c with
  | none => .next s
  | some ph =>
    if !s.unitRetired uCluster ph || !s.atBoundary c || s.hw.takeover
        || (s.hw.queued.any fun a => a.kind == uCluster && a.num == ph) then .next s
    else
      let s0 := s.copied (clusterWord c)
      let s1 := (s0.setPhys ph { s0.physOf ph with cond := .retired, heldParts := (s0.physOf ph).heldParts ||| pbitO (s.ownerOf c) }).endAction uCluster ph
      .next (match s1.choose (ph / 36) with
        | none => s1.roleAbsent c
        | some q => s1.replaceRole c q.1 q.2)

/-- ROTATION_RECORD_WRITE (R366): the record of a physical cluster that has passed or been retired is written. -/
def execRotationRecordWrite (ph : Nat) (s : State) : Host.Outcome State Fault Refusal :=
  let x := s.physOf ph
  .next (if ph < 288 ∧ x.recDirty then
    s.setPhys ph { x with recDirty := false, recPass := x.lastPass, recRetired := x.recRetired || s.unitRetired uCluster ph } else s)

/-! ### Suspension (R371) -/

/-- Enabled clusters that are past due: due for their test by R366. -/
def State.pastDue (s : State) : List Nat :=
  (upTo 288).filter fun ph => (match s.roleOf ph with
    | some c => (s.ownerOf c).isSome
    | none => false) && decide (s.dueAt ph ≤ s.psec)
/-- Every cluster that is past due is flagged (R371, R430). -/
def State.flagPastDue (s : State) : State := s.pastDue.foldl (fun s ph => s.flagOnly ph) s

end Sys2Proof.Machine
end

