-- ==== Sys2Proof/Machine/Boot.lean ====
section
/-! DEFINITION. The boot sequence (R420-R424): ROM, IMAGE, INIT, MEMORY, READY; the POLICY and the MONITOR that it puts in force. -/

namespace Sys2Proof.Machine

/-- Power is good and SYS_RST_N is not asserted. -/
def State.live (s : State) : Bool := s.power.pwrGood && s.power.sysRstN

/-! ### Stage 1, ROM -/

/-- R442, Table 14.1: the state code that the STATE fuse gives. -/
def Life.fused (l : Life) : Nat :=
  if l.scrapped then 3 else if l.provisions = 0 then 0 else if l.returns < l.provisions then 1 else 2
/-- Every fuse is read, and a token nonce is drawn (R433, R445). -/
def Life.readFuses (l : Life) : Life :=
  { l with lc := l.fused, ownerN := l.ownerDig.length, noId := l.udsKill, nonceNo := l.nonceNo + 1 }

/-- BOOT_ROM (R421, R358): the pairs' self-tests have passed or failed. IOA's pair is active whenever it passes. In SCRAPPED, both
slots are erased and the boot goes no further (R449). -/
def execBootRom (iaOk ibOk : Bool) (s : State) : Host.Outcome State Fault Refusal :=
  .next (if !s.live || s.boot.stage != 1 || s.hw.fatal then s
    else
      let s1 := { s with life := s.life.readFuses
                         hw := { s.hw with activeB := !iaOk, standby := iaOk && ibOk } }
      if !iaOk && !ibOk then
        s1.deviceFatal 16 { ev eHaywardLost with ukind := uPair, unit := 1, rstate := 2 }
      else
        let s2 := if iaOk && ibOk then s1 else
          logEv s1 16 { ev eStandbyLost with ukind := uPair, unit := b2n iaOk, rstate := 2 }
        if s2.life.lc = 3 then { s2 with boot := (s2.boot.eraseSlot false).eraseSlot true }
        else { s2 with boot := { s2.boot with stage := 2 } })

/-! ### Stage 2, IMAGE -/

/-- R422: the order in which slots are tried, and the slot on trial. -/
def Boot.order (f : Boot) : List Bool × Option Bool :=
  match newestSlot f.slotRecs with
  | none => ([false, true], none)
  | some r => if r.trialValid then ([r.trial, r.confirmed], some r.trial) else ([r.confirmed, !r.confirmed], none)
/-- A trial is attempted once: its record is written with trial_valid 0. -/
def Boot.endTrial (f : Boot) : Boot :=
  match newestSlot f.slotRecs with
  | none => f
  | some r => { f with slotRecs := putSlot f.slotRecs false r.trial r.confirmed }
/-- What the keys of R437 are derived from: the digests of BOOT and CAL, the state, the owner index and the expected owner digest. -/
def l1Of (l : Life) (im : ImageRead) : List Byte :=
  digBytes (secOf im.secs 1).digest ++ digBytes (secOf im.secs 4).digest ++ leBytes 1 l.lc
    ++ leBytes 1 (if l.ownerN = 0 then 0xFF else l.ownerN - 1) ++ digBytes (l.ownerExpected im.keys false)
/-- Boot from a slot: its sections are in force. -/
def State.bootFrom (s : State) (b : Bool) (im : ImageRead) (ck : W64) (trial : Option Bool) : State :=
  let v := setFld (setFld ck 3 3 (b2n b)) 5 5 (b2n (trial == some b))
  let t := s.setReg aCK v
  { t with boot := { t.boot with stage := 3, slotB := b, secs := im.secs, keys := im.keys, l1 := l1Of t.life im
                                 newPolicy := some (decodePolicy im.policy) } }
/-- Table 13.13: the first slot was refused, and why. -/
def refusedCk (ck : W64) (code : Nat) : W64 := setFld (setFld ck 4 4 1) 11 8 code
/-- R448: a boot in RETURNED erases every slot whose image is not valid. -/
def State.eraseBad (s : State) : State :=
  if s.life.lc = 2 then
    ([false, true] : List Bool).foldl (fun s b => match s.boot.check s.life b false with
      | .ok _ => s
      | .error _ => { s with boot := s.boot.eraseSlot b }) s
  else s

/-- BOOT_IMAGE (R421, R422, R419, R435, R448): the chosen slot, the other one, or RECOVERY. -/
def execBootImage (s : State) : Host.Outcome State Fault Refusal :=
  .next (if !s.live || s.boot.stage != 2 then s
    else
      let o := s.boot.order
      let a := o.1.headD false
      let b := o.1.getD 1 true
      let s1 := if o.2.isSome then { s with boot := s.boot.endTrial } else s
      (match s.boot.check s.life a false with
      | .ok im => s1.bootFrom a im (s1.reg aCK) o.2
      | .error n =>
        match s.boot.check s.life b false with
        | .ok im => s1.bootFrom b im (refusedCk (s1.reg aCK) n) o.2
        | .error _ =>
          let t := s1.setReg aCK (refusedCk (s1.reg aCK) n)
          { t with boot := { t.boot with stage := 6 } }).eraseBad)

/-! ### Stage 3, INIT -/

/-- The place of n bytes in device-private base SRAM: the lowest run of ungranted granules clear of [lo, hi) (log entry 13). -/
def State.privatePlace (s : State) (n lo hi : Nat) : Nat :=
  let k := (n + 0x1FFFFF) / 0x200000
  let free := s.ungranted.filter fun g => !(lo < granuleAddr (g + 1) && granuleAddr g < hi)
  granuleAddr ((free.find? fun g => (upTo k).all fun i => free.contains (g + i)).getD (free.headD 0))
/-- The MONITOR copy of a boot (R475). -/
def State.placeMonitor (s : State) : State :=
  let l := s.boot.section s.boot.slotB (entryOf (s.boot.entries s.boot.slotB) 2)
  let a := s.privatePlace l.length 0 0
  { s with mem := { s.mem with bytes := wrBytes 0 s.mem.bytes a l }
           boot := { s.boot with monBase := a, monLen := l.length, monVec := a + leNat (l.take 8) } }

/-- A later valid record names the same location and replaces this one (R267). -/
def governed (l : List RepairRec) (r : RepairRec) : Bool := l.any fun x => x.crcOk && r.over x
/-- A used remap slot or spare granule. -/
def State.useSlot (s : State) (a t : Nat) : State :=
  match s.grantPart a with
  | some p => if t < 128 ∧ 0 < s.resvLeft p then
      { s with repair := { s.repair with slotsUsed := sadd s.repair.slotsUsed t
                                         resvUsed := mput 0 s.repair.resvUsed p (mget 0 s.repair.resvUsed p + 1) } }
    else if t < 128 then { s with repair := { s.repair with slotsUsed := sadd s.repair.slotsUsed t } } else s
  | none => if t < 128 then { s with repair := { s.repair with slotsUsed := sadd s.repair.slotsUsed t } } else s
/-- One record replayed (Table 8.9). -/
def State.replay (s : State) (r : RepairRec) : State :=
  if r.type = 1 ∨ r.type = 2 then
    let k := s.bank r.place
    s.setBank r.place { k with map := madd k.map r.row r.target, spareUsed := max k.spareUsed (r.target + 1) }
  else if r.type = 3 then (s.retireUnit uBaseBank r.place).setBank r.place { s.bank r.place with retired := true }
  else if r.type = 4 then
    if 0x2000000 ≤ r.place then
      let g := r.place - 0x2000000
      let t := s.useSlot (granuleAddr g) r.target
      { t with repair := { t.repair with granuleAt := madd t.repair.granuleAt g r.target } }
    else
      { s with repair := { s.repair with ddrAt := madd s.repair.ddrAt r.place r.target
                                         ddrPoolUsed := max s.repair.ddrPoolUsed (r.target + 1) } }
  else if r.type = 5 then
    if s.granted r.place && !s.isAbsent r.place then
      { s with repair := { s.repair with absent := s.repair.absent ++ [r.place] } } else s
  else if r.type = 8 then s.setPhys r.place { s.physOf r.place with erased := sadd (s.physOf r.place).erased r.row }
  else s
/-- R267: the records are replayed in SEQ order; one whose CRC fails is skipped and logged. -/
def State.replayAll (s : State) : State :=
  let l := s.repair.recs
  l.foldl (fun s r =>
    if !r.crcOk then logEv s 16 { ev eRepairLog with detail := 1 }
    else if governed l r then s else s.replay r) s

/-- R366: a physical cluster as its rotation record leaves it at boot (log entry 10). -/
def State.bootPhys (s : State) (ph : Nat) : State :=
  let x := s.physOf ph
  let cond := if x.recRetired then PhysCond.retired
    else match (Phys.reset ph).cond with
      | .role c => .role c
      | _ => if x.recPass.isSome then .passed else .untested
  let s1 := s.setPhys ph { x with cond, lastPass := x.recPass }
  if x.recRetired then s1.retireUnit uCluster ph else s1
/-- Every role has a physical cluster: one whose own is retired is placed as R370 says. -/
def State.placeRoles (s : State) : State :=
  let s1 := (upTo 288).foldl (fun s ph => s.bootPhys ph) s
  (upTo 256).foldl (fun s c => match s.physOfRole c with
    | some _ => s
    | none => match s.choose (c / 32) with
      | some q => s.replaceRole c q.1 q.2
      | none => s.roleAbsent c) s1

/-- BOOT_INIT (R421, R420, R267, R232, R475): SRAM is zero, records are replayed, POLICY is in force, roles have their clusters. -/
def execBootInit (s : State) : Host.Outcome State Fault Refusal :=
  .next (if !s.live || s.boot.stage != 3 then s
    else
      match s.boot.newPolicy with
      | none => s
      | some n =>
        let s1 := { s with policy := n, boot := { s.boot with newPolicy := none, stage := 4 }
                           mem := { s.mem with bytes := [], psn := [], writeback := [], detected := [] } }
        s1.replayAll.placeRoles.placeMonitor)

/-! ### Stage 4, MEMORY, and READY -/

/-- R264: a recorded soft repair of an LPDDR6 row is applied again. -/
def State.softRepair (s : State) (r : RepairRec) : State :=
  let chan := r.place % 128
  let arg := r.place / 128
  { s with repair := { s.repair with rows := { chan, bank := arg % 256, row := arg / 256, addr := r.target, inProgress := false }
    :: s.repair.rows } }
/-- R266: the at most eight oldest recorded soft repairs that a hard repair resource is left for are hardened. -/
def State.harden (s : State) : State :=
  let l := s.repair.recs
  let soft := l.filter fun r => r.crcOk && r.type == 6 && !governed l r && Config.hardResource (r.place % 128) (r.place / 128)
  (soft.take 8).foldl (fun s r => s.record 7 r.die r.unit r.row r.place r.target) s

/-- BOOT_MEMORY (R421, R422): LPDDR6 is trained, repaired and zero after ms in all; the device is READY, and its slot confirmed. -/
def execBootMemory (ms : Nat) (s : State) : Host.Outcome State Fault Refusal :=
  .next (if !s.live || s.boot.stage != 4 then s
    else
      let l := s.repair.recs
      let s1 := (l.filter fun r => r.crcOk && (r.type == 6 || r.type == 7) && !governed l r).foldl (fun s r => s.softRepair r) s
      let s2 := if s1.policy.ddrHarden then s1.harden else s1
      let s3 := s2.setReg aCK (setFld (s2.reg aCK) 31 16 (satN 16 ms))
      { s3 with boot := { s3.boot with stage := 5, slotRecs := putSlot s3.boot.slotRecs false s3.boot.slotB s3.boot.slotB } })

end Sys2Proof.Machine
end

