-- ==== Sys2Proof/Machine/Cover.lean ====
section
/-! DEFINITION. Fresh check values (R304): which bytes of each 4 KiB block a command has written, and the values that its
completion gives. -/

namespace Sys2Proof.Machine

/-- n bytes at a count as written: by 4 KiB block, a mask of its bytes. -/
def coverAdd (m : SMap Nat) (a n : Nat) : SMap Nat :=
  if n = 0 then m
  else
    (List.range ((a + n - 1) / 4096 - a / 4096 + 1)).foldl (fun m i =>
      let b := a / 4096 + i
      let lo := max a (b * 4096)
      let hi := min (a + n) ((b + 1) * 4096)
      mput 0 m b (mget 0 m b ||| ((2 ^ (hi - lo) - 1) * 2 ^ (lo - b * 4096)))) m

/-- The union of two such maps. -/
def coverUnion (m m' : SMap Nat) : SMap Nat := m'.foldl (fun m q => mput 0 m q.1 (mget 0 m q.1 ||| q.2)) m

/-- Give each block written whole, and holding no poison, its fresh value. -/
def State.coverFresh (s : State) (die : Nat) (m : SMap Nat) : State :=
  m.foldl (fun s q =>
    if q.2 = 2 ^ 4096 - 1 then
      let l := s.peek (q.1 * 4096) 4096
      if pbPsn l then s else s.cvSet die (q.1 * 4096) (crc32c (l.map (·.1))).toNat
    else s) s

end Sys2Proof.Machine
end

