-- ==== Sys2Proof/Machine/Scalar.lean ====
section
/-! DEFINITION. The scalar loads and stores of class 0x3 (R169-R171), the data cache (R186-R189), and the core's own way to
control space (R14, R171, R193, R225). -/

namespace Sys2Proof.Machine

/-! ### The data cache -/

/-- The miss register of a line delivers it to the cache and is free (R187). -/
def Core.dcArrive (k : Core) (line : Nat) : Core :=
  match k.misses.find? fun m => m.line.addr == line with
  | none => k
  | some m => { k with dcache := cachePut k.dcache m.line, misses := k.misses.filter fun x => x.line.addr != line }
/-- The line whose miss register has waited longest arrives: what a stalled load waits for. -/
def Core.dcOldest (k : Core) : Core :=
  match k.misses with
  | [] => k
  | m :: _ => k.dcArrive m.line.addr

/-- A load that misses: merged into its line's register, or a register of its own; where none can take it, issue stalls
until one frees (R187). -/
def dcMiss (s : State) (d a n : Nat) : State × List PB :=
  let k := s.core d
  match k.misses.find? fun m => m.line.addr == a / 64 * 64 with
  | some m =>
    let k1 := if m.loads < 8 then
        { k with misses := k.misses.map fun x => if x.line.addr = a / 64 * 64 then { x with loads := x.loads + 1 } else x }
      else k.dcArrive (a / 64 * 64)
    (s.setCore d k1, m.line.bytes a n)
  | none =>
    let s1 := if k.misses.length < 8 then s else s.setCore d k.dcOldest
    let r := readLine s1 d a
    (r.1.setCore d { r.1.core d with misses := (r.1.core d).misses ++ [⟨r.2, 1⟩] }, r.2.bytes a n)

/-- A scalar load of n bytes from memory (R186, R189, R244). -/
def dcLoad (s : State) (d a n : Nat) : State × List PB :=
  let k := s.core d
  if !k.dce then readMem s (s.dieOf (d / 8)) a n
  else
    match cacheFind k.dcache a with
    | some l =>
      if l.bad then dcMiss (parityError (s.setCore d { k with dcache := cacheDrop k.dcache a }) d false a) d a n
      else (s.setCore d { k with dcache := cachePut k.dcache l }, l.bytes a n)
    | none => dcMiss s d a n

/-- Bytes stored into a line at an address. -/
def CacheLine.store (l : CacheLine) (a : Nat) (b : List PB) : CacheLine :=
  if l.addr = a / 64 * 64 then
    let old := l.bytes l.addr 64
    lineOf l.addr (old.take (a % 64) ++ b ++ old.drop (a % 64 + b.length))
  else l

/-- A store that hits updates the line, present or on its way (R186). -/
def Core.dcStore (k : Core) (a : Nat) (b : List PB) : Core :=
  if !k.dce then k
  else { k with dcache := mput [] k.dcache (cacheSet a) ((mget [] k.dcache (cacheSet a)).map fun l => l.store a b)
                misses := k.misses.map fun m => { m with line := m.line.store a b } }

/-- R303, R304: a core's write; a check entry outside the region table fails its command, and stays as it is. -/
def coreWrite (s : State) (d a : Nat) (b : List PB) : State :=
  match s.cvOk (s.corePart d) a b.length with
  | none => storeMem s (s.dieOf (d / 8)) a b
  | some _ =>
    let s1 := writeMem s (s.dieOf (d / 8)) a b
    s1.setCore d { s1.core d with cvOut := true }

/-! ### Addressed loads and stores -/

/-- A loaded value as an entry: zero- or sign-extended. -/
def loadVal (signed : Bool) (n : Nat) (l : List PB) : Entry :=
  ⟨if signed then wInt (sx (8 * n) (pbNat l)) else w64 (pbNat l), pbPsn l⟩

/-- A control-space read by core d (R14): all ones and a log entry for another size than 4 or 8. -/
def ctlLoad (s : State) (d a n : Nat) : State × W64 :=
  match regLanes a n with
  | none => (badAccess s (s.dieOf (d / 8)) (s.corePart d) a, w64 (2 ^ (8 * n) - 1))
  | some _ =>
    let v := readReg s (a / 8 * 8)
    (s, if n = 8 then v else if a % 8 = 4 then v >>> 32 else v &&& 0xFFFFFFFF)

/-- LDxx of n bytes. -/
def ldBody (signed : Bool) (n d : Nat) (s : State) : Body :=
  match (s.core d).need 1 with
  | .error e => .fault s cStack e
  | .ok k =>
    let x := k.ds.getD 0 ⟨0, false⟩
    let a := x.val.toNat
    let p := s.corePart d
    let s1 := s.setCore d { k with ds := k.ds.drop 1 }
    if x.psn then .fault s cDataPoison 0
    else if a % n ≠ 0 then .fault s cAlign a
    else if isControl a then
      if !ctlReach s p a then .fault s cAccess a
      else
        let r := ctlLoad s1 d a n
        .stay (r.1.setCore d { r.1.core d with run := .waitControl (loadVal signed n (pbOf n r.2.toNat false)) })
    else if (k.priv == .M && s.inMonitor a n) || (s.chk p [pR] a n).isOk then
      let r := dcLoad s1 d a n
      stackBody r.1 d ((r.1.core d).claim.push (loadVal signed n r.2))
    else .fault s cAccess a

/-- The address is a register of core d's own CC or EX block. -/
def ownCcEx (d a : Nat) : Bool := decide (aCoreWin d + 0x100 ≤ a) && decide (a < aCoreWin d + 0x300)

/-- A control-space write by core d: its own window with the rights of its level, others by the partition's rules (R14). -/
def ctlStore (s : State) (d a n : Nat) (v : W64) : State :=
  match regLanes a n with
  | none => badAccess s (s.dieOf (d / 8)) (s.corePart d) a
  | some m =>
    let w := a / 8 * 8
    if aCoreWin d ≤ w ∧ w < aCoreWin (d + 1) then
      s.setCore d ((s.core d).write (s.core d).priv (w % 0x1000) m (laneVal a v))
    else writeReg s false (s.corePart d) w m (laneVal a v)

/-- STxx of n bytes. -/
def stBody (n d : Nat) (s : State) : Body :=
  match (s.core d).need 2 with
  | .error e => .fault s cStack e
  | .ok k =>
    let x := k.ds.getD 1 ⟨0, false⟩
    let ad := k.ds.getD 0 ⟨0, false⟩
    let a := ad.val.toNat
    let p := s.corePart d
    let s1 := s.setCore d { k with ds := k.ds.drop 2, sawPoison := k.sawPoison || x.psn }
    if k.priv = .U ∧ ownCcEx d a then .fault s cPrivilege 0
    else if ad.psn then .fault s cDataPoison 0
    else if a % n ≠ 0 then .fault s cAlign a
    else if isControl a then
      if !ctlReach s p a then .fault s cAccess a else .retire (ctlStore s1 d a n x.val)
    else if (s.chk p [pW] a n).isOk then
      let b := pbOf n x.val.toNat x.psn
      let s2 := coreWrite s1 d a b
      .retire (s2.setCore d { (s2.core d).dcStore a b with storesOut := (s2.core d).storesOut + 1
                                                           cvCover := mdel (s2.core d).cvCover (a / 4096) })
    else .fault s cAccess a

/-- LD8U. -/
def execLd8u (d : Nat) (s : State) : Host.Outcome State Fault Refusal := .next (issue s d 0x3000 .plain (ldBody false 1 d))
/-- LD8S. -/
def execLd8s (d : Nat) (s : State) : Host.Outcome State Fault Refusal := .next (issue s d 0x3001 .plain (ldBody true 1 d))
/-- LD16U. -/
def execLd16u (d : Nat) (s : State) : Host.Outcome State Fault Refusal := .next (issue s d 0x3002 .plain (ldBody false 2 d))
/-- LD16S. -/
def execLd16s (d : Nat) (s : State) : Host.Outcome State Fault Refusal := .next (issue s d 0x3003 .plain (ldBody true 2 d))
/-- LD32U. -/
def execLd32u (d : Nat) (s : State) : Host.Outcome State Fault Refusal := .next (issue s d 0x3004 .plain (ldBody false 4 d))
/-- LD32S. -/
def execLd32s (d : Nat) (s : State) : Host.Outcome State Fault Refusal := .next (issue s d 0x3005 .plain (ldBody true 4 d))
/-- LD64. -/
def execLd64 (d : Nat) (s : State) : Host.Outcome State Fault Refusal := .next (issue s d 0x3006 .plain (ldBody false 8 d))
/-- ST8. -/
def execSt8 (d : Nat) (s : State) : Host.Outcome State Fault Refusal := .next (issue s d 0x3008 .plain (stBody 1 d))
/-- ST16. -/
def execSt16 (d : Nat) (s : State) : Host.Outcome State Fault Refusal := .next (issue s d 0x3009 .plain (stBody 2 d))
/-- ST32. -/
def execSt32 (d : Nat) (s : State) : Host.Outcome State Fault Refusal := .next (issue s d 0x300A .plain (stBody 4 d))
/-- ST64. -/
def execSt64 (d : Nat) (s : State) : Host.Outcome State Fault Refusal := .next (issue s d 0x300B .plain (stBody 8 d))

/-! ### Local loads and stores -/

/-- LLDxx of n bytes. -/
def lldBody (signed : Bool) (n d : Nat) (s : State) : Body :=
  match (s.core d).need 1 with
  | .error e => .fault s cStack e
  | .ok k =>
    let x := k.ds.getD 0 ⟨0, false⟩
    let off := x.val.toNat
    if x.psn then .fault s cDataPoison 0
    else if off % n ≠ 0 then .fault s cAlign off
    else if !k.lmOk k.priv off n then .fault s cAccess off
    else stackBody s d ({ k with ds := k.ds.drop 1 }.claim.push (loadVal signed n (k.lmRead off n)))
/-- LSTxx of n bytes. -/
def lstBody (n d : Nat) (s : State) : Body :=
  match (s.core d).need 2 with
  | .error e => .fault s cStack e
  | .ok k =>
    let x := k.ds.getD 1 ⟨0, false⟩
    let o := k.ds.getD 0 ⟨0, false⟩
    let off := o.val.toNat
    if o.psn then .fault s cDataPoison 0
    else if off % n ≠ 0 then .fault s cAlign off
    else if !k.lmOk k.priv off n then .fault s cAccess off
    else
      .retire (s.setCore d (({ k with ds := k.ds.drop 2, sawPoison := k.sawPoison || x.psn }).lmWrite off
        (pbOf n x.val.toNat x.psn)))

/-- LLD8U. -/
def execLld8u (d : Nat) (s : State) : Host.Outcome State Fault Refusal := .next (issue s d 0x3400 .plain (lldBody false 1 d))
/-- LLD8S. -/
def execLld8s (d : Nat) (s : State) : Host.Outcome State Fault Refusal := .next (issue s d 0x3401 .plain (lldBody true 1 d))
/-- LLD16U. -/
def execLld16u (d : Nat) (s : State) : Host.Outcome State Fault Refusal := .next (issue s d 0x3402 .plain (lldBody false 2 d))
/-- LLD16S. -/
def execLld16s (d : Nat) (s : State) : Host.Outcome State Fault Refusal := .next (issue s d 0x3403 .plain (lldBody true 2 d))
/-- LLD32U. -/
def execLld32u (d : Nat) (s : State) : Host.Outcome State Fault Refusal := .next (issue s d 0x3404 .plain (lldBody false 4 d))
/-- LLD32S. -/
def execLld32s (d : Nat) (s : State) : Host.Outcome State Fault Refusal := .next (issue s d 0x3405 .plain (lldBody true 4 d))
/-- LLD64. -/
def execLld64 (d : Nat) (s : State) : Host.Outcome State Fault Refusal := .next (issue s d 0x3406 .plain (lldBody false 8 d))
/-- LST8. -/
def execLst8 (d : Nat) (s : State) : Host.Outcome State Fault Refusal := .next (issue s d 0x3408 .plain (lstBody 1 d))
/-- LST16. -/
def execLst16 (d : Nat) (s : State) : Host.Outcome State Fault Refusal := .next (issue s d 0x3409 .plain (lstBody 2 d))
/-- LST32. -/
def execLst32 (d : Nat) (s : State) : Host.Outcome State Fault Refusal := .next (issue s d 0x340A .plain (lstBody 4 d))
/-- LST64. -/
def execLst64 (d : Nat) (s : State) : Host.Outcome State Fault Refusal := .next (issue s d 0x340B .plain (lstBody 8 d))

/-- LLDI: the word at offset 8k (R169). -/
def execLldi (d : Nat) (imm : BitVec 10) (s : State) : Host.Outcome State Fault Refusal :=
  .next (issue s d (0x3800 ||| imm.setWidth 16) .plain fun s =>
    if (s.core d).lmOk (s.core d).priv (8 * imm.toNat) 8 then
      stackBody s d ((s.core d).claim.push ((s.core d).lmEntry imm.toNat))
    else
      match (s.core d).push ⟨0, false⟩ with
      | .error e => .fault s cStack e
      | .ok _ => .fault s cAccess (8 * imm.toNat))
/-- LSTI: to the word at offset 8k (R169). -/
def execLsti (d : Nat) (imm : BitVec 10) (s : State) : Host.Outcome State Fault Refusal :=
  .next (issue s d (0x3C00 ||| imm.setWidth 16) .plain fun s =>
    match (s.core d).need 1 with
    | .error e => .fault s cStack e
    | .ok k =>
      let x := k.ds.getD 0 ⟨0, false⟩
      if k.lmOk k.priv (8 * imm.toNat) 8 then
        .retire (s.setCore d (({ k with ds := k.ds.drop 1, sawPoison := k.sawPoison || x.psn }).lmWrite (8 * imm.toNat)
          (pbOf 8 x.val.toNat x.psn)))
      else .fault s cAccess (8 * imm.toNat))

end Sys2Proof.Machine
end

