-- ==== Sys2Proof/Machine/Flow.lean ====
section
/-! DEFINITION. Transfers, hardware loops, mode, cache maintenance, windows, traps and the end of a kernel (classes 0x4 to 0x6
and 0xA; R172-R180, R185-R191, R214-R222). -/

namespace Sys2Proof.Machine

/-! ### Transfers (R172, R173) -/

/-- The target of a relative transfer. -/
def relTarget (pc : Nat) (o : BitVec 12) : Nat := ((pc : Int) + 2 + 2 * o.toInt).toNat

/-- BRZ. -/
def brzBody (d : Nat) (o : BitVec 12) (s : State) : Body :=
  match (s.core d).need 1 with
  | .error e => .fault s cStack e
  | .ok k =>
    let c := k.ds.getD 0 ⟨0, false⟩
    if c.psn then .fault s cDataPoison 0
    else .transfer (s.setCore d { k with ds := k.ds.drop 1 }) (if c.val = 0 then relTarget k.pc o else k.pc + 4)
/-- BRZ. -/
def execBrz (d : Nat) (imm : BitVec 12) (s : State) : Host.Outcome State Fault Refusal :=
  .next (issue s d (0x4000 ||| imm.setWidth 16) .noEnd (brzBody d imm))

/-- A call to a target: the return address pc + 4 is pushed. -/
def callTo (d : Nat) (k : Core) (target : Nat) (s : State) : Body :=
  match k.rsPush ⟨w64 (k.pc + 4), false⟩ with
  | .error e => .fault s cStack e
  | .ok k1 => .transfer (s.setCore d k1) target
/-- CALL. -/
def execCall (d : Nat) (imm : BitVec 12) (s : State) : Host.Outcome State Fault Refusal :=
  .next (issue s d (0x5000 ||| imm.setWidth 16) .noEnd fun s => callTo d (s.core d) (relTarget (s.core d).pc imm) s)

/-- The popped address of JMPI, CALLI and RET: bit 0 is ignored (R172; of RET by inference, log entry 16). -/
def jumpAddr (x : Entry) : Nat := x.val.toNat / 2 * 2

/-- RET. -/
def retBody (d : Nat) (s : State) : Body :=
  match (s.core d).rsNeed 1 with
  | .error e => .fault s cStack e
  | .ok k =>
    let x := k.rs.getD 0 ⟨0, false⟩
    if x.psn then .fault s cDataPoison 0
    else .transfer (s.setCore d { k with rs := k.rs.drop 1 }) (jumpAddr x)
/-- RET. -/
def execRet (d : Nat) (s : State) : Host.Outcome State Fault Refusal := .next (issue s d 0xA000 .noEnd (retBody d))

/-- JMPI and CALLI. -/
def indirectBody (call : Bool) (d : Nat) (s : State) : Body :=
  match (s.core d).need 1 with
  | .error e => .fault s cStack e
  | .ok k =>
    let x := k.ds.getD 0 ⟨0, false⟩
    let k1 := { k with ds := k.ds.drop 1 }
    if call then
      match k1.rsPush ⟨w64 (k.pc + 4), false⟩ with
      | .error e => .fault s cStack e
      | .ok k2 => if x.psn then .fault s cDataPoison 0 else .transfer (s.setCore d k2) (jumpAddr x)
    else if x.psn then .fault s cDataPoison 0 else .transfer (s.setCore d k1) (jumpAddr x)
/-- JMPI. -/
def execJmpi (d : Nat) (s : State) : Host.Outcome State Fault Refusal := .next (issue s d 0xA002 .noEnd (indirectBody false d))
/-- CALLI. -/
def execCalli (d : Nat) (s : State) : Host.Outcome State Fault Refusal := .next (issue s d 0xA003 .noEnd (indirectBody true d))

/-! ### Hardware loops -/

/-- LOOP (R176): zero instructions are illegal, a count of zero skips the body, a fifth level faults. -/
def loopBody (d : Nat) (n : BitVec 12) (s : State) : Body :=
  if n = 0 then .fault s cIllegal 0
  else
    match (s.core d).need 1 with
    | .error e => .fault s cStack e
    | .ok k =>
      let c := k.ds.getD 0 ⟨0, false⟩
      let k1 := { k with ds := k.ds.drop 1 }
      if c.psn then .fault s cDataPoison 0
      else if 4 ≤ k.loops.length then .fault s cLoopDepth 0
      else if c.val = 0 then .stay (s.setCore d { k1 with pc := k.pc + 2 * n.toNat + 2 })
      else .stay (s.setCore d { k1 with loops := k.loops ++ [⟨k.pc + 2, n.toNat - 1, c.val.toNat⟩], pc := k.pc + 2 })
/-- LOOP. -/
def execLoop (d : Nat) (imm : BitVec 12) (s : State) : Host.Outcome State Fault Refusal :=
  .next (issue s d (0x6000 ||| imm.setWidth 16) .noEnd (loopBody d imm))

/-- LEXIT (R178): the innermost level closes; at its end address no back edge follows. -/
def lexitBody (d : Nat) (s : State) : Body :=
  let k := s.core d
  .stay (s.setCore d { k with loops := k.loops.dropLast, pc := k.pc + 2 })
/-- LEXIT. With no level open it only passes on. -/
def execLexit (d : Nat) (s : State) : Host.Outcome State Fault Refusal :=
  .next (issue s d 0xA010 .noSlot fun s =>
    if (s.core d).atEnd ∨ (s.core d).loops = [] then lexitBody d s
    else
      let k := s.core d
      .retire (s.setCore d { k with loops := k.loops.dropLast }))

/-- LCNT (R179). -/
def lcntBody (d : Nat) (s : State) : Body :=
  match (s.core d).need 1 with
  | .error e => .fault s cStack e
  | .ok k =>
    if (k.ds.getD 0 ⟨0, false⟩).psn then .fault s cDataPoison 0
    else aluOp d 1 (un fun i => match k.loops.reverse[i.toNat]? with
      | some l => w64 l.count
      | none => 0) s
/-- LCNT. -/
def execLcnt (d : Nat) (s : State) : Host.Outcome State Fault Refusal := .next (issue s d 0xA011 .plain (lcntBody d))

/-! ### Mode, caches and order -/

/-- Every earlier instruction has completed: results filled, loads arrived, stores acknowledged (R191; log entry 19). -/
def Core.settle (k : Core) : Core :=
  let k1 := (k.misses.map fun m => m.line.addr).foldl Core.dcArrive k
  { k1 with claims := 0, redClaims := 0, storesOut := 0, vloadsOut := 0 }

/-- MODER. -/
def execModer (d : Nat) (s : State) : Host.Outcome State Fault Refusal :=
  .next (issue s d 0xA020 .plain fun s => stackBody s d ((s.core d).push ⟨(s.core d).mode, false⟩))
/-- MODEW (R191). -/
def modewBody (d : Nat) (s : State) : Body :=
  match (s.core d).need 1 with
  | .error e => .fault s cStack e
  | .ok k =>
    let m := k.ds.getD 0 ⟨0, false⟩
    if k.priv = .U ∧ bitW m.val 0 ≠ k.ie then .fault s cPrivilege 0
    else if m.psn then .fault s cDataPoison 0
    else .retire (s.setCore d { k.settle with ds := k.ds.drop 1, ie := bitW m.val 0, dce := bitW m.val 1 })
/-- MODEW. -/
def execModew (d : Nat) (s : State) : Host.Outcome State Fault Refusal := .next (issue s d 0xA021 .noSlot (modewBody d))

/-- DCINV (R188). -/
def execDcinv (d : Nat) (s : State) : Host.Outcome State Fault Refusal :=
  .next (issue s d 0xA030 .plain fun s => .retire (s.setCore d { s.core d with misses := [], dcache := [] }))
/-- DCINVL (R188). -/
def dcinvlBody (d : Nat) (s : State) : Body :=
  match (s.core d).need 1 with
  | .error e => .fault s cStack e
  | .ok k =>
    let a := k.ds.getD 0 ⟨0, false⟩
    if a.psn then .fault s cDataPoison 0
    else .retire (s.setCore d { k with ds := k.ds.drop 1, dcache := cacheDrop k.dcache a.val.toNat })
/-- DCINVL. -/
def execDcinvl (d : Nat) (s : State) : Host.Outcome State Fault Refusal := .next (issue s d 0xA031 .plain (dcinvlBody d))
/-- ICINV (R185). -/
def execIcinv (d : Nat) (s : State) : Host.Outcome State Fault Refusal :=
  .next (issue s d 0xA032 .plain fun s => .retire (s.setCore d { s.core d with icache := [] }))
/-- FENCE (R171): its wait ends once the stores are acknowledged. -/
def execFence (d : Nat) (s : State) : Host.Outcome State Fault Refusal :=
  .next (issue s d 0xA033 .plain fun s => .retire (s.setCore d { s.core d with storesOut := 0 }))

/-! ### Atomic windows (R217, R218) -/

/-- The window after ATW n. -/
def Core.atw (k : Core) (n : Nat) : Core :=
  let m := min n 1024
  let k1 := { k with winClamp := k.winClamp || decide (1024 < n) }
  if k.winOpen then
    let r := min k.winRem m
    { k1 with winOpen := r != 0, winRem := r }
  else { k1 with winOpen := m != 0, winRem := m }
/-- ATW. -/
def atwBody (d : Nat) (s : State) : Body :=
  match (s.core d).need 1 with
  | .error e => .fault s cStack e
  | .ok k =>
    let n := k.ds.getD 0 ⟨0, false⟩
    if k.priv = .U then .fault s cPrivilege 0
    else if n.psn then .fault s cDataPoison 0
    else .retire (s.setCore d ({ k with ds := k.ds.drop 1 }.atw n.val.toNat))
/-- ATW. -/
def execAtw (d : Nat) (s : State) : Host.Outcome State Fault Refusal := .next (issue s d 0xA040 .plain (atwBody d))
/-- ATWC. -/
def execAtwc (d : Nat) (s : State) : Host.Outcome State Fault Refusal :=
  .next (issue s d 0xA041 .plain fun s =>
    if (s.core d).priv = .U then .fault s cPrivilege 0
    else .retire (s.setCore d { s.core d with winOpen := false, winRem := 0 }))

/-! ### Traps, waits and ends -/

/-- ECALL (R197): completed, then taken. -/
def ecallBody (d : Nat) (s : State) : Body :=
  match (s.core d).need 1 with
  | .error e => .fault s cStack e
  | .ok k => .trap (s.setCore d { k with ds := k.ds.drop 1 }) cEcall (k.ds.getD 0 ⟨0, false⟩).val.toNat
/-- ECALL. -/
def execEcall (d : Nat) (s : State) : Host.Outcome State Fault Refusal := .next (issue s d 0xA050 .plain (ecallBody d))

/-- An interrupt is pending whose target is at or above the current level (R221). -/
def Core.irqPending (k : Core) : Bool := k.abortPend.isSome || k.hwPend.isSome || (k.softPend && k.priv != .M)
/-- WFI (R221). -/
def wfiBody (d : Nat) (s : State) : Body :=
  let k := s.core d
  if k.priv = .U then .fault s cPrivilege 0
  else if k.irqPending then .retire s
  else .stay (s.setCore d { k with run := .waitIrq })
/-- WFI. -/
def execWfi (d : Nat) (s : State) : Host.Outcome State Fault Refusal := .next (issue s d 0xA060 .plain (wfiBody d))

/-- The status with which KEND ends the core's part (R222). -/
def Core.kendStatus (k : Core) : Status :=
  if k.priv = .U then .ok
  else if bitW k.exKstat 8 then (Status.ofCode (fld k.exKstat 7 0)).getD .ok
  else if fld k.exLastCause 7 0 = 0 then .ok
  else defaultStatus (fld k.exLastCause 7 0) k.exLastDetail.toNat (fld k.vxFault 23 20)

/-- The monitor ends a kernel for a cause that reached M because it arose there, ECALL at S or M included (R224, last rows). -/
def Core.mFault (k : Core) : Bool :=
  let c := fld k.exLastCause 7 0
  k.priv == .M && fld k.exLastCause 9 8 == 3 && !k.mfaActive
    && !([cDataPoison, cVecPair, cPrivReturn, cAbort, cHayward].contains c)

/-- KEND (R222): fetch stops once every earlier instruction has completed; at S or M the return stack is discarded and the
window closed. -/
def Core.kend (k : Core) : Core :=
  let k1 := { k.settle with run := .idle, endStatus := some k.kendStatus }
  if k.priv = .U then k1
  else { k1 with rs := [], rsSpill := 0, mfaActive := false, mfaFrames := 0, winOpen := false, winRem := 0 }
/-- KEND's effect, with the monitor's log entry. -/
def kendBody (d : Nat) (s : State) : Body :=
  let k := s.core d
  let s1 := s.setCore d k.kend
  .stay (if k.mFault then
    logUnit s1 (s.dieOf (d / 8)) (s.ofKernel d { ev eMFault with
      parts := pbitO (s.ownerOf (d / 8)), ukind := uCore, unit := s.phOf (d / 8) * 8 + d % 8, lcluster := d / 8
      status := k.kendStatus.code, detail := fld k.exLastCause 7 0 }) 0
    else s1)
/-- KEND. -/
def execKend (d : Nat) (s : State) : Host.Outcome State Fault Refusal := .next (issue s d 0xA070 .noSlot (kendBody d))

/-- NOP. -/
def execNop (d : Nat) (s : State) : Host.Outcome State Fault Refusal := .next (issue s d 0xA0F0 .plain fun s => .retire s)
/-- A reserved class, an unlisted encoding or LOOP 0 (R164). -/
def execIllegalInstr (d : Nat) (imm : BitVec 16) (s : State) : Host.Outcome State Fault Refusal :=
  .next (issue s d imm .plain fun s => .fault s cIllegal 0)

/-! ### RTE (R214, R215) -/

/-- The core that a frame restores, its frame already removed. -/
def Core.restore (k : Core) (e : List W64) (lvl : Priv) : Core :=
  let e0 := e.getD 0 0
  let e2 := e.getD 2 0
  { k.settle with
    pc := fld e0 47 0
    slot := if bitW e0 48 then some (fld (e.getD 1 0) 47 0) else none
    priv := lvl, ie := bitW e2 8, dce := bitW e2 9, loops := frameLoops e
    winOpen := bitW e2 43, winRem := if bitW e2 43 then fld e2 42 32 else 0 }

/-- RTE: the checks of R215 on the top frame, of the return stack or of the machine frame area, then the return. -/
def rteBody (d : Nat) (s : State) : Body :=
  let k := s.core d
  let go := fun (l : List Entry) (k1 : Core) =>
    let e := l.map (·.val)
    match Priv.ofCode (fld (e.getD 2 0) 1 0) with
    | none => Body.fault s cPrivReturn (e.getD 2 0).toNat
    | some lvl =>
      if lvl.above k.priv || l.any (·.psn) then Body.fault s cPrivReturn (e.getD 2 0).toNat
      else Body.stay (s.setCore d (k1.restore e lvl))
  if k.mfaActive then
    go k.mfaTop (if k.mfaFrames ≤ 1 then k.mfaThaw else { k with mfaFrames := k.mfaFrames - 1 })
  else
    match k.rsNeed 16 with
    | .error e => .fault s cStack e
    | .ok k1 => go (k1.rs.take 16) { k1 with rs := k1.rs.drop 16 }
/-- RTE. -/
def execRte (d : Nat) (s : State) : Host.Outcome State Fault Refusal := .next (issue s d 0xA001 .noEnd (rteBody d))

end Sys2Proof.Machine
end

