-- ==== Sys2Proof/Machine/Enqueue.lean ====
section
/-! DEFINITION. Barriers (R277, R291, R292), and the enqueue of engine work by a core: MXQ, SEQ, tickets, QWAIT and QTEST
(R181-R183). -/

namespace Sys2Proof.Machine

/-! ### Barriers -/

/-- A barrier is satisfied while (COUNT − THRESH) mod 2^32 is below 2^31. -/
def barSat (w : W64) : Bool := (fld w 31 0 + 2 ^ 32 - fld w 63 32) % 2 ^ 32 < 2 ^ 31
/-- The register of mask bit i (R277). -/
def barAddr (c p cb pb i : Nat) : Nat := if i < 6 then aCB c ((cb + i) % 32) else aPB p ((pb + i - 6) % 64)
/-- The barriers that a mask names. -/
def maskBars (c p cb pb m : Nat) : List Nat :=
  ((upTo 12).filter fun i => m / 2 ^ i % 2 == 1).map (barAddr c p cb pb)
/-- Every barrier of a header's WAIT mask is satisfied. -/
def State.waitOk (s : State) (c p cb pb : Nat) (hdr : W64) : Bool :=
  (maskBars c p cb pb (fld hdr 27 16)).all fun a => barSat (s.reg a)
/-- Add 1 to COUNT. -/
def State.signalBar (s : State) (a : Nat) : State := s.setReg a (setFld (s.reg a) 31 0 (fld (s.reg a) 31 0 + 1))
/-- Signal each barrier of a header's SIGNAL mask, where the status signals (R292). -/
def State.signalMask (s : State) (c p cb pb : Nat) (hdr : W64) (st : Status) : State :=
  if st.signals then (maskBars c p cb pb (fld hdr 39 28)).foldl State.signalBar s else s

/-! ### Records -/

/-- OPCODE of a record. -/
def opOf (w : List W64) : Nat := fld (w.getD 0 0) 7 0
/-- SEQ of a record. -/
def seqOf (w : List W64) : Nat := fld (w.getD 0 0) 63 48
/-- The record is an MX_MATMUL with EXT set (Table 3.5). -/
def wantsExt (w : List W64) : Bool := opOf w == 0x20 && bitW (w.getD 3 0) 51
/-- The words of 8n bytes. -/
def pbWords (l : List PB) : List W64 := (upTo (l.length / 8)).map fun i => w64 (pbNat ((l.drop (8 * i)).take 8))

/-! ### Tickets -/

/-- The lowest-numbered free ticket. -/
def Core.freeTicket (k : Core) : Option Nat := (upTo 8).find? fun t => (mfind k.tickets t).isNone
/-- A ticket of the engine that still waits at the core, issued before the one with this order. -/
def Core.waitsAhead (k : Core) (e : Engine) (order : Nat) : Bool :=
  k.tickets.any fun q => q.2.eng == e && decide (q.2.order < order) &&
    match q.2.st with
    | .waiting _ _ => true
    | _ => false
/-- The completion word (Table 6.5). -/
def compWord (st : Status) (flags : BitVec 8) (seq : Nat) : W64 := w64 (st.code + flags.toNat * 2 ^ 8 + seq % 2 ^ 16 * 2 ^ 16)
/-- The engine executes this opcode. -/
def Engine.takes (e : Engine) (op : Nat) : Bool := match e with
  | .mx => op == 0x20 || op == 0x21
  | .se => op == 0x30
/-- The queue of an engine. -/
def Cluster.queue (k : Cluster) : Engine → List EngCmd
  | .mx => k.mxQ
  | .se => k.seQ
/-- A command behind those in an engine's queue. -/
def Cluster.enq (k : Cluster) (e : Engine) (q : EngCmd) : Cluster :=
  match e with
  | .mx => { k with mxQ := k.mxQ ++ [q] }
  | .se => { k with seQ := k.seQ ++ [q] }

/-- The command of ticket t enters its engine's queue; a foreign opcode completes it instead (R181). -/
def State.ticketEnter (s : State) (d t : Nat) (e : Engine) (order : Nat) (words ext : List W64) : State :=
  let k := s.core d
  if e.takes (opOf words) then
    let s1 := s.setCore d { k with tickets := madd k.tickets t ⟨e, order, .queued⟩ }
    s1.setCluster (d / 8) ((s1.cluster (d / 8)).enq e
      { src := .ticket d t, words, ext := if ext.isEmpty then none else some ext, part := s.corePart d })
  else s.setCore d { k with tickets := madd k.tickets t ⟨e, order, .ended (compWord .illegalCommand 0 (seqOf words))⟩ }

/-- MXQ and SEQ (R181). -/
def enqBody (e : Engine) (d : Nat) (s : State) : Body :=
  match (s.core d).need 1 with
  | .error x => .fault s cStack x
  | .ok k =>
    let la := k.ds.getD 0 ⟨0, false⟩
    let a := la.val.toNat
    let rec0 := k.lmRead a 64
    let n := if e = .mx ∧ wantsExt (pbWords rec0) then 128 else 64
    if la.psn then .fault s cDataPoison 0
    else if a % 64 ≠ 0 then .fault s cEnqueue 0
    else if 0x10000 < a + 64 ∨ (k.lmOk k.priv a 64 ∧ 0x10000 < a + n) then .fault s cEnqueue 1
    else if !k.lmOk k.priv a 64 ∨ !k.lmOk k.priv a n then .fault s cEnqueue 2
    else if pbPsn (k.lmRead a n) then .fault s cDataPoison 0
    else
      match k.freeTicket with
      | none => .fault s cEnqueue 3
      | some t =>
        let words := pbWords rec0
        let ext := if n = 128 then pbWords (k.lmRead (a + 64) 64) else []
        let order := k.ticketOrder
        let k1 := { k with ds := k.ds.drop 1, ticketOrder := order + 1 }
        if s.waitOk (d / 8) (s.corePart d) k.cbBase k.pbBase (words.getD 0 0) ∧ !k.waitsAhead e order then
          if 4 ≤ ((s.cluster (d / 8)).queue e).length ∧ e.takes (opOf words) then .stay s
          else
            let s1 := (s.setCore d k1).ticketEnter d t e order words ext
            stackBody s1 d ((s1.core d).push ⟨w64 t, false⟩)
        else
          stackBody s d ({ k1 with tickets := madd k1.tickets t ⟨e, order, .waiting words ext⟩ }.push ⟨w64 t, false⟩)
/-- MXQ. -/
def execMxq (d : Nat) (s : State) : Host.Outcome State Fault Refusal := .next (issue s d 0x9000 .plain (enqBody .mx d))
/-- SEQ. -/
def execSeqEnq (d : Nat) (s : State) : Host.Outcome State Fault Refusal := .next (issue s d 0x9001 .plain (enqBody .se d))

/-- The ticket that an entry names, if it is outstanding (R182). -/
def Core.ticketAt (k : Core) (x : Entry) : Option Ticket := if x.val.toNat < 8 then mfind k.tickets x.val.toNat else none

/-- QWAIT: waits at itself until the ticket completes, then pushes the word and frees the ticket (R182). -/
def qwaitBody (d : Nat) (s : State) : Body :=
  match (s.core d).need 1 with
  | .error x => .fault s cStack x
  | .ok k =>
    let x := k.ds.getD 0 ⟨0, false⟩
    if x.psn then .fault s cDataPoison 0
    else
      match k.ticketAt x with
      | none => .fault s cEnqueue 4
      | some t =>
        match t.st with
        | .done w => stackBody s d ({ k with ds := k.ds.drop 1, tickets := mdel k.tickets x.val.toNat }.push ⟨w, false⟩)
        | _ => .stay (s.setCore d { s.core d with run := .waitTicket x.val.toNat })
/-- QWAIT. -/
def execQwait (d : Nat) (s : State) : Host.Outcome State Fault Refusal := .next (issue s d 0x9010 .plain (qwaitBody d))

/-- QTEST (R182). -/
def qtestBody (d : Nat) (s : State) : Body :=
  match (s.core d).need 1 with
  | .error x => .fault s cStack x
  | .ok k =>
    let x := k.ds.getD 0 ⟨0, false⟩
    let r := fun (k1 : Core) (w f : W64) =>
      match { k1 with ds := k.ds.drop 1 }.pushAll [⟨w, false⟩, ⟨f, false⟩] with
      | .error e => Body.fault s cStack e
      | .ok k2 => if x.psn then Body.fault s cDataPoison 0 else Body.retire (s.setCore d k2)
    match k.ticketAt x with
    | none =>
      match r k 0 0 with
      | .fault s c e => .fault s c e
      | _ => .fault s cEnqueue 4
    | some t =>
      match t.st with
      | .done w => r { k with tickets := mdel k.tickets x.val.toNat } w 1
      | _ => r k 0 0
/-- QTEST. -/
def execQtest (d : Nat) (s : State) : Host.Outcome State Fault Refusal := .next (issue s d 0x9011 .plain (qtestBody d))

/-- TICKET_ENQUEUE (R181): a command whose WAIT mask is satisfied, with none of its engine ahead of it and room in the queue,
enters. -/
def execTicketEnqueue (d t : Nat) (s : State) : Host.Outcome State Fault Refusal :=
  let k := s.core d
  match mfind k.tickets t with
  | some ⟨e, order, .waiting words ext⟩ =>
    if s.waitOk (d / 8) (s.corePart d) k.cbBase k.pbBase (words.getD 0 0) ∧ !k.waitsAhead e order
        ∧ (((s.cluster (d / 8)).queue e).length < 4 ∨ !e.takes (opOf words)) then
      .next (s.ticketEnter d t e order words ext)
    else .next s
  | _ => .next s

/-- TICKET_COMPLETE (R182): the completion word is recorded; a QWAIT that waits for it completes. -/
def execTicketComplete (d t : Nat) (s : State) : Host.Outcome State Fault Refusal :=
  let k := s.core d
  match mfind k.tickets t with
  | some ⟨e, order, .ended w⟩ =>
    let k1 := { k with tickets := madd k.tickets t ⟨e, order, .done w⟩ }
    if k1.run = .waitTicket t then
      .next ((qwaitBody d (s.setCore d { k1 with run := .running })).run d 0x9010)
    else .next (s.setCore d k1)
  | _ => .next s

end Sys2Proof.Machine
end

