-- ==== Sys2Proof/Machine/Channel.lean ====
section
/-! DEFINITION. The channel table and the dispatcher (R270-R286, R293, R306-R309), and completion (R279-R281, R292). -/

namespace Sys2Proof.Machine

/-! ### Channel entries (Table 9.1) -/

def State.chPi (s : State) (ch : Nat) : Nat := fld (s.chW ch 3) 31 0
def State.chCi (s : State) (ch : Nat) : Nat := fld (s.chW ch 4) 31 0
def State.cplPi (s : State) (ch : Nat) : Nat := fld (s.chW ch 4) 63 32
def State.cplCi (s : State) (ch : Nat) : Nat := fld (s.chW ch 3) 63 32
/-- Records written and not yet copied: (PI − CI) mod 2^32. -/
def State.chWaiting (s : State) (ch : Nat) : Nat := (s.chPi ch + 2 ^ 32 - s.chCi ch) % 2 ^ 32

/-- The dispatcher serves partition p: the device has booted, and neither a fatal event, a thermal stop (R413) nor a partition
reset (Table 12.4) holds it. -/
def State.dispatchOn (s : State) (p : Nat) : Bool :=
  s.boot.stage == 5 && !s.hw.fatal && !s.power.thermStop && (s.host p).preset == .none && !(s.host p).fatal

/-- The owned members of cluster set cs of partition p, ascending (Table 9.22). -/
def State.cset (s : State) (p cs : Nat) : List Nat :=
  (upTo 256).filter fun c => bitW (s.reg (aCSet p cs (c / 64))) (c % 64) && (s.part p).clusters.contains c

/-- Requests of function fn of port p to host memory: sent, held while it is in D3hot, or refused (R384, R386, R392, R393). -/
inductive HostWay where
  | open | held | denied
  deriving DecidableEq, Repr
def State.hostWay (s : State) (p fn : Nat) : HostWay :=
  let h := s.host p
  if !h.bme.contains fn || ((s.part p).ideRequired && h.ideSecure.isEmpty) || !h.ideInsecure.isEmpty then .denied
  else if h.d3hot.contains fn then .held else .open

/-- R272: an entry passes the arming check. -/
def State.armOk (s : State) (p ch : Nat) : Bool :=
  let w0 := s.chW ch 0
  let w1 := s.chW ch 1
  let w2 := s.chW ch 2
  let r := fld w1 5 0
  let c := fld w2 5 0
  decide (4 ≤ r) && decide (r ≤ 16) && decide (4 ≤ c) && decide (c ≤ 16)
    && (bitW w0 12 || (s.chk p [pW] (fld w1 63 6 * 64) (64 * 2 ^ r)).isOk)
    && (bitW w0 13 || (s.chk p [pW] (fld w2 63 6 * 64) (32 * 2 ^ c)).isOk)
    && !(s.cset p (fld w0 11 8)).isEmpty

/-- The cache holds the static words of 256 channels; beyond them the least recently dispatched is evicted (R273). -/
def State.evict (s : State) (keep : Nat) : State :=
  let l := s.chans.filter fun q => q.2.cached && q.1 != keep
  if l.length < 256 then s
  else
    match l.foldl (fun b q => match b with
      | none => some q
      | some x => if q.2.recency < x.2.recency then some q else some x) none with
    | none => s
    | some q => s.setChan q.1 { q.2 with cached := false }
/-- Load words 0, 1, 2 and 6 of an entry, and write its PART. -/
def State.loadChan (s : State) (p ch : Nat) : State :=
  let s1 := s.setChW ch 0 (setFld (s.chW ch 0) 33 32 p)
  (s1.setChan ch { s1.chan ch with gen := some (fld (s1.chW ch 0) 7 4), live := true, cached := true, w0 := s1.chW ch 0, w1 := s1.chW ch 1
                                   w2 := s1.chW ch 2, w6 := s1.chW ch 6, recency := s1.nextId }).evict ch
/-- R272: a channel is armed or re-armed. -/
def State.armChan (s : State) (p ch : Nat) : State :=
  if s.armOk p ch then s.loadChan p ch else s.haltChan ch .illegalCommand 0

/-! ### Dispatched commands -/

/-- A command of a channel comes into being, completed at once where a status is given. -/
def State.addCmd (s : State) (ch p c : Nat) (words : List W64) (ext : Option (List W64)) (st : Option Status) (detail : W64) : State :=
  { s with
    cmds := s.cmds ++ [{ id := s.nextId, ch, part := p, cluster := c, words, ext, started := st.isSome, status := st, flags := 0
                         detail, silent := false }]
    nextId := s.nextId + 1 }

/-- The uncompleted commands of a channel, in order of dispatch. -/
def State.cmdsOf (s : State) (ch : Nat) : List Cmd := s.cmds.filter fun c => c.ch == ch

/-- The record at the head of a channel: its words, whether one is poisoned, the MX_EXT joined to it, and what follows. -/
structure Head where
  words : List W64
  psn : Bool
  ext : Option (List W64)
  rest : List (List W64 × Bool)
  deriving DecidableEq, Repr
/-- R78, R80: an MX_MATMUL with EXT set joins an MX_EXT that follows. -/
def headOf : List (List W64 × Bool) → Option Head
  | [] => none
  | (w, b) :: rest =>
    if wantsExt w then
      match rest with
      | (x, c) :: rest' => if opOf x = 0x21 then some ⟨w, b || c, some x, rest'⟩ else some ⟨w, b, none, rest⟩
      | [] => some ⟨w, b, none, []⟩
    else some ⟨w, b, none, rest⟩

/-- Every held command of a channel completes with a status. -/
def State.endHeld (s : State) (p ch : Nat) (st : Status) (detail : W64) : Nat → State
  | 0 => s
  | n + 1 =>
    match headOf (s.chan ch).fetched with
    | none => s
    | some h =>
      ((s.addCmd ch p 0 h.words h.ext (some st) detail).setChan ch { s.chan ch with fetched := h.rest }).endHeld p ch st detail n

/-- R282, R309: a channel's commands are aborted: held and queued ones complete with q, running kernels are aborted with q, and
running engine and link commands stop with r. -/
def State.abortChannel (s : State) (p ch : Nat) (q r : Status) (detail : W64) : State :=
  let s1 := s.endHeld p ch q detail (s.chan ch).fetched.length
  ((s1.cmdsOf ch).filter fun c => c.status.isNone).foldl (fun s c =>
    let k := s.cluster c.cluster
    let runs := (k.mx.any fun m => m.src.is c.id) || (k.se.any fun x => x.src.is c.id) || s.linkOps.any fun o => o.id == c.id
    let t := s.abortCmd c.id (if runs then r else q)
    if runs || s.kernels.any fun x => x.id == c.id then t else t.updCmd c.id fun c => { c with detail }) s1

/-! ### Scans and copies -/

/-- What one scan does with one entry (R272, R275, R282). -/
def State.scanOne (s : State) (p ch : Nat) : State :=
  if !s.dispatchOn p then s
  else
    let w0 := s.chW ch 0
    if fld w0 1 0 = 1 then
      let s1 := if (s.chan ch).gen = some (fld w0 7 4) then s else s.armChan p ch
      if s1.serves ch ∧ 2 ^ fld (s1.chan ch).w1 5 0 < s1.chWaiting ch then s1.haltChan ch .illegalCommand 0 else s1
    else if fld w0 1 0 = 3 then (s.restChan ch).abortChannel p ch .aborted .aborted 0
    else s.restChan ch
/-- CHANNEL_SCAN (R274): one pass over every entry of every partition's range. -/
def execChannelScan (s : State) : Host.Outcome State Fault Refusal :=
  .next ((upTo 4).foldl (fun s p => (s.chansOf p).foldl (fun s ch => s.scanOne p ch) s) s)

/-- CHANNEL_ABORT_DONE (R282): every command copied from the ring has its record. -/
def execChannelAbortDone (ch : Nat) (s : State) : Host.Outcome State Fault Refusal :=
  .next (if fld (s.chW ch 0) 1 0 = 3 ∧ (s.cmdsOf ch).isEmpty ∧ (s.chan ch).fetched.isEmpty then
    s.setChW ch 0 (setFld (s.chW ch 0) 1 0 0) else s)

/-- Record i of a channel's ring, as it is copied: poison of a record's words, a poisoned header read as zero. -/
def State.ringRecord (s : State) (p ch i : Nat) : State × List W64 × Bool :=
  let c := s.chan ch
  let a := fld c.w1 63 6 * 64 + 64 * (i % 2 ^ fld c.w1 5 0)
  let r := if bitW c.w0 12 then (s, s.hostRead p a 64) else readMem s (16 + p / 2) a 64
  let w := pbWords r.2
  (r.1, if pbPsn (r.2.take 8) then 0 :: w.drop 1 else w, pbPsn r.2)

/-- The channel's static words stand in the cache, reloaded where they were evicted; a changed GEN is a re-arm (R273). -/
def State.cachedChan (s : State) (p ch : Nat) : State :=
  if (s.chan ch).cached then s
  else if (s.chan ch).gen = some (fld (s.chW ch 0) 7 4) then s.loadChan p ch else s.armChan p ch

/-- COMMAND_RECORD_COPY (R275): the record at CI is copied and CI written. -/
def execCommandRecordCopy (ch : Nat) (s : State) : Host.Outcome State Fault Refusal :=
  match s.chanPart ch with
  | none => .next s
  | some p =>
    if !s.dispatchOn p || !s.serves ch || s.chWaiting ch == 0 then .next s
    else
      let s1 := s.cachedChan p ch
      let c := s1.chan ch
      if !s1.serves ch ∨ c.gen ≠ some (fld (s1.chW ch 0) 7 4) then .next s1
      else if 2 ^ fld c.w1 5 0 < s1.chWaiting ch then .next (s1.haltChan ch .illegalCommand 0)
      else if bitW c.w0 12 ∧ s1.hostWay p (s1.chanFn ch) ≠ .open then .next s1
      else
        let r := s1.ringRecord p ch (s1.chCi ch)
        let t := r.1.setChW ch 4 (setFld (r.1.chW ch 4) 31 0 (r.1.chCi ch + 1))
        .next (t.setChan ch { t.chan ch with fetched := (t.chan ch).fetched ++ [r.2] })

/-! ### Dispatch -/

/-- The device executes this opcode, or completes it by itself (Table 9.5). -/
def opKnown (op : Nat) : Bool := [0x10, 0x20, 0x21, 0x30, 0x40, 0x41].contains op || (decide (0x50 ≤ op) && decide (op ≤ 0x5F))
/-- Commands that run on a cluster and take one of its channel slots. -/
def opCluster (op : Nat) : Bool := op == 0x10 || op == 0x20 || op == 0x21 || op == 0x30

/-- The target of a header: the CLUSTER-th member of the set, or with ANY the one with the fewest queued commands. -/
def State.target (s : State) (p : Nat) (w0 hdr : W64) : Option Nat :=
  let m := s.cset p (fld w0 11 8)
  if bitW hdr 11 then
    m.foldl (fun b c => match b with
      | none => some c
      | some x => if (s.cluster c).mxQ.length + (s.cluster c).seQ.length < (s.cluster x).mxQ.length + (s.cluster x).seQ.length
        then some c else some x) none
  else m[fld hdr 47 40]?

/-- The completion ring has room for one more record (R280). -/
def State.cplRoom (s : State) (ch : Nat) : Bool :=
  decide ((s.cmdsOf ch).length + (s.cplPi ch + 2 ^ 32 - s.cplCi ch) % 2 ^ 32 < 2 ^ fld (s.chan ch).w2 5 0)

/-- The head of a channel meets none of the causes of R283, room in its cluster's slots and queue apart; a BAR_ARM dispatched
before it has changed its barriers (R293). -/
def State.headReady (s : State) (p ch c : Nat) (h : Head) : Bool :=
  let w0 := (s.chan ch).w0
  let hdr := h.words.getD 0 0
  s.waitOk c p (fld w0 20 16) (fld w0 26 21) hdr && (!bitW hdr 10 || (s.cmdsOf ch).isEmpty) && s.cplRoom ch
    && !((s.cmdsOf ch).any fun x => opOf x.words == 0x40 && !x.started && x.status.isNone)
    && (!wantsExt h.words || h.ext.isSome || !h.rest.isEmpty)
    && (!opCluster (opOf h.words) || (!(s.cluster c).hold && !(s.cluster c).absent))
/-- The engine queue that an opcode goes to. -/
def engineOf (op : Nat) : Option Engine := if op = 0x20 ∨ op = 0x21 then some .mx else if op = 0x30 then some .se else none
/-- The queue of an opcode's engine has room (R285). -/
def Cluster.room (k : Cluster) (op : Nat) : Bool :=
  match engineOf op with
  | none => true
  | some e => decide ((k.queue e).length < 4)

/-- Another channel of higher PRIO that is ready competes for the same free slot or the same engine queue (R284, R285). -/
def State.outranked (s : State) (p ch c op : Nat) : Bool :=
  let k := s.cluster c
  let mine := fld (s.chan ch).w0 3 2
  s.chans.any fun q =>
    q.1 != ch && decide (mine < fld q.2.w0 3 2) && s.chanPart q.1 == some p && s.serves q.1 &&
    match headOf q.2.fetched with
    | none => false
    | some h =>
      let op' := opOf h.words
      opCluster op' && s.target p q.2.w0 (h.words.getD 0 0) == some c && s.headReady p q.1 c h &&
        (if k.chans.contains ch then k.chans.contains q.1 && (engineOf op).isSome && engineOf op == engineOf op' && k.room op'
         else !k.chans.contains q.1)

/-- Hand a dispatched command to what executes it: an engine's queue, or a row of its own for KERNEL, dispatcher and link
commands. Link opcodes 0x55 to 0x5F complete at once (R334). -/
def State.handOver (s : State) (p ch c : Nat) (h : Head) : State :=
  let op := opOf h.words
  let id := s.nextId
  let s1 := s.addCmd ch p c h.words h.ext (if decide (0x55 ≤ op) && decide (op ≤ 0x5F) then some .illegalCommand else none) 0
  let s2 := if opCluster op then
      s1.setCluster c { s1.cluster c with chans := sadd (s1.cluster c).chans ch } else s1
  match engineOf op with
  | none => s2
  | some e =>
    (s2.updCmd id fun x => { x with started := true }).setCluster c
      ((s2.cluster c).enq e { src := .cmd id, words := h.words, ext := h.ext, part := p })

/-- COMMAND_DISPATCH (R278, R283-R285, R307): the head of the channel is dispatched once nothing holds it; a malformed or stale
one completes instead. -/
def execCommandDispatch (ch : Nat) (s : State) : Host.Outcome State Fault Refusal :=
  match s.chanPart ch with
  | none => .next s
  | some p =>
    if !s.dispatchOn p || !s.serves ch then .next s
    else
      let s := s.cachedChan p ch
      match headOf (s.chan ch).fetched with
      | none => .next s
      | some h =>
        if !s.serves ch || !s.cplRoom ch then .next s
        else
          let hdr := h.words.getD 0 0
          let op := opOf h.words
          let popped := fun (t : State) => t.setChan ch { t.chan ch with fetched := h.rest, recency := t.nextId }
          match s.target p (s.chan ch).w0 hdr, h.psn || !opKnown op with
          | some c, false =>
            let k := s.cluster c
            if !s.headReady p ch c h then .next s
            else if opCluster op && (!(k.chans.contains ch || decide (k.chans.length < 4)) || !k.room op || s.outranked p ch c op) then
              .next s
            else if fld (s.chan ch).w6 31 16 ≠ fld (s.reg (aEpoch p)) 15 0 then
              .next (popped (s.addCmd ch p c h.words h.ext (some .staleRole) 0))
            else .next (popped (s.handOver p ch c h))
          | _, _ => .next (popped (s.addCmd ch p 0 h.words h.ext (some .illegalCommand) 0))

/-! ### Dispatcher commands -/

/-- A dispatched command that waits for its executor. -/
def State.waitingCmd (s : State) (id op : Nat) : Option Cmd :=
  (s.cmd id).filter fun c => opOf c.words == op && !c.started && c.status.isNone

/-- One barrier under BAR_ARM (Table 9.10). -/
def armBar (s : State) (mode : Bool) (v a : Nat) : State :=
  if mode then s.setReg a (w64 (v * 2 ^ 32)) else s.setReg a (setFld (s.reg a) 63 32 (fld (s.reg a) 63 32 + v))
/-- BAR_ARM (R293). -/
def execBarArm (id : Nat) (s : State) : Host.Outcome State Fault Refusal :=
  match s.waitingCmd id 0x40 with
  | none => .next s
  | some c =>
    let w := fun i => c.words.getD i 0
    let v := fld (w 3) 31 0
    let m := bitW (w 3) 32
    let s1 := ((upTo 32).filter fun i => bitW (w 1) i).foldl (fun s i => armBar s m v (aCB c.cluster i)) s
    let s2 := ((upTo 64).filter fun i => bitW (w 2) i).foldl (fun s i => armBar s m v (aPB c.part i)) s1
    .next ((s2.updCmd id fun c => { c with started := true }).finish id .ok 0 0)
/-- NOP: it waits and signals only. -/
def execNopCommand (id : Nat) (s : State) : Host.Outcome State Fault Refusal :=
  match s.waitingCmd id 0x41 with
  | none => .next s
  | some _ => .next ((s.updCmd id fun c => { c with started := true }).finish id .ok 0 0)

/-! ### Completion -/

/-- The record of Table 9.6, completion j of a ring of 2^n. -/
def completionRecord (c : Cmd) (st : Status) (j n ptime : Nat) (tag : W64) : List Byte :=
  let op := opOf c.words
  let phase := 1 - j / 2 ^ n % 2
  leBytes 8 (seqOf c.words + st.code * 2 ^ 16 + c.flags.toNat * 2 ^ 24 + c.ch % 4096 * 2 ^ 32 + phase * 2 ^ 47
      + (if opCluster op then c.cluster % 256 else 0) * 2 ^ 48)
    ++ leBytes 8 ptime ++ leBytes 8 tag.toNat ++ leBytes 8 c.detail.toNat

/-- The record is written; false where it had to be discarded (R386). -/
def State.putRecord (s : State) (c : Cmd) (st : Status) : State × Bool :=
  let k := s.chan c.ch
  let n := fld k.w2 5 0
  let j := s.cplPi c.ch
  let a := fld k.w2 63 6 * 64 + 32 * (j % 2 ^ n)
  let rec0 := completionRecord c st j n s.sc (s.chW c.ch 5)
  if bitW k.w0 13 then
    if s.hostWay c.part (s.chanFn c.ch) = .denied then (s, false)
    else (s.hostWrite c.part (s.chanFn c.ch) a (rec0.map fun b => (b, false)), true)
  else (storeMem s (16 + c.part / 2) a (rec0.map fun b => (b, false)), true)

/-- The command leaves the device's books; its slot is free once its channel has no other command on that cluster (R284). -/
def State.dropCmd (s : State) (c : Cmd) : State :=
  let s1 := { s with cmds := s.cmds.filter fun x => x.id != c.id }
  let k := s1.cluster c.cluster
  if opCluster (opOf c.words) && !(s1.cmds.any fun x => x.ch == c.ch && x.cluster == c.cluster && opCluster (opOf x.words)) then
    s1.setCluster c.cluster { k with chans := sdel k.chans c.ch }
  else s1

/-- COMMAND_COMPLETION (R280, R281, R292, R386): barriers, record, index, message, and the channel's halt. -/
def execCommandCompletion (id : Nat) (s : State) : Host.Outcome State Fault Refusal :=
  match s.cmd id with
  | none => .next s
  | some c =>
    match c.status with
    | none => .next s
    | some st =>
      if c.silent then .next (s.dropCmd c)
      else
        let k := s.chan c.ch
        let fn := s.chanFn c.ch
        if bitW k.w0 13 ∧ s.hostWay c.part fn = .held then .next s
        else
          let s1 := s.signalMask c.cluster c.part (fld k.w0 20 16) (fld k.w0 26 21) (c.words.getD 0 0) st
          let r := s1.putRecord c st
          let s2 := if r.2 then r.1.setChW c.ch 4 (setFld (r.1.chW c.ch 4) 63 32 (r.1.cplPi c.ch + 1)) else r.1
          let s3 := if r.2 ∧ (bitW (c.words.getD 0 0) 8 ∨ st ≠ .ok) then
              msixDue s2 c.part (if fn = 0 then fld k.w0 30 27 else fn) (fld k.w0 44 34) else s2
          let live := fld (s3.chW c.ch 0) 1 0 < 2
          let s4 := if !r.2 then s3.haltChan c.ch .denied (seqOf c.words)
            else if st.halts k.w0 ∧ live then s3.haltChan c.ch st (seqOf c.words) else s3
          .next (s4.dropCmd c)

/-! ### Progress watchdog (R308, R309) -/

/-- The headers of a channel's commands that are not yet dispatched: copied, or still in its ring. -/
def State.undispatched (s : State) (p ch : Nat) : List W64 :=
  ((s.chan ch).fetched.map fun x => x.1.getD 0 0)
    ++ (upTo (min (s.chWaiting ch) 65536)).map fun i => (s.ringRecord p ch (s.chCi ch + i)).2.1.getD 0 0
/-- The barriers of a header's mask bits [hi:lo]. -/
def State.hdrBars (s : State) (p ch : Nat) (c : Option Nat) (hdr : W64) (hi lo : Nat) : List Nat :=
  let w0 := (s.chan ch).w0
  match c with
  | none => []
  | some c => maskBars c p (fld w0 20 16) (fld w0 26 21) (fld hdr hi lo)
/-- What a channel's held head, and the tickets of its kernels that wait at a core, wait on. -/
def State.waitsOn (s : State) (p ch : Nat) : List Nat :=
  let held := match headOf (s.chan ch).fetched with
    | none => []
    | some h => s.hdrBars p ch (s.target p (s.chan ch).w0 (h.words.getD 0 0)) (h.words.getD 0 0) 27 16
  let tix := (s.kernels.filter fun k => (s.cmdsOf ch).any fun c => c.id == k.id).flatMap fun k =>
    k.cores.flatMap fun i => (s.core (k.cluster * 8 + i)).tickets.flatMap fun t => match t.2.st with
      | .waiting w _ => s.hdrBars p ch (some k.cluster) (w.getD 0 0) 27 16
      | _ => []
  (held ++ tix).filter fun a => !barSat (s.reg a)
/-- What a channel's uncompleted and undispatched commands name in SIGNAL. -/
def State.signalsOf (s : State) (p ch : Nat) : List Nat :=
  (s.cmdsOf ch).flatMap (fun c => s.hdrBars p ch (some c.cluster) (c.words.getD 0 0) 39 28)
    ++ (s.undispatched p ch).flatMap fun h => s.hdrBars p ch (s.target p (s.chan ch).w0 h) h 39 28
/-- Channel x waits for channel y. -/
def State.waitsFor (s : State) (p x y : Nat) : Bool := (s.waitsOn p x).any fun a => (s.signalsOf p y).contains a

/-- The nodes reached from a set by at most n steps of a relation. -/
def reachN (r : Nat → Nat → Bool) (all : List Nat) : Nat → List Nat → List Nat
  | 0, l => l
  | n + 1, l => reachN r all n (all.filter fun y => l.contains y || l.any fun x => r x y)

/-- PROGRESS_WATCHDOG_EXPIRE (R308, R309): the expiring channel and every channel of the cycles through it fail together. -/
def execProgressWatchdogExpire (ch : Nat) (s : State) : Host.Outcome State Fault Refusal :=
  match s.chanPart ch with
  | none => .next s
  | some p =>
    if (s.cmdsOf ch).isEmpty && (s.chan ch).fetched.isEmpty then .next s
    else
      let all := sadd ((s.chans.map (·.1)).filter fun x => s.chanPart x == some p) ch
      let fwd := reachN (fun x y => s.waitsFor p x y) all all.length [ch]
      let bwd := reachN (fun x y => s.waitsFor p y x) all all.length [ch]
      let fail := all.filter fun x => x == ch || (fwd.contains x && bwd.contains x)
      let n := fail.length
      let a := aCH p + 0x10
      let s1 := s.setReg a (setFld (setFld (bumpFld (s.reg a) 47 32 1) 12 0 n) 13 13 (b2n (decide (16 < n))))
      let s2 := (upTo 16).foldl (fun s i => s.setReg (aCH p + 0x80 + 8 * i) (match fail[i]? with
        | some x => w64 (x + 4096)
        | none => 0)) s1
      .next (fail.foldl (fun s x =>
        let sq := match (s.chan x).fetched, s.cmdsOf x with
          | q :: _, _ => seqOf q.1
          | [], c :: _ => seqOf c.words
          | [], [] => 0
        let t := logEv s (16 + p / 2) { ev eNoProgress with parts := pbit p, ukind := 12, unit := x, channel := x, cmdseq := sq
                                                            status := Status.noProgress.code }
        (t.haltChan x .noProgress sq).abortChannel p x .noProgress .aborted (w64 n)) s2)

end Sys2Proof.Machine
end

