-- ==== Sys2Proof/Machine/Fold.lean ====
section
/-! DEFINITION. The fold units of the base dies (R103-R116): line folds, sward cells, status lines, and what a bank rejects. -/

namespace Sys2Proof.Machine

/-- What a fold unit answers: the state, the rejection if there was one, whether a check-table entry lay outside the region
table (R303), a read-out, and poison: of the read-out, or of the fold's operand. -/
structure FoldRes where
  s : State
  rej : Option Status
  cv : Bool
  val : W64
  psn : Bool
  deriving DecidableEq, Repr

/-- The line that contains an address (R103). -/
def foldLine (a : Nat) : Nat := a / 64 * 64
/-- The die of the bank that holds an address, as a log agent. -/
def foldDie (a : Nat) : Nat := 8 + granuleDie (granuleOf a)

/-- R105: why a bank rejects a request for the line of an address. -/
def State.foldTarget (s : State) (p a : Nat) : Option Status :=
  if isStaging a || isControl a then some .illegalTarget
  else if !(s.chk p [] (foldLine a) 64).isOk then some .outOfBounds
  else if isBase a && (s.chk p [pFold] (foldLine a) 64).isOk then none else some .illegalTarget

/-- R105 for codes 0x3 to 0x8: the buffer is valid, the cell is one of its cells, its status line is still fold-capable. -/
def State.swardTarget (s : State) (p n a : Nat) : Option Status :=
  match s.foldTarget p a with
  | some x => some x
  | none =>
    if decide (n < 64) && s.sbValid p n && decide (s.sbBase p n ≤ foldLine a)
        && decide (foldLine a < s.sbBase p n + 64 * s.sbCells p n) && (s.foldTarget p (s.sbStat p n)).isNone
    then none else some .illegalTarget

/-- A rejected request changes nothing but `FD.REJECT`. -/
def foldReject (s : State) (p : Nat) (st : Status) : FoldRes := ⟨s.bump (aReject p) 31 0 1, some st, false, 0, false⟩

/-- A write by a fold unit; the check-value update is left out where its entry lies outside the region table. -/
def foldStore (s : State) (p a : Nat) (l : List PB) : State × Bool :=
  match s.cvOk p a l.length with
  | none => (storeMem s (foldDie a) a l, false)
  | some _ => (writeMem s (foldDie a) a l, true)

/-- The 8-byte words of a fold line, after the fold: lanes of z bytes of x where en, combined by f; a poisoned lane marks its
word, a poisoned word stays poisoned (R108). -/
def laneWords (z : Nat) (f : Nat → Nat → Nat) (old : List PB) (x : Nat) (en psn : Nat → Bool) : List PB :=
  (upTo 8).flatMap fun w =>
    let o := (old.drop (8 * w)).take 8
    let ls := (upTo (8 / z)).map (· + w * (8 / z))
    if ls.all fun i => !en i then o
    else if pbPsn o || ls.any fun i => en i && psn i then o.map fun b => (b.1, true)
    else
      ls.flatMap fun i =>
        let cur := pbNat ((old.drop (z * i)).take z)
        pbOf z (if en i then f cur (x / 2 ^ (8 * z * i) % 2 ^ (8 * z)) else cur) false

/-- FADD32, FADD64 and IADD64 (codes 0x0 to 0x2): a lane-wise fold into a line. -/
def lineFold (s : State) (p a z : Nat) (f : Nat → Nat → Nat) (x : Nat) (en psn : Nat → Bool) : FoldRes :=
  match s.foldTarget p a with
  | some st => foldReject s p st
  | none =>
    let r := readMem s (foldDie a) (foldLine a) 64
    let w := foldStore r.1 p (foldLine a) (laneWords z f r.2 x en psn)
    ⟨w.1, none, w.2, 0, (upTo (64 / z)).any fun i => en i && psn i⟩

/-- Lane arithmetic by operation code: FP additions in the main mode (R104), wrapping integers. -/
def foldLaneOp (op : Nat) : Nat × (Nat → Nat → Nat) :=
  if op = 0 then (4, fun a b => (addV false 1 (decode 1 a) (decode 1 b)).1)
  else if op = 1 then (8, fun a b => (addV false 0 (decode 0 a) (decode 0 b)).1)
  else (8, fun a b => (a + b) % 2 ^ 64)

/-! ### Sward cells -/

/-- The signed 512-bit integer of a cell. -/
def cellInt (l : List PB) : Int := sx 512 (pbNat l)
/-- The signed anchor of an entry. -/
def State.anchor (s : State) (p n : Nat) : Int := sx 16 (fld (s.reg (aSbCfg p n)) 15 0)

/-- The contribution of a float addend (R110): none where nothing is added; and the flags of Table 4.5. -/
def swContrib (a : Int) (v : Val) : Option Int × Nat :=
  match v with
  | .nan _ _ _ => (none, 4)
  | .inf _ => (none, 4)
  | .fin neg m e =>
    if m ≠ 0 ∧ a + 64 < e + blen m then (none, 2)
    else
      let k := e - (a - 384)
      let q := if 0 ≤ k then m * 2 ^ k.toNat else m / 2 ^ (-k).toNat
      (some (if neg then -(q : Int) else q), if k < 0 ∧ m % 2 ^ (-k).toNat ≠ 0 then 1 else 0)

/-- The contribution of a cell addend with anchor b (R111). -/
def cellContrib (a b v : Int) : Option Int × Nat :=
  if b = a then (some v, 0)
  else if a < b then
    let c := v * (2 ^ (b - a).toNat : Nat)
    if -(2 ^ 511 : Nat) ≤ c ∧ c < (2 ^ 511 : Nat) then (some c, 0) else (none, 2)
  else (some (Int.tdiv v (2 ^ (a - b).toNat : Nat)), if Int.tmod v (2 ^ (a - b).toNat : Nat) = 0 then 0 else 1)

/-- R115: a die raises flags that its copy does not hold: into the status line, with its own bit in DIES. -/
def raiseSward (s : State) (p n die flags : Nat) : State :=
  let key := (p * 64 + n) * 8 + die
  let old := mget (0 : BitVec 4) s.sbFlags key
  let new := old ||| BitVec.ofNat 4 flags
  if new = old then s
  else
    let s1 := { s with sbFlags := mput 0 s.sbFlags key new }
    let l := s1.peek (s.sbStat p n) 17
    let b0 := (l.getD 0 (0, false)).1 ||| new.setWidth 8
    let b16 := (l.getD 16 (0, false)).1 ||| BitVec.ofNat 8 (2 ^ die)
    (foldStore (foldStore s1 p (s.sbStat p n) [(b0, false)]).1 p (s.sbStat p n + 16) [(b16, false)]).1

/-- A sward add: a poisoned addend or cell leaves the cell poisoned (R108), otherwise S := (S + c) mod 2^512. -/
def swardAdd (s : State) (p n a : Nat) (psn : Bool) (c : Option Int × Nat) : FoldRes :=
  match s.swardTarget p n a with
  | some st => foldReject s p st
  | none =>
    let r := readMem s (foldDie a) (foldLine a) 64
    let w := if psn then foldStore r.1 p (foldLine a) (r.2.map fun b => (b.1, true))
      else if pbPsn r.2 then (r.1, false)
      else
        match c.1 with
        | none => (r.1, false)
        | some c => foldStore r.1 p (foldLine a) (pbOf 64 ((cellInt r.2 + c) % (2 ^ 512 : Nat)).toNat false)
    ⟨raiseSward w.1 p n (granuleDie (granuleOf a)) (if psn then 8 else c.2), none, w.2, 0, psn⟩

/-- A float addend of format f (codes 0x3 to 0x5). -/
def swaddFloat (s : State) (p a n f x : Nat) (psn : Bool) : FoldRes :=
  swardAdd s p n a psn (swContrib (s.anchor p n) (decode f x))

/-- A cell's value rounded to FP64 (R112). -/
def readOut (a S : Int) : W64 := w64 (roundF 0 .arith (decide (S < 0)) S.natAbs (a - 384)).1

/-- SWRD and SWRD_CLR (R112, R108). -/
def swardRead (s : State) (p a n : Nat) (clr : Bool) : FoldRes :=
  match s.swardTarget p n a with
  | some st => foldReject s p st
  | none =>
    let r := readMem s (foldDie a) (foldLine a) 64
    let w := if clr then foldStore r.1 p (foldLine a) (pbOf 64 0 false) else (r.1, false)
    ⟨w.1, none, w.2, readOut (s.anchor p n) (cellInt r.2), pbPsn r.2⟩

/-! ### The fold requests as commands -/

/-- FADD32. -/
def execFadd32 (p a : Nat) (x : BitVec 512) (en psn : BitVec 16) (s : State) : Host.Outcome State Fault Refusal :=
  .next (lineFold s p a 4 (foldLaneOp 0).2 x.toNat (fun i => en.getLsbD i) (fun i => psn.getLsbD i)).s
/-- FADD64. -/
def execFadd64 (p a : Nat) (x : BitVec 512) (en psn : BitVec 8) (s : State) : Host.Outcome State Fault Refusal :=
  .next (lineFold s p a 8 (foldLaneOp 1).2 x.toNat (fun i => en.getLsbD i) (fun i => psn.getLsbD i)).s
/-- IADD64. -/
def execIadd64 (p a : Nat) (x : BitVec 512) (en psn : BitVec 8) (s : State) : Host.Outcome State Fault Refusal :=
  .next (lineFold s p a 8 (foldLaneOp 2).2 x.toNat (fun i => en.getLsbD i) (fun i => psn.getLsbD i)).s
/-- SWADD_F64. -/
def execSwaddF64 (p a buf : Nat) (x : BitVec 64) (psn : Bool) (s : State) : Host.Outcome State Fault Refusal :=
  .next (swaddFloat s p a buf 0 x.toNat psn).s
/-- SWADD_F32. -/
def execSwaddF32 (p a buf : Nat) (x : BitVec 32) (psn : Bool) (s : State) : Host.Outcome State Fault Refusal :=
  .next (swaddFloat s p a buf 1 x.toNat psn).s
/-- SWADD_BF16. -/
def execSwaddBf16 (p a buf : Nat) (x : BitVec 16) (psn : Bool) (s : State) : Host.Outcome State Fault Refusal :=
  .next (swaddFloat s p a buf 3 x.toNat psn).s
/-- SWADD_CELL. -/
def execSwaddCell (p a buf : Nat) (x : BitVec 512) (anchor : BitVec 16) (psn : Bool) (s : State) :
    Host.Outcome State Fault Refusal :=
  .next (swardAdd s p buf a psn (cellContrib (s.anchor p buf) anchor.toInt x.toInt)).s
/-- SWRD: the read-out returns to the requester. -/
def execSwrd (p a buf : Nat) (s : State) : Host.Outcome State Fault Refusal :=
  let r := swardRead s p a buf false
  .next (if r.rej.isNone then r.s.emit (.foldValue p r.val r.psn) else r.s)
/-- SWRD_CLR. -/
def execSwrdClr (p a buf : Nat) (s : State) : Host.Outcome State Fault Refusal :=
  let r := swardRead s p a buf true
  .next (if r.rej.isNone then r.s.emit (.foldValue p r.val r.psn) else r.s)

end Sys2Proof.Machine
end

