-- ==== Sys2Proof/Machine/Operands.lean ====
section
/-! DEFINITION. The operand forms of the vector unit: group descriptors and element places (R119-R124), vector faults (R155),
element writes with poison (R123, R151), range checks (R152) and paired comparison (R153, R154). -/

namespace Sys2Proof.Machine

/-! ### Groups -/

/-- A group descriptor's fields (Table 5.2). -/
structure Grp where
  first : Nat
  len : Nat
  fmt : Nat
  zero : Bool
  mask : Nat
  mskEn : Bool
  useVl : Bool
  rchk : Bool
  deriving DecidableEq, Repr

/-- The group that an entry describes; bits [63:30] are ignored. -/
def grp (w : W64) : Grp :=
  { first := fld w 10 0, len := fld w 17 11 + 1, fmt := fld w 21 18, zero := bitW w 22, mask := fld w 26 23,
    mskEn := bitW w 27, useVl := bitW w 28, rchk := bitW w 29 }

/-- An element's width in a register (Table 5.1). -/
def elW (f : Nat) : Nat := if f = 6 ∨ f = 7 then 8 else fmtBits f
/-- Elements per register, and of a group. -/
def perReg (f : Nat) : Nat := 128 / elW f
def Grp.n (g : Grp) : Nat := g.len * perReg g.fmt
/-- The group does not run past v2047. -/
def Grp.ok (g : Grp) : Bool := g.first + g.len ≤ 2048
/-- A format packed in memory (R129). -/
def isPacked (f : Nat) : Bool := f == 6 || f == 7 || f == 8 || f == 11 || f == 12

/-- Vector register r. -/
def Core.vreg (k : Core) (r : Nat) : BitVec 128 := mget 0 k.vr r
/-- Mask register m. -/
def Core.mreg (k : Core) (m : Nat) : BitVec 2048 := mget 0 k.mr m
/-- The register of element e (R120). -/
def Grp.reg (g : Grp) (e : Nat) : Nat := g.first + e * elW g.fmt / 128
/-- Element e's pattern; bits [7:6] of a 6-bit format are ignored (R34). -/
def Core.el (k : Core) (g : Grp) (e : Nat) : Nat :=
  (k.vreg (g.reg e)).toNat / 2 ^ (e * elW g.fmt % 128) % 2 ^ fmtBits g.fmt
/-- Element e comes from a poisoned register (R151). -/
def Core.elPsn (k : Core) (g : Grp) (e : Nat) : Bool := k.vrPsn.contains (g.reg e)

/-- The mask bit that governs element e of a format (R122). -/
def maskBit (f e : Nat) : Nat := if elW f = 4 then e / 2 else e
/-- `VX.VL`. -/
def Core.vl (k : Core) : Nat := fld k.vxVl 12 0
/-- Element e of a group is active (R122). -/
def Core.active (k : Core) (g : Grp) (e : Nat) : Bool :=
  decide (e < g.n) && (!g.useVl || decide (e < k.vl)) && (!g.mskEn || (k.mreg g.mask).getLsbD (maskBit g.fmt e))
/-- The active elements, ascending. -/
def Core.actives (k : Core) (g : Grp) : List Nat := (upTo g.n).filter (k.active g)

/-! ### Writing a group -/

/-- Put results into a group: res gives an active element's pattern and poison; inactive elements keep their value or become
zero by the mask policy; poison as R151 has it. -/
def Core.putGroup (k : Core) (g : Grp) (act : Nat → Bool) (res : Nat → Nat × Bool) : Core :=
  let w := elW g.fmt
  let per := perReg g.fmt
  (upTo g.len).foldl (fun k' i =>
    let r := g.first + i
    let es := (upTo per).map (· + i * per)
    let v := es.foldl (fun acc e =>
      acc + (if act e then (res e).1 % 2 ^ fmtBits g.fmt else if g.zero then 0
        else (k.vreg r).toNat / 2 ^ (e * w % 128) % 2 ^ w) * 2 ^ (e * w % 128)) 0
    let bad := es.any fun e => act e && (res e).2
    let whole := g.zero || es.all act
    { k' with vr := mput 0 k'.vr r (BitVec.ofNat 128 v)
              vrPsn := if bad then sadd k'.vrPsn r else if whole then sdel k'.vrPsn r else k'.vrPsn }) k

/-! ### Faults (Table 5.10) -/

/-- A vector fault: `VX.FAULT` and `VX.FAULT_ADDR` record it, and the cause of Table 7.1 is raised. -/
def vecFault (s : State) (d cause elem detail addr : Nat) : Body :=
  let f := elem % 2 ^ 16 + cause * 2 ^ 16 + detail * 2 ^ 20
  let s1 := s.setCore d { s.core d with vxFault := w64 f, vxFaultAddr := w64 (addr % 2 ^ 48) }
  .fault s1 (if cause = 1 then cVecOperand else if cause = 2 then cVecAccess else if cause = 3 then cVecAlign else cVecPair)
    (if cause = 2 ∨ cause = 3 then addr % 2 ^ 48 else f)
/-- The operand fault. -/
def operandFault (s : State) (d : Nat) : Body := vecFault s d 1 0 0 0

/-- A paired-mode comparison of core d mismatches now (physical condition, R154). -/
def Core.pairMiss (k : Core) : Bool := bitW k.vxCtl 0 && k.laneFault != 0
/-- R154: nothing is written; the event is logged and counted, the cluster flagged, the core enters M. -/
def pairFault (s : State) (d : Nat) : Body :=
  let k := s.core d
  let s1 := s.setCore d { k with vxPairMis := satN 32 (k.vxPairMis + 1), laneFault := k.laneFault - 1, pairAt := some k.pc }
  let s2 := logUnit s1 (s.dieOf (d / 8)) (s.ofKernel d { ev ePairMismatch with
    parts := pbitO (s.ownerOf (d / 8)), ukind := uCore, unit := s.phOf (d / 8) * 8 + d % 8, lcluster := d / 8, addr := k.pc }) 0
  vecFault (s2.flagCluster (s.phOf (d / 8)) 5) d 4 0 0 0

/-- The frame of a vector instruction of n operands: STACK, then DATA_POISON where an operand that ctl selects is poisoned
(R158), then its own work on the popped core. -/
def vecOp (d n : Nat) (ctl : Nat → Bool) (f : Core → List Entry → State → Body) (s : State) : Body :=
  match (s.core d).need n with
  | .error e => .fault s cStack e
  | .ok k =>
    let ops := (k.ds.take n).reverse
    if ops.zipIdx.any fun q => ctl q.2 && q.1.psn then .fault s cDataPoison 0
    else f { k with ds := k.ds.drop n } ops s

/-- The vector instruction completes with a core, unless the halves disagree (R153). -/
def vecDone (s : State) (d : Nat) (k : Core) : Body :=
  if (s.core d).pairMiss then pairFault s d
  else .retire (s.setCore d { k with hwPend := (s.core d).hwPend, abortPend := (s.core d).abortPend })

/-- Operand i of a list as a word. -/
def opW (l : List Entry) (i : Nat) : W64 := (l.getD i ⟨0, false⟩).val

/-! ### Range checks (R84, R152) -/

/-- lo ≤ |x| ≤ hi of a finite x; either bound NaN or lo above hi admits nothing. -/
def inWindow (lo hi : W64) (v : Val) : Bool :=
  match v with
  | .fin _ m e =>
    let x := Val.fin false m e
    (decode 0 lo.toNat).le x && x.le (decode 0 hi.toNat)
  | _ => false
/-- Record the first violation. -/
def Core.rangeHit (k : Core) (e : Nat) : Core :=
  if bitW k.vxRcStat 0 then k else { k with vxRcStat := w64 (1 + e * 2 ^ 16) }
/-- Test values with their element indices. -/
def Core.rangeTest (k : Core) (l : List (Nat × Val)) : Core :=
  match l.find? fun q => !inWindow k.vxRangeLo k.vxRangeHi q.2 with
  | some q => k.rangeHit q.1
  | none => k

/-! ### Packed and unpacked memory layout (R34) -/

/-- The pattern of element e of a format in bytes laid out as in memory: bits [w·e + w − 1 : w·e] of the byte stream. -/
def streamEl (f : Nat) (l : List Byte) (e : Nat) : Nat :=
  let w := fmtBits f
  leNat ((l.drop (e * w / 8)).take ((w + 15) / 8)) / 2 ^ (e * w % 8) % 2 ^ w

end Sys2Proof.Machine
end

