-- ==== Sys2Proof/Machine/Vector.lean ====
section
/-! DEFINITION. The element-wise vector instructions, compares, masks and conversions (R125, R126, R128, R142-R145, R149). -/

namespace Sys2Proof.Machine

/-! ### Element operations -/

/-- Integer arithmetic wraps and sets no flag; float arithmetic as given (R125). -/
def elArith (c : Nat) (fi : Int → Int → Int) (ff : Val → Val → Nat × Fl) (x y : Nat) : Nat × Fl :=
  if isFloat c then ff (decode c x) (decode c y) else (encInt c (fi (intVal c x) (intVal c y)), 0)

/-- The two-operand element operations, by format and mode. -/
def elAdd (c : Nat) (i : Bool) : Nat → Nat → Nat × Fl := elArith c (· + ·) (addV i c)
def elSub (c : Nat) (i : Bool) : Nat → Nat → Nat × Fl := elArith c (· - ·) (subV i c)
def elMul (c : Nat) (i : Bool) : Nat → Nat → Nat × Fl := elArith c (· * ·) (mulV i c)
def elDiv (c : Nat) (i : Bool) (x y : Nat) : Nat × Fl := divV i c (decode c x) (decode c y)
def elMax (c : Nat) (i : Bool) (x y : Nat) : Nat × Fl := maxMin true i c x y
def elMin (c : Nat) (i : Bool) (x y : Nat) : Nat × Fl := maxMin false i c x y
/-- a × b + c. -/
def elFma (c : Nat) (i : Bool) (x y z : Nat) : Nat × Fl :=
  if isFloat c then fmaV i c (decode c x) (decode c y) (decode c z)
  else (encInt c (intVal c x * intVal c y + intVal c z), 0)
/-- Absolute value and negation: of floats the sign bit alone (R56); of integers wrapping. -/
def elAbs (c x : Nat) : Nat := if isFloat c then x % 2 ^ (fmtE c + fmtM c) else encInt c (intVal c x).natAbs
def elNeg (c x : Nat) : Nat :=
  if isFloat c then (if x / 2 ^ (fmtE c + fmtM c) % 2 = 0 then x + 2 ^ (fmtE c + fmtM c) else x - 2 ^ (fmtE c + fmtM c))
  else encInt c (-(intVal c x))

/-- Write f of every active element of the destination group, with its flags, and poison from the sources (R151). -/
def mapGroup (s : State) (d : Nat) (k : Core) (g : Grp) (f : Nat → Nat × Fl) (psn : Nat → Bool) : Body :=
  let act := k.actives g
  let fl := act.foldl (fun (x : Fl) e => x ||| (f e).2) 0
  vecDone s d ((k.putGroup g (k.active g) fun e => ((f e).1, psn e)).raise fl)

/-- ( a b d -- ). -/
def vec2 (d : Nat) (fltOnly : Bool) (f : Nat → Bool → Nat → Nat → Nat × Fl) : State → Body :=
  vecOp d 3 (fun _ => true) fun k l s =>
    let a := grp (opW l 0)
    let b := grp (opW l 1)
    let g := grp (opW l 2)
    if a.ok && b.ok && g.ok && isArith g.fmt && a.fmt == g.fmt && b.fmt == g.fmt && a.n == g.n && b.n == g.n
        && (!fltOnly || isFloat g.fmt) then
      mapGroup s d k g (fun e => f g.fmt k.ieee (k.el a e) (k.el b e)) fun e => k.elPsn a e || k.elPsn b e
    else operandFault s d
/-- ( a b c d -- ). -/
def vec3 (d : Nat) (f : Nat → Bool → Nat → Nat → Nat → Nat × Fl) : State → Body :=
  vecOp d 4 (fun _ => true) fun k l s =>
    let a := grp (opW l 0)
    let b := grp (opW l 1)
    let c := grp (opW l 2)
    let g := grp (opW l 3)
    if a.ok && b.ok && c.ok && g.ok && isArith g.fmt && a.fmt == g.fmt && b.fmt == g.fmt && c.fmt == g.fmt
        && a.n == g.n && b.n == g.n && c.n == g.n then
      mapGroup s d k g (fun e => f g.fmt k.ieee (k.el a e) (k.el b e) (k.el c e))
        fun e => k.elPsn a e || k.elPsn b e || k.elPsn c e
    else operandFault s d
/-- A scalar in an element format: floats round an FP64 pattern, integers saturate an INT64 (R126). -/
def scalarEl (c : Nat) (ieee : Bool) (x : W64) : Nat × Fl :=
  if isFloat c then convert c .arith ieee (decode 0 x.toNat) else toInt c none (decode 14 x.toNat)
/-- ( a s d -- ). -/
def vecS (d : Nat) (f : Nat → Bool → Nat → Nat → Nat × Fl) : State → Body :=
  vecOp d 3 (fun i => i != 1) fun k l s =>
    let a := grp (opW l 0)
    let g := grp (opW l 2)
    if a.ok && g.ok && isArith g.fmt && a.fmt == g.fmt && a.n == g.n then
      let x := scalarEl g.fmt k.ieee (opW l 1)
      let k1 := if (k.actives g).isEmpty then k else k.raise x.2
      mapGroup s d k1 g (fun e => f g.fmt k.ieee (k.el a e) x.1) fun e => k.elPsn a e || (l.getD 1 ⟨0, false⟩).psn
    else operandFault s d
/-- ( a d -- ). -/
def vec1 (d : Nat) (fltOnly : Bool) (f : Nat → Bool → Nat → Nat × Fl) : State → Body :=
  vecOp d 2 (fun _ => true) fun k l s =>
    let a := grp (opW l 0)
    let g := grp (opW l 1)
    if a.ok && g.ok && isArith g.fmt && a.fmt == g.fmt && a.n == g.n && (!fltOnly || isFloat g.fmt) then
      mapGroup s d k g (fun e => f g.fmt k.ieee (k.el a e)) fun e => k.elPsn a e
    else operandFault s d

/-- VADD. -/
def execVadd (d : Nat) (s : State) : Host.Outcome State Fault Refusal := .next (issue s d 0x7000 .plain (vec2 d false elAdd))
/-- VSUB. -/
def execVsub (d : Nat) (s : State) : Host.Outcome State Fault Refusal := .next (issue s d 0x7001 .plain (vec2 d false elSub))
/-- VMUL. -/
def execVmul (d : Nat) (s : State) : Host.Outcome State Fault Refusal := .next (issue s d 0x7002 .plain (vec2 d false elMul))
/-- VDIV. -/
def execVdiv (d : Nat) (s : State) : Host.Outcome State Fault Refusal := .next (issue s d 0x7003 .plain (vec2 d true elDiv))
/-- VMAX. -/
def execVmax (d : Nat) (s : State) : Host.Outcome State Fault Refusal := .next (issue s d 0x7004 .plain (vec2 d false elMax))
/-- VMIN. -/
def execVmin (d : Nat) (s : State) : Host.Outcome State Fault Refusal := .next (issue s d 0x7005 .plain (vec2 d false elMin))
/-- VFMA. -/
def execVfma (d : Nat) (s : State) : Host.Outcome State Fault Refusal := .next (issue s d 0x7006 .plain (vec3 d elFma))
/-- VADDS. -/
def execVadds (d : Nat) (s : State) : Host.Outcome State Fault Refusal := .next (issue s d 0x7010 .plain (vecS d elAdd))
/-- VMULS. -/
def execVmuls (d : Nat) (s : State) : Host.Outcome State Fault Refusal := .next (issue s d 0x7011 .plain (vecS d elMul))
/-- VMAXS. -/
def execVmaxs (d : Nat) (s : State) : Host.Outcome State Fault Refusal := .next (issue s d 0x7012 .plain (vecS d elMax))
/-- VMINS. -/
def execVmins (d : Nat) (s : State) : Host.Outcome State Fault Refusal := .next (issue s d 0x7013 .plain (vecS d elMin))
/-- VABS. -/
def execVabs (d : Nat) (s : State) : Host.Outcome State Fault Refusal :=
  .next (issue s d 0x7020 .plain (vec1 d false fun c _ x => (elAbs c x, 0)))
/-- VNEG. -/
def execVneg (d : Nat) (s : State) : Host.Outcome State Fault Refusal :=
  .next (issue s d 0x7021 .plain (vec1 d false fun c _ x => (elNeg c x, 0)))
/-- VSQRT. -/
def execVsqrt (d : Nat) (s : State) : Host.Outcome State Fault Refusal :=
  .next (issue s d 0x7022 .plain (vec1 d true fun c i x => sqrtV i c (decode c x)))
/-- VRSQRT. -/
def execVrsqrt (d : Nat) (s : State) : Host.Outcome State Fault Refusal :=
  .next (issue s d 0x7023 .plain (vec1 d true fun c i x => elemFn nRsqrt i c x))
/-- VEXP. -/
def execVexp (d : Nat) (s : State) : Host.Outcome State Fault Refusal :=
  .next (issue s d 0x7024 .plain (vec1 d true fun c i x => elemFn nExp i c x))
/-- VLOG. -/
def execVlog (d : Nat) (s : State) : Host.Outcome State Fault Refusal :=
  .next (issue s d 0x7025 .plain (vec1 d true fun c i x => elemFn nLog i c x))
/-- VTANH. -/
def execVtanh (d : Nat) (s : State) : Host.Outcome State Fault Refusal :=
  .next (issue s d 0x7026 .plain (vec1 d true fun c i x => elemFn nTanh i c x))
/-- VSIG. -/
def execVsig (d : Nat) (s : State) : Host.Outcome State Fault Refusal :=
  .next (issue s d 0x7027 .plain (vec1 d true fun c i x => elemFn nSig i c x))

/-! ### Compares and masks -/

/-- Mask register m set. -/
def Core.setMask (k : Core) (m : Nat) (v : BitVec 2048) : Core := { k with mr := mput 0 k.mr m v }
/-- Bits of a mask from a predicate on the bit number. -/
def maskOf (p : Nat → Bool) : BitVec 2048 :=
  BitVec.ofNat 2048 ((upTo 2048).foldl (fun n i => n + (if p i then 2 ^ i else 0)) 0)
/-- VCMP.cc ( a b m -- ): a's descriptor supplies the mask; a poisoned source sets `VX.RSTAT.POISON` (R122, R151). -/
def vcmp (d : Nat) (f : Val → Val → Bool) : State → Body :=
  vecOp d 3 (fun _ => true) fun k l s =>
    let a := grp (opW l 0)
    let b := grp (opW l 1)
    let m := (opW l 2).toNat
    if a.ok && b.ok && isArith a.fmt && a.fmt == b.fmt && a.n == b.n && decide (m < 16) then
      let act := k.actives a
      let old := k.mreg m
      let v := maskOf fun e => if k.active a e then f (decode a.fmt (k.el a e)) (decode a.fmt (k.el b e)) else old.getLsbD e
      let fl := act.foldl (fun (x : Fl) e => x ||| cmpFl k.ieee (decode a.fmt (k.el a e)) (decode a.fmt (k.el b e))) 0
      let bad := act.any fun e => k.elPsn a e || k.elPsn b e
      vecDone s d { (k.setMask m v).raise fl with
        vxRstat := if bad then k.vxRstat ||| 2 else k.vxRstat, sawPoison := k.sawPoison || bad }
    else operandFault s d

/-- VCMP.EQ. -/
def execVcmpEq (d : Nat) (s : State) : Host.Outcome State Fault Refusal := .next (issue s d 0x7030 .plain (vcmp d Val.eqv))
/-- VCMP.NE. -/
def execVcmpNe (d : Nat) (s : State) : Host.Outcome State Fault Refusal :=
  .next (issue s d 0x7031 .plain (vcmp d fun a b => !a.eqv b))
/-- VCMP.LT. -/
def execVcmpLt (d : Nat) (s : State) : Host.Outcome State Fault Refusal := .next (issue s d 0x7032 .plain (vcmp d Val.lt))
/-- VCMP.LE. -/
def execVcmpLe (d : Nat) (s : State) : Host.Outcome State Fault Refusal := .next (issue s d 0x7033 .plain (vcmp d Val.le))
/-- VCMP.GT. -/
def execVcmpGt (d : Nat) (s : State) : Host.Outcome State Fault Refusal :=
  .next (issue s d 0x7034 .plain (vcmp d fun a b => b.lt a))
/-- VCMP.GE. -/
def execVcmpGe (d : Nat) (s : State) : Host.Outcome State Fault Refusal :=
  .next (issue s d 0x7035 .plain (vcmp d fun a b => b.le a))

/-- ( m1 m2 m3 -- ). -/
def vmask (d : Nat) (f : BitVec 2048 → BitVec 2048 → BitVec 2048) : State → Body :=
  vecOp d 3 (fun _ => true) fun k l s =>
    let m := fun i => (opW l i).toNat
    if m 0 < 16 ∧ m 1 < 16 ∧ m 2 < 16 then vecDone s d (k.setMask (m 2) (f (k.mreg (m 0)) (k.mreg (m 1))))
    else operandFault s d
/-- VMAND. -/
def execVmand (d : Nat) (s : State) : Host.Outcome State Fault Refusal :=
  .next (issue s d 0x7040 .plain (vmask d fun a b => a &&& b))
/-- VMOR. -/
def execVmor (d : Nat) (s : State) : Host.Outcome State Fault Refusal :=
  .next (issue s d 0x7041 .plain (vmask d fun a b => a ||| b))
/-- VMXOR. -/
def execVmxor (d : Nat) (s : State) : Host.Outcome State Fault Refusal :=
  .next (issue s d 0x7042 .plain (vmask d fun a b => a ^^^ b))
/-- VMANDN: a and not b (log entry 21). -/
def execVmandn (d : Nat) (s : State) : Host.Outcome State Fault Refusal :=
  .next (issue s d 0x7043 .plain (vmask d fun a b => a &&& ~~~ b))
/-- VMSET ( k m -- ). -/
def execVmset (d : Nat) (s : State) : Host.Outcome State Fault Refusal :=
  .next (issue s d 0x7044 .plain (vecOp d 2 (fun _ => true) fun k l s =>
    let n := (opW l 0).toNat
    let m := (opW l 1).toNat
    if n ≤ 2048 ∧ m < 16 then vecDone s d (k.setMask m (BitVec.ofNat 2048 (2 ^ n - 1))) else operandFault s d))

/-! ### Conversions (R149) -/

/-- The generator advanced n steps. -/
def srSteps : Nat → BitVec 32 → BitVec 32
  | 0, x => x
  | n + 1, x => srSteps n (srStep x)

/-- Convert the elements of a group in order, drawing for each position, results for the active ones (R54). -/
def convList (ctl : Nat) (ieee : Bool) (c0 c : Nat) : List (Nat × Bool) → BitVec 32 → List (Nat × Fl) × BitVec 32
  | [], sr => ([], sr)
  | x :: t, sr =>
    let r := convEl ctl ieee c0 c x.1 sr
    let rest := convList ctl ieee c0 c t r.2.2
    ((r.1, if x.2 then r.2.1 else 0) :: rest.1, rest.2)

/-- VCVT ( a d ctl -- ). -/
def vcvtBody (d : Nat) : State → Body :=
  vecOp d 3 (fun _ => true) fun k l s =>
    let a := grp (opW l 0)
    let g := grp (opW l 1)
    let ctl := fld (opW l 2) 7 0
    if a.ok && g.ok && a.n == g.n then
      let r := convList ctl k.ieee a.fmt g.fmt ((upTo g.n).map fun e => (k.el a e, k.active g e))
        (k.vxSrState.setWidth 32)
      let k1 := (k.putGroup g (k.active g) fun e => ((r.1.getD e (0, 0)).1, k.elPsn a e)).raise
        (r.1.foldl (fun (x : Fl) q => x ||| q.2) 0)
      vecDone s d { k1 with vxSrState := r.2.setWidth 64 }
    else operandFault s d
/-- VCVT. -/
def execVcvt (d : Nat) (s : State) : Host.Outcome State Fault Refusal := .next (issue s d 0x7050 .plain (vcvtBody d))

/-- The exponent of the largest normal value of an MX element format (R50). -/
def mxEmax (c : Nat) : Int := if c = 4 then 8 else if c = 5 then 15 else if c = 7 then 4 else if c = 9 then 0 else 2

/-- A value of larger magnitude than another. -/
def magBelow (a b : Val) : Bool :=
  match a, b with
  | .fin _ m e, .fin _ m' e' => (Val.fin false m e).lt (.fin false m' e')
  | _, _ => false

/-- One element of a block divided by its scale and converted, saturating (R50). -/
def mxElem (ctl : Nat) (ieee : Bool) (c : Nat) (sc : Int) (v : Val) (sr : BitVec 32) : Nat × Fl × BitVec 32 :=
  let sr1 := if ctlStoch ctl then srStep sr else sr
  let r : Rnd := ⟨if ctlStoch ctl then some sr1 else none, true, ctlFtz ctl ieee⟩
  match v with
  | .fin n m e =>
    let x := convert c r ieee (.fin n m (e - sc + (if c = 9 then 6 else 0)))
    (x.1, x.2, sr1)
  | _ => (0, 0, sr1)

/-- The elements of a block in order. -/
def mxElems (ctl : Nat) (ieee : Bool) (c : Nat) (sc : Int) : List Val → BitVec 32 → List Nat × Fl × BitVec 32
  | [], sr => ([], 0, sr)
  | v :: t, sr =>
    let r := mxElem ctl ieee c sc v sr
    let rest := mxElems ctl ieee c sc t r.2.2
    (r.1 :: rest.1, r.2.1 ||| rest.2.1, rest.2.2)

/-- A block of 32 values: scale code, element patterns, flags, generator (R50). -/
def mxBlock (ctl : Nat) (ieee : Bool) (c : Nat) (vs : List Val) (sr : BitVec 32) : Nat × List Nat × Fl × BitVec 32 :=
  let amax := vs.foldl (fun a v => if magBelow a v then v else a) (Val.fin false 0 0)
  let adv := if ctlStoch ctl then srSteps vs.length sr else sr
  if vs.any fun v => v.isNan || v.isInf then (0xFF, vs.map fun _ => 0, fIV, adv)
  else
    match amax with
    | .fin _ m e =>
      if m = 0 then (0x7F, vs.map fun v => if c = 9 then 0 else signPat c v.neg, 0, adv)
      else
        let code := max 0 (min 254 (e + blen m - 1 - mxEmax c + 127))
        let r := mxElems ctl ieee c (code - 127) vs sr
        (code.toNat, r.1, r.2.1, r.2.2)
    | _ => (0xFF, [], fIV, adv)

/-- The blocks in order; an inactive block draws and flags nothing but its draws. -/
def mxBlocks (ctl : Nat) (ieee : Bool) (c : Nat) : List (List Val × Bool) → BitVec 32 → List (Nat × List Nat) × Fl × BitVec 32
  | [], sr => ([], 0, sr)
  | b :: t, sr =>
    let r := mxBlock ctl ieee c b.1 sr
    let rest := mxBlocks ctl ieee c t r.2.2.2
    ((r.1, r.2.1) :: rest.1, (if b.2 then r.2.2.1 else 0) ||| rest.2.1, rest.2.2)

/-- VQMX ( a d sc ctl -- ). -/
def vqmxBody (d : Nat) : State → Body :=
  vecOp d 4 (fun _ => true) fun k l s =>
    let a := grp (opW l 0)
    let g := grp (opW l 1)
    let sc := grp (opW l 2)
    let ctl := fld (opW l 3) 7 0
    let nb := g.n / 32
    let blk := fun b => (upTo 32).map (· + 32 * b)
    if a.ok && g.ok && sc.ok && decide (a.fmt ≤ 3) && [4, 5, 6, 7, 8, 9].contains g.fmt && sc.fmt == 15 && a.n == g.n
        && g.n % 32 == 0 && sc.n == nb
        && (upTo nb).all fun b => (blk b).all (k.active g) || (blk b).all fun e => !k.active g e then
      let ftz := ctlFtz ctl k.ieee
      let r := mxBlocks ctl k.ieee g.fmt ((upTo nb).map fun b =>
        ((blk b).map fun e => decodeZ ftz a.fmt (k.el a e), k.active g (32 * b))) (k.vxSrState.setWidth 32)
      let res := fun b => r.1.getD b (0, [])
      let psn := fun b => (blk b).any fun e => k.elPsn a e
      let k1 := k.putGroup g (k.active g) fun e => ((res (e / 32)).2.getD (e % 32) 0, k.elPsn a e)
      let k2 := k1.putGroup { sc with zero := g.zero } (fun b => k.active g (32 * b)) fun b => ((res b).1, psn b)
      vecDone s d { k2.raise r.2.1 with vxSrState := r.2.2.setWidth 64 }
    else operandFault s d
/-- VQMX. -/
def execVqmx (d : Nat) (s : State) : Host.Outcome State Fault Refusal := .next (issue s d 0x7051 .plain (vqmxBody d))

/-! ### Vector length -/

/-- VSETVL. -/
def execVsetvl (d : Nat) (s : State) : Host.Outcome State Fault Refusal :=
  .next (issue s d 0x7060 .plain (vecOp d 1 (fun _ => true) fun k l s =>
    if (opW l 0).toNat ≤ 4096 then .retire (s.setCore d { k with vxVl := opW l 0 }) else operandFault s d))
/-- VGETVL. -/
def execVgetvl (d : Nat) (s : State) : Host.Outcome State Fault Refusal :=
  .next (issue s d 0x7061 .plain fun s => stackBody s d ((s.core d).push ⟨w64 (s.core d).vl, false⟩))

/-! ### Reductions and summaries (R142-R145) -/

/-- A result claimed by the reduction unit and pushed without poison. -/
def redPush (s : State) (d : Nat) (k : Core) (v : W64) : Body :=
  if (s.core d).pairMiss then pairFault s d
  else stackBody s d ({ k with redClaims := k.redClaims + 1 }.push ⟨v, false⟩)

/-- `VX.RSTAT` after a reduction or summary (R144, R151). -/
def Core.rstat (k : Core) (empty bad : Bool) : Core :=
  { k with vxRstat := setFld (if bad then k.vxRstat ||| 2 else k.vxRstat) 0 0 (b2n empty), sawPoison := k.sawPoison || bad }

/-- Sixteen accumulators combined in pairs, w of them left (R142). -/
def redTree (f : Nat → Nat → Nat × Fl) : Nat → List Nat → Nat × Fl
  | 0, l => (l.getD 0 0, 0)
  | w + 1, l =>
    let half := l.length / 2
    let ps := (upTo half).map fun j => f (l.getD (2 * j) 0) (l.getD (2 * j + 1) 0)
    let r := redTree f w (ps.map (·.1))
    (r.1, r.2 ||| ps.foldl (fun (x : Fl) q => x ||| q.2) 0)

/-- The fixed-order FP64 reduction of (index, FP64 pattern) pairs. -/
def redFloat (f : Nat → Nat → Nat × Fl) (init : Nat) (l : List (Nat × Nat)) : Nat × Fl :=
  let r := l.foldl (fun (r : List Nat × Fl) q =>
    let x := f (r.1.getD (q.1 % 16) 0) q.2
    (lset r.1 (q.1 % 16) x.1, r.2 ||| x.2)) (List.replicate 16 init, 0)
  let t := redTree f 4 r.1
  (t.1, r.2 ||| t.2)

/-- An element as FP64, or as INT64, exactly. -/
def wideEl (ieee : Bool) (c x : Nat) : Nat × Fl :=
  if isFloat c then convert 0 .arith ieee (decode c x) else (encInt 14 (intVal c x), 0)

/-- VRSUM and VRPROD ( a -- value ). -/
def redSum (d : Nat) (prod : Bool) : State → Body :=
  vecOp d 1 (fun _ => true) fun k l s =>
    let a := grp (opW l 0)
    if a.ok && isArith a.fmt then
      let act := k.actives a
      let k1 := k.rstat act.isEmpty (act.any (k.elPsn a))
      let ws := act.map fun e => (e, wideEl k.ieee a.fmt (k.el a e))
      if isFloat a.fmt then
        let one := if prod then 0x3FF0000000000000 else 0
        let f := fun x y => if prod then mulV k.ieee 0 (decode 0 x) (decode 0 y) else addV k.ieee 0 (decode 0 x) (decode 0 y)
        let r := if act.isEmpty then (one, 0) else redFloat f one (ws.map fun q => (q.1, q.2.1))
        redPush s d (k1.raise (ws.foldl (fun (x : Fl) q => x ||| q.2.2) r.2)) (w64 r.1)
      else
        redPush s d k1 (wInt (ws.foldl (fun (i : Int) q => if prod then i * sx 64 q.2.1 else i + sx 64 q.2.1) (if prod then 1 else 0)))
    else operandFault s d
/-- VRSUM. -/
def execVrsum (d : Nat) (s : State) : Host.Outcome State Fault Refusal := .next (issue s d 0xB000 .plain (redSum d false))
/-- VRPROD. -/
def execVrprod (d : Nat) (s : State) : Host.Outcome State Fault Refusal := .next (issue s d 0xB001 .plain (redSum d true))

/-- VRMAX and VRMIN ( a -- value ). -/
def redMax (d : Nat) (mx : Bool) : State → Body :=
  vecOp d 1 (fun _ => true) fun k l s =>
    let a := grp (opW l 0)
    if a.ok && isArith a.fmt then
      let act := k.actives a
      let k1 := k.rstat act.isEmpty (act.any (k.elPsn a))
      match act with
      | [] =>
        redPush s d k1 (if isFloat a.fmt then w64 (encInf 0 mx) else wInt (if mx then intMin a.fmt else intMax a.fmt))
      | e :: t =>
        let r := t.foldl (fun (r : Nat × Fl) e =>
          let x := maxMin mx k.ieee a.fmt r.1 (k.el a e)
          (x.1, r.2 ||| x.2)) (k.el a e, 0)
        let w := wideEl k.ieee a.fmt r.1
        redPush s d (k1.raise (r.2 ||| w.2)) (w64 w.1)
    else operandFault s d
/-- VRMAX. -/
def execVrmax (d : Nat) (s : State) : Host.Outcome State Fault Refusal := .next (issue s d 0xB002 .plain (redMax d true))
/-- VRMIN. -/
def execVrmin (d : Nat) (s : State) : Host.Outcome State Fault Refusal := .next (issue s d 0xB003 .plain (redMax d false))

/-- ( m k -- value ): f of the mask's low k bits and k. -/
def maskSum (d : Nat) (f : List Nat → Nat → W64) : State → Body :=
  vecOp d 2 (fun _ => true) fun k l s =>
    let m := (opW l 0).toNat
    let n := (opW l 1).toNat
    if m < 16 ∧ n ≤ 2048 then
      redPush s d (k.rstat (n == 0) false) (f ((upTo n).filter fun i => (k.mreg m).getLsbD i) n)
    else operandFault s d
/-- VCOUNT. -/
def execVcount (d : Nat) (s : State) : Host.Outcome State Fault Refusal :=
  .next (issue s d 0xB010 .plain (maskSum d fun l _ => w64 l.length))
/-- VANY. -/
def execVany (d : Nat) (s : State) : Host.Outcome State Fault Refusal :=
  .next (issue s d 0xB011 .plain (maskSum d fun l _ => flagW (!l.isEmpty)))
/-- VALL. -/
def execVall (d : Nat) (s : State) : Host.Outcome State Fault Refusal :=
  .next (issue s d 0xB012 .plain (maskSum d fun l n => flagW (l.length == n)))
/-- VFIRST. -/
def execVfirst (d : Nat) (s : State) : Host.Outcome State Fault Refusal :=
  .next (issue s d 0xB013 .plain (maskSum d fun l _ => match l with
    | [] => maskW 63 0
    | i :: _ => w64 i))

end Sys2Proof.Machine
end

