-- ==== Sys2Proof/Machine/VecMem.lean ====
section
/-! DEFINITION. Vector memory instructions (R129-R133) and the operand cache (R134-R137). -/

namespace Sys2Proof.Machine

/-! ### Element addresses and their checks -/

/-- base + i, as a 64-bit address. -/
def addrAt (base : Nat) (i : Int) : Nat := (((base : Int) + i) % (2 ^ 64 : Nat)).toNat
/-- The bytes that hold element e of a contiguous access: its own, or the byte or 24-bit group of a packed one (R34). -/
def contPlace (f base e : Nat) : Nat × Nat :=
  if elW f = 4 then (addrAt base (e / 2 : Nat), 1)
  else if isPacked f then (addrAt base (3 * (e / 4) : Nat), 3)
  else (addrAt base (e * (fmtBits f / 8) : Nat), fmtBits f / 8)
/-- The bit of those bytes at which the element starts. -/
def placeBit (f e : Nat) : Nat := if elW f = 4 then 4 * (e % 2) else if isPacked f then 6 * (e % 4) else 0

/-- The detail of a VEC_ACCESS fault on n bytes at a, if the access is refused (Table 5.16). -/
def vaDetail (s : State) (d need a n : Nat) : Option Nat :=
  if !(isMemory a && isMemory (a + n - 1)) then some 2
  else
    match s.chk (s.corePart d) [need] a n with
    | .ok => none
    | .perm _ => some 1
    | _ => some 0
/-- The lowest-numbered element that faults: element, cause, detail, address (R129, R130). -/
def firstFault (s : State) (d need : Nat) (align : Bool) : List (Nat × Nat × Nat) → Option (Nat × Nat × Nat × Nat)
  | [] => none
  | x :: t =>
    match vaDetail s d need x.2.1 x.2.2 with
    | some y => some (x.1, 2, y, x.2.1)
    | none => if align && x.2.1 % x.2.2 != 0 then some (x.1, 3, 0, x.2.1) else firstFault s d need align t

/-- Adjacent or repeated places joined into runs, in order. -/
def runsOf : List (Nat × Nat) → List (Nat × Nat)
  | [] => []
  | x :: t => t.foldl (fun (r : List (Nat × Nat)) y => match r with
      | [] => [y]
      | z :: r' => if z.1 ≤ y.1 ∧ y.1 ≤ z.1 + z.2 then (z.1, max z.2 (y.1 + y.2 - z.1)) :: r' else y :: z :: r') [x]
    |>.reverse
/-- Read the runs in order. -/
def readRuns (s : State) (die : Nat) (l : List (Nat × Nat)) : State × List (Nat × List PB) :=
  l.foldl (fun r x =>
    let y := readMem r.1 die x.1 x.2
    (y.1, r.2 ++ [(x.1, y.2)])) (s, [])
/-- n bytes at a of what was read. -/
def fromRuns (l : List (Nat × List PB)) (a n : Nat) : List PB :=
  match l.find? fun r => r.1 ≤ a && decide (a + n ≤ r.1 + r.2.length) with
  | some r => (r.2.drop (a - r.1)).take n
  | none => []
/-- Writes joined where one starts at another's end. -/
def joinWrites : List (Nat × List PB) → List (Nat × List PB)
  | [] => []
  | x :: t => (t.foldl (fun (r : List (Nat × List PB)) y => match r with
      | [] => [y]
      | z :: r' => if y.1 = z.1 + z.2.length then (z.1, z.2 ++ y.2) :: r' else y :: z :: r') [x]).reverse

/-- Lines of the data cache that n bytes at a overlap are gone (R133). -/
def Core.dcInval (k : Core) (a n : Nat) : Core :=
  if n = 0 then k
  else
    let ls := (List.range ((a + n - 1) / 64 - a / 64 + 1)).map fun i => (a / 64 + i) * 64
    { k with dcache := ls.foldl cacheDrop k.dcache, misses := k.misses.filter fun m => !ls.contains m.line.addr }
/-- The bytes count as written by this kernel's vector stores (R304). -/
def Core.cover (k : Core) (a n : Nat) : Core := { k with cvCover := coverAdd k.cvCover a n }

/-- Write runs for core d, as one vector store. -/
def vecWrite (s : State) (d : Nat) (l : List (Nat × List PB)) : State :=
  let s1 := l.foldl (fun s x =>
    let s1 := coreWrite s d x.1 x.2
    s1.setCore d (((s1.core d).dcInval x.1 x.2.length).cover x.1 x.2.length)) s
  s1.setCore d { s1.core d with storesOut := (s1.core d).storesOut + 1
                                sawPoison := (s1.core d).sawPoison || l.any fun x => pbPsn x.2 }

/-! ### Loads -/

/-- Load the active elements of g, all or those below a first fault; VL is set by a first-fault form that stops (R131). -/
def vecLoad (s : State) (d : Nat) (k : Core) (g : Grp) (ff : Bool) (place : Nat → Nat × Nat) (bit : Nat → Nat) : Body :=
  let act := k.actives g
  let pl := act.map fun e => (e, place e)
  let go := fun (act : List Nat) (vl : Option Nat) =>
    let r := readRuns s (s.dieOf (d / 8)) (runsOf (act.map place))
    let res := fun e =>
      let b := fromRuns r.2 (place e).1 (place e).2
      (pbNat b / 2 ^ bit e % 2 ^ fmtBits g.fmt, pbPsn b)
    let k1 := k.putGroup g (fun e => act.contains e) res
    vecDone r.1 d { k1 with vloadsOut := k1.vloadsOut + 1, vxVl := match vl with
      | some e => w64 e
      | none => k1.vxVl }
  match firstFault s d pR (decide (16 ≤ fmtBits g.fmt)) (pl.map fun q => (q.1, q.2.1, q.2.2)) with
  | none => go act none
  | some f => if ff ∧ act.head? ≠ some f.1 then go (act.filter (· < f.1)) (some f.1) else vecFault s d f.2.1 f.1 f.2.2.1 f.2.2.2

/-- VLD and VLDFF ( addr d -- ). -/
def vldBody (d : Nat) (ff : Bool) : State → Body :=
  vecOp d 2 (fun _ => true) fun k l s =>
    let g := grp (opW l 1)
    if g.ok then vecLoad s d k g ff (contPlace g.fmt (opW l 0).toNat) (placeBit g.fmt) else operandFault s d
/-- VLD. -/
def execVld (d : Nat) (s : State) : Host.Outcome State Fault Refusal := .next (issue s d 0x8000 .plain (vldBody d false))
/-- VLDFF. -/
def execVldff (d : Nat) (s : State) : Host.Outcome State Fault Refusal := .next (issue s d 0x8006 .plain (vldBody d true))
/-- VLDS ( addr stride d -- ). -/
def vldsBody (d : Nat) : State → Body :=
  vecOp d 3 (fun _ => true) fun k l s =>
    let g := grp (opW l 2)
    if g.ok && !isPacked g.fmt then
      vecLoad s d k g false (fun e => (addrAt (opW l 0).toNat ((opW l 1).toInt * e), fmtBits g.fmt / 8)) fun _ => 0
    else operandFault s d
/-- VLDS. -/
def execVlds (d : Nat) (s : State) : Host.Outcome State Fault Refusal := .next (issue s d 0x8002 .plain (vldsBody d))

/-- An index group for n elements. -/
def idxOk (x : Grp) (n : Nat) : Bool := x.ok && (x.fmt == 13 || x.fmt == 14) && x.n == n
/-- The place of an indexed element. -/
def idxPlace (k : Core) (x : Grp) (f base e : Nat) : Nat × Nat := (addrAt base (intVal x.fmt (k.el x e)), fmtBits f / 8)
/-- VGATHER and VGATHERFF ( base idx d -- ). -/
def vgatherBody (d : Nat) (ff : Bool) : State → Body :=
  vecOp d 3 (fun _ => true) fun k l s =>
    let x := grp (opW l 1)
    let g := grp (opW l 2)
    if g.ok && !isPacked g.fmt && idxOk x g.n then
      if (k.actives g).any (k.elPsn x) then .fault s cDataPoison 0
      else vecLoad s d k g ff (idxPlace k x g.fmt (opW l 0).toNat) fun _ => 0
    else operandFault s d
/-- VGATHER. -/
def execVgather (d : Nat) (s : State) : Host.Outcome State Fault Refusal :=
  .next (issue s d 0x8004 .plain (vgatherBody d false))
/-- VGATHERFF. -/
def execVgatherff (d : Nat) (s : State) : Host.Outcome State Fault Refusal :=
  .next (issue s d 0x8007 .plain (vgatherBody d true))

/-! ### Stores -/

/-- The byte or group that a packed store writes: active elements over what memory holds (R123). -/
def packedUnit (s : State) (k : Core) (g : Grp) (base u : Nat) : Nat × List PB :=
  let per := if elW g.fmt = 4 then 2 else 4
  let a := (contPlace g.fmt base (u * per)).1
  let n := (contPlace g.fmt base 0).2
  let w := fmtBits g.fmt
  let es := (upTo per).map (· + u * per)
  let old := s.peek a n
  let part := es.any fun e => !k.active g e
  let v := es.foldl (fun acc e =>
    acc + (if k.active g e then k.el g e else pbNat old / 2 ^ placeBit g.fmt e % 2 ^ w) * 2 ^ placeBit g.fmt e) 0
  (a, pbOf n v (es.any (fun e => k.active g e && k.elPsn g e) || (part && pbPsn old)))

/-- Store the active elements of group g (R130, R152). -/
def vecStore (s : State) (d : Nat) (k : Core) (g : Grp) (place : Nat → Nat × Nat) (packed : Option Nat) : Body :=
  let act := k.actives g
  match firstFault s d pW (decide (16 ≤ fmtBits g.fmt)) (act.map fun e => (e, (place e).1, (place e).2)) with
  | some f => vecFault s d f.2.1 f.1 f.2.2.1 f.2.2.2
  | none =>
    if (s.core d).pairMiss then pairFault s d
    else
      let k1 := if g.rchk then k.rangeTest (act.map fun e => (e, decode g.fmt (k.el g e))) else k
      let ws := match packed with
        | none => act.map fun e => ((place e).1, pbOf (place e).2 (k.el g e) (k.elPsn g e))
        | some base =>
          let per := if elW g.fmt = 4 then 2 else 4
          ((upTo (g.n / per)).filter fun u => (upTo per).any fun i => k.active g (u * per + i)).map (packedUnit s k g base)
      .retire (vecWrite (s.setCore d k1) d (joinWrites ws))

/-- VST ( a addr -- ). -/
def vstBody (d : Nat) : State → Body :=
  vecOp d 2 (fun _ => true) fun k l s =>
    let g := grp (opW l 0)
    if g.ok then
      vecStore s d k g (contPlace g.fmt (opW l 1).toNat) (if isPacked g.fmt then some (opW l 1).toNat else none)
    else operandFault s d
/-- VST. -/
def execVst (d : Nat) (s : State) : Host.Outcome State Fault Refusal := .next (issue s d 0x8001 .plain (vstBody d))
/-- VSTS ( a addr stride -- ). -/
def vstsBody (d : Nat) : State → Body :=
  vecOp d 3 (fun _ => true) fun k l s =>
    let g := grp (opW l 0)
    if g.ok && !isPacked g.fmt then
      vecStore s d k g (fun e => (addrAt (opW l 1).toNat ((opW l 2).toInt * e), fmtBits g.fmt / 8)) none
    else operandFault s d
/-- VSTS. -/
def execVsts (d : Nat) (s : State) : Host.Outcome State Fault Refusal := .next (issue s d 0x8003 .plain (vstsBody d))
/-- VSCATTER ( a base idx -- ). -/
def vscatterBody (d : Nat) : State → Body :=
  vecOp d 3 (fun _ => true) fun k l s =>
    let g := grp (opW l 0)
    let x := grp (opW l 2)
    if g.ok && !isPacked g.fmt && idxOk x g.n then
      if (k.actives g).any (k.elPsn x) then .fault s cDataPoison 0
      else vecStore s d k g (idxPlace k x g.fmt (opW l 1).toNat) none
    else operandFault s d
/-- VSCATTER. -/
def execVscatter (d : Nat) (s : State) : Host.Outcome State Fault Refusal := .next (issue s d 0x8005 .plain (vscatterBody d))

/-! ### The operand cache -/

/-- An unbound line. -/
def OcLine.none : OcLine := { st := .invalid, addr := 0, data := 0, psn := false, wbPending := false }
def Core.ocLine (k : Core) (i : Nat) : OcLine := mget OcLine.none k.oc i
def Core.setOc (k : Core) (i : Nat) (x : OcLine) : Core := { k with oc := mput OcLine.none k.oc i x }
/-- The fill has arrived, the write-back is acknowledged: what an instruction on the line waits for. -/
def OcLine.settle (x : OcLine) : OcLine :=
  { x with st := if x.st = .filling ∨ x.wbPending then .clean else x.st, wbPending := false }
/-- Lines i … settled. -/
def Core.ocSettle (k : Core) (l : List Nat) : Core := l.foldl (fun k i => k.setOc i (k.ocLine i).settle) k

/-- The operand cache lines that elements of a stream of format f from a line touch. -/
def ocLinesOf (f line : Nat) (es : List Nat) : List Nat :=
  es.foldl (fun m e => sadd (sadd m (line + e * fmtBits f / 512)) (line + (e * fmtBits f + fmtBits f - 1) / 512)) []
/-- The lines may be read or written: they exist and none is INVALID. -/
def Core.ocUsable (k : Core) (l : List Nat) : Bool := l.all fun i => decide (i < 2048) && (k.ocLine i).st != .invalid

/-- Bit i of the operand cache taken as one string of bits from a line on. -/
def Core.ocByte (k : Core) (i : Nat) : Byte := (k.ocLine (i / 64)).data.extractLsb' (8 * (i % 64)) 8
/-- The pattern of stream element e. -/
def Core.ocEl (k : Core) (f line e : Nat) : Nat :=
  let w := fmtBits f
  let b := line * 64 + e * w / 8
  leNat ((upTo ((w + 15) / 8)).map fun i => k.ocByte (b + i)) / 2 ^ (e * w % 8) % 2 ^ w
/-- A stream element comes from a poisoned line (R137). -/
def Core.ocPsn (k : Core) (f line e : Nat) : Bool :=
  (k.ocLine (line + e * fmtBits f / 512)).psn || (k.ocLine (line + (e * fmtBits f + fmtBits f - 1) / 512)).psn

/-- Write stream elements (element, pattern, poison) of format f from a line: the lines become DIRTY; a line wholly written
with unpoisoned data loses its poison bit (R137). -/
def Core.ocWrite (k : Core) (f line : Nat) (l : List (Nat × Nat × Bool)) : Core :=
  let w := fmtBits f
  (ocLinesOf f line (l.map (·.1))).foldl (fun k' i =>
    let x := k'.ocLine i
    let mine := l.filter fun q => q.1 * w < (i - line + 1) * 512 && decide ((i - line) * 512 < q.1 * w + w)
    let r := mine.foldl (fun (r : Nat × Nat) q =>
      let sh := q.1 * w % 512 + (if q.1 * w / 512 < i - line then 0 else 512)
      let m := (2 ^ w - 1) * 2 ^ sh / 2 ^ 512 % 2 ^ 512
      let v := q.2.1 % 2 ^ w * 2 ^ sh / 2 ^ 512 % 2 ^ 512
      ((r.1 &&& ((2 ^ 512 - 1) ^^^ m)) ||| v, r.2 ||| m)) (x.data.toNat, 0)
    let bad := mine.any fun q => q.2.2
    let whole := r.2 == 2 ^ 512 - 1
    k'.setOc i { x with st := .dirty, data := BitVec.ofNat 512 r.1, psn := bad || (x.psn && !whole), wbPending := false }) k

/-- VOCLD ( line d -- ). -/
def vocldBody (d : Nat) : State → Body :=
  vecOp d 2 (fun _ => true) fun k l s =>
    let line := (opW l 0).toNat
    let g := grp (opW l 1)
    let ls := ocLinesOf g.fmt line (k.actives g)
    if g.ok && decide (line < 2048) && k.ocUsable ls then
      let k1 := k.ocSettle ls
      vecDone s d (k1.putGroup g (k1.active g) fun e => (k1.ocEl g.fmt line e, k1.ocPsn g.fmt line e))
    else operandFault s d
/-- VOCLD. -/
def execVocld (d : Nat) (s : State) : Host.Outcome State Fault Refusal := .next (issue s d 0x8010 .plain (vocldBody d))
/-- VOCST ( a line -- ). -/
def vocstBody (d : Nat) : State → Body :=
  vecOp d 2 (fun _ => true) fun k l s =>
    let g := grp (opW l 0)
    let line := (opW l 1).toNat
    let act := k.actives g
    let ls := ocLinesOf g.fmt line act
    if g.ok && decide (line < 2048) && k.ocUsable ls then
      let k1 := k.ocSettle ls
      let k2 := k1.ocWrite g.fmt line (act.map fun e => (e, k1.el g e, k1.elPsn g e))
      let k3 := if g.rchk then k2.rangeTest (act.map fun e => (e, decode g.fmt (k1.el g e))) else k2
      vecDone s d (ls.foldl (fun k i => k.dcInval (k.ocLine i).addr 64) k3)
    else operandFault s d
/-- VOCST. -/
def execVocst (d : Nat) (s : State) : Host.Outcome State Fault Refusal := .next (issue s d 0x8011 .plain (vocstBody d))

/-- A line range is admitted (R135). -/
def ocRange (line count : Nat) : Bool := decide (1 ≤ count) && decide (count ≤ 2048) && decide (line + count ≤ 2048)
/-- Its lines. -/
def ocLines (line count : Nat) : List Nat := (upTo count).map (· + line)
/-- A DIRTY line whose content is discarded is counted (R135). -/
def Core.ocDiscard (k : Core) (i : Nat) : Core :=
  if (k.ocLine i).settle.st = .dirty then { k with vxDiscard := satN 16 (k.vxDiscard + 1) } else k

/-- OCFILL and OCBIND ( addr line count -- ). -/
def ocBindBody (d : Nat) (fill : Bool) : State → Body :=
  vecOp d 3 (fun _ => true) fun k l s =>
    let a := (opW l 0).toNat
    let line := (opW l 1).toNat
    let n := (opW l 2).toNat
    if !ocRange line n then operandFault s d
    else
      match firstFault s d (if fill then pR else pW) false ((upTo n).map fun i => (0, a + 64 * i, 64)) with
      | some f => vecFault s d f.2.1 f.1 f.2.2.1 f.2.2.2
      | none =>
        if a % 64 ≠ 0 then vecFault s d 3 0 0 a
        else
          let r := (upTo n).foldl (fun (r : State × Core) i =>
            let k1 := r.2.ocDiscard (line + i)
            if fill then
              let x := readMem r.1 (s.dieOf (d / 8)) (a + 64 * i) 64
              (x.1, k1.setOc (line + i) { st := .filling, addr := a + 64 * i, data := BitVec.ofNat 512 (pbNat x.2)
                                          psn := pbPsn x.2, wbPending := false })
            else (r.1, k1.setOc (line + i) { st := .clean, addr := a + 64 * i, data := 0, psn := false, wbPending := false })) (s, k)
          .retire (r.1.setCore d { r.2 with hwPend := (r.1.core d).hwPend })
/-- OCFILL. -/
def execOcfill (d : Nat) (s : State) : Host.Outcome State Fault Refusal := .next (issue s d 0x8012 .plain (ocBindBody d true))
/-- OCBIND. -/
def execOcbind (d : Nat) (s : State) : Host.Outcome State Fault Refusal := .next (issue s d 0x8013 .plain (ocBindBody d false))

/-- OCWB ( line count -- ): each DIRTY line is written to its bound address, and is CLEAN once that is acknowledged. -/
def ocwbBody (d : Nat) : State → Body :=
  vecOp d 2 (fun _ => true) fun k l s =>
    let line := (opW l 0).toNat
    let n := (opW l 1).toNat
    if !ocRange line n then operandFault s d
    else
      let k1 := k.ocSettle (ocLines line n)
      let ds := (ocLines line n).filter fun i => (k1.ocLine i).st == .dirty
      match firstFault s d pW false (ds.map fun i => (i - line, (k1.ocLine i).addr, 64)) with
      | some f => vecFault s d f.2.1 f.1 f.2.2.1 f.2.2.2
      | none =>
        let k2 := ds.foldl (fun k i => k.setOc i { k.ocLine i with wbPending := true }) k1
        let ws := ds.map fun i => ((k1.ocLine i).addr, pbOf 64 (k1.ocLine i).data.toNat (k1.ocLine i).psn)
        .retire (vecWrite (s.setCore d k2) d ws)
/-- OCWB. -/
def execOcwb (d : Nat) (s : State) : Host.Outcome State Fault Refusal := .next (issue s d 0x8014 .plain (ocwbBody d))
/-- OCEVICT ( line count -- ). -/
def ocevictBody (d : Nat) : State → Body :=
  vecOp d 2 (fun _ => true) fun k l s =>
    let line := (opW l 0).toNat
    let n := (opW l 1).toNat
    if ocRange line n then
      .retire (s.setCore d ((ocLines line n).foldl (fun k i => (k.ocDiscard i).setOc i OcLine.none) k))
    else operandFault s d
/-- OCEVICT. -/
def execOcevict (d : Nat) (s : State) : Host.Outcome State Fault Refusal := .next (issue s d 0x8015 .plain (ocevictBody d))
/-- OCSYNC: its wait ends once no fill or write-back is outstanding. -/
def execOcsync (d : Nat) (s : State) : Host.Outcome State Fault Refusal :=
  .next (issue s d 0x8016 .plain fun s => .retire (s.setCore d ((s.core d).ocSettle ((s.core d).oc.map (·.1)))))

end Sys2Proof.Machine
end

