-- ==== Sys2Proof/Machine/VecFold.lean ====
section
/-! DEFINITION. The vector unit's folds (R146-R148) and fused chains (R138-R141). -/

namespace Sys2Proof.Machine

/-! ### Folds -/

/-- What a core keeps of a fold's answer: FOLD_REJ for a rejection, and the refused check entry (R148, R303); a poisoned
read-out (R108) or a poisoned operand (R289; log entry 118) makes the kernel end POISONED. -/
def foldSeen (r : FoldRes) (d : Nat) : State :=
  let k := r.s.core d
  r.s.setCore d { k with vxStatus := if r.rej.isSome then k.vxStatus ||| 32 else k.vxStatus, cvOut := k.cvOut || r.cv,
                         sawPoison := k.sawPoison || r.psn }

/-- VFOLD ( a addr op -- ). A misaligned address is the operand fault (R146; log entry 22). -/
def vfoldBody (d : Nat) : State → Body :=
  vecOp d 3 (fun _ => true) fun k l s =>
    let g := grp (opW l 0)
    let a := (opW l 1).toNat
    let op := (opW l 2).toNat
    let w := elW g.fmt
    let per := 512 / w
    if g.ok && ((op == 0 && g.fmt == 1) || (op == 1 && g.fmt == 0) || (op == 2 && g.fmt == 14)) && a % 64 == 0 then
      let lines := (upTo ((g.n + per - 1) / per)).filter fun i => (upTo per).any fun j => k.active g (i * per + j)
      let p := s.corePart d
      let bad := lines.findSome? fun i => (s.foldTarget p (a + 64 * i)).map fun st =>
        (i, if st = .outOfBounds then 0 else if isStaging (a + 64 * i) || isMemory (a + 64 * i) then 3 else 2)
      match bad with
      | some x =>
        let e := ((upTo per).map (· + x.1 * per)).find? (k.active g)
        vecFault s d 2 (e.getD 0) x.2 (a + 64 * x.1)
      | none =>
        if (s.core d).pairMiss then pairFault s d
        else
          .retire (lines.foldl (fun s i =>
            let es := fun j => i * per + j
            let x := (upTo per).foldl (fun n j => n + (if es j < g.n then k.el g (es j) else 0) * 2 ^ (w * j)) 0
            let f := foldLaneOp op
            foldSeen (lineFold s p (a + 64 * i) f.1 f.2 x (fun j => k.active g (es j)) (fun j => k.elPsn g (es j))) d)
            (s.setCore d k))
    else operandFault s d
/-- VFOLD. -/
def execVfold (d : Nat) (s : State) : Host.Outcome State Fault Refusal := .next (issue s d 0x8020 .plain (vfoldBody d))

/-- The first active element whose cell does not lie in a valid buffer, with that cell's address (R146). -/
def swardFault (s : State) (p buf cell : Nat) (es : List Nat) : Option (Nat × Nat) :=
  let ok := decide (buf < 64) && s.sbValid p buf
  (es.find? fun e => !(ok && decide (cell + e < s.sbCells p buf))).map fun e =>
    (e, if ok then s.sbBase p buf + 64 * (cell + e) else 0)

/-- VSWADD ( a buf cell -- ). -/
def vswaddBody (d : Nat) : State → Body :=
  vecOp d 3 (fun _ => true) fun k l s =>
    let g := grp (opW l 0)
    let buf := (opW l 1).toNat
    let cell := (opW l 2).toNat
    let p := s.corePart d
    if g.ok && (g.fmt == 0 || g.fmt == 1 || g.fmt == 3) then
      match swardFault s p buf cell (k.actives g) with
      | some x => vecFault s d 2 x.1 4 x.2
      | none =>
        if (s.core d).pairMiss then pairFault s d
        else
          .retire ((k.actives g).foldl (fun s e =>
            foldSeen (swaddFloat s p (s.sbBase p buf + 64 * (cell + e)) buf g.fmt (k.el g e) (k.elPsn g e)) d) (s.setCore d k))
    else operandFault s d
/-- VSWADD. -/
def execVswadd (d : Nat) (s : State) : Host.Outcome State Fault Refusal := .next (issue s d 0x8021 .plain (vswaddBody d))

/-- VSWRD and VSWRDC ( buf cell d -- ). -/
def vswrdBody (d : Nat) (clr : Bool) : State → Body :=
  vecOp d 3 (fun _ => true) fun k l s =>
    let buf := (opW l 0).toNat
    let cell := (opW l 1).toNat
    let g := grp (opW l 2)
    let p := s.corePart d
    if g.ok && g.fmt == 0 then
      match swardFault s p buf cell (k.actives g) with
      | some x => vecFault s d 2 x.1 4 x.2
      | none =>
        if (s.core d).pairMiss then pairFault s d
        else
          let r := (k.actives g).foldl (fun (r : State × List (Nat × Nat × Bool)) e =>
            let x := swardRead r.1 p (r.1.sbBase p buf + 64 * (cell + e)) buf clr
            (foldSeen x d, if x.rej.isSome then r.2 else r.2 ++ [(e, x.val.toNat, x.psn)])) (s.setCore d k, [])
          let res := fun e => (r.2.find? fun q => q.1 == e).map (·.2)
          .retire (r.1.setCore d ((r.1.core d).putGroup g (fun e => (res e).isSome) fun e => (res e).getD (0, false)))
    else operandFault s d
/-- VSWRD. -/
def execVswrd (d : Nat) (s : State) : Host.Outcome State Fault Refusal := .next (issue s d 0x8022 .plain (vswrdBody d false))
/-- VSWRDC. -/
def execVswrdc (d : Nat) (s : State) : Host.Outcome State Fault Refusal := .next (issue s d 0x8023 .plain (vswrdBody d true))

/-- The exact local sum of VRSW: integer, flags of Table 4.5 (R147). -/
def localCell (anchor : Int) (l : List (Val × Bool)) : Int × Nat :=
  l.foldl (fun (r : Int × Nat) q =>
    if q.2 then (r.1, r.2 ||| 8)
    else
      let c := swContrib anchor q.1
      (r.1 + c.1.getD 0, r.2 ||| c.2)) (0, 0)

/-- VRSW ( a buf cell -- flags ). -/
def vrswBody (d : Nat) : State → Body :=
  vecOp d 3 (fun _ => true) fun k l s =>
    let g := grp (opW l 0)
    let buf := (opW l 1).toNat
    let cell := (opW l 2).toNat
    let p := s.corePart d
    if g.ok && (g.fmt == 0 || g.fmt == 1 || g.fmt == 3) then
      match swardFault s p buf cell [0] with
      | some x => vecFault s d 2 x.1 4 x.2
      | none =>
        if (s.core d).pairMiss then pairFault s d
        else
          let r := localCell (s.anchor p buf) ((k.actives g).map fun e => (decode g.fmt (k.el g e), k.elPsn g e))
          let f := swardAdd (s.setCore d k) p buf (s.sbBase p buf + 64 * cell) (r.2 / 8 % 2 == 1)
            (some (sx 512 (r.1 % (2 ^ 512 : Nat)).toNat), r.2)
          let s1 := foldSeen f d
          stackBody s1 d ({ s1.core d with redClaims := (s1.core d).redClaims + 1 }.push ⟨w64 r.2, false⟩)
    else operandFault s d
/-- VRSW. -/
def execVrsw (d : Nat) (s : State) : Host.Outcome State Fault Refusal := .next (issue s d 0xB020 .plain (vrswBody d))

/-! ### Fused chains -/

/-- A stream of a chain: line and format. -/
def chainStream (w : W64) (i : Nat) : Nat × Nat := (fld w (16 * i + 10) (16 * i), fld w (16 * i + 14) (16 * i + 11))
/-- How many operands an operation takes: X; X and Y; X, Y and Z. -/
def chainArity (op : Nat) : Nat :=
  if op = 4 ∨ op = 0x10 then 3 else if (1 ≤ op ∧ op ≤ 3) ∨ op = 5 ∨ op = 6 ∨ op = 9 then 2 else 1
/-- The selects of the operands that a stage uses. -/
def stageSels (w : W64) : List Nat := [fld w 10 8, fld w 13 11, fld w 16 14].take (chainArity (fld w 7 0))
/-- The constants that a stage uses. -/
def stageConsts (w : W64) : List Nat :=
  (stageSels w).filterMap fun x => if x = 4 then some (fld w 19 17) else if x = 5 then some (fld w 22 20) else none

/-- Fields of a chain header (Table 5.6). -/
def chainN (w : W64) : Nat := fld w 16 0
def chainSrc (w : W64) : Nat := fld w 18 17
def chainStages (w : W64) : Nat := fld w 21 19 + 1
/-- Working format code. -/
def chainWf (w : W64) : Nat := if bitW w 36 then 0 else 1

/-- The streams that a chain touches, the result's last. -/
def chainStreams (h w1 : W64) : List (Nat × Nat) := (upTo (chainSrc h)).map (chainStream w1) ++ [chainStream w1 3]

/-- R140: the descriptor is admitted. -/
def chainOk (k : Core) (w : List W64) : Bool :=
  let h := w.getD 0 0
  let n := chainN h
  let res := chainStream (w.getD 1 0) 3
  let st := (upTo (chainStages h)).map fun i => (i, w.getD (2 + i) 0)
  let saved := fun i => (upTo i).any fun j => bitW (w.getD (2 + j) 0) 23
  decide (1 ≤ n) && decide (n ≤ 65536) && decide (1 ≤ chainSrc h)
  && st.all (fun q => decide (fld q.2 7 0 ≤ 0x11) && (stageSels q.2).all (fun x =>
      (decide (3 ≤ x) || decide (x < chainSrc h)) && !(x == 3 && q.1 == 0) && !(x == 6 && !saved q.1))
      && (stageConsts q.2).all (· < 6))
  && (chainStreams h (w.getD 1 0)).all (fun q =>
      q.2 != 15 && !(chainWf h == 1 && (q.2 == 0 || q.2 == 14))
      && decide (q.1 + (n * fmtBits q.2 + 511) / 512 ≤ 2048)
      && (upTo ((n * fmtBits q.2 + 511) / 512)).all fun i => (k.ocLine (q.1 + i)).st != .invalid)
  && !(bitW h 27 && decide ((if elW res.2 = 4 then 4096 else 2048) < n))

/-- One stage's result in the working format: pattern, flags, generator of a stochastic ROUNDTO. -/
def chainOp (ieee : Bool) (wf : Nat) (w : W64) (x y z : Nat) (sr : BitVec 32) : Nat × Fl :=
  let op := fld w 7 0
  let v := decode wf x
  let vy := decode wf y
  let vz := decode wf z
  if op = 0 then (x, 0)
  else if op = 1 then addV ieee wf v vy
  else if op = 2 then subV ieee wf v vy
  else if op = 3 then mulV ieee wf v vy
  else if op = 4 then fmaV ieee wf v vy vz
  else if op = 5 then maxMin true ieee wf x y
  else if op = 6 then maxMin false ieee wf x y
  else if op = 7 then (elAbs wf x, 0)
  else if op = 8 then (elNeg wf x, 0)
  else if op = 9 then divV ieee wf v vy
  else if op = 0x0A then sqrtV ieee wf v
  else if op = 0x0B then elemFn nRsqrt ieee wf x
  else if op = 0x0C then elemFn nExp ieee wf x
  else if op = 0x0D then elemFn nLog ieee wf x
  else if op = 0x0E then elemFn nTanh ieee wf x
  else if op = 0x0F then elemFn nSig ieee wf x
  else if op = 0x10 then (if vz.lt vy then x else 0, cmpFl ieee vy vz)
  else
    let f := fld w 27 24
    let r := convEl (fld w 35 28) ieee wf f x sr
    let b := convert wf .arith ieee (decode f r.1)
    (b.1, r.2.1 ||| b.2)

/-- A stage rounds stochastically. -/
def stageStoch (w : W64) : Bool := fld w 7 0 == 0x11 && ctlStoch (fld w 35 28)

/-- The stages of one element: P, T and flags run on; gens holds the generators of the stochastic stages, each already at the
state before this element's draw. -/
def chainRun (ieee : Bool) (wf : Nat) (src : Nat → Nat) (ks : Nat → Nat) : List W64 → List (BitVec 32) → Nat → Nat → Fl → Nat × Fl
  | [], _, p, _, f => (p, f)
  | w :: rest, gens, p, t, f =>
    let sel := fun x => if x < 3 then src x else if x = 3 then p else if x = 4 then ks (fld w 19 17)
      else if x = 5 then ks (fld w 22 20) else if x = 6 then t else 0
    let r := chainOp ieee wf w (sel (fld w 10 8)) (sel (fld w 13 11)) (sel (fld w 16 14)) (gens.headD 0)
    chainRun ieee wf src ks rest (if stageStoch w then gens.drop 1 else gens) r.1 (if bitW w 23 then r.1 else t) (f ||| r.2)

/-- The state of a running chain: the core, results not yet written by group, generators, flags, range violations. -/
structure ChainRun where
  k : Core
  late : List (List (Nat × Nat × Bool))
  gens : List (BitVec 32)
  fl : Fl
  deriving DecidableEq, Repr

/-- One group of elements: the results due by now are written, the sources read, the results computed (R141). -/
def chainGroup (w : List W64) (delay g : Nat) (c : ChainRun) (i : Nat) : ChainRun :=
  let h := w.getD 0 0
  let ieee := c.k.ieee
  let wf := chainWf h
  let res := chainStream (w.getD 1 0) 3
  let k := if delay ≤ c.late.length then c.k.ocWrite res.2 res.1 (c.late.headD []) else c.k
  let late := if delay ≤ c.late.length then c.late.drop 1 else c.late
  let stages := (upTo (chainStages h)).map fun j => w.getD (2 + j) 0
  let conv := fld h 35 28
  let ks := fun j => (convert wf .arith ieee (decode 0 (w.getD (10 + j) 0).toNat)).1
  let nst := (stages.filter stageStoch).length
  let act := fun e => !bitW h 27 || (k.mreg (fld h 26 23)).getLsbD (maskBit res.2 e)
  let es := ((upTo g).map (· + i * g)).filter (· < chainN h)
  let r := es.foldl (fun (r : List (Nat × Nat × Bool) × List (BitVec 32) × Fl) e =>
    let nx := r.2.1.map srStep
    if act e then
      let srcs := (upTo (chainSrc h)).map fun j =>
        let q := chainStream (w.getD 1 0) j
        (convert wf .arith ieee (decode q.2 (k.ocEl q.2 q.1 e)), k.ocPsn q.2 q.1 e)
      let f0 := srcs.foldl (fun (f : Fl) q => f ||| q.1.2) 0
      let x := chainRun ieee wf (fun j => (srcs.getD j ((0, 0), false)).1.1) ks stages r.2.1 0 0 f0
      let y := convEl conv ieee wf res.2 x.1 (r.2.1.getD nst 0)
      (r.1 ++ [(e, y.1, srcs.any (·.2))], nx, r.2.2 ||| x.2 ||| y.2.1)
    else (if bitW h 22 then r.1 ++ [(e, 0, false)] else r.1, nx, r.2.2)) ([], c.gens, c.fl)
  { k, late := late ++ [r.1], gens := r.2.1, fl := r.2.2 }

/-- The lines that a chain touches. -/
def chainTouched (w : List W64) : List Nat :=
  (chainStreams (w.getD 0 0) (w.getD 1 0)).foldl (fun m q =>
    (upTo ((chainN (w.getD 0 0) * fmtBits q.2 + 511) / 512)).foldl (fun m i => sadd m (q.1 + i)) m) []
/-- The stochastic roundings that a chain makes for one element: its stages' and its result's. -/
def chainDraws (w : List W64) : Nat :=
  (((upTo (chainStages (w.getD 0 0))).map fun j => w.getD (2 + j) 0).filter stageStoch).length
    + b2n (ctlStoch (fld (w.getD 0 0) 35 28))
/-- What a chain of an admitted descriptor does (R138-R141). -/
def Core.chain (k : Core) (w : List W64) : Core :=
  let h := w.getD 0 0
  let n := chainN h
  let res := chainStream (w.getD 1 0) 3
  let stages := (upTo (chainStages h)).map fun j => w.getD (2 + j) 0
  let p := if bitW k.vxCtl 0 then 2 else 1
  let g := if chainWf h = 0 then 16 else 32
  let delay := (6 + 4 * stages.length + p - 1) / p
  let nst := (stages.filter stageStoch).length
  let sr := k.vxSrState.setWidth 32
  let gens := (upTo (nst + 1)).map fun j => srSteps (j * n) sr
  let c := (upTo ((n + g - 1) / g)).foldl (chainGroup w delay g) ⟨k.ocSettle (chainTouched w), [], gens, 0⟩
  let k1 := c.late.foldl (fun k x => k.ocWrite res.2 res.1 x) c.k
  let act := (upTo n).filter fun e => !bitW h 27 || (k.mreg (fld h 26 23)).getLsbD (maskBit res.2 e)
  let kf := if act.isEmpty then 0 else (stages.flatMap stageConsts).foldl (fun (f : Fl) j =>
    f ||| (convert (chainWf h) .arith k.ieee (decode 0 (w.getD (10 + j) 0).toNat)).2) 0
  let k2 := k1.raise (c.fl ||| kf)
  let k3 := if bitW h 37 then k2.rangeTest (act.map fun e => (e, decode res.2 (k2.ocEl res.2 res.1 e))) else k2
  { k3 with vxSrState := (srSteps (chainDraws w * n) sr).setWidth 64 }

/-- VCHAIN ( caddr -- ). -/
def vchainBody (d : Nat) : State → Body :=
  vecOp d 1 (fun _ => true) fun k l s =>
    let ca := (opW l 0).toNat
    if ca % 8 ≠ 0 then operandFault s d
    else if !k.lmOk k.priv ca 128 then .fault s cAccess ca
    else if pbPsn (k.lmRead ca 128) then .fault s cDataPoison 0
    else
      let w := pbWords (k.lmRead ca 128)
      if chainOk k w then vecDone s d (k.chain w) else operandFault s d
/-- VCHAIN. -/
def execVchain (d : Nat) (s : State) : Host.Outcome State Fault Refusal := .next (issue s d 0x7070 .plain (vchainBody d))

end Sys2Proof.Machine
end

