-- ==== Sys2Proof/Machine/CoreEvents.lean ====
section
/-! DEFINITION. What happens to a core between its instructions: results, fills, acknowledgements, interrupts and waits. -/

namespace Sys2Proof.Machine

/-- RESULT_FILL (R184): a claimed entry is filled; its value already stands in the entry. -/
def execResultFill (d : Nat) (s : State) : Host.Outcome State Fault Refusal :=
  .next (s.setCore d { s.core d with claims := (s.core d).claims - 1 })
/-- REDUCTION_RESULT (R145). -/
def execReductionResult (d : Nat) (s : State) : Host.Outcome State Fault Refusal :=
  .next (s.setCore d { s.core d with redClaims := (s.core d).redClaims - 1 })
/-- STACK_REFILL (R159, R160): one spilled entry of the return stack, or of the data stack. -/
def execStackRefill (d : Nat) (ret : Bool) (s : State) : Host.Outcome State Fault Refusal :=
  .next (s.setCore d (if ret then (s.core d).refillRs else (s.core d).refillDs))
/-- DCACHE_FILL (R187): the line enters the cache and its miss register is free. -/
def execDcacheFill (d line : Nat) (s : State) : Host.Outcome State Fault Refusal :=
  .next (s.setCore d ((s.core d).dcArrive (line / 64 * 64)))
/-- ICACHE_FILL (R185): a line that the core may fetch arrives, the next sequential one among them. -/
def execIcacheFill (d line : Nat) (s : State) : Host.Outcome State Fault Refusal :=
  .next (if s.canFetch d (line / 64 * 64) ∧ (cacheFind (s.core d).icache line).isNone then (s.icFill d line).1 else s)
/-- CONTROL_LOAD_RETURN (R171): the data is pushed and issue resumes. -/
def execControlLoadReturn (d : Nat) (s : State) : Host.Outcome State Fault Refusal :=
  match (s.core d).run with
  | .waitControl x =>
    match ({ s.core d with run := .running }).push x with
    | .ok k => .next ((s.setCore d k).retire d)
    | .error e => .next (takeException (s.setCore d { s.core d with run := .running }) d cStack e 0)
  | _ => .next s
/-- STORE_ACK (R171). -/
def execStoreAck (d : Nat) (s : State) : Host.Outcome State Fault Refusal :=
  .next (s.setCore d { s.core d with storesOut := (s.core d).storesOut - 1 })
/-- VECTOR_LOAD_ARRIVE (R127). -/
def execVectorLoadArrive (d : Nat) (s : State) : Host.Outcome State Fault Refusal :=
  .next (s.setCore d { s.core d with vloadsOut := (s.core d).vloadsOut - 1 })
/-- OC_FILL_DONE (R135): FILLING becomes CLEAN. -/
def execOcFillDone (d line : Nat) (s : State) : Host.Outcome State Fault Refusal :=
  let x := (s.core d).ocLine line
  .next (if x.st = .filling then s.setCore d ((s.core d).setOc line { x with st := .clean }) else s)
/-- OC_WRITEBACK_ACK (R135): the written line becomes CLEAN. -/
def execOcWritebackAck (d line : Nat) (s : State) : Host.Outcome State Fault Refusal :=
  let x := (s.core d).ocLine line
  .next (if x.wbPending then s.setCore d ((s.core d).setOc line { x with st := .clean, wbPending := false }) else s)

/-- An interrupt that R201 admits, taken at the boundary that the core stands at; a QWAIT resumes at itself (R202). -/
def enterPending (s : State) (d : Nat) : State :=
  let k := s.core d
  if k.slot.isSome ∧ k.run = .running then s
  else
    match k.run with
    | .running => s.boundary d
    | .waitTicket _ => s.boundary d
    | _ => s
/-- EXCEPTION_ENTRY (R200 to R203); the entries of faults and traps are part of the instructions that raise them. -/
def execExceptionEntry (d : Nat) (s : State) : Host.Outcome State Fault Refusal :=
  .next (if s.power.holdIssue then s else enterPending s d)

/-- ATOMIC_WINDOW_EXPIRE (R219). -/
def execAtomicWindowExpire (d : Nat) (s : State) : Host.Outcome State Fault Refusal :=
  let k := s.core d
  if k.winOpen then
    .next (logUnit (s.setCore d { k with winOpen := false, winRem := 0, winOverrun := true }) (s.dieOf (d / 8))
      (s.ofKernel d { ev eWinOverrun with parts := pbitO (s.ownerOf (d / 8)), ukind := uCore
                                          unit := s.phOf (d / 8) * 8 + d % 8, lcluster := d / 8, addr := k.pc, detail := d }) 0)
  else .next s

/-- WFI_WAKE (R221): an interrupt at or above the level is pending; it is taken after WFI where R201 admits it. -/
def execWfiWake (d : Nat) (s : State) : Host.Outcome State Fault Refusal :=
  let k := s.core d
  if k.run = .waitIrq ∧ k.irqPending ∧ !s.power.holdIssue then .next (((s.setCore d { k with run := .running }).retire d).boundary d) else .next s

/-- ABORT_TIMEOUT (R223): Hayward stops the core and discards its part of the kernel. -/
def execAbortTimeout (d : Nat) (s : State) : Host.Outcome State Fault Refusal :=
  let k := s.core d
  if k.kernel.isSome ∧ k.endStatus = none ∧ k.exAbort ≠ 0 then
    let s1 := s.setCore d { k with run := .idle, endStatus := some ((Status.ofCode (fld k.exAbort 7 0)).getD .aborted)
                                   abortPend := none, slot := none, winOpen := false, winRem := 0 }
    .next (logUnit s1 (s.dieOf (d / 8)) (s.ofKernel d { ev eCoreHalted with
      parts := pbitO (s.ownerOf (d / 8)), ukind := uCore, unit := s.phOf (d / 8) * 8 + d % 8, lcluster := d / 8, addr := k.pc
      status := fld k.exAbort 7 0 }) 0)
  else .next s

/-- SOFT_POST (R225): the bits accumulate and SOFT becomes pending. -/
def execSoftPost (d : Nat) (v : BitVec 32) (s : State) : Host.Outcome State Fault Refusal :=
  if v = 0 then .next s
  else .next (s.setCore d { s.core d with post := (s.core d).post ||| v, softPend := true })

end Sys2Proof.Machine
end

