-- ==== Sys2Proof/Machine/Transport.lean ====
section
/-! DEFINITION. The link transport's sending side (R315, R320-R322, R330-R332): frames as they leave, what each link command
sends to each member (R336, R340, R341, R344, R347), acknowledgement, and the end of link commands (R337). PSNs start at 0 and
ACK_PSN is the PSN before the next one expected (log entry 33). -/

namespace Sys2Proof.Machine

/-! ### Frames on the wire -/

/-- The reference of the port's own entry. -/
def ownRef (r : Nat) : Nat := refPort r * 8192
/-- The port is up, and its own entry is valid (R316, R324). -/
def State.portSends (s : State) (k : Nat) : Bool := (s.port k).phase == .up && s.ptValid (k * 8192)
/-- The partner's transmit key slot (R322). -/
def State.txKey (s : State) (r : Nat) : Option KeySlot := mfind s.keys (refPort r * 16384 + fld (s.partner r 5) 13 0)
/-- The transport priority of a port is paused, and the pause is honoured (R319). -/
def State.paused (s : State) (k : Nat) : Bool :=
  s.portEth k && (s.port k).paused.contains (fld (s.reg (aPortCfg ((s.portPart k).getD 0) k)) 18 16)
    && !(s.port k).ignored.contains (fld (s.reg (aPortCfg ((s.portPart k).getD 0) k)) 18 16)
/-- A frame to partner r can go out now: the port sends, the entry is valid and not expelled, the key slot has a packet number
left, and the priority is not paused. -/
def State.canSend (s : State) (r : Nat) : Bool :=
  s.portSends (refPort r) && s.ptValid r && s.ptState r != 2 && !s.paused (refPort r) &&
    (s.txKey r).any fun x => decide (x.nextPn < 2 ^ 64)

/-- The SACK bits of a partner: frames received beyond ACK_PSN. -/
def Transport.sackBits (t : Transport) : BitVec 32 :=
  BitVec.ofNat 32 ((upTo 32).foldl (fun n i => if t.held.any (fun q => q.1 == (t.rxPsn + i) % 2 ^ 32) then n + 2 ^ i else n) 0)
/-- ACK_PSN: all frames up to this one have been received. -/
def Transport.ackPsn (t : Transport) : Nat := (t.rxPsn + 2 ^ 32 - 1) % 2 ^ 32

/-- The frame to partner r with these transport fields, its outer fields from the two entries and the port (R315, R320, R321). -/
def State.buildFrame (s : State) (r type code flags psn : Nat) (x : TxFrame) (payload : List Byte) : Frame :=
  let k := refPort r
  let own := ownRef r
  let cfg := s.reg (aPortCfg ((s.portPart k).getD 0) k)
  let key := s.txKey r
  let t := s.transport r
  { dstNode := fld (s.partner r 0) 31 16, srcNode := fld (s.partner own 0) 31 16
    dstMac := fld (s.partner r 1) 47 0, srcMac := fld (s.partner own 1) 47 0
    dstIp := (s.partner r 2).toNat + (s.partner r 3).toNat * 2 ^ 64
    srcIp := (s.partner own 2).toNat + (s.partner own 3).toNat * 2 ^ 64
    udpPort := fld cfg 34 19, vid := if s.portEth k && bitW cfg 3 then some (fld cfg 15 4) else none, wellFramed := true
    sci := s.partner own 4, an := (key.map (·.an)).getD 0, pn := (key.map (·.nextPn)).getD 0, icvOk := true
    type, ver := 1, flags, op := x.op, code, psn, ackPsn := t.ackPsn, sack := t.sackBits, ctx := x.ctx, window := x.window
    step := x.step, epoch := x.epoch, aux := x.aux, offset := x.offset, len := x.len, payload, coll := x.coll }

/-- Put a frame on the wire: the packet number advances, and the acknowledgement that it carries is sent. -/
def State.wire (s : State) (r : Nat) (f : Frame) : State :=
  let i := refPort r * 16384 + fld (s.partner r 5) 13 0
  let s1 := match mfind s.keys i with
    | some x => { s with keys := madd s.keys i { x with nextPn := x.nextPn + 1 } }
    | none => s
  (s1.setTransport r { s1.transport r with sinceAck := 0 }).emit (.frame (refPort r) r f)

/-- A header with nothing in it. -/
def TxFrame.empty : TxFrame :=
  { psn := 0, opId := none, op := 0, code := 0, ctx := 0, window := 0, epoch := 0, offset := 0, len := 0, src := 0, flags := 0
    step := 0, aux := 0, coll := (0, 0, 0), sacked := false, fast := false, dead := false }

/-- Send a frame of another type than DATA (Table 10.5). A NACK names the frame that it refuses in PSN (log entry 34). -/
def State.sendCtl (s : State) (r type code psn ctx aux : Nat) : State :=
  if s.canSend r then s.wire r (s.buildFrame r type code 0 psn { TxFrame.empty with ctx, aux } []) else s

/-! ### What a link command sends and expects -/

/-- Frames of n bytes, and the bytes of frame i. -/
def framesOf (n : Nat) : Nat := (n + 8191) / 8192
def frameLen (n i : Nat) : Nat := min 8192 (n - i * 8192)

/-- Members of a collective, its neighbours, and frames in a chunk, or in the buffer of a broadcast. -/
def LinkOp.n (o : LinkOp) : Nat := o.members.length
def LinkOp.succ (o : LinkOp) : Nat := (o.rank + 1) % o.n
def LinkOp.pred (o : LinkOp) : Nat := (o.rank + o.n - 1) % o.n
def LinkOp.chunk (o : LinkOp) : Nat := if o.ckind = 3 then o.len else o.len / o.n
def LinkOp.perChunk (o : LinkOp) : Nat := framesOf o.chunk
/-- Frames issued to, and applied from, member m. -/
def LinkOp.sentTo (o : LinkOp) (m : Nat) : Nat := mget 0 o.sent m
def LinkOp.fromMember (o : LinkOp) (m : Nat) : Nat := mget 0 o.recvd m
/-- Passes over the chunks: two for an all-reduce. -/
def LinkOp.passes (o : LinkOp) : Nat := if o.ckind = 0 then 2 else 1

/-- Frames that the command sends to member m in all (R336, R340, R341, R344, R347). -/
def LinkOp.outTotal (o : LinkOp) (m : Nat) : Nat :=
  match o.kind with
  | .xfer => framesOf o.len
  | .mcast => framesOf o.len
  | .vote => if m = o.rank then 0 else 1
  | .coll =>
    if m = o.rank then 0
    else if o.ckind = 3 then
      if o.direct then (if o.rank = o.root then o.perChunk else 0)
      else if m = o.succ ∧ o.succ ≠ o.root then o.perChunk else 0
    else if o.direct then o.passes * o.perChunk
    else if m = o.succ then o.passes * (o.n - 1) * o.perChunk else 0
/-- Frames that it receives from member m in all. -/
def LinkOp.inTotal (o : LinkOp) (m : Nat) : Nat :=
  match o.kind with
  | .xfer => if o.dir = 2 then framesOf o.len else 0
  | .mcast => 0
  | .vote => if m = o.rank then 0 else 1
  | .coll =>
    if m = o.rank then 0
    else if o.ckind = 3 then
      if o.rank = o.root then 0
      else if o.direct then (if m = o.root then o.perChunk else 0)
      else if m = o.pred then o.perChunk else 0
    else if o.direct then o.passes * o.perChunk
    else if m = o.pred then o.passes * (o.n - 1) * o.perChunk else 0
/-- Of those to member m, how many may have been sent by now: in a ring a frame of step s + 1 waits for the same position of
step s, a broadcast forwards what has been applied, and the direct all-gather waits for the own chunk's folds. -/
def LinkOp.outMay (o : LinkOp) (m : Nat) : Nat :=
  match o.kind with
  | .coll =>
    if o.ckind = 3 then (if o.direct ∨ o.rank = o.root then o.outTotal m else min (o.outTotal m) (o.fromMember o.pred))
    else if o.direct then
      if o.ckind = 0 ∧ !((upTo o.n).all fun q => q == o.rank || decide (o.perChunk ≤ o.fromMember q)) then o.perChunk
      else o.outTotal m
    else min (o.outTotal m) (o.perChunk + o.fromMember o.pred)
  | _ => o.outTotal m

/-- Frame i of a collective to member m: whether it folds, its offset within the buffer, its bytes, its step (R340, R341). -/
def LinkOp.collPart (o : LinkOp) (m i : Nat) : Bool × Nat × Nat × Nat :=
  let f := o.perChunk
  let cs := o.chunk
  let part (fold : Bool) (c j step : Nat) : Bool × Nat × Nat × Nat := (fold, c * cs + j * 8192, frameLen cs j, step)
  if o.ckind = 3 then part false 0 i 0
  else if o.direct then
    if o.ckind ≤ 1 ∧ i < f then part true m i 0 else part false o.rank (i % f) (i / f)
  else
    let g := i / f
    if o.ckind ≤ 1 ∧ g < o.n - 1 then part true ((o.rank + 2 * o.n - g - 1) % o.n) (i % f) g
    else
      let t := if o.ckind = 0 then g - (o.n - 1) else g
      part false ((o.rank + o.n - t) % o.n) (i % f) g
/-- Whether frame i from member m is a fold. -/
def LinkOp.foldsFrom (o : LinkOp) (i : Nat) : Bool :=
  o.ckind ≤ 1 && decide (i < if o.direct then o.perChunk else (o.n - 1) * o.perChunk)

/-- Frame i that the command sends to member m. -/
def State.opFrame (s : State) (o : LinkOp) (m i : Nat) : TxFrame :=
  let last := i + 1 == o.outTotal m
  let base := { TxFrame.empty with opId := some o.id, ctx := o.ctx, window := o.window, epoch := (o.members.getD m (0, 0)).2 }
  match o.kind with
  | .vote => { base with op := 5, len := 16, src := o.loc, flags := b2n last }
  | .coll =>
    let q := o.collPart m i
    { base with op := 4, code := if q.1 then o.code else 0, offset := o.off + q.2.1, len := q.2.2.1, src := o.loc + q.2.1
                step := q.2.2.2 % 256, flags := b2n last, coll := (o.ckind, o.n, o.len)
                aux := if o.code = 6 ∧ q.1 then fld (s.reg (aSbCfg o.part o.buf)) 15 0 else 0 }
  | _ =>
    { base with op := o.dir, code := if o.dir = 1 then o.code else 0, offset := o.off + i * 8192, len := frameLen o.len i
                src := o.loc + i * 8192, flags := b2n last + 2 * b2n (last && o.notify)
                aux := if o.dir = 1 ∧ o.code = 6 then fld (s.reg (aSbCfg o.part o.buf)) 15 0 else 0 }

/-! ### Operations -/

/-- Change an operation. -/
def State.updOp (s : State) (id : Nat) (f : LinkOp → LinkOp) : State :=
  { s with linkOps := s.linkOps.map fun o => if o.id = id then f o else o }
/-- An operation stops sending, with a status. -/
def LinkOp.refuse (o : LinkOp) (st : Status) (detail : W64) : LinkOp :=
  { o with stop := true, refusals := o.refusals ++ [st], detail := if o.refusals.isEmpty then detail else o.detail }
/-- Receiver m is detached (R344). -/
def LinkOp.detach (o : LinkOp) (m : Nat) (st : Status) : LinkOp :=
  if o.detached.any fun d => d.1 == m then o
  else { o with detached := o.detached ++ [(m, st)], flags := o.flags ||| 1, detail := o.detail ||| w64 (2 ^ m) }

/-- The first poisoned word of bytes read at a. -/
def psnWord (a : Nat) (l : List PB) : Option Nat := (l.zipIdx.find? fun q => q.1.2).map fun q => (a + q.2) / 8 * 8
/-- Blocks verified under R304 that begin in [a, a + n) and lie whole in [b, b + m): the first whose value mismatches, and the
first check entry that is poisoned. -/
def State.linkVerify (s : State) (die a n b m : Nat) : Option Nat × Option Nat :=
  let bl := ((upTo ((a + n + 4095) / 4096 - (a + 4095) / 4096)).map fun i => ((a + 4095) / 4096 + i) * 4096).filter fun x =>
    b ≤ x && decide (x + 4096 ≤ b + m)
  (bl.find? fun x => match s.cvEntry x with
    | none => false
    | some e =>
      let v := s.cvRead e
      v.2.1 && !v.2.2 && (crc32c ((readMem s die x 4096).2.map (·.1))).toNat != v.1,
   (bl.filterMap fun x => s.cvEntry x).find? fun e => (s.cvRead e).2.2)

/-- Send frame x of an operation, or send it again: its source is read now; a poisoned word, or a block whose check value is
wrong when it is read again too, is never sent (R336, R304, R305, R337). -/
def State.sendData (s : State) (r : Nat) (x : TxFrame) (again : Bool) : State :=
  if x.op = 2 then
    if s.canSend r then s.wire r (s.buildFrame r 1 x.code (x.flags + 4 * b2n again) x.psn x []) else s
  else
    let die := 16 + refPort r / 4
    let q := readMem s die x.src x.len
    let o := x.opId.bind fun id => s.linkOps.find? fun o => o.id == id
    let v := match o with
      | some o => if x.op = 5 then (none, none) else q.1.linkVerify die x.src x.len o.loc o.len
      | none => (none, none)
    match psnWord x.src q.2, v.1 with
    | some a, _ => match o with
      | some o => q.1.updOp o.id fun o => o.refuse .poisoned (w64 a)
      | none => q.1
    | none, some a => match o with
      | some o =>
        logEv (q.1.updOp o.id fun o => o.refuse .checkFail (w64 a)) die
          { ev eCvFail with parts := pbit o.part, addr := a, status := Status.checkFail.code }
      | none => q.1
    | none, none =>
      let s1 := match o, v.2 with
        | some o, some e => q.1.updOp o.id fun o => if o.refusals.contains Status.poisoned then o else
            { o with refusals := o.refusals ++ [Status.poisoned], detail := if o.refusals.isEmpty then w64 e else o.detail }
        | _, _ => q.1
      let s2 := match o with
        | some o => s1.updOp o.id fun o => { o with flags := o.flags ||| (if again then 4 else 0)
                                                      ||| (if (s1.port (refPort r)).degraded then 8 else 0) }
        | none => s1
      if s2.canSend r then s2.wire r (s2.buildFrame r 1 x.code (x.flags + 4 * b2n again) x.psn x (q.2.map (·.1))) else s2

/-- The next new frame to partner r: a response that waits, else the first operation that may send one; with the operation and
the member. -/
def State.nextFrame (s : State) (r : Nat) : Option (TxFrame × Option (Nat × Nat)) :=
  match (s.transport r).queue with
  | x :: _ => some (x, none)
  | [] =>
    s.linkOps.findSome? fun o =>
      if !o.ctxHeld || o.stop then none
      else
        ((upTo o.n).find? fun m =>
          (o.members.getD m (0, 0)).1 == r && o.usesMember m && !(o.detached.any fun d => d.1 == m)
            && decide (o.sentTo m < o.outMay m)).map fun m => (s.opFrame o m (o.sentTo m), some (o.id, m))

/-- Send new frames to partner r while fewer than 512 are outstanding (Table 10.6). -/
def State.pumpN (s : State) (r : Nat) : Nat → State
  | 0 => s
  | n + 1 =>
    let t := s.transport r
    if 512 ≤ t.unacked.length ∨ !s.canSend r ∨ s.ptState r ≠ 0 then s
    else
      match s.nextFrame r with
      | none => s
      | some (x, who) =>
        let y := { x with psn := t.txPsn }
        let t1 := { t with txPsn := (t.txPsn + 1) % 2 ^ 32, unacked := t.unacked ++ [y]
                           queue := if who.isNone then t.queue.drop 1 else t.queue }
        match who with
        | none => ((s.setTransport r t1).sendData r y false).pumpN r n
        | some (id, m) =>
          let s0 := s.setTransport r t
          let s1 := s0.updOp id fun o => { o with sent := mput 0 o.sent m (o.sentTo m + 1) }
          let s2 := (s1.setTransport r t1).sendData r y false
          if (s2.linkOps.any fun o => o.id == id && o.stop) ∧ !(s.linkOps.any fun o => o.id == id && o.stop) then
            -- the frame was not sent: it takes no PSN
            ((s2.setTransport r t).updOp id fun o => { o with sent := mput 0 o.sent m (o.sentTo m - 1) }).pumpN r n
          else s2.pumpN r n
/-- Send what can be sent to partner r. -/
def State.pump (s : State) (r : Nat) : State := s.pumpN r 1024
/-- Send what can be sent to every partner of a port. -/
def State.pumpPort (s : State) (k : Nat) : State :=
  ((s.linkOps.flatMap LinkOp.refs ++ s.transports.map (·.1)).filter fun r => refPort r == k).foldl (fun s r => s.pump r) s
/-- Send what can be sent to every partner of an operation. -/
def State.pumpOp (s : State) (o : LinkOp) : State := o.refs.foldl (fun s r => s.pump r) s

/-! ### The end of an operation (R337) -/

/-- Frames of an operation that are neither acknowledged nor refused. -/
def State.outstanding (s : State) (o : LinkOp) : Bool :=
  o.refs.any fun r => (s.transport r).unacked.any fun x => x.opId == some o.id && !x.dead

/-- Everything that the operation waits for has come. -/
def State.opDone (s : State) (o : LinkOp) : Bool :=
  let ms := (upTo o.n).filter fun m => o.usesMember m && !(o.detached.any fun d => d.1 == m)
  o.ctxHeld && !s.outstanding o &&
    (o.stop || (ms.all fun m => decide (o.outTotal m ≤ o.sentTo m) &&
      (match o.kind with
        | .vote => (o.digests.any fun d => d.1 == m) || o.absent.contains m
        | _ => decide (o.inTotal m ≤ o.fromMember m))))

/-- The own digest of a vote, and the majority value where there is one (R347). -/
def LinkOp.ownDigest (o : LinkOp) : BitVec 128 := ((o.digests.find? fun d => d.1 == o.rank).map (·.2)).getD 0
def LinkOp.majority (o : LinkOp) : Option (BitVec 128) :=
  (o.digests.find? fun d => decide (o.n < 2 * (o.digests.filter fun e => e.2 == d.2).length)).map (·.2)
/-- Members that differ from the majority or are absent. -/
def LinkOp.odd (o : LinkOp) (v : BitVec 128) : List Nat :=
  (upTo o.n).filter fun m => !(o.digests.any fun d => d.1 == m && d.2 == v)

/-- What a vote answers: status, flags, DETAIL, and the members whose digest arrived and differs (R347, R348). -/
def LinkOp.verdict (o : LinkOp) : Status × BitVec 8 × W64 × List Nat :=
  let abs : BitVec 8 := if o.absent.isEmpty then 0 else 0x40
  match o.majority with
  | none => (.checkFail, abs ||| 0x10, 0, [])
  | some v =>
    let bad := o.odd v
    if bad.isEmpty then (.ok, abs, 0, [])
    else
      let self := bad.contains o.rank
      (.checkFail, abs ||| (if self then 0x20 else 0), w64 (bad.foldl (fun n m => n + 2 ^ m) 0),
        if o.expel && !self then bad.filter fun m => !o.absent.contains m else [])

/-- The operation leaves the engine and its command has a status. -/
def State.endOp (s : State) (o : LinkOp) (st : Status) (flags : BitVec 8) (detail : W64) : State :=
  ({ s with linkOps := s.linkOps.filter fun x => x.id != o.id }).finish o.id st flags detail
/-- R337, R344, R347, R348: an operation that is done ends. -/
def State.finishOp (s : State) (o : LinkOp) : State :=
  match o.kind with
  | .vote =>
    if !o.refusals.isEmpty then s.endOp o (Status.worst o.refusals) o.flags o.detail
    else
      let v := o.verdict
      let s1 := v.2.2.2.foldl (fun s m => s.expel (o.members.getD m (0, 0)).1 (some o.id)) s
      s1.endOp o v.1 (o.flags ||| v.2.1 ||| (if v.2.2.2.isEmpty then 0 else 0x80)) v.2.2.1
  | .mcast =>
    let st := if o.detached.isEmpty then Status.ok
      else if o.detached.length = o.n then Status.worst (o.detached.map (·.2)) else .partialDone
    s.endOp o (Status.worst (st :: o.refusals)) o.flags o.detail
  | _ => s.endOp o (Status.worst o.refusals) o.flags o.detail
/-- Every operation that is done ends. -/
def State.settle (s : State) : State :=
  (s.linkOps.map (·.id)).foldl (fun s id =>
    match s.linkOps.find? fun o => o.id == id with
    | none => s
    | some o => if s.opDone o then s.finishOp o else s) s

/-! ### Acknowledgement (R331, R332) -/

/-- PSN a is at or before b. -/
def psnLe (a b : Nat) : Bool := (b + 2 ^ 32 - a) % 2 ^ 32 < 2 ^ 31

/-- ACK_PSN and SACK of a frame from partner r: frames are released, the timeout starts anew where there is news, and a frame
with three later ones in SACK is sent again, once. An acknowledgement of frames not sent is ignored. -/
def State.ackFrom (s : State) (r ackPsn : Nat) (sack : BitVec 32) : State :=
  let t := s.transport r
  let hit (x : TxFrame) : Bool := (upTo 32).any fun i => sack.getLsbD i && x.psn == (ackPsn + 1 + i) % 2 ^ 32
  let left := t.unacked.filter fun x => !psnLe x.psn ackPsn
  let marked := left.map fun x => { x with sacked := x.sacked || hit x }
  let late (x : TxFrame) : Bool :=
    !x.sacked && !x.fast && !x.dead && decide (3 ≤ (marked.filter fun y => y.sacked && !psnLe y.psn x.psn).length)
  let ok := psnLe ackPsn ((t.txPsn + 2 ^ 32 - 1) % 2 ^ 32)
  let news := decide (left.length < t.unacked.length) || marked != left
  let s1 := s.setTransport r
    { t with unacked := marked.map fun x => if late x then { x with fast := true } else x
             rtoUs := if news then 40 else t.rtoUs }
  if ok then (marked.filter late).foldl (fun s x => s.sendData r x true) s1 else s

end Sys2Proof.Machine
end

