-- ==== Sys2Proof/Machine/LinkCmd.lean ====
section
/-! DEFINITION. The link commands and their operation contexts (R313, R334-R336, R338, R344, R347, R348). Checks are made when a
command starts; of several that fail, the status that ranks first is reported (R281). -/

namespace Sys2Proof.Machine

/-! ### Checks -/

/-- A fold code that a link carries. -/
def linkCode (c : Nat) : Bool := c == 0 || c == 1 || c == 2 || c == 6
/-- The reference names a valid partner entry. -/
def State.refValid (s : State) (r : Nat) : Bool := r < 65534 && refEntry r != 0 && s.ptValid r
/-- What naming a partner meets: a port of another partition (R313), no valid entry, an expelled or lost partner (R328, R333). -/
def State.refFails (s : State) (p r : Nat) : List Status :=
  if s.portPart (refPort r) ≠ some p then [.denied]
  else if !s.refValid r then [.illegalCommand]
  else if s.ptState r = 2 then [.denied]
  else if s.ptState r = 1 then [.peerLost] else []
/-- The used partners' ports lie on both I/O dies (R334). -/
def LinkOp.splits (o : LinkOp) : Bool := o.refs.any fun r => refPort r / 4 != o.die
/-- The first member that the command uses, or member 0. -/
def LinkOp.firstRef (o : LinkOp) : Nat := o.refs.headD 0

/-- A member list of n entries: reference and epoch of each, or why it cannot be read. -/
def State.memberList (s : State) (p die a n : Nat) : State × Except (Status × W64) (List (Nat × Nat)) :=
  match s.chk p [pR] a (4 * n) with
  | .ok =>
    let q := readMem s die a (4 * n)
    match psnWord a q.2 with
    | some x => (q.1, .error (.poisoned, w64 x))
    | none => (q.1, .ok ((upTo n).map fun i =>
        (pbNat ((q.2.drop (4 * i)).take 2), pbNat ((q.2.drop (4 * i + 2)).take 2))))
  | x => (s, .error (.outOfBounds, w64 x.addr))

/-- An operation with nothing in it. -/
def LinkOp.empty (c : Cmd) (kind : LinkKind) : LinkOp :=
  { id := c.id, part := c.part, die := 0, kind, ctxHeld := false, ctx := c.id % 65536, members := [], rank := 65536, window := 0
    off := 0, len := 0, dir := 0, code := 0, buf := 0, notify := false, ckind := 0, direct := false, root := 0, expel := false
    loc := 0, sent := [], recvd := [], stop := false, refusals := [], detached := [], digests := [], absent := [], granted := []
    flags := 0, detail := 0 }

/-- A command as it would run, and the statuses that it fails with at once. -/
structure LkPlan where
  s : State
  op : LinkOp
  fails : List (Status × W64)
  deriving DecidableEq, Repr

/-- The extent [a, a + n) and the check entries of its blocks are refused (R303). -/
def State.linkExt (s : State) (p : Nat) (w : Bool) (a n : Nat) : List (Status × W64) :=
  match s.chk p [if w then pW else pR] a n with
  | .ok => match s.cvOk p a n with
    | none => []
    | some e => [(.outOfBounds, w64 e)]
  | x => [(.outOfBounds, w64 x.addr)]
/-- Failures without a DETAIL. -/
def plain (l : List Status) : List (Status × W64) := l.map fun x => (x, 0)
/-- One failure where b holds. -/
def illegalIf (b : Bool) : List (Status × W64) := if b then [(.illegalCommand, 0)] else []

/-- LK_XFER (Table 10.8, R336). -/
def planXfer (s : State) (c : Cmd) : LkPlan :=
  let w := fun i => c.words.getD i 0
  let r := fld (w 2) 15 0
  let o := { LinkOp.empty c .xfer with
    die := refPort r / 4, members := [(r, fld (w 2) 37 22)], window := fld (w 2) 21 16, dir := fld (w 2) 39 38
    code := fld (w 2) 43 40, buf := fld (w 2) 49 44, notify := bitW (w 2) 50, off := fld (w 3) 47 0, len := fld (w 4) 31 0
    loc := fld (w 1) 47 0 }
  ⟨s, o, plain (s.refFails c.part r)
    ++ illegalIf (o.dir == 3 || !linkCode o.code || o.len == 0
        || (o.dir == 1 && (o.len % 64 != 0 || o.loc % 64 != 0 || o.off % 64 != 0))
        || (o.code == 6 && !s.sbValid c.part o.buf))
    ++ s.linkExt c.part (o.dir == 2) o.loc o.len⟩

/-- LK_COLL (Table 10.10, R338). -/
def planColl (s : State) (c : Cmd) : LkPlan :=
  let w := fun i => c.words.getD i 0
  let n := fld (w 1) 55 48 + 1
  let p := c.part
  let wn := fld (w 2) 20 15
  let hi := s.reg (aWinHi p wn)
  let o := { LinkOp.empty c .coll with
    rank := fld (w 2) 7 0, ckind := fld (w 2) 9 8, direct := bitW (w 2) 10, code := fld (w 2) 14 11, window := wn
    root := fld (w 2) 28 21, ctx := fld (w 2) 44 29, off := fld (w 3) 47 0, len := fld (w 4) 31 0
    buf := fld hi 42 37, loc := s.winBase p wn + fld (w 3) 47 0 }
  let l := s.memberList p (16 + p / 2) (fld (w 1) 47 0) n
  match l.2 with
  | .error e => ⟨l.1, o, [e]⟩
  | .ok ms =>
    let o1 := { o with members := ms }
    let o2 := { o1 with die := refPort o1.firstRef / 4 }
    let entries := (upTo n).all fun i =>
      let r := (ms.getD i (0, 0)).1
      if i = o.rank then r == 0xFFFF
      else if o2.usesMember i then l.1.refValid r else l.1.refValid r || r == 0xFFFE
    ⟨l.1, o2, plain ((o2.refs.filter fun r => l.1.refValid r).flatMap fun r => l.1.refFails p r)
      ++ illegalIf (n < 2 || decide (n ≤ o.rank) || decide (n ≤ o.root) || !entries || o2.splits
          || (o.ckind != 3 && o.len % (64 * n) != 0)
          || !s.winValid p wn || (decide (o.ckind ≤ 1) && (!bitW hi 35 || !linkCode o.code || (o.code == 6 && !bitW hi 36)))
          || decide (s.winLen p wn < o.off + o.len))⟩

/-- LK_MCAST (Table 10.11, R344). -/
def planMcast (s : State) (c : Cmd) : LkPlan :=
  let w := fun i => c.words.getD i 0
  let n := fld (w 2) 53 48 + 1
  let p := c.part
  let o := { LinkOp.empty c .mcast with
    window := fld (w 2) 59 54, off := fld (w 3) 47 0, len := fld (w 4) 31 0, loc := fld (w 1) 47 0 }
  let l := s.memberList p (16 + p / 2) (fld (w 2) 47 0) n
  match l.2 with
  | .error e => ⟨l.1, o, [e]⟩
  | .ok ms =>
    let o1 := { o with members := ms, die := refPort (ms.headD (0, 0)).1 / 4 }
    ⟨l.1, o1, plain ((o1.refs.filter fun r => l.1.refValid r).flatMap fun r => l.1.refFails p r)
      ++ illegalIf (o.len == 0 || o1.splits || ms.any fun m => !l.1.refValid m.1)
      ++ l.1.linkExt p false o.loc o.len⟩

/-- LK_VOTE (R347). -/
def planVote (s : State) (c : Cmd) : LkPlan :=
  let w := fun i => c.words.getD i 0
  let n := fld (w 2) 53 48 + 1
  let p := c.part
  let die := 16 + p / 2
  let o := { LinkOp.empty c .vote with
    rank := fld (w 3) 5 0, ctx := fld (w 3) 21 6, expel := bitW (w 3) 22, loc := fld (w 1) 47 0, len := 16 }
  let l := s.memberList p die (fld (w 2) 47 0) n
  match l.2 with
  | .error e => ⟨l.1, o, [e]⟩
  | .ok ms =>
    let d := readMem l.1 die o.loc 16
    let o1 := { o with members := ms, digests := [(o.rank, BitVec.ofNat 128 (pbNat d.2))] }
    let o2 := { o1 with die := refPort o1.firstRef / 4 }
    let entries := (upTo n).all fun i =>
      let r := (ms.getD i (0, 0)).1
      if i = o.rank then r == 0xFFFF else l.1.refValid r
    ⟨d.1, o2, plain ((o2.refs.filter fun r => l.1.refValid r).flatMap fun r => l.1.refFails p r)
      ++ illegalIf (n < 3 || decide (n ≤ o.rank) || !entries || o2.splits)
      ++ l.1.linkExt p false o.loc 16
      ++ (match psnWord o.loc d.2 with
        | some a => [(.poisoned, w64 a)]
        | none => [])⟩

/-! ### Contexts (R335) -/

/-- Contexts that POLICY lets a partition hold on the engine of an I/O die. -/
def State.ctxLimit (s : State) (p die : Nat) : Nat := if die = 0 then (s.part p).lkCtxA else (s.part p).lkCtxB
/-- A context is available to partition p on the engine of an I/O die. -/
def State.ctxFree (s : State) (p die : Nat) : Bool :=
  decide (s.ctxInUse p die < s.ctxLimit p die) && decide ((s.linkOps.filter fun o => o.die == die && o.ctxHeld).length < 32)

/-- The failure that ranks first. -/
def worstOf (l : List (Status × W64)) : Status × W64 := l.foldl (fun b y => if y.1.rank < b.1.rank then y else b) (.ok, 0)
/-- A checked operation with its context starts sending. -/
def State.startOp (s : State) (o : LinkOp) : State :=
  let o1 := { o with ctxHeld := true }
  (({ s with linkOps := s.linkOps ++ [o1] }).pumpOp o1).settle
/-- A link command is checked; it fails, starts, or waits behind those of its partition for a context. -/
def admitLk (id : Nat) (pl : LkPlan) : State :=
  let s1 := pl.s.updCmd id fun c => { c with started := true }
  if !pl.fails.isEmpty then s1.finish id (worstOf pl.fails).1 0 (worstOf pl.fails).2
  else if s1.ctxFree pl.op.part pl.op.die ∧ !(s1.linkOps.any fun o => !o.ctxHeld && o.part == pl.op.part && o.die == pl.op.die) then
    s1.startOp pl.op
  else { s1 with linkOps := s1.linkOps ++ [pl.op] }

/-- LK_XFER. -/
def execLkXfer (id : Nat) (s : State) : Host.Outcome State Fault Refusal :=
  match s.waitingCmd id 0x50 with
  | none => .next s
  | some c => .next (admitLk id (planXfer s c))
/-- LK_COLL. -/
def execLkColl (id : Nat) (s : State) : Host.Outcome State Fault Refusal :=
  match s.waitingCmd id 0x51 with
  | none => .next s
  | some c => .next (admitLk id (planColl s c))
/-- LK_MCAST. -/
def execLkMcast (id : Nat) (s : State) : Host.Outcome State Fault Refusal :=
  match s.waitingCmd id 0x52 with
  | none => .next s
  | some c => .next (admitLk id (planMcast s c))
/-- LK_VOTE. -/
def execLkVote (id : Nat) (s : State) : Host.Outcome State Fault Refusal :=
  match s.waitingCmd id 0x53 with
  | none => .next s
  | some c => .next (admitLk id (planVote s c))

/-- LK_EXPEL (R348): the partner is expelled, and the command completes OK; it sends nothing and holds no context. Entry 0 names
no partner (R324). -/
def execLkExpel (id : Nat) (s : State) : Host.Outcome State Fault Refusal :=
  match s.waitingCmd id 0x54 with
  | none => .next s
  | some c =>
    let r := fld (c.words.getD 1 0) 15 0
    let s1 := s.updCmd id fun c => { c with started := true }
    .next (if s.portPart (refPort r) ≠ some c.part then s1.finish id .denied 0 0
      else if refEntry r = 0 then s1.finish id .illegalCommand 0 0
      else (s1.expel r none).finish id .ok 0 0)

/-- LINK_CONTEXT_GRANT (R335): the first command that waits on this die's engine, and whose partition has room, gets a context; it
is checked now that it starts. -/
def execLinkContextGrant (die : Nat) (s : State) : Host.Outcome State Fault Refusal :=
  match s.linkOps.find? fun o => !o.ctxHeld && o.die == die && s.ctxFree o.part die with
  | none => .next s
  | some o =>
    let s1 := { s with linkOps := s.linkOps.filter fun x => x.id != o.id }
    match s1.cmd o.id with
    | none => .next s1
    | some c =>
      let pl := match o.kind with
        | .xfer => planXfer s1 c
        | .coll => planColl s1 c
        | .mcast => planMcast s1 c
        | .vote => planVote s1 c
      .next (if pl.fails.isEmpty then pl.s.startOp pl.op
        else pl.s.finish o.id (worstOf pl.fails).1 0 (worstOf pl.fails).2)

end Sys2Proof.Machine
end

