-- ==== Sys2Proof/Machine/LinkRx.lean ====
section
/-! DEFINITION. Frames that arrive on a link port (R315, R319-R331, R336, R339, R343-R348): framing, MACsec, the stile filter,
the transport, and what each kind of frame does. -/

namespace Sys2Proof.Machine

/-! ### Drops and the receive buffer -/

/-- Count a dropped frame in field [hi:lo] of `LK.DROP[k]` (R329). -/
def State.drop (s : State) (k hi lo : Nat) : State :=
  match s.portPart k with
  | none => s
  | some p => (s.bump (aDrop p k) hi lo 1).setPort k { s.port k with dropped := true }
def State.dropMalformed (s : State) (k : Nat) : State := s.drop k 15 0
def State.dropAuth (s : State) (k : Nat) : State := s.drop k 31 16
def State.dropRate (s : State) (k : Nat) : State := s.drop k 47 32
def State.dropExpelled (s : State) (k : Nat) : State := s.drop k 63 48

/-- Bytes of frames that wait at a port for earlier ones, which is what its receive buffer holds (log entry 35). -/
def State.rxFill (s : State) (k : Nat) : Nat :=
  s.transports.foldl (fun n q => if refPort q.1 = k then q.2.held.foldl (fun m h => m + 32 + h.2.payload.length) n else n) 0
/-- R319: a PFC frame goes out when the buffer of an Ethernet port reaches 1.5 MiB, and another when it falls to 1 MiB. -/
def State.pfcCheck (s : State) (k : Nat) : State :=
  let x := s.port k
  let prio := fld (s.reg (aPortCfg ((s.portPart k).getD 0) k)) 18 16
  if !s.portEth k then s
  else if !x.pfcSent ∧ 0x180000 ≤ s.rxFill k then
    (s.setPort k { x with pfcSent := true }).emit (.pfc k prio true)
  else if x.pfcSent ∧ s.rxFill k ≤ 0x100000 then
    (s.setPort k { x with pfcSent := false }).emit (.pfc k prio false)
  else s

/-! ### MACsec and the filter -/

/-- The valid partner entry of port k that an SCI names (R323). -/
def State.refOfSci (s : State) (k : Nat) (sci : W64) : Option Nat :=
  ((s.partners.filter fun q => q.1 % 8 == 4 && q.2 == sci && q.1 / 65536 == k && decide (0 < q.1 / 8 % 8192)).map fun q => q.1 / 8).find?
    fun r => s.ptValid r
/-- The receive slot of an entry that an AN selects: its index and content. -/
def State.rxKey (s : State) (r an : Nat) : Option (Nat × KeySlot) :=
  ([fld (s.partner r 5) 29 16, fld (s.partner r 5) 45 32].map fun i => refPort r * 16384 + i).findSome? fun i =>
    match mfind s.keys i with
    | some x => if x.an = an then some (i, x) else none
    | none => none
/-- R323: the entry that an authentic frame comes from; the slot's next packet number moves up. -/
def State.macsec (s : State) (k : Nat) (f : Frame) : Option (State × Nat) :=
  match s.refOfSci k f.sci with
  | none => none
  | some r =>
    match s.rxKey r f.an with
    | none => none
    | some (i, x) =>
      if f.icvOk ∧ x.nextPn ≤ f.pn + fld (s.reg (aPortCfg ((s.portPart k).getD 0) k)) 50 35 then
        some ({ s with keys := madd s.keys i { x with nextPn := max x.nextPn (f.pn + 1) } }, r)
      else none

/-- Outer framing (R315, R320, R329): what can be told before MACsec. -/
def State.framed (s : State) (k : Nat) (f : Frame) : Bool :=
  f.wellFramed && (s.portEth k || f.dstNode == fld (s.partner (k * 8192) 0) 31 16)
/-- R320: the MAC, IP, UDP and tag fields match the partner's and the port's own entry. -/
def State.ethMatch (s : State) (k r : Nat) (f : Frame) : Bool :=
  let own := k * 8192
  let cfg := s.reg (aPortCfg ((s.portPart k).getD 0) k)
  let ip := fun (q : Nat) => if bitW (s.partner q 0) 4 then (s.partner q 2).toNat + (s.partner q 3).toNat * 2 ^ 64
    else fld (s.partner q 2) 31 0
  !s.portEth k || (f.dstMac == fld (s.partner own 1) 47 0 && f.srcMac == fld (s.partner r 1) 47 0
    && f.dstIp == ip own && f.srcIp == ip r && f.udpPort == fld cfg 34 19
    && f.vid == (if bitW cfg 3 then some (fld cfg 15 4) else none))

/-- R325 point 2: the token bucket; ACK, NOTICE and KEEPALIVE frames are free. -/
def State.bucketTake (s : State) (r : Nat) (f : Frame) : Option State :=
  let rate := fld (s.partner r 6) 15 0
  let t := s.transport r
  if rate = 0 ∨ f.type = 2 ∨ f.type = 4 ∨ f.type = 6 then some s
  else
    let d := t.deficit - 3 * rate * (s.sc - t.bucketAt) + 1000 * (32 + f.payload.length)
    if 65536000 < d then none
    else some (s.setTransport r { t with deficit := d, bucketAt := s.sc })
/-- R325 point 3: a well-formed transport header. A read request carries no payload; its LEN says how much it asks for (log entry
36). -/
def frameHeaderOk (f : Frame) : Bool :=
  decide (1 ≤ f.type) && decide (f.type ≤ 6) && f.ver == 1 && (f.type != 1 || decide (f.op ≤ 5))
    && (if f.type = 1 ∧ f.op = 2 then f.payload.isEmpty else f.payload.length == f.len) && decide (f.len ≤ 8192)

/-- A frame of a known kind, and the kind: TYPE, and OP where it is DATA. -/
def frameKnown (f : Frame) : Bool := decide (1 ≤ f.type) && decide (f.type ≤ 6) && (f.type != 1 || decide (f.op ≤ 5))

/-- A frame on port k on its way to the transport: dropped and counted, or admitted from a partner (R315, R319, R323, R325). -/
def State.takeIn (s : State) (k : Nat) (f : Frame) : State × Option Nat :=
  if (s.port k).phase ≠ .up ∨ !s.ptValid (k * 8192) then (s, none)
  else if s.portEth k ∧ 0x200000 < s.rxFill k + 32 + f.payload.length then
    (match s.portPart k with
      | some p => s.setReg (aPortStat p k) (setFld (s.reg (aPortStat p k)) 7 7 1)
      | none => s, none)
  else if !s.framed k f then (s.dropMalformed k, none)
  else
    match s.macsec k f with
    | none => (s.dropAuth k, none)
    | some (s1, r) =>
      if !s1.ethMatch k r f then (s1.dropMalformed k, none)
      else if s1.ptState r = 2 then (s1.dropExpelled k, none)
      else
        match s1.bucketTake r f with
        | none => (s1.dropRate k, none)
        | some s2 => if frameHeaderOk f then (s2, some r) else (s2.dropMalformed k, none)

/-! ### Window checks (R327) -/

/-- Volume left: the payload of writes and folds accepted from the partner stays within BYTES. -/
def State.quotaOk (s : State) (r n : Nat) : Bool :=
  let b := fld (s.partner r 6) 31 16
  !bitW (s.partner r 0) 3 && (b == 0 || decide ((s.transport r).bytesIn + n ≤ b * 2 ^ 30))
/-- Count accepted payload; QOUT is set once BYTES is exhausted. -/
def State.quotaTake (s : State) (r n : Nat) : State :=
  let t := s.transport r
  let b := fld (s.partner r 6) 31 16
  let s1 := s.setTransport r { t with bytesIn := t.bytesIn + n }
  if b ≠ 0 ∧ b * 2 ^ 30 ≤ t.bytesIn + n then s1.setPartner r 0 (setFld (s1.partner r 0) 3 3 1) else s1

/-- The bit of `LK.WIN_HI` that a request needs: R, W, F; and the region permission. -/
def winBit (write fold : Bool) : Nat := if fold then 35 else if write then 34 else 33
/-- The first condition of Table R327 that refuses a request for n bytes at offset o of window w; none where it is accepted. -/
def State.winRefuses (s : State) (p r : Nat) (f : Frame) (write fold : Bool) (n : Nat) : Option Status :=
  let w := f.window
  if !bitW (s.partner r 7) w || !s.winValid p w || !bitW (s.reg (aWinHi p w)) (winBit write fold) then some .denied
  else if f.epoch ≠ s.winEpoch p w then some .staleRole
  else if s.winLen p w < f.offset + n then some .outOfBounds
  else if !(s.chk p [if fold then pFold else if write then pW else pR] (s.winBase p w + f.offset) n).isOk then some .outOfBounds
  else if !s.quotaOk r (if write || fold then n else 0) then some .denied
  else none

/-- The lines of a fold frame go to their fold units, in order; the first rejection ends it (R105, R106, R110, R111). Code 0x6
folds cells of the window's buffer with the anchor in AUX. -/
def State.foldFrame (s : State) (p : Nat) (f : Frame) : State × Option Status :=
  let a := s.winBase p f.window + f.offset
  let hi := s.reg (aWinHi p f.window)
  if f.offset % 64 ≠ 0 ∨ f.len % 64 ≠ 0 ∨ !linkCode f.code then (s, some .illegalCommand)
  else
    (upTo (f.len / 64)).foldl (fun (q : State × Option Status) i =>
      match q.2 with
      | some _ => q
      | none =>
        let x := leNat ((f.payload.drop (64 * i)).take 64)
        let r :=
          if f.code = 6 then
            if bitW hi 36 then
              swardAdd q.1 p (fld hi 42 37) (a + 64 * i) false
                (cellContrib (q.1.anchor p (fld hi 42 37)) (sx 16 f.aux) (sx 512 x))
            else foldReject q.1 p .illegalTarget
          else lineFold q.1 p (a + 64 * i) (foldLaneOp f.code).1 (foldLaneOp f.code).2 x (fun _ => true) (fun _ => false)
        (r.s, r.rej)) (s, none)

/-- R336: END applied with NOTIFY signals the window's notify barrier once. -/
def State.notifyBar (s : State) (p : Nat) (f : Frame) : State :=
  let hi := s.reg (aWinHi p f.window)
  if f.flags % 2 = 1 ∧ f.flags / 2 % 2 = 1 ∧ bitW hi 49 then s.signalBar (aPB p (fld hi 48 43)) else s

/-- Apply a write or a fold that a frame carries, or say why it is refused (R327). -/
def State.applyWF (s : State) (k p r : Nat) (f : Frame) (fold : Bool) : State × Option Status :=
  match s.winRefuses p r f true fold f.len with
  | some st => (s, some st)
  | none =>
    if fold then
      let q := s.foldFrame p f
      match q.2 with
      | some st => (q.1, some st)
      | none => (q.1.quotaTake r f.len, none)
    else
      ((storeMem s (16 + k / 4) (s.winBase p f.window + f.offset) (f.payload.map fun b => (b, false))).quotaTake r f.len, none)

/-! ### What each DATA frame does -/

/-- What delivering a frame comes to: applied, refused with a status, or not ready (R339). -/
inductive Delivered where
  | applied | notReady
  | refused (st : Status)
  deriving DecidableEq, Repr

/-- An optional refusal. -/
def Delivered.of : Option Status → Delivered
  | none => .applied
  | some st => .refused st

/-- A read request: the window's data is queued as a response, or a poisoned word refuses it (R336). -/
def State.answerRead (s : State) (k p r : Nat) (f : Frame) : State × Delivered :=
  match s.winRefuses p r f false false f.len with
  | some st => (s, .refused st)
  | none =>
    let a := s.winBase p f.window + f.offset
    let q := readMem s (16 + k / 4) a f.len
    if pbPsn q.2 then (q.1, .refused .poisoned)
    else
      let t := q.1.transport r
      let x := { TxFrame.empty with op := 3, ctx := f.ctx, window := f.window, epoch := f.epoch, offset := f.offset, len := f.len
                                    src := a, flags := f.flags % 2 }
      (q.1.setTransport r { t with queue := t.queue ++ [x] }, .applied)

/-- A read response: written at the requester's local extent. One that answers no request is ignored. -/
def State.takeResponse (s : State) (k r : Nat) (f : Frame) : State × Delivered :=
  match s.linkOps.find? fun o => o.kind == .xfer && o.dir == 2 && o.ctxHeld && o.ctx == f.ctx && o.memberOf r == some 0 with
  | none => (s, .applied)
  | some o =>
    if f.offset < o.off ∨ o.off + o.len < f.offset + f.len then (s, .applied)
    else
      ((storeMem s (16 + k / 4) (o.loc + (f.offset - o.off)) (f.payload.map fun b => (b, false))).updOp o.id
        fun o => { o with recvd := mput 0 o.recvd 0 (o.fromMember 0 + 1) }, .applied)

/-- The running operation of a kind with this CTX that partner r is a member of, and which member. -/
def State.groupOp (s : State) (kind : LinkKind) (r ctx : Nat) : Option (LinkOp × Nat) :=
  s.linkOps.findSome? fun o =>
    if o.kind == kind && o.ctxHeld && o.ctx == ctx && !o.stop then (o.memberOf r).map fun m => (o, m) else none
/-- The member that a partner's frames come from: in a ring of two the one neighbour is both. -/
def LinkOp.sender (o : LinkOp) (r m : Nat) : Nat :=
  if o.kind = .coll ∧ !o.direct ∧ (o.members.getD o.pred (0, 0)).1 = r then o.pred else m

/-- A collective frame (R339): not ready, refused by both ends where KIND, n or LEN disagree, or applied as the write or fold that
its place in the exchange makes it. -/
def State.takeColl (s : State) (k p r : Nat) (f : Frame) : State × Delivered :=
  match s.groupOp .coll r f.ctx with
  | none => (s, .notReady)
  | some (o, m0) =>
    let m := o.sender r m0
    let i := o.fromMember m
    if f.coll ≠ (o.ckind, o.n, o.len) then (s.updOp o.id fun o => o.refuse .illegalCommand 0, .refused .illegalCommand)
    else
      let q := s.applyWF k p r f (o.foldsFrom i)
      match q.2 with
      | some st => (q.1, .refused st)
      | none => (q.1.updOp o.id fun o => { o with recvd := mput 0 o.recvd m (i + 1) }, .applied)

/-- A member's digest (R347). -/
def State.takeVote (s : State) (r : Nat) (f : Frame) : State × Delivered :=
  match s.groupOp .vote r f.ctx with
  | none => (s, .notReady)
  | some (o, m) =>
    (s.updOp o.id fun o =>
      if (o.digests.any fun d => d.1 == m) || o.absent.contains m then o
      else { o with digests := o.digests ++ [(m, BitVec.ofNat 128 (leNat (f.payload.take 16)))] }, .applied)

/-- Deliver one DATA frame of partner r (Table 10.5's OP). -/
def State.deliver (s : State) (k p r : Nat) (f : Frame) : State × Delivered :=
  if f.op = 0 then
    let q := s.applyWF k p r f false
    (if q.2.isNone then q.1.notifyBar p f else q.1, .of q.2)
  else if f.op = 1 then
    let q := s.applyWF k p r f true
    (if q.2.isNone then q.1.notifyBar p f else q.1, .of q.2)
  else if f.op = 2 then s.answerRead k p r f
  else if f.op = 3 then s.takeResponse k r f
  else if f.op = 4 then s.takeColl k p r f
  else s.takeVote r f

/-! ### The transport's receiving side (R331) -/

/-- Deliver frame f, which is the next expected, and after it those held that follow. A refusal earns a NACK; a frame that is not
ready is not counted as received (R339). -/
def State.deliverRun (s : State) (k p r : Nat) : Nat → Frame → State
  | 0, _ => s
  | n + 1, f =>
    let q := s.deliver k p r f
    match q.2 with
    | .notReady => q.1.sendCtl r 3 0 f.psn f.ctx 0
    | d =>
      let t := q.1.transport r
      let s1 := q.1.setTransport r { t with rxPsn := (t.rxPsn + 1) % 2 ^ 32, sinceAck := t.sinceAck + 1
                                            held := t.held.filter fun h => h.1 != f.psn }
      let s2 := match d with
        | .refused st => s1.sendCtl r 3 st.code f.psn f.ctx 0
        | _ => s1
      match (s2.transport r).held.find? fun h => h.1 == (s2.transport r).rxPsn with
      | some h => s2.deliverRun k p r n h.2
      | none => s2

/-- A DATA frame of partner r: a duplicate is discarded unread, an early one held within 512 frames, the next one delivered; every
sixteenth is acknowledged at once. -/
def State.recvData (s : State) (k p r : Nat) (f : Frame) : State :=
  let t := s.transport r
  let d := (f.psn + 2 ^ 32 - t.rxPsn) % 2 ^ 32
  let s1 :=
    if d = 0 then s.deliverRun k p r 513 f
    else if d < 512 then
      if t.held.any fun h => h.1 == f.psn then s
      else s.setTransport r { t with held := t.held ++ [(f.psn, f)], sinceAck := t.sinceAck + 1 }
    else if 2 ^ 31 ≤ d then s.setTransport r { t with sinceAck := t.sinceAck + 1 }
    else s
  if 16 ≤ (s1.transport r).sinceAck then s1.sendCtl r 2 0 0 0 0 else s1

/-- After a frame: its acknowledgement fields, what may now be sent, and what has ended. -/
def State.afterFrame (s : State) (k r : Nat) (f : Frame) : State :=
  let s1 := (s.ackFrom r f.ackPsn f.sack).settle
  ((((s1.linkOps.filter fun o => o.refs.contains r).foldl (fun s o => s.pumpOp o) s1).pump r).settle).pfcCheck k

/-- A DATA frame with this OP arrives on port k; an unknown kind of frame is left to the filter in any row. -/
def recvOp (s : State) (k op : Nat) (f : Frame) : State :=
  if frameKnown f ∧ !(f.type == 1 && f.op == op) then s
  else
    match s.takeIn k f, s.portPart k with
    | (s1, some r), some p => (s1.recvData k p r f).afterFrame k r f
    | (s1, _), _ => s1
/-- A frame of another TYPE arrives on port k, with what it does. -/
def recvType (s : State) (k type : Nat) (f : Frame) (act : State → Nat → Nat → State) : State :=
  if f.type ≠ type then s
  else
    match s.takeIn k f, s.portPart k with
    | (s1, some r), some p => (act s1 p r).afterFrame k r f
    | (s1, _), _ => s1

/-- REMOTE_WRITE_FRAME. -/
def execRemoteWriteFrame (k : Nat) (f : Frame) (s : State) : Host.Outcome State Fault Refusal := .next (recvOp s k 0 f)
/-- REMOTE_FOLD_FRAME. -/
def execRemoteFoldFrame (k : Nat) (f : Frame) (s : State) : Host.Outcome State Fault Refusal := .next (recvOp s k 1 f)
/-- READ_REQUEST. -/
def execReadRequest (k : Nat) (f : Frame) (s : State) : Host.Outcome State Fault Refusal := .next (recvOp s k 2 f)
/-- READ_RESPONSE. -/
def execReadResponse (k : Nat) (f : Frame) (s : State) : Host.Outcome State Fault Refusal := .next (recvOp s k 3 f)
/-- COLLECTIVE_FRAME. -/
def execCollectiveFrame (k : Nat) (f : Frame) (s : State) : Host.Outcome State Fault Refusal := .next (recvOp s k 4 f)
/-- VOTE_FRAME. -/
def execVoteFrame (k : Nat) (f : Frame) (s : State) : Host.Outcome State Fault Refusal := .next (recvOp s k 5 f)

/-- ACK: it carries nothing but its acknowledgement fields. -/
def execAckFrame (k : Nat) (f : Frame) (s : State) : Host.Outcome State Fault Refusal :=
  .next (recvType s k 2 f fun s _ _ => s)

/-- A refusal of frame psn reaches its operation (R327, R337, R344). -/
def State.takeNack (s : State) (r : Nat) (f : Frame) : State :=
  let t := s.transport r
  match Status.ofCode f.code, t.unacked.find? fun x => x.psn == f.psn with
  | some st, some x =>
    if st = .ok then s
    else
      let s1 := s.setTransport r { t with unacked := t.unacked.filter fun y => y.psn != f.psn }
      match x.opId with
      | none => s1
      | some id => s1.updOp id fun o => match o.kind, o.memberOf r with
          | .mcast, some m => o.detach m st
          | _, _ => o.refuse st 0
  | _, _ => s
/-- What is outstanding to a detached receiver is not sent again (R344). -/
def State.markDead (s : State) (r : Nat) : State :=
  let t := s.transport r
  s.setTransport r { t with unacked := t.unacked.map fun x =>
    { x with dead := x.dead || s.linkOps.any fun o => x.opId == some o.id && o.detached.any fun d => (o.members.getD d.1 (0, 0)).1 == r } }
/-- NACK: CODE 0 is the not-ready kind, after which the frame is sent again on its timeout (R339, log entry 34). -/
def execNackFrame (k : Nat) (f : Frame) (s : State) : Host.Outcome State Fault Refusal :=
  .next (recvType s k 3 f fun s _ r => (s.takeNack r f).markDead r)

/-- NOTICE (R345): each operation with the sender grants what the entry and `LK.CFG` leave. -/
def execNoticeFrame (k : Nat) (f : Frame) (s : State) : Host.Outcome State Fault Refusal :=
  .next (recvType s k 4 f fun s p r =>
    let g (o : LinkOp) : Nat :=
      match o.memberOf r with
      | none => 0
      | some m => min (min f.aux (fld (s.partner r 6) 63 48)) (fld (s.reg (aLK p)) 49 34 - mget 0 o.granted m)
    let any := s.linkOps.any fun o => o.ctxHeld && decide (0 < g o)
    let s1 := (s.bump (aLK p + 0x18) 31 16 1).bump (aLK p + 0x18) 47 32 (b2n any)
    { s1 with linkOps := s1.linkOps.map fun o =>
        if o.ctxHeld && decide (0 < g o) then
          let m := (o.memberOf r).getD 0
          { o with granted := mput 0 o.granted m (mget 0 o.granted m + g o), flags := o.flags ||| 2 }
        else o })

/-- R333: the entry becomes LOST, its operations end PEER_LOST, or detach it (R344), and the event is logged. -/
def State.peerLost (s : State) (r : Nat) (st : Nat) (detach : Bool) : State :=
  let k := refPort r
  let ops := s.linkOps.filter fun o => o.refs.contains r
  let s1 := ops.foldl (fun s o =>
    if detach && o.kind == .mcast && o.ctxHeld then
      s.updOp o.id fun o => match o.memberOf r with
        | some m => o.detach m .peerLost
        | none => o
    else s.endOp o .peerLost o.flags o.detail) (s.setPtState r 1)
  ((logEv s1 (16 + k / 4) { ev ePeerLost with parts := pbitO (s.portPart k), detail := if st = 7 then 7 else 0 }).markDead r).settle

/-- ABORT: THERMAL ends every operation with the sender (R346); otherwise the collective with its CTX ends, DETAIL holding the
sender's rank (R343). -/
def execAbortFrame (k : Nat) (f : Frame) (s : State) : Host.Outcome State Fault Refusal :=
  .next (recvType s k 5 f fun s _ r =>
    if f.code = Status.thermal.code then s.peerLost r Status.thermal.code false
    else
      match s.groupOp .coll r f.ctx with
      | none => s
      | some (o, m) => s.endOp o .peerLost o.flags (w64 (o.sender r m)))

/-- KEEPALIVE: traffic, and nothing else (R332). -/
def execKeepaliveFrame (k : Nat) (f : Frame) (s : State) : Host.Outcome State Fault Refusal :=
  .next (recvType s k 6 f fun s _ _ => s)

end Sys2Proof.Machine
end

