-- ==== Sys2Proof/Machine/LinkPort.lean ====
section
/-! DEFINITION. Link timers (R331-R333, R343-R345), flow control (R319), drop events (R325), and how a port trains, degrades and
recovers (R316-R318). A timer's row says that its time has passed. -/

namespace Sys2Proof.Machine

/-! ### Timers -/

/-- ACK_TIMER: DATA frames of partner r have waited for their acknowledgement. -/
def execAckTimer (ref : Nat) (s : State) : Host.Outcome State Fault Refusal :=
  .next (if (s.transport ref).sinceAck = 0 then s else s.sendCtl ref 2 0 0 0 0)

/-- RETRANSMISSION_TIMEOUT: frames neither acknowledged nor marked in SACK go out again, and the timeout doubles up to 5 ms. -/
def execRetransmissionTimeout (ref : Nat) (s : State) : Host.Outcome State Fault Refusal :=
  let t := s.transport ref
  .next (if t.unacked.isEmpty ∨ s.ptState ref ≠ 0 then s.pump ref
    else
      let s1 := s.setTransport ref { t with rtoUs := min 5000 (2 * t.rtoUs) }
      (((t.unacked.filter fun x => !x.sacked && !x.dead).foldl (fun s x => s.sendData ref x true) s1).pump ref).settle)

/-- An operation that holds a context uses partner r. -/
def State.activeWith (s : State) (r : Nat) : Bool := s.linkOps.any fun o => o.ctxHeld && o.refs.contains r
/-- KEEPALIVE_SEND. -/
def execKeepaliveSend (ref : Nat) (s : State) : Host.Outcome State Fault Refusal :=
  .next (if s.activeWith ref ∧ s.ptState ref = 0 then (s.sendCtl ref 6 0 0 0 0).pump ref else s)

/-- PEER_SILENCE (R333): a frame to the partner is unacknowledged, or an operation waits on it. -/
def execPeerSilence (ref : Nat) (s : State) : Host.Outcome State Fault Refusal :=
  .next (if s.ptValid ref ∧ s.ptState ref = 0 ∧ refEntry ref ≠ 0
      ∧ (s.activeWith ref ∨ (s.transport ref).unacked.any fun x => !x.dead) then
    s.peerLost ref 0xFF true else s)

/-- LAG_LIMIT_EXPIRE (R343, R344, R347): member m of a link operation lags: a collective fails and its other members hear of it, a
receiver is detached, a vote goes on without the digest. -/
def execLagLimitExpire (id m : Nat) (s : State) : Host.Outcome State Fault Refusal :=
  match s.linkOps.find? fun o => o.id == id && o.ctxHeld with
  | none => .next s
  | some o =>
    let r := (o.members.getD m (0, 0)).1
    if o.n ≤ m ∨ !o.usesMember m then .next s
    else
      .next (match o.kind with
        | .xfer => s
        | .coll =>
          if o.inTotal m ≤ o.fromMember m then s
          else
            let s1 := (o.refs.filter fun x => x != r).foldl (fun s x => s.sendCtl x 5 Status.peerLost.code 0 o.ctx 0) s
            s1.endOp o .peerLost o.flags (w64 m)
        | .mcast =>
          if o.outTotal m ≤ o.sentTo m ∧ !((s.transport r).unacked.any fun x => x.opId == some id) then s
          else ((s.updOp id fun o => o.detach m .peerLost).markDead r).settle
        | .vote =>
          if o.digests.any fun d => d.1 == m then s
          else (s.updOp id fun o => { o with absent := sadd o.absent m }).settle)

/-- An LPDDR6 package reports above 105 °C (R412). -/
def State.pkgHot (s : State) : Bool := s.power.pkgTemp.any fun q => decide (105 < q.2)
/-- NOTICE_SEND (R345): to each member of each active operation, asking for ALLOW_US of its entry. -/
def execNoticeSend (s : State) : Host.Outcome State Fault Refusal :=
  .next (if !s.pkgHot then s
    else
      (s.linkOps.filter (·.ctxHeld)).foldl (fun s o =>
        ((upTo o.n).filter fun m => o.usesMember m && !(o.detached.any fun d => d.1 == m)).foldl (fun s m =>
          let r := (o.members.getD m (0, 0)).1
          if s.canSend r then
            (s.sendCtl r 4 0 0 o.ctx (fld (s.partner r 6) 47 32)).bump (aLK o.part + 0x18) 15 0 1
          else s) s) s)

/-! ### Flow control and drops -/

/-- PFC_FRAME (R319): a pause of a priority, or its resume. -/
def execPfcFrame (k prio : Nat) (pause : Bool) (s : State) : Host.Outcome State Fault Refusal :=
  let x := s.port k
  .next (if !s.portEth k ∨ x.phase ≠ .up ∨ 8 ≤ prio then s
    else if pause then s.setPort k { x with paused := sadd x.paused prio }
    else ((s.setPort k { x with paused := sdel x.paused prio, ignored := sdel x.ignored prio }).pumpPort k).settle)
/-- PFC_WATCHDOG (R319): a priority has stayed paused for 100 ms. -/
def execPfcWatchdog (k prio : Nat) (s : State) : Host.Outcome State Fault Refusal :=
  let x := s.port k
  match s.portPart k with
  | none => .next s
  | some p =>
    if !x.paused.contains prio || x.ignored.contains prio then .next s
    else
      let s1 := (s.setPort k { x with ignored := sadd x.ignored prio }).setReg (aPortStat p k) (setFld (s.reg (aPortStat p k)) 6 6 1)
      .next (((logEv s1 (16 + k / 4) { ev ePfcIgnored with parts := pbit p, detail := k }).pumpPort k).settle)
/-- LINK_DROPS (R325). -/
def execLinkDrops (k : Nat) (s : State) : Host.Outcome State Fault Refusal :=
  .next (if (s.port k).dropped then
    logEv (s.setPort k { s.port k with dropped := false }) (16 + k / 4)
      { ev eLinkDrops with parts := pbitO (s.portPart k), detail := k } else s)

/-! ### Training (Table 10.2, R318) -/

/-- The port goes to phase 1. -/
def LinkPort.retrain (x : LinkPort) : LinkPort :=
  { x with phase := .equalise, lanes := 0, recal := none, degraded := false, helloRefused := false }
/-- The port comes up on four lanes; what waits is sent. -/
def State.portUp (s : State) (k : Nat) : State :=
  ((s.setPort k { s.port k with phase := .up, lanes := 0xF, helloRefused := false }).pumpPort k).settle
/-- The HELLO that a port sends. -/
def State.sendHello (s : State) (k : Nat) : State := s.emit (.trainFlit k 1)

/-- EQUALISER_TRAINED: phase 1 ends. -/
def execEqualiserTrained (k : Nat) (s : State) : Host.Outcome State Fault Refusal :=
  .next (if (s.port k).phase = .equalise ∧ !s.portEth k then s.setPort k { s.port k with phase := .deskew } else s)
/-- LANE_DESKEW_DONE: phase 2 ends, and the port says HELLO. -/
def execLaneDeskewDone (k : Nat) (s : State) : Host.Outcome State Fault Refusal :=
  .next (if (s.port k).phase = .deskew ∧ !s.portEth k then
    (s.setPort k { s.port k with phase := .hello, helloRefused := false }).sendHello k else s)
/-- TRAINING_TIMEOUT: the phase has not finished within its bound. A port whose HELLO was refused stays in phase 3. -/
def execTrainingTimeout (k : Nat) (s : State) : Host.Outcome State Fault Refusal :=
  let x := s.port k
  .next (if x.phase = .equalise ∨ x.phase = .deskew ∨ (x.phase = .hello ∧ !x.helloRefused) then s.setPort k x.retrain else s)
/-- HELLO (R316): another part number, or the port's own node number, is refused. -/
def execHelloExchange (k node part : Nat) (s : State) : Host.Outcome State Fault Refusal :=
  .next (if (s.port k).phase ≠ .hello ∨ s.portEth k then s
    else if part ≠ 0x2048 ∨ node = fld (s.partner (k * 8192) 0) 31 16 then
      s.setPort k { s.port k with helloRefused := true }
    else s.portUp k)
/-- HELLO_RETRY. -/
def execHelloRetry (k : Nat) (s : State) : Host.Outcome State Fault Refusal :=
  .next (if (s.port k).phase = .hello ∧ (s.port k).helloRefused then s.sendHello k else s)
/-- AUTO_NEGOTIATION (R318): auto-negotiation where the mode has it, and link training, succeed or fail; a failed port tries
again. -/
def execAutoNegotiation (k : Nat) (ok : Bool) (s : State) : Host.Outcome State Fault Refusal :=
  .next (if (s.port k).phase ≠ .equalise ∨ !s.portEth k then s
    else if ok then s.portUp k else s.setPort k (s.port k).retrain)

/-! ### Recalibration (R317) -/

/-- The lane pair that does not contain a lane. -/
def otherPair (lane : Nat) : BitVec 4 := if lane < 2 then 0b1100 else 0b0011
/-- The unit number of a link lane. -/
def laneUnit (k lane : Nat) : Nat := 4 * k + lane

/-- LANE_RECAL_TRIGGER: a native port on four lanes announces DEGRADE; a lane of the remaining pair that fails takes the port down.
In Ethernet mode the port goes through link training again (R318). -/
def execLaneRecalTrigger (k lane : Nat) (s : State) : Host.Outcome State Fault Refusal :=
  let x := s.port k
  .next (if x.phase ≠ .up ∨ 4 ≤ lane then s
    else if s.portEth k then s.setPort k { x.retrain with recals := satN 16 (x.recals + 1) }
    else if x.degraded then (if x.lanes.getLsbD lane then s.setPort k x.retrain else s)
    else if x.recal.isSome then s
    else
      let r := s.startAction uLane (laneUnit k lane) 0 0
      if r.2 then (r.1.setPort k { x with recal := some lane }).emit (.trainFlit k 2) else r.1)
/-- DEGRADE: both ends have acknowledged, and both directions move to two lanes. -/
def execDegradeFlit (k : Nat) (s : State) : Host.Outcome State Fault Refusal :=
  let x := s.port k
  .next (match x.recal with
    | some lane => if x.phase = .up ∧ !x.degraded then s.setPort k { x with degraded := true, lanes := otherPair lane } else s
    | none => s)
/-- LANE_RECAL_DONE: the port returns to four lanes, or stays on two where the recalibration failed or the lane is retired. -/
def execLaneRecalDone (k : Nat) (ok : Bool) (s : State) : Host.Outcome State Fault Refusal :=
  let x := s.port k
  .next (match x.recal with
    | none => s
    | some lane =>
      if !x.degraded then s
      else
        let s1 := s.endAction uLane (laneUnit k lane)
        if ok && !s1.unitRetired uLane (laneUnit k lane) then
          s1.setPort k { x with degraded := false, lanes := 0xF, recal := none, recals := satN 16 (x.recals + 1) }
        else
          let s2 := s1.setPort k { x with recal := none, recals := satN 16 (x.recals + 1) }
          logUnit s2 (16 + k / 4)
            { ev eLaneDegraded with parts := pbitO (s.portPart k), ukind := uLane, unit := laneUnit k lane } 0)

end Sys2Proof.Machine
end

