-- ==== Sys2Proof/Machine/Hayward.lean ====
section
/-! DEFINITION. Hayward's lockstep pairs (R356-R358) and queued recovery actions (R364). -/

namespace Sys2Proof.Machine

/-- The number of the pair that is active, or not: 0 is IOA's, 1 is IOB's. -/
def State.activePair (s : State) : Nat := b2n s.hw.activeB
def State.otherPair (s : State) : Nat := b2n !s.hw.activeB

/-- LOCKSTEP_MISMATCH (R356-R358): the active pair stops and the standby takes over, or the standby leaves service; the last pair's
mismatch is device-fatal. -/
def execLockstepMismatch (active : Bool) (s : State) : Host.Outcome State Fault Refusal :=
  .next (if s.hw.fatal then s
    else if active then
      if s.hw.takeover || !s.hw.standby then
        s.deviceFatal 16 { ev eHaywardLost with parts := s.allParts, ukind := uPair, unit := s.activePair, rstate := 2 }
      else
        { s with hw := { s.hw with takeover := true, standby := false, running := s.hw.running ++
            [{ kind := uPair, num := s.activePair, ptime := s.sc, arg := 0, addr := 0 }] } }
    else if s.hw.standby then
      logEv { s with hw := { s.hw with standby := false } } 16
        { ev eStandbyLost with ukind := uPair, unit := s.otherPair, rstate := 2 }
    else s)

/-- The events of the dies' buffers are logged, with their own PTIME (R357). -/
def State.drainBuffers (s : State) : State :=
  let l := s.hw.buffers.flatMap (·.2)
  l.foldl (fun s e => logW 2 s e) { s with hw := { s.hw with buffers := [] } }
/-- STANDBY_TAKEOVER (R357): the standby is active, logs FAILOVER, and what waited goes on. -/
def execStandbyTakeover (s : State) : Host.Outcome State Fault Refusal :=
  .next (if !s.hw.takeover || s.hw.fatal then s
    else
      let lost := s.activePair
      let s1 := ({ s with hw := { s.hw with takeover := false, activeB := !s.hw.activeB } }).endAction uPair lost
      (logEv s1 16 { ev eFailover with ukind := uPair, unit := lost, rstate := 2 }).drainBuffers)

/-- What an action does when it starts. -/
def State.beginAction (s : State) (a : Action) : State :=
  if a.kind = uBaseBank then s.beginSpare a.num a.arg
  else if a.kind = uDdrRow then s.beginPpr (a.num % 128) a.arg a.addr
  else if a.kind = uLane then
    let k := a.num / 4
    let x := s.port k
    if x.phase = .up ∧ !x.degraded ∧ x.recal.isNone ∧ !s.portEth k then
      (s.setPort k { x with recal := some (a.num % 4) }).emit (.trainFlit k 2)
    else s.endAction a.kind a.num
  else s
/-- RECOVERY_ACTION_START (R364): the oldest queued action starts when fewer than 16 run. -/
def execRecoveryActionStart (s : State) : Host.Outcome State Fault Refusal :=
  .next (match s.hw.queued with
    | [] => s
    | a :: rest =>
      if !s.actionFree then s
      else ({ s with hw := { s.hw with queued := rest, running := s.hw.running ++ [a] } }).beginAction a)

end Sys2Proof.Machine
end

