-- ==== Sys2Proof/Machine/RegCmd.lean ====
section
/-! DEFINITION. Register writes as commands (R11, R14, R388), the arming and disarming rows (R114, R234, R326, R389, R474), and the
rows for single registers of the LK and HW blocks (R316, R322, R324, R328, R379). -/

namespace Sys2Proof.Machine

/-! ### BAR0 (Table 12.2) -/

/-- What a BAR0 offset reaches: a control-space register, byte b of channel entry ch, word w of vector v, the pending bits, or a
reserved offset. -/
inductive Bar0 where
  | reg (a : Nat)
  | chan (ch b : Nat)
  | msix (v w : Nat)
  | pba
  | reserved
  deriving DecidableEq, Repr

/-- BAR0 of the PF of port p. -/
def State.bar0Pf (s : State) (p o : Nat) : Bar0 :=
  if o < 0x100000 then .reg (aPart p + o)
  else if o < 0x140000 then .reg (aHW + (o - 0x100000))
  else if 0x200000 ≤ o ∧ o < 0x240000 then
    if (o - 0x200000) / 64 < (s.part p).chanCount then .chan ((s.part p).chanFirst + (o - 0x200000) / 64) (o % 64) else .reserved
  else if 0x400000 ≤ o ∧ o < 0x408000 then .msix ((o - 0x400000) / 16) (o % 16 / 8)
  else if 0x408000 ≤ o ∧ o < 0x408100 then .pba
  else if 0x800000 ≤ o ∧ o < 0x900000 then
    if s.ownerOf ((o - 0x800000) / 0x1000) = some p then .reg (aMX 0 + (o - 0x800000)) else .reserved
  else if 0x1000000 ≤ o ∧ o < 0x1800000 then
    if s.ownerOf ((o - 0x1000000) / 0x8000) = some p then .reg (aCoreWin 0 + (o - 0x1000000)) else .reserved
  else .reserved
/-- BAR0 of VF n of port p. -/
def State.bar0Vf (s : State) (p n o : Nat) : Bar0 :=
  let r := s.reg (aHP p + 0x200 + 8 * n)
  if o < 0x40000 then
    let i := fld r 11 0 + o / 64
    if o / 64 < fld r 24 12 ∧ i < (s.part p).chanCount then .chan ((s.part p).chanFirst + i) (o % 64) else .reserved
  else if o < 0x40800 then .msix ((o - 0x40000) / 16) (o % 16 / 8)
  else if o < 0x40810 then .pba else .reserved

/-- The port has a secure IDE stream, or needs none (R393). -/
def State.ideOk (s : State) (p : Nat) : Bool := !(s.part p).ideRequired || !(s.host p).ideSecure.isEmpty
/-- The offset lies in the HP block of the PF's BAR0. -/
def inHp (o : Nat) : Bool := decide (0x40000 ≤ o) && decide (o < 0x50000)

/-- The offset lies in the device blocks as the PF's BAR0 shows them (Table 12.2). -/
def inDev (o : Nat) : Bool := decide (0x100000 ≤ o) && decide (o < 0x140000)

/-- The bytes that a write of size n at byte b of an 8-byte word enables. -/
def byteMask (b n : Nat) : W64 := w64 ((2 ^ (8 * n) - 1) * 2 ^ (8 * b))
/-- A host write of n bytes at byte b of channel entry ch; it lands as written (R270). -/
def chanWrite (s : State) (ch b n : Nat) (v : W64) : State :=
  let m := byteMask (b % 8) n
  s.setChW ch (b / 8) (merge (s.chW ch (b / 8)) m (v <<< (8 * (b % 8))))
/-- A host write of n bytes at byte b of word w of vector v (PCIe). -/
def msixWrite (s : State) (p fn v w b n : Nat) (x : W64) : State :=
  let h := s.host p
  let d : W64 := if w = 1 then w64 (2 ^ 32) else 0
  let new := merge (h.msixW fn v w) (byteMask (b % 8) n) (x <<< (8 * (b % 8)))
  let new := if w = 1 then new &&& maskW 32 0 else new
  (s.setHost p { h with msix := mput d h.msix ((fn * 2048 + v) * 2 + w) new }).msixFlush p

/-- A host write through BAR0 of function fn of port p (R14, R388, R393, R395, R362). -/
def bar0Write (s : State) (p fn : Nat) (tgt : Bar0) (o size : Nat) (v : W64) : State :=
  let die := 16 + p / 2
  if (s.hw.fatal ∧ !(fn == 0 && inHp o)) ∨ (s.host p).fatal ∨ !s.power.pwrGood ∨ !s.power.sysRstN then s
  else if s.boot.stage ≠ 5 ∧ !(fn == 0 && (inHp o || inDev o)) then badAccess s die p o
  else if !s.ideOk p ∧ !(fn == 0 && inHp o) then s
  else if (s.host p).preset ≠ .none ∧ !(fn == 0 && inHp o) then badAccess s die p o
  else
    match tgt with
    | .reg a =>
      match regLanes a size with
      | none => badAccess s die p a
      | some m => writeReg s true p (a / 8 * 8) m (laneVal a v)
    | .chan ch b => chanWrite s ch b size v
    | .msix x w => msixWrite s p fn x w o size v
    | .pba => s
    | .reserved => badAccess s die p o

/-- REGISTER_WRITE: a host's write at a BAR0 offset, or a core's at a control-space address, of size bytes. -/
def execRegisterWrite (ag : Agent) (a size : Nat) (v : BitVec 64) (s : State) : Host.Outcome State Fault Refusal :=
  .next (match ag with
    | .pf p => bar0Write s p 0 (s.bar0Pf p a) a size v
    | .vf p n => bar0Write s p n (s.bar0Vf p n a) a size v
    | .core d =>
      let p := s.corePart d
      let k := s.core d
      let ins : BitVec 16 := if size = 8 then 0x300B else 0x300A
      let w := a / 8 * 8
      if !isControl a || !ctlReach s p a then takeException s d cAccess a ins
      else if k.priv = .U ∧ aCoreWin d + 0x100 ≤ a ∧ a < aCoreWin d + 0x300 then takeException s d cPrivilege 0 ins
      else
        match regLanes a size with
        | none => badAccess s (s.dieOf (d / 8)) p a
        | some m =>
          if aCoreWin d ≤ w ∧ w < aCoreWin (d + 1) then s.setCore d (k.write k.priv (w % 0x1000) m (laneVal a v))
          else writeReg s false p w m (laneVal a v))

/-! ### Region entries -/

/-- RGN_ARM (R234): v is the word written, its VALID taken as 1. -/
def execRgnArm (p n : Nat) (v : BitVec 64) (s : State) : Host.Outcome State Fault Refusal :=
  .next (if n < 256 ∧ p < 4 then rgnArmWrite s p n (setFld v 0 0 1) else s)
/-- RGN_ARM_DONE (R234, R474). -/
def execRgnArmDone (p n : Nat) (s : State) : Host.Outcome State Fault Refusal :=
  .next (if s.armTurn kRgn p n then rgnArmEnd s p n else s)
/-- RGN_DISARM (R235). -/
def execRgnDisarm (p n : Nat) (s : State) : Host.Outcome State Fault Refusal :=
  .next (if n < 256 ∧ p < 4 then rgnDisarmWrite s p n none else s)

/-! ### Sward buffers -/

/-- SB_ARM (R114). -/
def execSbArm (p n : Nat) (v : BitVec 64) (s : State) : Host.Outcome State Fault Refusal :=
  .next (if n < 64 ∧ p < 4 then sbArmWrite s p n (setFld v 63 63 1) else s)
/-- SB_ARM_DONE (R114). -/
def execSbArmDone (p n : Nat) (s : State) : Host.Outcome State Fault Refusal :=
  .next (if s.armTurn kSb p n then sbArmEnd s p n else s)
/-- SB_DISARM (R114). -/
def execSbDisarm (p n : Nat) (s : State) : Host.Outcome State Fault Refusal :=
  .next (if n < 64 ∧ p < 4 then sbDisarmWrite s p n none else s)

/-! ### Remote windows -/

/-- WIN_ARM (R326). -/
def execWinArm (p w : Nat) (v : BitVec 64) (s : State) : Host.Outcome State Fault Refusal :=
  .next (if w < 64 ∧ p < 4 then winArmWrite s p w (setFld v 32 32 1) else s)
/-- WIN_ARM_DONE (R326). -/
def execWinArmDone (p w : Nat) (s : State) : Host.Outcome State Fault Refusal :=
  .next (if s.armTurn kWin p w then winArmEnd s p w else s)
/-- WIN_DISARM (R326). -/
def execWinDisarm (p w : Nat) (s : State) : Host.Outcome State Fault Refusal :=
  .next (if w < 64 ∧ p < 4 then winDisarmWrite s p w none else s)

/-! ### BAR2 windows -/

/-- B2_WIN_ARM (R389). -/
def execB2WinArm (p n : Nat) (v : BitVec 64) (s : State) : Host.Outcome State Fault Refusal :=
  .next (if n < 16 ∧ p < 4 then b2ArmWrite s p n (setFld v 0 0 1) else s)
/-- B2_WIN_ARM_DONE (R389). -/
def execB2WinArmDone (p n : Nat) (s : State) : Host.Outcome State Fault Refusal :=
  .next (if s.armTurn kB2 p n then b2ArmEnd s p n else s)
/-- B2_WIN_DISARM (R389). -/
def execB2WinDisarm (p n : Nat) (s : State) : Host.Outcome State Fault Refusal :=
  .next (if n < 16 ∧ p < 4 then b2DisarmWrite s p n none else s)

/-! ### Rows for single registers -/

/-- A write of REF and CMD to `LK.PT_CTL` (R324). -/
def ptCtl (s : State) (p r cmd : Nat) : State :=
  if p < 4 then partWrite s true p 0x30008 (maskW 63 0) (w64 (r % 65536 + cmd * 65536)) else s
/-- PARTNER_ENTRY_WRITE (R324). -/
def execPartnerEntryWrite (p ref : Nat) (s : State) : Host.Outcome State Fault Refusal := .next (ptCtl s p ref 1)
/-- PARTNER_ENTRY_READ (R324). -/
def execPartnerEntryRead (p ref : Nat) (s : State) : Host.Outcome State Fault Refusal := .next (ptCtl s p ref 2)
/-- EXPEL (R328). -/
def execExpelPartner (p ref : Nat) (s : State) : Host.Outcome State Fault Refusal := .next (ptCtl s p ref 3)
/-- KEY_LOAD (R322): v is the word written to `LK.KEY_CTL`, its LOAD taken as 1. -/
def execKeyLoad (p : Nat) (v : BitVec 64) (s : State) : Host.Outcome State Fault Refusal :=
  .next (if p < 4 then partWrite s true p 0x30010 (maskW 63 0) (setFld v 19 19 1) else s)
/-- PORT_ENABLE (R316): EN of `LK.PORT_CFG[k]` is set, by the port's owner. -/
def execPortEnable (k : Nat) (s : State) : Host.Outcome State Fault Refusal :=
  .next (match s.portPart k with
    | none => s
    | some p => if k < 8 then
        partWrite s true p (0x30100 + 0x20 * k) (maskW 63 0) (setFld (s.reg (aPortCfg p k)) 2 2 1) else s)
/-- PV_ACK (R379). -/
def execPvAck (p : Nat) (v : BitVec 64) (s : State) : Host.Outcome State Fault Refusal :=
  .next (if p < 4 then partWrite s true p 0x50010 (maskW 63 0) v else s)

end Sys2Proof.Machine
end

