-- ==== Sys2Proof/Machine/HostPort.lean ====
section
/-! DEFINITION. Host ports (R381-R393, R423): links, configuration space, D-states, BAR2, IDE and SPDM; and partition resets
(R394-R397). -/

namespace Sys2Proof.Machine

/-! ### Ports -/

/-- Only H0 enumerates in RECOVERY and in SCRAPPED (R424, R449); otherwise the ports of enabled partitions do (R381). -/
def State.portLive (s : State) (p : Nat) : Bool :=
  s.live && (if s.boot.stage = 6 ∨ s.life.lc = 3 then p == 0 else decide (p < 4) && (s.part p).enabled)

/-- What a reset of a port's functions leaves of their PCIe state: the pin, the link where it stays up, and nothing configured. -/
def HostPort.cleared (h : HostPort) (link : Bool) : HostPort :=
  { HostPort.reset with perst := h.perst, linkUp := h.linkUp && link, cfgReady := h.cfgReady && link, preset := h.preset, fatal := h.fatal
                        speed := if link then h.speed else 0, width := if link then h.width else 0, mbAnswer := h.mbAnswer }

/-! ### Partition reset -/

/-- Every link operation of a partition stops, and each partner of an active one has an ABORT with CODE ABORTED. -/
def State.linksAborted (s : State) (p : Nat) : State :=
  (s.linkOps.filter fun o => o.part == p).foldl (fun s o =>
    let t := if o.ctxHeld then o.refs.foldl (fun s r => s.sendCtl r 5 Status.aborted.code 0 o.ctx 0) s else s
    t.endOp o .aborted o.flags o.detail) s
/-- The fields of POLICY that waited for a reset of the partition (R430). -/
def State.resetFields (s : State) (p : Nat) : State :=
  match s.boot.newPolicy with
  | none => s
  | some n =>
    let x := n.parts.getD p PartPolicy.none
    { s with policy := { s.policy with parts := s.policy.parts.zipIdx.map fun q =>
        if q.2 = p then { q.1 with bar2Log2 := x.bar2Log2, ideRequired := x.ideRequired } else q.1 } }
/-- The engines of a partition's clusters stop at their current tile or descriptor; what waits in their queues goes. -/
def State.stopEngines (s : State) (p : Nat) : State :=
  (s.part p).clusters.foldl (fun s c =>
    let k := s.cluster c
    s.setCluster c { k with mxQ := [], seQ := [], mx := k.mx.map fun m => { m with stop := some (m.stop.getD .aborted) }
                            se := k.se.map fun x => { x with status := some (x.status.getD .aborted) } }) s

/-- R394, Table 12.4, time 0: no command of the partition yields a record or a message any more. Debug access to it closes (R447),
and the owner partition's reset clears the arm for return (R446). -/
def State.startReset (s : State) (p : Nat) (link : Bool) : State :=
  let s1 := s.setHost p { (s.host p).cleared link with preset := .stopping }
  let s2 := { s1 with cmds := s1.cmds.map fun (c : Cmd) => if c.part = p then { c with silent := true } else c }
  let s3 := s2.linksAborted p
  let s4 := ((s3.cmds.filter fun c => c.part == p).map (·.id)).foldl (fun s id => s.abortCmd id .aborted) s3
  let s5 := (s4.chansOf p).foldl (fun s ch => s.setChan ch { s.chan ch with fetched := [] }) (s4.stopEngines p)
  let s6 := { s5 with life := { s5.life with
      dbgParts := s5.life.dbgParts &&& ~~~ pbit p
      retArmed := s5.life.retArmed && s5.policy.ownerPart != p } }
  s6.resetFields p

/-- A trigger of R394 on a port that lives. -/
def State.trigger (s : State) (p : Nat) (link : Bool) : State :=
  if !s.portLive p || s.hw.fatal then s.setHost p ((s.host p).cleared link)
  else if (s.part p).enabled then s.startReset p link else s.setHost p ((s.host p).cleared link)

/-- PERST_ASSERT. -/
def execPerstAssert (p : Nat) (s : State) : Host.Outcome State Fault Refusal :=
  .next (if 4 ≤ p then s else (s.setHost p { s.host p with perst := true }).trigger p false)
/-- PERST_DEASSERT (R423, R395): the port answers with Request Retry Status until PORT_CONFIG_READY. -/
def execPerstDeassert (p : Nat) (s : State) : Host.Outcome State Fault Refusal :=
  .next (if 4 ≤ p then s else s.setHost p { s.host p with perst := false })
/-- HOT_RESET. -/
def execHotReset (p : Nat) (s : State) : Host.Outcome State Fault Refusal := .next (if 4 ≤ p then s else s.trigger p false)
/-- DATA_LINK_DOWN. -/
def execDataLinkDown (p : Nat) (s : State) : Host.Outcome State Fault Refusal := .next (if 4 ≤ p then s else s.trigger p false)
/-- FUNCTION_LEVEL_RESET: of the PF; the link stays up. -/
def execFunctionLevelReset (p : Nat) (s : State) : Host.Outcome State Fault Refusal := .next (if 4 ≤ p then s else s.trigger p true)

/-- VF_FUNCTION_LEVEL_RESET (R394): VF n's channels are aborted and their entries zero, its MSI-X table is cleared. Their commands
write no record: their rings are gone (log entry 40). -/
def execVfFunctionLevelReset (p n : Nat) (s : State) : Host.Outcome State Fault Refusal :=
  if 4 ≤ p ∨ n = 0 ∨ 16 ≤ n ∨ !s.portLive p then .next s
  else
    let l := (s.chansOf p).filter fun ch => s.chanFn ch == n
    let s1 := l.foldl (fun s ch =>
      let t := s.abortChannel p ch .aborted .aborted 0
      let u := { t with cmds := t.cmds.map fun (c : Cmd) => if c.ch = ch then { c with silent := true } else c }
      { u with chans := mdel u.chans ch, chanTab := u.chanTab.filter fun q => q.1 / 8 != ch }) s
    let h := s1.host p
    .next (s1.setHost p { h with bme := sdel h.bme n, msixOn := sdel h.msixOn n, fnMask := sdel h.fnMask n, d3hot := sdel h.d3hot n
                                 msix := h.msix.filter fun q => q.1 / 2 / 2048 != n
                                 msixPend := h.msixPend.filter fun v => v / 2048 != n
                                 cfg := h.cfg.filter fun q => q.1 / 4096 != n })

/-- PRESET_IDLE (R395): no engine of the partition runs; Hayward stops any core that has not executed KEND. -/
def execPresetIdle (p : Nat) (s : State) : Host.Outcome State Fault Refusal :=
  if (s.host p).preset ≠ .stopping then .next s
  else if (s.part p).clusters.any fun c => (s.cluster c).mx.isSome || (s.cluster c).se.isSome then .next s
  else
    let ks := s.kernels.filter fun k => (s.part p).clusters.contains k.cluster
    let s1 := { s with kernels := s.kernels.filter fun k => !(s.part p).clusters.contains k.cluster }
    let s2 := ks.foldl (fun s k => s.finish k.id .aborted 0 0) s1
    let s3 := (s.part p).clusters.foldl (fun s c => (upTo 8).foldl (fun s i =>
      let k := s.core (c * 8 + i)
      if k.kernel.isSome then s.setCore (c * 8 + i) { k with run := .idle, kernel := none, endStatus := none, abortPend := none } else s) s) s2
    .next (s3.setHost p { s3.host p with preset := .clearing })

/-- Whether a register of partition p is cleared (Table 12.5). -/
def clearedReg (p a : Nat) : Bool :=
  let o := a - aPart p
  decide (aPart p ≤ a) && decide (a < aPart (p + 1)) &&
    (decide (o < 0x1000) || (decide (0x10000 ≤ o) && decide (o < 0x10800)) || (decide (0x20100 ≤ o) && decide (o < 0x20700))
      || (decide (0x30400 ≤ o) && decide (o < 0x30800)) || (decide (0x40010 ≤ o) && decide (o < 0x50000)) || o == 0x50008 || o == 0x50018)
/-- Whether a register belongs to the cleared part of the windows of clusters cs: MX registers and barriers. -/
def clearedClu (cs : List Nat) (a : Nat) : Bool :=
  decide (aMX 0 ≤ a) && decide (a < aMX 256) && cs.contains ((a - aMX 0) / 0x1000) &&
    (decide (a % 0x1000 < 0x400) || (decide (0x800 ≤ a % 0x1000) && decide (a % 0x1000 < 0x900)))
/-- The memory without what lies in a set of addresses, which holds zero with valid codes; hard faults stay. -/
def Mem.zero (m : Mem) (here : Nat → Bool) : Mem :=
  { m with bytes := m.bytes.filter fun q => !here q.1, psn := m.psn.filter fun w => !here (w * 8)
           latent := m.latent.filter fun q => !here (q.1 * 8) || q.2 == .correctable true
           writeback := m.writeback.filter fun w => !here (w * 8) }
/-- A cluster's engines and dispatch state, cleared; its place and its holds stay. -/
def Cluster.wiped (k : Cluster) : Cluster :=
  { Cluster.reset with hold := k.hold, retry := k.retry, moving := k.moving, absent := k.absent, newMon := k.newMon }

/-- Table 12.5, left column. -/
def State.clearPart (s : State) (p : Nat) : State :=
  let cs := (s.part p).clusters
  let ports := (upTo 8).filter fun k => s.portPart k == some p
  let mine := fun (ch : Nat) => (s.part p).chanFirst ≤ ch && decide (ch < (s.part p).chanFirst + (s.part p).chanCount)
  let s1 := { s with
    chanTab := s.chanTab.filter fun q => !mine (q.1 / 8)
    chans := s.chans.filter fun q => !mine q.1
    cmds := s.cmds.filter fun c => c.part != p
    linkOps := s.linkOps.filter fun o => o.part != p
    regs := s.regs.filter fun q => !clearedReg p q.1 && !clearedClu cs q.1
    partners := s.partners.filter fun q => !ports.contains (q.1 / 65536)
    keys := s.keys.filter fun q => !ports.contains (q.1 / 16384)
    transports := s.transports.filter fun q => !ports.contains (q.1 / 8192)
    arming := s.arming.filter fun x => x.2.1 != p
    disarming := s.disarming.filter fun x => x.1 != p
    sbFlags := s.sbFlags.filter fun q => q.1 / 512 != p
    cores := s.cores.filter fun q => !cs.contains (q.1 / 8)
    mem := s.mem.zero fun a => isStaging a && cs.contains (stagingCluster a) }
  cs.foldl (fun s c => s.setCluster c (s.cluster c).wiped) s1

/-- PRESET_CLEARED (R395, R396): the state is cleared, and the role epoch incremented; a partition without a cluster stays fatal
(R397). -/
def execPresetCleared (p : Nat) (s : State) : Host.Outcome State Fault Refusal :=
  if (s.host p).preset ≠ .clearing then .next s
  else
    let s1 := s.clearPart p
    let s2 := s1.setReg (aEpoch p) (setFld (s1.reg (aEpoch p)) 15 0 (fld (s1.reg (aEpoch p)) 15 0 + 1))
    let gone := (s2.part p).clusters.all fun c => (s2.cluster c).absent
    .next (s2.setHost p { s2.host p with preset := if s2.policy.resetErase then .erasing else .none
                                         fatal := (s2.host p).fatal && gone, mbAnswer := none })
/-- PRESET_ERASE_DONE (R395): every granted granule holds zero. -/
def execPresetEraseDone (p : Nat) (s : State) : Host.Outcome State Fault Refusal :=
  if (s.host p).preset ≠ .erasing then .next s
  else
    let s1 := { s with mem := s.mem.zero fun a => s.grantPart a == some p }
    .next (s1.setHost p { s1.host p with preset := .none })
/-- PARTITION_RESET_FAIL (R397). -/
def execPartitionResetFail (p : Nat) (s : State) : Host.Outcome State Fault Refusal :=
  .next (if (s.host p).preset = .none then s else (s.setHost p { s.host p with preset := .none }).partFatal p)

/-! ### Configuration space -/

/-- PORT_CONFIG_READY (R423). -/
def execPortConfigReady (p : Nat) (s : State) : Host.Outcome State Fault Refusal :=
  .next (if s.portLive p && !(s.host p).perst then s.setHost p { s.host p with cfgReady := true } else s)
/-- PCIE_LINK_UP (R382, Table 12.10). -/
def execPcieLinkUp (p speed width : Nat) (s : State) : Host.Outcome State Fault Refusal :=
  .next (if s.portLive p && !(s.host p).perst && decide (1 ≤ speed) && decide (speed ≤ 7) && ([1, 2, 4, 8] : List Nat).contains width then
    s.setHost p { s.host p with linkUp := true, speed, width } else s)

/-- A configuration register as it reads. -/
def State.cfgRead (s : State) (p fn off : Nat) : BitVec 32 :=
  if off = 0 then (if fn = 0 then BitVec.ofNat 32 (0x20480000 + Config.vendorId.toNat) else 0xFFFFFFFF)
  else if off = 8 then BitVec.ofNat 32 (0x12000000 + (Config.configSpace fn 8).toNat % 256)
  else mget (Config.configSpace fn off) (s.host p).cfg (fn * 4096 + off)
/-- A configuration write: the fields that the device acts on (R384, R385, R389, R391), and the register. -/
def State.cfgWrite (s : State) (p fn off : Nat) (v : BitVec 32) : State :=
  let h := s.host p
  let m := Config.configMask fn off
  let x := if off = 0 ∨ off = 8 then s.cfgRead p fn off else (s.cfgRead p fn off &&& ~~~ m) ||| (v &&& m)
  let h1 := { h with cfg := if off = 0 ∨ off = 8 then h.cfg else mput (Config.configSpace fn off) h.cfg (fn * 4096 + off) x }
  let h2 := if off = 4 then { h1 with bme := sset h1.bme fn (v.getLsbD 2) } else h1
  let h3 := if off = Config.capOff 0 then { h2 with msixOn := sset h2.msixOn fn (v.getLsbD 31), fnMask := sset h2.fnMask fn (v.getLsbD 30) }
    else h2
  let h4 := if fn = 0 ∧ off = Config.capOff 1 + 8 then { h3 with vfEnable := v.getLsbD 0 } else h3
  let n := 20 + v.toNat / 256 % 64
  let h5 := if fn = 0 ∧ off = Config.capOff 2 + 8 ∧ 30 ≤ n ∧ n ≤ 41 then { h4 with bar2Log2 := some n } else h4
  (s.setHost p h5).msixFlush p

/-- CONFIG_REQUEST (R423, R381): Request Retry Status until the port is ready; a function that is not there reads all ones. -/
def execConfigRequest (p : Nat) (q : ConfigReq) (s : State) : Host.Outcome State Fault Refusal :=
  let h := s.host p
  .next (if !s.portLive p || h.perst || h.fatal then s
    else if !h.cfgReady then s.emit (.cfgAnswer p true 0)
    else if 16 ≤ q.fn || (decide (0 < q.fn) && !h.vfEnable) || decide (4096 ≤ q.off) then s.emit (.cfgAnswer p false 0xFFFFFFFF)
    else
      let off := q.off / 4 * 4
      match q.wr with
      | none => s.emit (.cfgAnswer p false (s.cfgRead p q.fn off))
      | some v => (s.cfgWrite p q.fn off v).emit (.cfgAnswer p false 0))

/-- D3HOT_ENTRY (R384). -/
def execD3hotEntry (p n : Nat) (s : State) : Host.Outcome State Fault Refusal :=
  .next (if s.portLive p && decide (n < 16) then s.setHost p { s.host p with d3hot := sadd (s.host p).d3hot n } else s)
/-- D0_RETURN (R384): what waited resumes; held messages are sent. -/
def execD0Return (p n : Nat) (s : State) : Host.Outcome State Fault Refusal :=
  .next (if s.portLive p && decide (n < 16) then
    (s.setHost p { s.host p with d3hot := sdel (s.host p).d3hot n }).msixFlush p else s)

/-! ### BAR2 (R390) -/

/-- Where an access of n bytes at offset o goes: its window holds all of it, inside the BAR. -/
def State.b2Target (s : State) (p o n : Nat) : Option Nat :=
  ((upTo 16).find? fun i => s.b2Valid p i && decide (s.b2Off p i ≤ o) && decide (o + n ≤ s.b2Off p i + s.b2Len p i)
    && decide (o + n ≤ 2 ^ s.bar2Log2 p)).map fun i => s.b2Dev p i + (o - s.b2Off p i)
/-- The access is admitted: the device is READY, no partition reset is in progress, and the checks with permission perm pass. -/
def State.b2Admit (s : State) (p o n perm : Nat) : Option Nat :=
  if s.boot.stage != 5 || s.hw.fatal || (s.host p).preset != .none then none
  else match s.b2Target p o n with
    | none => none
    | some a => if (s.chk p [pHost, perm] a n).isOk then some a else none

/-- BAR2_READ. -/
def execBar2Read (p o len : Nat) (s : State) : Host.Outcome State Fault Refusal :=
  .next (if !s.portLive p || (s.host p).fatal || len == 0 then s
    else if !s.ideOk p then s.emit (.bar2Data p [] false)
    else
      match s.b2Admit p o len pR with
      | none => (badAccess s (16 + p / 2) p o).emit (.bar2Data p (List.replicate len 0xFF) false)
      | some a =>
        let r := readMem s (16 + p / 2) a len
        r.1.emit (.bar2Data p (r.2.map (·.1)) (pbPsn r.2)))
/-- BAR2_WRITE. -/
def execBar2Write (p o : Nat) (data : List (BitVec 8)) (ep : Bool) (s : State) : Host.Outcome State Fault Refusal :=
  .next (if !s.portLive p || (s.host p).fatal || data.isEmpty || !s.ideOk p then s
    else
      match s.b2Admit p o data.length pW with
      | none => badAccess s (16 + p / 2) p o
      | some a => storeMem s (16 + p / 2) a (data.map fun b => (b, ep)))

/-! ### IDE and SPDM (R392, R439) -/

/-- IDE_KM: keys for a stream, inside a secured session. -/
def execIdeKm (p st : Nat) (s : State) : Host.Outcome State Fault Refusal :=
  let h := s.host p
  .next (if s.portLive p && decide (st ≤ 8) && h.spdmSession == 2 then
    s.setHost p { h with ideSecure := sadd h.ideSecure st, ideInsecure := sdel h.ideInsecure st } else s)
/-- IDE_INSECURE: a secure stream moves to its insecure state. -/
def execIdeInsecure (p st : Nat) (s : State) : Host.Outcome State Fault Refusal :=
  let h := s.host p
  .next (if h.ideSecure.contains st then
    s.setHost p { h with ideSecure := sdel h.ideSecure st, ideInsecure := sadd h.ideInsecure st } else s)

/-- The measurement blocks: the DIGEST of section types 1-6 in force. -/
def State.measurements (s : State) : List Byte :=
  ([1, 2, 3, 4, 5, 6] : List Nat).flatMap fun t => digBytes (secOf s.boot.secs t).digest
/-- An SPDM ERROR response with a code (DSP0274). -/
def spdmError (code : Nat) : List Byte := [0x12, 0x7F, BitVec.ofNat 8 code, 0]
/-- The session after a request: KEY_EXCHANGE, FINISH, END_SESSION (DSP0274). -/
def spdmNext (n : Nat) (q : SpdmReq) : Nat :=
  if q.code = 0xE4 then 1 else if q.code = 0xE5 then (if n = 1 ∧ Config.spdmFinishOk q.body then 2 else n)
  else if q.code = 0xEC then 0 else n
/-- A request that R439 excludes: pre-shared keys, encapsulated requests for mutual authentication, and slots other than 0. -/
def spdmRefused (q : SpdmReq) : Option Nat :=
  if q.code = 0xE6 ∨ q.code = 0xE7 ∨ q.code = 0xEA ∨ q.code = 0xEB then some 7
  else if q.slot ≠ 0 ∧ (q.code = 0x82 ∨ q.code = 0x83 ∨ q.code = 0xE4) then some 1 else none
/-- SPDM_REQUEST: an answer through DOE; no key exists where UDS_KILL is 1 (R437). -/
def execSpdmRequest (p : Nat) (q : SpdmReq) (s : State) : Host.Outcome State Fault Refusal :=
  let h := s.host p
  .next (if !s.portLive p || !h.cfgReady || h.fatal then s
    else if s.life.noId then s.emit (.spdm p (spdmError 5))
    else
      match spdmRefused q with
      | some e => s.emit (.spdm p (spdmError e))
      | none =>
        (s.setHost p { h with spdmSession := spdmNext h.spdmSession q }).emit
          (.spdm p (Config.spdmAnswer h.spdmSession (s.measurements ++ s.boot.l1 ++
            [BitVec.ofNat 8 q.code, BitVec.ofNat 8 q.slot] ++ q.body))))

end Sys2Proof.Machine
end

