-- ==== Sys2Proof/Machine/Kernel.lean ====
section
/-! DEFINITION. Kernels (R286-R290): acceptance, start on the selected cores, completion. -/

namespace Sys2Proof.Machine

/-- The cores that a KERNEL's mask selects (Table 9.8). -/
def coresOf (m : Nat) : List Nat := (upTo 8).filter fun i => m = 0 || m / 2 ^ i % 2 == 1

/-- KERNEL (R287): the dispatched record becomes a kernel that waits for its cores. -/
def execKernelAccept (id : Nat) (s : State) : Host.Outcome State Fault Refusal :=
  match s.waitingCmd id 0x10 with
  | none => .next s
  | some c =>
    let w := fun i => c.words.getD i 0
    let k : Kernel :=
      { id, cluster := c.cluster, cores := coresOf (fld (w 1) 55 48), entry := fld (w 1) 47 0
        args := (upTo 5).map fun i => w (i + 2), ieee := bitW (w 0) 9, started := false, abort := none }
    .next { (s.updCmd id fun c => { c with started := true }) with kernels := s.kernels ++ [k] }

/-- R288 on one core: the stacks, loops and tickets emptied, the per-kernel registers cleared, the arguments in local memory,
and the partition runtime entered at S with ENTRY on the data stack, with IE 0 (log entry 31). -/
def Core.start (k : Core) (x : Kernel) (sEntry cb pb : Nat) : Core :=
  let k1 := k.applyLater
  let k2 := x.args.zipIdx.foldl (fun k a => k.lmPutEntry a.2 ⟨a.1, false⟩) k1
  { k2 with
    run := .running, pc := sEntry, slot := none, priv := .S, ie := false
    ds := [⟨w64 x.entry, false⟩], dsSpill := 0, rs := [], rsSpill := 0, loops := [], tickets := [], ticketOrder := 0
    claims := 0, redClaims := 0, storesOut := 0, vloadsOut := 0
    exKstat := 0, exLastCause := 0, exLastDetail := 0
    vxRcStat := setFld k2.vxRcStat 0 0 0, vxStatus := setFld k2.vxStatus 5 5 0
    winOpen := false, winRem := 0, mfaActive := false, mfaFrames := 0, abortPend := none
    kernel := some x.id, ieee := x.ieee, endStatus := none, sawPoison := false, cvOut := false, cvCover := []
    cbBase := cb, pbBase := pb, pairAt := none }

/-- KERNEL_START (R286, R288): every core of the mask has ended any earlier kernel, and no earlier kernel waits for one. -/
def execKernelStart (id : Nat) (s : State) : Host.Outcome State Fault Refusal :=
  match s.kernels.find? fun k => k.id == id, s.cmd id with
  | some x, some c =>
    let d := fun i => x.cluster * 8 + i
    let ahead := (s.kernels.takeWhile fun k => k.id != id).any fun k =>
      k.cluster == x.cluster && !k.started && k.cores.any fun i => x.cores.contains i
    if x.started || x.abort.isSome || ahead || s.power.holdIssue
        || x.cores.any (fun i => (s.core (d i)).kernel.isSome || (s.core (d i)).run != .idle) then .next s
    else
      let w0 := (s.chan c.ch).w0
      let entry := (s.part c.part).sEntry
      let s1 := { s with kernels := s.kernels.map fun k => if k.id = id then { k with started := true } else k }
      .next (x.cores.foldl (fun s i => s.setCore (d i) ((s.core (d i)).start x entry (fld w0 20 16) (fld w0 26 21))) s1)
  | _, _ => .next s

/-- The first non-OK status among a core's unconsumed tickets, in issue order (R183). -/
def Core.ticketStatus (k : Core) : Status :=
  let done := k.tickets.filterMap fun t => match t.2.st with
    | .done w => some (t.2.order, (Status.ofCode (fld w 7 0)).getD .ok)
    | _ => none
  match (done.filter fun x => x.2 != .ok).foldl (fun b x => match b with
      | none => some x
      | some y => if x.1 < y.1 then some x else some y) none with
  | none => .ok
  | some x => x.2
/-- What a core contributes to its kernel's status (R289), with OUT_OF_BOUNDS for a check-table entry outside (R303). -/
def Core.kernelStatus (k : Core) : Status :=
  Status.worst [k.endStatus.getD .ok, k.ticketStatus, if bitW k.vxStatus 5 then .illegalTarget else .ok,
    if k.sawPoison then .poisoned else .ok, if bitW k.vxRcStat 0 then .rangeCheck else .ok, if k.cvOut then .outOfBounds else .ok]
/-- A core has ended its part: KEND or stopped, tickets completed, stores acknowledged, operand cache settled. -/
def Core.kernelEnded (k : Core) : Bool :=
  k.endStatus.isSome && k.storesOut == 0 && k.ocPending == 0 && k.tickets.all fun t => match t.2.st with
    | .done _ => true
    | _ => false
/-- A core whose kernel is over. -/
def Core.release (k : Core) : Core :=
  { k with kernel := none, tickets := [], endStatus := none, cvCover := [], run := if k.run = .running then .idle else k.run }

/-- KERNEL_COMPLETE (R289, R290, R183, R304). -/
def execKernelComplete (id : Nat) (s : State) : Host.Outcome State Fault Refusal :=
  match s.kernels.find? fun k => k.id == id with
  | none => .next s
  | some x =>
    let ks := x.cores.map fun i => s.core (x.cluster * 8 + i)
    let s1 := { s with kernels := s.kernels.filter fun k => k.id != id }
    let part := ((s.cmd id).map (·.part)).getD 4
    let detail := fun (st : Status) => if st = .noProgress then w64 (fld (s.reg (aCH part + 0x10)) 12 0) else 0
    if !x.started then
      match x.abort with
      | none => .next s
      | some st => .next (s1.finish id st 0 (detail st))
    else if !ks.all Core.kernelEnded then .next s
    else
      let st := match x.abort with
        | some st => st
        | none => Status.worst (ks.map Core.kernelStatus)
      let fl := b2n (ks.any fun k => bitW k.vxStatus 5) + 2 * b2n (ks.any fun k => bitW k.vxRcStat 0)
      let cover := ks.foldl (fun m k => coverUnion m k.cvCover) []
      let s2 := s1.coverFresh (s.dieOf x.cluster) cover
      let s3 := x.cores.foldl (fun s i => s.setCore (x.cluster * 8 + i) (s.core (x.cluster * 8 + i)).release) s2
      .next (s3.finish id st (BitVec.ofNat 8 fl) (detail st))

end Sys2Proof.Machine
end

