-- ==== Sys2Proof/Machine/LiveChange.lean ====
section
/-! DEFINITION. Live change (R426-R430): the application of a committed image section by section. -/

namespace Sys2Proof.Machine

/-- A section is in force. -/
def Boot.inForce (f : Boot) (x : SecInfo) : Boot :=
  { f with secs := f.secs.map fun y => if y.type = x.type then x else y, liveApplied := true }
/-- A section's application is over. -/
def Boot.applied (f : Boot) (t : Nat) : Boot := { f with pendingSecs := sdel f.pendingSecs t }

/-! ### POLICY (R430, Table 13.11) -/

/-- The fields that apply at once, or to what starts afterwards. -/
def State.policyNow (s : State) (n : Policy) : State :=
  let parts := s.policy.parts.zipIdx.map fun q =>
    let x := n.parts.getD q.2 PartPolicy.none
    { q.1 with lkCtxA := x.lkCtxA, lkCtxB := x.lkCtxB, sEntry := x.sEntry
               resvSlots := max x.resvSlots (mget 0 s.repair.resvUsed q.2) }
  let t := { s with policy := { s.policy with
    parts, powerCap := n.powerCap, scrub := n.scrub, integrity := n.integrity, mgmtWrite := n.mgmtWrite, ownerPart := n.ownerPart
    resetErase := n.resetErase } }
  let t1 := if n.scrub && !s.policy.scrub then { t with repair := { t.repair with scrubPass := t.repair.scrubPass + 1 } } else t
  if n.integrity && !s.policy.integrity then t1.flagPastDue else t1

/-- A partition is quiesced: every channel DISABLED or HALTED, no command dispatched and uncompleted. -/
def State.quiesced (s : State) (p : Nat) : Bool :=
  ((s.chansOf p).all fun ch => fld (s.chW ch 0) 1 0 == 0 || fld (s.chW ch 0) 1 0 == 2) && !(s.cmds.any fun c => c.part == p)
/-- A POLICY that is being applied. -/
def State.policyDue (s : State) : Option Policy := if s.boot.applying then s.boot.newPolicy else none

/-- CLUSTERS applies: ownership, and the role epochs of the partitions that gain or lose a cluster (R306). -/
def State.applyClusters (s : State) (n : Policy) : State :=
  let ps := s.clusterWaits n
  let s0 := (upTo 288).foldl (fun s ph => match s.roleOf ph with
    | none => s
    | some c => s.setPhys ph { s.physOf ph with heldParts := (s.physOf ph).heldParts ||| pbitO (s.ownerOf c) }) s
  let s1 := { s0 with policy := { s0.policy with
    parts := s0.policy.parts.zipIdx.map fun q => { q.1 with clusters := (n.parts.getD q.2 PartPolicy.none).clusters } } }
  ps.foldl (fun s p =>
    let t := s.setReg (aEpoch p) (setFld (s.reg (aEpoch p)) 15 0 (fld (s.reg (aEpoch p)) 15 0 + 1))
    (upTo 16).foldl (fun s cs => (upTo 4).foldl (fun s w =>
      s.setReg (aCSet p cs w) (s.reg (aCSet p cs w) &&& s.ownedWord p w)) s) t) s1
/-- CHAN_RANGE applies; entries that leave a range are zero. -/
def State.applyRanges (s : State) (n : Policy) : State :=
  let ps := s.rangeWaits n
  let gone := fun (ch : Nat) => ps.any fun p =>
    let x := n.parts.getD p PartPolicy.none
    (s.chansOf p).contains ch && !(x.chanFirst ≤ ch && decide (ch < x.chanFirst + x.chanCount))
  { s with
    policy := { s.policy with parts := s.policy.parts.zipIdx.map fun q =>
      { q.1 with chanFirst := (n.parts.getD q.2 PartPolicy.none).chanFirst, chanCount := (n.parts.getD q.2 PartPolicy.none).chanCount } }
    chanTab := s.chanTab.filter fun q => !gone (q.1 / 8)
    chans := s.chans.filter fun q => !gone q.1 }

/-- POLICY_QUIESCE_APPLY (R430): each field that waits, once all of its partitions are quiesced. -/
def execPolicyQuiesceApply (s : State) : Host.Outcome State Fault Refusal :=
  .next (match s.policyDue with
    | none => s
    | some n =>
      let s1 := if (s.clusterWaits n).all fun p => s.quiesced p then s.applyClusters n else s
      if (s1.rangeWaits n).all fun p => s1.quiesced p then s1.applyRanges n else s1)

/-! ### MONITOR (R427) -/

/-- Every logical cluster runs the MONITOR of the latest APPLY. -/
def State.allNewMon (s : State) : Bool := (upTo 256).all fun c => (s.cluster c).newMon || (s.cluster c).absent
/-- The new MONITOR is placed beside the one that runs; the copy that all clusters have come to run is the old one now. -/
def State.stageMonitor (s : State) (l : List Byte) (x : SecInfo) : State :=
  let f := s.boot
  let done := s.allNewMon && decide (0 < f.newMonLen)
  let lo := if done then f.newMonBase else f.monBase
  let n := if done then f.newMonLen else f.monLen
  let vec := if done then f.newMonVec else f.monVec
  let a := s.privatePlace l.length lo (lo + n)
  let ks : SMap Cluster := s.clusters.map fun q => (q.1, { q.2 with newMon := false })
  { s with
    clusters := ks.filter fun q => q.2 != Cluster.reset
    mem := { s.mem with bytes := wrBytes 0 s.mem.bytes a l }
    boot := { (f.inForce x) with monOld := some (secOf f.secs 2).digest, monBase := lo, monLen := n, monVec := vec
                                 newMonBase := a, newMonLen := l.length, newMonVec := a + leNat (l.take 8) } }
/-- MONITOR_IN_PLACE (R427): at its command boundary the cluster's cores get HAYWARD request code 3; the running monitor writes the
new base, and until then the old one stands in `EX.VBAR_M`. -/
def execMonitorInPlace (c : Nat) (s : State) : Host.Outcome State Fault Refusal :=
  if 256 ≤ c || !s.boot.applying || !s.boot.pendingSecs.contains 2 || (s.cluster c).newMon || !s.atBoundary c then .next s
  else
    let s1 := (upTo 8).foldl (fun s i =>
      let d := c * 8 + i
      let k := s.core d
      (s.setCore d { k with exVbarM := some (w64 (s.vbarM d k)) }).hayward d 3) s
    .next (s1.setCluster c { s1.cluster c with newMon := true })

/-! ### BOOT (R429) -/

/-- PLANNED_SWITCHOVER: the standby that runs the new firmware becomes active, the former active pair the standby. -/
def execPlannedSwitchover (s : State) : Host.Outcome State Fault Refusal :=
  .next (if !s.boot.applying || !s.boot.bootLive || !s.boot.pendingSecs.contains 1 || s.hw.takeover then s
    else if !s.hw.standby then { s with boot := { s.boot with bootLive := false } }
    else
      match s.boot.check s.life s.targetB true with
      | .error _ => s
      | .ok im =>
        { s with hw := { s.hw with activeB := !s.hw.activeB }
                 boot := { ((s.boot.inForce (secOf im.secs 1)).applied 1) with bootLive := false } })

/-! ### APPLY (R426) -/

/-- The sections that differ from those in force. -/
def differing (old new : List SecInfo) : List Nat := ([1, 2, 3, 4, 5, 6] : List Nat).filter fun t => secOf old t != secOf new t
/-- APPLY starts from a verified image: KEYS and FIELDTEST at once, the fields of POLICY that apply at once, the new MONITOR placed,
and BOOT where it can apply live. -/
def State.startApply (s : State) (im : ImageRead) : State :=
  let d := differing s.boot.secs im.secs
  let x := fun t => secOf im.secs t
  let s0 := { s with boot := { s.boot with
    applying := true, pendingSecs := d, newPolicy := if d.contains 5 then some (decodePolicy im.policy) else s.boot.newPolicy
    bootLive := d.contains 1 && s.hw.standby &&
      Config.journalFormat (x 1).digest == Config.journalFormat (secOf s.boot.secs 1).digest } }
  let s1 := if d.contains 6 then { s0 with boot := { ((s0.boot.inForce (x 6)).applied 6) with keys := im.keys } } else s0
  let s2 := if d.contains 3 then { s1 with boot := (s1.boot.inForce (x 3)).applied 3 } else s1
  let s3 := if d.contains 5 then s2.policyNow (decodePolicy im.policy) else s2
  if d.contains 2 then (s3.stageMonitor im.monitor (x 2)).refreshHolds else s3

/-- What of a POLICY waits for a reset of a partition or of the device (Table 13.11). -/
def State.policyLeft (s : State) (n : Policy) : Bool :=
  s.policy.portOwner != n.portOwner || s.policy.portEth != n.portEth || s.policy.portKr != n.portKr || s.policy.ddrHarden != n.ddrHarden
    || (upTo 4).any fun p =>
      let x := s.part p
      let y := n.parts.getD p PartPolicy.none
      x.enabled != y.enabled || x.grants != y.grants || x.bar2Log2 != y.bar2Log2 || x.ideRequired != y.ideRequired
/-- Everything that can apply live has applied. -/
def State.applyDone (s : State) : Bool :=
  let d := s.boot.pendingSecs
  s.boot.applying && (!d.contains 2 || s.allNewMon) && !(d.contains 1 && s.boot.bootLive) &&
    match s.boot.newPolicy with
    | none => true
    | some n => (s.clusterWaits n).isEmpty && (s.rangeWaits n).isEmpty

/-- APPLY_COMPLETE (R425): CAL is in force at every unit, the slot is written confirmed and runs; what could not apply live keeps its
bit in `CK.UPD.PENDING`. -/
def execApplyComplete (s : State) : Host.Outcome State Fault Refusal :=
  .next (if !s.applyDone then s
    else
      match s.boot.check s.life s.targetB true with
      | .error _ => s
      | .ok im =>
        let left := match s.boot.newPolicy with
          | none => false
          | some n => s.policyLeft n
        let d := s.boot.pendingSecs
        let f0 := if d.contains 4 then s.boot.inForce (secOf im.secs 4) else s.boot
        let f1 := if d.contains 5 then f0.inForce (secOf im.secs 5) else f0
        { s with boot := { f1 with
            applying := false, staging := false, committed := false
            pendingSecs := d.filter fun t => t == 1 || (t == 5 && left)
            slotB := s.targetB, slotRecs := putSlot f1.slotRecs false s.targetB s.targetB } })

end Sys2Proof.Machine
end

