-- ==== Sys2Proof/Machine/Mailbox.lean ====
section
/-! DEFINITION. The mailbox (R399, R400): requests and their answers, IMAGE_STAGE (R425), GET_ID (R451) and ATTEST (R452, R453). A row
acts on the request that stands in the mailbox; MAILBOX_RESPONSE writes the answer. -/

namespace Sys2Proof.Machine

/-! ### Requests -/

/-- n bytes of the request from byte b on. -/
def State.mbReq (s : State) (p b n : Nat) : List Byte :=
  (upTo n).map fun i => ((s.reg (aHP p + 0x1000 + 8 * ((b + i) / 8))) >>> (8 * ((b + i) % 8))).setWidth 8
/-- OP, and LEN of `HP.MB_CMD`. -/
def State.mbOp (s : State) (p : Nat) : Nat := leNat (s.mbReq p 0 2)
def State.mbLen (s : State) (p : Nat) : Nat := fld (s.reg (aHP p + 0x10)) 12 0
/-- A request is in progress and not yet answered, and Hayward serves it (R357). -/
def State.mbBusy (s : State) (p : Nat) : Bool :=
  s.portLive p && !(s.host p).fatal && !s.hw.takeover && bitW (s.reg (aHP p + 0x18)) 0 && (s.host p).mbAnswer.isNone
/-- The answer is formed. -/
def State.answer (s : State) (p result : Nat) (l : List Byte) : State := s.setHost p { s.host p with mbAnswer := some (result, l) }
/-- An answer that is a detail code. -/
def State.answerD (s : State) (p result detail : Nat) : State := s.answer p result (leBytes 4 detail)

/-! ### GET_ID and ATTEST -/

/-- OWNER_IDX: 0xFF when none is burnt. -/
def Life.ownerIdx (l : Life) : Nat := if l.ownerN = 0 then 0xFF else l.ownerN - 1
/-- The current token nonce. -/
def Life.nonce (l : Life) : List Byte := leBytes 32 (Config.drbg l.nonceNo).toNat
/-- Table 14.7; no keys where UDS_KILL is 1. -/
def State.idResponse (s : State) : List Byte :=
  let l := s.life
  let certs := if l.noId then [] else (Config.certificates s.boot.l1).take 3830
  leBytes 2 0x2048 ++ [0xB0] ++ leBytes 1 l.lc ++ leBytes 1 l.ownerIdx ++ leBytes 1 (b2n l.pending + 2 * b2n l.retArmed) ++ leBytes 2 0
    ++ leBytes 16 s.deviceId.toNat ++ l.nonce
    ++ (if l.noId then leBytes 97 0 else leBytes 97 Config.identityPub.toNat) ++ leBytes 7 0
    ++ (if l.noId then leBytes 97 0 else leBytes 97 (Config.attestationPub s.boot.l1).toNat) ++ leBytes 7 0
    ++ leBytes 2 certs.length ++ certs
/-- GET_ID (R451): in every state in which the mailbox answers. -/
def execGetId (p : Nat) (s : State) : Host.Outcome State Fault Refusal :=
  .next (if !s.mbBusy p || s.mbOp p != 1 then s
    else if s.mbLen p != 4 || s.mbReq p 2 2 != [0, 0] then s.answer p 2 []
    else s.answer p 0 s.idResponse)

/-- The 573-byte configuration record (Table 14.9). -/
def State.configRecord (s : State) (p : Nat) : List Byte :=
  let x := s.part p
  let n := s.policy
  leBytes 1 p ++ leBytes 1 (b2n x.enabled) ++ leBytes 32 (x.clusters.foldl (fun m c => m ||| 2 ^ c) 0)
    ++ (upTo 32).flatMap (fun k => leBytes 8 (s.partReg p (0x1000 + 16 * k)).toNat ++ leBytes 8 (s.partReg p (0x1008 + 16 * k)).toNat)
    ++ (upTo 8).flatMap (fun k => leBytes 1 (if s.portPart k = some p then
          1 + 2 * b2n (s.portEth k) + 4 * b2n (n.portKr.getD k false) else 0))
    ++ leBytes 2 x.chanFirst ++ leBytes 2 x.chanCount ++ leBytes 1 x.bar2Log2
    ++ leBytes 1 (b2n x.ideRequired + 2 * b2n n.resetErase + 4 * b2n n.integrity + 8 * b2n n.scrub + 16 * b2n (n.ownerPart == p)
          + 32 * b2n n.mgmtWrite)
    ++ leBytes 2 n.powerCap ++ leBytes 1 x.resvSlots ++ leBytes 1 x.lkCtxA ++ leBytes 1 x.lkCtxB ++ leBytes 8 x.sEntry
/-- Clusters of the partition run two versions of MONITOR. -/
def State.twoMonitors (s : State) (p : Nat) : Bool :=
  let l := (s.part p).clusters
  s.boot.applying && (l.any fun c => (s.cluster c).newMon) && l.any fun c => !(s.cluster c).newMon
/-- FLAGS of a report. -/
def State.reportFlags (s : State) (p : Nat) : Nat :=
  b2n (s.life.dbgParts.getLsbD p) + 2 * b2n s.life.dbgDev + 4 * b2n (s.life.lc == 0 || s.life.lc == 2) + 8 * b2n (bitW s.guar 0)
    + 16 * b2n s.boot.liveApplied + 32 * b2n (s.twoMonitors p) + 64 * b2n (bitW (s.reg aCK) 5) + 128 * b2n s.life.pending
/-- Bytes 0 to 559 of a report (Table 14.8). -/
def State.reportBody (s : State) (p : Nat) (nonce : List Byte) : List Byte :=
  let l := s.life
  let ts : List Nat := [1, 2, 3, 4, 5, 6]
  leBytes 4 0x54525441 ++ leBytes 2 1 ++ leBytes 2 656 ++ leBytes 2 0x2048 ++ [0xB0] ++ leBytes 1 l.lc ++ leBytes 1 l.ownerIdx ++ leBytes 1 p
    ++ leBytes 1 (s.reportFlags p) ++ [0] ++ leBytes 16 s.deviceId.toNat ++ leBytes 8 (s.psec % 2 ^ 32) ++ leBytes 8 s.sc ++ nonce
    ++ digBytes (l.ownerExpected s.boot.keys false) ++ digBytes (Config.sha384 (s.configRecord p))
    ++ ts.flatMap (fun t => digBytes (secOf s.boot.secs t).digest)
    ++ digBytes (if s.twoMonitors p then s.boot.monOld.getD 0 else 0)
    ++ ts.flatMap (fun t => leBytes 4 (secOf s.boot.secs t).svn) ++ ts.flatMap (fun t => leBytes 4 (l.svnMin.getD (t - 1) 0))
/-- The signed report. -/
def State.report (s : State) (p : Nat) (nonce : List Byte) : List Byte :=
  let b := s.reportBody p nonce
  b ++ leBytes 96 (Config.attestationSign s.boot.l1 b).toNat
/-- ATTEST (R452): before READY, in RECOVERY and in SCRAPPED it is refused (R423, R424, R449). -/
def execAttest (p : Nat) (s : State) : Host.Outcome State Fault Refusal :=
  .next (if !s.mbBusy p || s.mbOp p != 2 then s
    else if s.boot.stage != 5 && s.boot.stage != 7 then s.answer p 3 []
    else if s.mbLen p != 36 || s.mbReq p 2 2 != [0, 0] then s.answer p 2 []
    else s.answer p 0 (s.report p (s.mbReq p 4 32)))

/-! ### IMAGE_STAGE (R425) -/

/-- SUB, and whether the request's zero bytes are zero. -/
def State.subOp (s : State) (p : Nat) : Nat := leNat (s.mbReq p 4 1)
def State.stageZeros (s : State) (p : Nat) : Bool := allZero (s.mbReq p 2 2) && allZero (s.mbReq p 5 3) && allZero (s.mbReq p 12 4)
/-- The detail code of a verification that failed, from its REFUSED code (Table 13.9, Table 13.13). -/
def stageDetail (refused : Nat) : Nat := if refused = 1 then 2 else if refused = 2 then 1 else if refused = 6 then 7 else refused
/-- Who may stage an image: in RECOVERY the PF of H0, else the owner partition (R400, R424). -/
def State.mayStage (s : State) (p : Nat) : Bool := s.boot.stage == 6 || p == s.policy.ownerPart
/-- An IMAGE_STAGE request with this SUB: refused to others, while an APPLY is in progress and in SCRAPPED; else the operation. -/
def stageOp (s : State) (p sub : Nat) (f : State → State) : State :=
  if !s.mbBusy p || s.mbOp p != 3 || s.subOp p != sub then s
  else if s.life.lc = 3 then s.answerD p 3 0
  else if !s.mayStage p then s.answerD p 3 3
  else if s.mbLen p < 16 || !s.stageZeros p then s.answerD p 2 1
  else if s.boot.applying then s.answerD p 3 1
  else f s

/-- BEGIN: the target slot is erased, a trial record for it discarded. -/
def execImageBegin (p : Nat) (s : State) : Host.Outcome State Fault Refusal :=
  .next (stageOp s p 0 fun s =>
    let t := s.targetB
    let f := s.boot.eraseSlot t
    let recs := match newestSlot f.slotRecs with
      | some r => if r.trialValid && r.trial == t then putSlot f.slotRecs false r.trial r.confirmed else f.slotRecs
      | none => f.slotRecs
    ({ s with boot := { f with slotRecs := recs, staging := true, committed := false } }).answerD p 0 0)
/-- WRITE: the data is programmed where the range lies in the slot and every byte of it is erased. -/
def execImageWrite (p : Nat) (s : State) : Host.Outcome State Fault Refusal :=
  .next (stageOp s p 1 fun s =>
    let o := leNat (s.mbReq p 8 4)
    let n := s.mbLen p - 16
    if 4080 < n ∨ slotSize < o + n then s.answerD p 2 1
    else if !(s.boot.slotBytes s.targetB o n).all fun b => b == 0xFF then s.answerD p 2 6
    else ({ s with boot := { (s.boot.program s.targetB o (s.mbReq p 16 n)) with staging := true } }).answerD p 0 0)
/-- COMMIT: the target slot is verified, and written as trial. -/
def execImageCommit (p : Nat) (s : State) : Host.Outcome State Fault Refusal :=
  .next (stageOp s p 2 fun s =>
    let t := s.targetB
    match s.boot.check s.life t true with
    | .error n => s.answerD p 2 (stageDetail n)
    | .ok _ =>
      let conf := if s.boot.stage = 6 then ((newestSlot s.boot.slotRecs).map (·.confirmed)).getD (!t) else s.boot.slotB
      ({ s with boot := { s.boot with slotRecs := putSlot s.boot.slotRecs true t conf, committed := true, staging := true } }).answerD p 0 0)
/-- APPLY (R426): not before READY, nor in RECOVERY. -/
def execImageApply (p : Nat) (s : State) : Host.Outcome State Fault Refusal :=
  .next (stageOp s p 3 fun s =>
    if s.boot.stage = 6 then s.answerD p 3 0
    else if !s.boot.committed ∨ s.boot.stage < 5 then s.answerD p 3 2
    else
      match s.boot.check s.life s.targetB true with
      | .error n => s.answerD p 2 (stageDetail n)
      | .ok im => (s.startApply im).answerD p 0 0)

end Sys2Proof.Machine
end

