-- ==== Sys2Proof/Machine/Matrix.lean ====
section
/-! DEFINITION. The matrix engine (R64-R94) and its alignment and accumulation (R95-R100): commands, passes, rows, the
windrow check, drains. One row is in the pipeline at a time, and commands of one engine do not overlap (log entries 23, 24). -/

namespace Sys2Proof.Machine

/-! ### Numbers in the array -/

/-- A decoded value in the common internal form (R41). -/
def Val.num : Val → Num
  | .nan _ _ _ => .nan
  | .inf n => .inf n
  | .fin n m e => .fin n m e
/-- The value of such a number. -/
def Num.val : Num → Val
  | .nan => .nan false true 0
  | .inf n => .inf n
  | .fin n m e => .fin n m e
/-- +0. -/
def Num.zero : Num := .fin false 0 0
/-- No NaN and no infinity. -/
def Num.finite : Num → Bool
  | .fin _ _ _ => true
  | _ => false
/-- A NaN. -/
def Num.isNan : Num → Bool
  | .nan => true
  | _ => false
/-- A number times a scale; a scale of code 0xFF makes a NaN (R39). -/
def Num.scale (x : Num) : Option Int → Num
  | none => .nan
  | some k => match x with
    | .fin n m e => .fin n m (e + k)
    | y => y
/-- The exact product; 0 × infinity is NaN (R98). -/
def mulNum : Num → Num → Num
  | .nan, _ => .nan
  | _, .nan => .nan
  | .inf a, .inf b => .inf (a != b)
  | .inf a, .fin b m _ => if m = 0 then .nan else .inf (a != b)
  | .fin a m _, .inf b => if m = 0 then .nan else .inf (a != b)
  | .fin a m e, .fin b n f => .fin (a != b) (m * n) (e + f)
/-- The exponent of a finite non-zero number's magnitude. -/
def Num.top : Num → Option Int
  | .fin _ m e => if m = 0 then none else some (e + blen m - 1)
  | _ => none
/-- R40: a product against the accumulator's range: the product that reaches alignment, whether it became infinity, whether it
was flushed. -/
def rangeNum (acc : Nat) (p : Num) : Num × Bool × Bool :=
  if acc = 13 then (p, false, false)
  else
    match p with
    | .fin n m e =>
      if m = 0 then (p, false, false)
      else if (if acc = 0 then 1024 else 128) ≤ e + blen m - 1 then (.inf n, true, false)
      else if e + blen m - 1 < (if acc = 0 then -1074 else -149) then (.fin n 0 0, false, true)
      else (p, false, false)
    | _ => (p, false, false)
/-- A finite number's signed count of 2^g, truncated toward zero (R95). -/
def Num.grid (g : Int) : Num → Int
  | .fin n m e =>
    let x : Int := (if g ≤ e then m * 2 ^ (e - g).toNat else m / 2 ^ (g - e).toNat : Nat)
    if n then -x else x
  | _ => 0
/-- The largest of two exponents, where there are any. -/
def maxE : Option Int → Option Int → Option Int
  | none, b => b
  | a, none => a
  | some a, some b => some (max a b)
/-- R95, R96, R98: the aligned sum of a column's products with window W, exact where none, and the alignment exponent. -/
def alignSum (W : Option Nat) (ps : List Num) : Num × Option Int :=
  let E := ps.foldl (fun m p => maxE m p.top) none
  if ps.any Num.isNan ∨ (ps.contains (.inf true) ∧ ps.contains (.inf false)) then (.nan, E)
  else if ps.contains (.inf true) then (.inf true, E)
  else if ps.contains (.inf false) then (.inf false, E)
  else
    let g : Int := match W, E with
      | some w, some x => x - w
      | _, _ => 0
    let S := ps.foldl (fun t p => t + p.grid g) (0 : Int)
    let allNeg := ps.all fun p => match p with
      | .fin n m _ => n && m == 0
      | _ => false
    (.fin (if S = 0 then allNeg && !ps.isEmpty else decide (S < 0)) S.natAbs g, E)
/-- The exact sum of numbers that need no alignment (R88). -/
def exactSum (ps : List Num) : Num :=
  if ps.any Num.isNan ∨ (ps.contains (.inf true) ∧ ps.contains (.inf false)) then .nan
  else if ps.contains (.inf true) then .inf true
  else if ps.contains (.inf false) then .inf false
  else
    let g := ps.foldl (fun g p => match p with
      | .fin _ m e => if m = 0 then g else min g e
      | _ => g) (0 : Int)
    let S := ps.foldl (fun t p => t + p.grid g) (0 : Int)
    .fin (decide (S < 0)) S.natAbs g

/-! ### Exact dyadic numbers -/

/-- a + b. -/
def dyAdd (a b : Dy) : Dy :=
  let e := min a.e b.e
  ⟨a.m * 2 ^ (a.e - e).toNat + b.m * 2 ^ (b.e - e).toNat, e⟩
/-- |a − b| ≤ c. -/
def dyNear (a b c : Dy) : Bool :=
  let d := dyAdd a ⟨-b.m, b.e⟩
  let e := min d.e c.e
  decide ((d.m * 2 ^ (d.e - e).toNat).natAbs ≤ c.m * 2 ^ (c.e - e).toNat)
/-- a = b. -/
def dySame (a b : Dy) : Bool := (dyAdd a ⟨-b.m, b.e⟩).m == 0
/-- The value of a finite number. -/
def Num.dy : Num → Dy
  | .fin n m e => ⟨if n then -(m : Int) else m, e⟩
  | _ => Dy.zero

/-! ### Classes and commands -/

/-- The ganging class of a format: 0 half-cell to 4 8 × 8 (Table 3.1). -/
def mxClass (f : Nat) : Nat :=
  if f = 0 then 4 else if f = 1 then 3 else if f = 2 then 2 else if f = 3 ∨ f = 9 ∨ f = 10 then 1 else 0
/-- K_pass of a class. -/
def kPass (cls : Nat) : Nat := 256 / 2 ^ cls
/-- N_eff of a class. -/
def nEff (cls : Nat) : Nat := if cls ≤ 1 then 512 else 1024 / 2 ^ cls
/-- The class of the command's operand pair (R65). -/
def MxCmd.cls (x : MxCmd) : Nat := max (mxClass x.aFmt) (mxClass x.bFmt)
/-- A scale is present. -/
def MxCmd.scaled (x : MxCmd) : Bool := x.rowSc || x.chanSc || x.aBlk || x.bBlk
/-- The accumulator's format code (Table 2.3). -/
def MxCmd.acc (x : MxCmd) : Nat :=
  if x.aFmt = 0 ∨ x.bFmt = 0 then 0
  else if x.aFmt = 1 ∨ x.bFmt = 1 then (if x.acc64 then 0 else 1)
  else if 9 ≤ x.aFmt ∧ 9 ≤ x.bFmt ∧ !x.scaled then 13 else 1
/-- Bytes of an accumulator element. -/
def MxCmd.accB (x : MxCmd) : Nat := fmtBits x.acc / 8
/-- The window of R95, none for INT32 (Table 4.1). -/
def MxCmd.window (x : MxCmd) : Option Nat := if x.acc = 13 then none else if x.acc = 0 then some 56 else some 27
/-- Rows per block (R71). -/
def MxCmd.r (x : MxCmd) : Nat := if x.rowBlock = 0 then 512 else x.rowBlock
/-- Row blocks. -/
def MxCmd.blocks (x : MxCmd) : Nat := (x.m + x.r - 1) / x.r
/-- Rows of block b (R68). -/
def MxCmd.rows (x : MxCmd) (b : Nat) : Nat := min x.r (x.m - b * x.r)
/-- Passes (R66). -/
def MxCmd.nPass (x : MxCmd) : Nat := (x.k + kPass x.cls - 1) / kPass x.cls
/-- K indices of pass p (R66). -/
def MxCmd.kp (x : MxCmd) (p : Nat) : Nat := min (kPass x.cls) (x.k - p * kPass x.cls)
/-- The elements that a read of A works in: bytes, groups and scaled blocks are read whole (R34, R37; log entry 25). -/
def MxCmd.aUnit (x : MxCmd) : Nat :=
  if x.aBlk then 32 else if fmtBits x.aFmt = 6 then 4 else if fmtBits x.aFmt = 4 then 2 else 1
/-- The elements of an A row segment of pass p. -/
def MxCmd.ka (x : MxCmd) (p : Nat) : Nat := min (kPass x.cls) ((x.kp p + x.aUnit - 1) / x.aUnit * x.aUnit)

/-- The fields of a record and its extension (Tables 3.5, 3.6). -/
def mxParse (w : List W64) (ext : Option (List W64)) : MxCmd :=
  let f := fun i hi lo => fld (w.getD i 0) hi lo
  let b := fun i n => bitW (w.getD i 0) n
  let x := ext.getD []
  { aAddr := f 1 47 0, aFmt := f 1 51 48, bFmt := f 1 55 52, bAddr := f 2 47 0, rowBlock := f 2 57 48, cAddr := f 3 47 0
    aTrans := b 3 48, bTrans := b 3 49, acc64 := b 3 50, ext := b 3 51, rowSc := b 3 52, chanSc := b 3 53, aBlk := b 3 54
    bBlk := b 3 55, range := b 3 56, aLd := f 4 31 0, bLd := f 4 63 32, cLd := f 5 31 0, m := f 5 63 32, k := f 6 23 0
    n := f 6 33 24 + 1, rowScA := fld (x.getD 1 0) 47 0, chanScA := fld (x.getD 2 0) 47 0, aBlkA := fld (x.getD 3 0) 47 0
    bBlkA := fld (x.getD 4 0) 47 0, rangeLo := x.getD 5 0, rangeHi := x.getD 6 0, seq := seqOf w }

/-- The bytes, from the array's base, that hold elements i to i + n − 1 of a format (R34). -/
def fmtSpan (f i n : Nat) : Nat × Nat :=
  if n = 0 then (0, 0)
  else if fmtBits f = 6 then (3 * (i / 4), 3 * ((i + n - 1) / 4 + 1) - 3 * (i / 4))
  else (i * fmtBits f / 8, ((i + n) * fmtBits f + 7) / 8 - i * fmtBits f / 8)

/-- The extent of a matrix of rows of elements: first address and bytes (R79, R80). -/
def extent (base ld rows f n : Nat) : Nat × Nat := (base, (rows - 1) * ld + (fmtSpan f 0 n).2)
/-- The extents of A, B and C. -/
def MxCmd.aExt (x : MxCmd) : Nat × Nat :=
  let ka := (x.nPass - 1) * kPass x.cls + x.ka (x.nPass - 1)
  if x.aTrans then extent x.aAddr x.aLd ka x.aFmt x.m else extent x.aAddr x.aLd x.m x.aFmt ka
def MxCmd.bExt (x : MxCmd) : Nat × Nat :=
  if x.bTrans then extent x.bAddr x.bLd x.n x.bFmt x.k else extent x.bAddr x.bLd x.k x.bFmt x.n
def MxCmd.cExt (x : MxCmd) : Nat × Nat := (x.cAddr, (x.m - 1) * x.cLd + x.n * x.accB)
/-- The extents of the scale arrays that are present (R74). -/
def MxCmd.scaleExts (x : MxCmd) : List (Nat × Nat) :=
  let nb := (x.k + 31) / 32
  (if x.rowSc then [(x.rowScA, x.m)] else []) ++ (if x.chanSc then [(x.chanScA, x.n)] else [])
    ++ (if x.aBlk then [(x.aBlkA, x.m * nb)] else []) ++ (if x.bBlk then [(x.bBlkA, nb * x.n)] else [])

/-- An extent lies whole in LPDDR6, in base SRAM, in staging, or in cluster c's own staging. -/
def inDdr (x : Nat × Nat) : Bool := isDdr x.1 && isDdr (x.1 + x.2 - 1)
def inBase (x : Nat × Nat) : Bool := isBase x.1 && isBase (x.1 + x.2 - 1)
def inStaging (x : Nat × Nat) : Bool := isStaging x.1 && isStaging (x.1 + x.2 - 1)
def inOwn (c : Nat) (x : Nat × Nat) : Bool := decide (stagingBase c ≤ x.1 ∧ x.1 + x.2 ≤ stagingBase (c + 1))

/-- The format pair is one that SAME_FMT admits (R43). -/
def samePair (a b : Nat) : Bool :=
  a == b || ((a == 9 || a == 10) && (b == 9 || b == 10)) || ((a == 11 || a == 12) && (b == 11 || b == 12))
/-- R37: the scales that are present may attach to the operand of this format. -/
def scalesOk (f : Nat) (line blk : Bool) : Bool := (!line || decide (f ≤ 9)) && (!blk || (decide (4 ≤ f) && decide (f ≤ 9)))

/-- R80: the checks in their order; none where the command runs. -/
def State.mxCheck (s : State) (c p : Nat) (same : Bool) (x : MxCmd) (ext : Option (List W64)) : Option Status :=
  let presence := x.scaled || x.range
  let lo := decode 0 x.rangeLo.toNat
  let hi := decode 0 x.rangeHi.toNat
  let good : Bool :=
    decide (x.aFmt ≤ 12) && decide (x.bFmt ≤ 12) && scalesOk x.aFmt x.rowSc x.aBlk && scalesOk x.bFmt x.chanSc x.bBlk
    && (!same || samePair x.aFmt x.bFmt)
    && (!x.acc64 || decide (x.aFmt ≤ 1) || decide (x.bFmt ≤ 1))
    && decide (1 ≤ x.m) && decide (1 ≤ x.k) && decide (x.n ≤ nEff x.cls) && decide (x.rowBlock ≤ 512)
    && [x.aAddr, x.bAddr, x.cAddr, x.aLd, x.bLd, x.cLd].all (fun a => a % 64 == 0)
    && (if x.aTrans then inOwn c x.aExt else inDdr x.aExt || inBase x.aExt || inStaging x.aExt)
    && (inOwn c x.bExt || inBase x.bExt)
    && (inDdr x.cExt || inBase x.cExt || inOwn c x.cExt)
    && (x.ext == presence) && (!x.ext || (match ext with
      | some w => opOf w == 0x21
      | none => false))
    && (!x.range || ((Val.fin false 0 0).le lo && lo.le hi))
  if !good then some .illegalCommand
  else if (x.aExt :: x.bExt :: x.scaleExts).any (fun e => !(s.chk p [pR] e.1 e.2).isOk)
      || !(s.chk p [pW] x.cExt.1 x.cExt.2).isOk
      || (upTo x.m).any (fun i => (s.cvOk p (x.cAddr + i * x.cLd) (x.n * x.accB)).isSome) then some .outOfBounds
  else none

/-! ### Reading operands -/

/-- Elements i to i + n − 1 of the array at base, with their poison. -/
def readEls (s : State) (die base f i n : Nat) : State × List (Nat × Bool) :=
  let sp := fmtSpan f i n
  let r := readMem s die (base + sp.1) sp.2
  (r.1, (upTo n).map fun j =>
    let o := (i + j) * fmtBits f - 8 * sp.1
    let l := (r.2.drop (o / 8)).take ((o % 8 + fmtBits f + 7) / 8)
    (pbNat l / 2 ^ (o % 8) % 2 ^ fmtBits f, pbPsn l))
/-- n scales at a: the exponent, none for code 0xFF, with its poison (R36). -/
def readScales (s : State) (die a n : Nat) : State × List (Option Int × Bool) :=
  let r := readMem s die a n
  (r.1, r.2.map fun b => (if b.1 = 0xFF then none else some ((b.1.toNat : Int) - 127), b.2))
/-- Read several arrays in turn. -/
def readAll {α : Type} (rd : State → Nat → State × α) (s : State) (l : List Nat) : State × List α :=
  l.foldl (fun r i =>
    let x := rd r.1 i
    (x.1, r.2 ++ [x.2])) (s, [])
/-- An element's operand value with its scales; an INT8 of a block has the factor 2^-6 (R38). -/
def mxOp (f : Nat) (blk : Bool) (e : Nat × Bool) (sc : List (Option Int × Bool)) : MxOp :=
  let v := (decode f e.1).num
  let v := if blk ∧ f = 9 then v.scale (some (-6)) else v
  { v := sc.foldl (fun v x => v.scale x.1) v, psn := e.2 || sc.any (·.2) }
/-- No operand: a zero weight. -/
def MxOp.zero : MxOp := { v := Num.zero, psn := false }

/-- The load port reads the weights of pass p, and forms the check weights (R66, R67, R74, R88). -/
def loadPass (s : State) (die : Nat) (x : MxCmd) (p : Nat) : State × PassW :=
  let k0 := p * kPass x.cls
  let kp := x.kp p
  let r := if x.bTrans then
      let c := readAll (fun s n => readEls s die (x.bAddr + n * x.bLd) x.bFmt k0 kp) s (upTo x.n)
      (c.1, (upTo kp).map fun k => c.2.map fun col => col.getD k (0, false))
    else readAll (fun s k => readEls s die (x.bAddr + (k0 + k) * x.bLd) x.bFmt 0 x.n) s (upTo kp)
  let ch := if x.chanSc then readScales r.1 die x.chanScA x.n else (r.1, [])
  let j0 := k0 / 32
  let bl := if x.bBlk then
      readAll (fun s j => readScales s die (x.bBlkA + (j0 + j) * x.n) x.n) ch.1 (upTo ((k0 + kp - 1) / 32 - j0 + 1))
    else (ch.1, [])
  let w := r.2.zipIdx.map fun row => row.1.zipIdx.map fun e =>
    mxOp x.bFmt x.bBlk e.1 ((ch.2.drop e.2).take 1 ++ ((bl.2.getD ((k0 + row.2) / 32 - j0) []).drop e.2).take 1)
  let chk := w.map fun row =>
    let t := exactSum (row.map (·.v))
    { v := if x.acc = 13 then t else match t with
        | .fin n m e => (decode 0 (roundF 0 .arith n m e).1).num
        | y => y
      psn := row.any (·.psn) }
  (bl.1, { pass := p, w, chk })

/-- The feed reads the segment of A row m for pass p, with its scales (R74, R85). -/
def readRow (s : State) (die : Nat) (x : MxCmd) (p m : Nat) : State × List MxOp :=
  let k0 := p * kPass x.cls
  let ka := x.ka p
  let r := if x.aTrans then
      let c := readAll (fun s k => readEls s die (x.aAddr + (k0 + k) * x.aLd) x.aFmt m 1) s (upTo ka)
      (c.1, c.2.map fun l => l.getD 0 (0, false))
    else readEls s die (x.aAddr + m * x.aLd) x.aFmt k0 ka
  let rs := if x.rowSc then readScales r.1 die (x.rowScA + m) 1 else (r.1, [])
  let j0 := k0 / 32
  let bl := if x.aBlk then
      readScales rs.1 die (x.aBlkA + m * ((x.k + 31) / 32) + j0) ((k0 + x.kp p - 1) / 32 - j0 + 1)
    else (rs.1, [])
  (bl.1, r.2.zipIdx.map fun e => mxOp x.aFmt x.aBlk e.1 (rs.2 ++ (bl.2.drop ((k0 + e.2) / 32 - j0)).take 1))

/-! ### A row through the array -/

/-- A column of the array for one row: products, range handling, alignment and sum (R39, R40, R83, R95-R98). -/
def column (acc : Nat) (W : Option Nat) (as ws : List MxOp) : ColRes :=
  let ps := as.zipIdx.map fun a =>
    let w := ws.getD a.2 MxOp.zero
    (rangeNum acc (mulNum a.1.v w.v), a.1.psn || w.psn)
  let t := alignSum W (ps.map (·.1.1))
  { v := t.1, e := t.2, psn := ps.any (·.2), ovf := ps.any (·.1.2.1), scaleUf := ps.any (·.1.2.2)
    nan := t.1.isNan || ps.any (·.1.1.isNan) }

/-- The row's results and the check column's, and whether the row-pass is skipped (R88, R89). -/
def arrayRow (x : MxCmd) (w : PassW) (as : List MxOp) (row : Nat) : RowPend :=
  let cols := (upTo x.n).map fun j => column x.acc x.window as (w.w.map fun k => k.getD j MxOp.zero)
  let ck := column (if x.acc = 13 then 13 else 0) (if x.acc = 13 then none else some 56) as w.chk
  { row, cols, chk := ck.v.dy, chkE := ck.e, mismatch := none
    skip := ck.psn || !ck.v.finite || cols.any fun c => c.psn || c.ovf || c.nan || c.scaleUf || !c.v.finite }

/-- An error added to a column's result. -/
def ColRes.err (c : ColRes) (d : Dy) : ColRes :=
  match c.v with
  | .fin _ _ _ =>
    if d.m = 0 then c
    else let t := dyAdd c.v.dy d; { c with v := .fin (decide (t.m < 0)) t.m.natAbs t.e }
  | _ => c
/-- The results with an error in one column; a column beyond the command's N is one that no output uses, and what an error puts
there still enters the edge sum of the 512 columns (R89). -/
def colsErr (l : List ColRes) (col : Nat) (d : Dy) : List ColRes :=
  if col < l.length then l.zipIdx.map fun c => if c.2 = col then c.1.err d else c.1
  else if d.m = 0 then l
  else l ++ [{ v := .fin (decide (d.m < 0)) d.m.natAbs d.e, e := none, psn := false, ovf := false, nan := false, scaleUf := false }]
/-- The edge sum (R89). -/
def edgeSum (l : List ColRes) : Dy := l.foldl (fun t c => dyAdd t c.v.dy) Dy.zero
/-- τ_i (R89). -/
def tau (x : MxCmd) (l : List ColRes) (chkE : Option Int) : Dy :=
  let W : Int := x.window.getD 0
  let t := l.foldl (fun t c => match c.e with
    | some e => dyAdd t ⟨1, e - W⟩
    | none => t) Dy.zero
  let t := match chkE with
    | some e => dyAdd t ⟨1, e - W + 5⟩
    | none => t
  ⟨t.m * kPass x.cls, t.e⟩
/-- The row-pass passes the compare. -/
def comparePasses (x : MxCmd) (l : List ColRes) (chk : Dy) (chkE : Option Int) : Bool :=
  if x.acc = 13 then dySame (edgeSum l) chk else dyNear (edgeSum l) chk (tau x l chkE)

/-- T + P̃ (R97-R99): the element and the flags it raises (R100). -/
def accumulate (acc : Nat) (t : TileEl) (c : ColRes) : TileEl × BitVec 8 :=
  let raised : BitVec 8 := BitVec.ofNat 8 (b2n c.ovf + 2 * b2n c.nan + 4 * b2n c.scaleUf)
  if acc = 13 then
    let i := sx 32 t.bits.toNat + c.v.grid 0
    let j := satInt 13 i
    (⟨w64 (encInt 13 j), t.psn || c.psn⟩, if i = j then raised else raised ||| 8)
  else
    let r := addV false acc (decode acc t.bits.toNat) c.v.val
    (⟨w64 r.1, t.psn || c.psn⟩,
      raised ||| (if r.2 &&& fOF = 0 then 0 else 1) ||| (if (decode acc r.1).isNan then 2 else 0))

/-- A row's results go into its tile row. -/
def MxRun.accRow (m : MxRun) (row : Nat) (l : List ColRes) : MxRun :=
  let old := m.tile.els.getD row []
  let new := (old.zip l).map fun q => accumulate m.cmd.acc q.1 q.2
  { m with tile := { m.tile with els := m.tile.els.set row (new.map (·.1)) }
           flags := new.foldl (fun f q => f ||| q.2) m.flags
           pend := none }

/-! ### The end of an engine command -/

/-- The engine has ended a command of cluster c: a dispatched command has its status; a ticket has its completion word and its
SIGNAL mask acts (R181, R292). -/
def State.engineEnd (s : State) (c p : Nat) (src : Src) (hdr : W64) (st : Status) (flags : BitVec 8) (detail : W64) : State :=
  match src with
  | .cmd id => s.finish id st flags detail
  | .ticket d t =>
    let k := s.core d
    match mfind k.tickets t with
    | some ⟨e, o, .queued⟩ =>
      (s.setCore d { k with tickets := madd k.tickets t ⟨e, o, .ended (compWord st flags (fld hdr 63 48))⟩ }).signalMask
        c p k.cbBase k.pbBase hdr st
    | _ => s

/-- An empty tile for the rows of block b (R71). -/
def MxCmd.freshTile (x : MxCmd) (isB : Bool) (b : Nat) : Tile :=
  { isB, firstRow := b * x.r, els := List.replicate (x.rows b) (List.replicate x.n ⟨0, false⟩) }
/-- The block and pass that follow. -/
def MxCmd.following (x : MxCmd) (b p : Nat) : Option (Nat × Nat) :=
  if p + 1 < x.nPass then some (b, p + 1) else if b + 1 < x.blocks then some (b + 1, 0) else none
/-- NO_BOUND (R100). -/
def MxCmd.noBound (x : MxCmd) : Bool := (x.acc == 1 && decide (512 < x.nPass)) || (x.acc == 0 && decide (65536 < x.nPass))

/-- Start the load of what follows into the shadow registers (R67). -/
def loadShadow (s : State) (die : Nat) (x : MxCmd) : Option (Nat × Nat) → State × Option PassW
  | none => (s, none)
  | some bp => let r := loadPass s die x bp.2; (r.1, some r.2)

/-- Cluster c's engine does not compare: its check column is disabled (R91), or INTEGRITY is 0 (R353). -/
def State.windrowOff (s : State) (c : Nat) : Bool := fld (s.reg (aMX c + 0x18)) 1 0 == 1 || !s.policy.integrity

/-- MX_MATMUL: the command at the head of cluster c's matrix queue is checked and begins its passes (R80, R71, R94). -/
def execMxMatmul (c : Nat) (s : State) : Host.Outcome State Fault Refusal :=
  let k := s.cluster c
  match k.mx, k.mxQ with
  | none, q :: rest =>
    if opOf q.words ≠ 0x20 then .next s
    else
      let same := bitW (s.reg (aMX c)) 0
      let x := mxParse q.words q.ext
      let s1 := s.setCluster c { k with mxQ := rest }
      match s.mxCheck c q.part same x q.ext with
      | some st => .next (s1.engineEnd c q.part q.src (q.words.getD 0 0) st 0 0)
      | none =>
        let die := s.dieOf c
        let a := loadPass s1 die x 0
        let b := loadShadow a.1 die x (x.following 0 0)
        let isB := !k.lastTileB
        let off := s.windrowOff c
        let m : MxRun :=
          { src := q.src, part := q.part, cmd := x, hdr := q.words.getD 0 0, sameFmt := same, cls := x.cls, block := 0, pass := 0
            row := 0, active := some a.2, shadow := b.2, retained := none, tile := x.freshTile isB 0, drain := [], pend := none
            flags := BitVec.ofNat 8 (32 * b2n off + 64 * b2n x.noBound), wrotePsn := false, viol := none, cover := []
            failed := false, stop := none }
        .next (b.1.setCluster c { b.1.cluster c with mx := some m })
  | _, _ => .next s

/-- MX_EXT: a record that does not follow an MX_MATMUL with EXT set completes by itself with ILLEGAL_COMMAND (R80). -/
def execMxExtAlone (c : Nat) (s : State) : Host.Outcome State Fault Refusal :=
  let k := s.cluster c
  match k.mx, k.mxQ with
  | none, q :: rest =>
    if opOf q.words ≠ 0x21 then .next s
    else .next ((s.setCluster c { k with mxQ := rest }).engineEnd c q.part q.src (q.words.getD 0 0) .illegalCommand 0 0)
  | _, _ => .next s

/-- MX_ROW_ENTER: the next A row of the pass enters, its tile being free (R68, R70). -/
def execMxRowEnter (c : Nat) (s : State) : Host.Outcome State Fault Refusal :=
  let k := s.cluster c
  match k.mx with
  | none => .next s
  | some m =>
    match m.active with
    | none => .next s
    | some w =>
      if m.pend.isSome || m.failed || s.power.holdIssue || decide (m.cmd.blocks ≤ m.block) || decide (m.cmd.rows m.block ≤ m.row)
          || m.drain.any (fun t => t.isB == m.tile.isB) then .next s
      else
        let r := readRow s (s.dieOf c) m.cmd m.pass (m.tile.firstRow + m.row)
        let s1 := r.1.setReg (aMX c + 0x30) (r.1.reg (aMX c + 0x30) + 1)
        .next (s1.setCluster c { s1.cluster c with mx := some { m with
          row := m.row + 1, pend := some (arrayRow m.cmd w r.2 m.row) } })

/-- MX_PASS_BOUNDARY: the pass's last row has entered: active moves to retained and shadow to active, and the following pass
starts to load (R67); after a block's last pass its tile waits for the drain port and the other tile takes over (R71). A stop
ends the command at this tile (R282). -/
def execMxPassBoundary (c : Nat) (s : State) : Host.Outcome State Fault Refusal :=
  let k := s.cluster c
  match k.mx with
  | none => .next s
  | some m =>
    if m.pend.isSome || m.failed || decide (m.cmd.blocks ≤ m.block) || decide (m.row < m.cmd.rows m.block) then .next s
    else
      let m1 := { m with retained := m.active, active := m.shadow, shadow := none, row := 0 }
      if m.pass + 1 < m.cmd.nPass then
        let b := loadShadow s (s.dieOf c) m.cmd (m.cmd.following m.block (m.pass + 1))
        .next (b.1.setCluster c { b.1.cluster c with mx := some { m1 with pass := m.pass + 1, shadow := b.2 } })
      else
        let m2 := { m1 with drain := m.drain ++ [m.tile] }
        if m.block + 1 < m.cmd.blocks ∧ m.stop.isNone then
          let b := loadShadow s (s.dieOf c) m.cmd (m.cmd.following (m.block + 1) 0)
          .next (b.1.setCluster c { b.1.cluster c with mx := some { m2 with
            block := m.block + 1, pass := 0, shadow := b.2, tile := m.cmd.freshTile (!m.tile.isB) (m.block + 1) } })
        else
          .next (s.setCluster c { k with lastTileB := m.tile.isB, mx := some { m2 with block := m.cmd.blocks, active := none } })

/-! ### The windrow check -/

/-- WINDROW_COMPARE (R89): the row is compared, with what error a datapath fault has put on column col's result and on the check
column's. -/
def execWindrowCompare (c col : Nat) (colErr chkErr : Dy) (s : State) : Host.Outcome State Fault Refusal :=
  let k := s.cluster c
  match k.mx with
  | none => .next s
  | some m =>
    match m.pend with
    | none => .next s
    | some p =>
      if p.mismatch.isSome then .next s
      else
        let l := colsErr p.cols col colErr
        if s.windrowOff c then .next (s.setCluster c { k with mx := some (m.accRow p.row l) })
        else if p.skip then
          let m1 := m.accRow p.row l
          .next ((s.setCluster c { k with mx := some { m1 with flags := m1.flags ||| 0x80 } }).bump (aMX c + 0x20) 31 0 1)
        else if comparePasses m.cmd l (dyAdd p.chk chkErr) p.chkE then .next (s.setCluster c { k with mx := some (m.accRow p.row l) })
        else .next (s.setCluster c { k with mx := some { m with pend := some { p with mismatch := some (col, colErr) } } })

/-- The column results agree. -/
def sameCols (a b : List ColRes) : Bool := a.length == b.length && (a.zip b).all fun q => dySame q.1.v.dy q.2.v.dy

/-- The ac that the two re-runs cost, counted in `SE.STALL_MX[7]` (R91, R310). -/
def State.rerunStall (s : State) (c : Nat) (sameFmt : Bool) : State :=
  s.setReg (aMX c + 0x478) (s.reg (aMX c + 0x478) + (if sameFmt then 47 else 51))
/-- A windrow event names the command that runs, and the status that it gives it (Table 11.6). -/
def State.wrEvent (s : State) (m : MxRun) (code st : Nat) : LogEntry :=
  { ev code with channel := s.srcChannel m.src, cmdseq := fld m.hdr 63 48, status := st }
/-- WINDROW_VOTE (R91, Table 3.11): the two re-runs with the errors that faults have put on one column each, and on the check
column's result in both. -/
def execWindrowVote (c col1 : Nat) (err1 : Dy) (col2 : Nat) (err2 chkErr : Dy) (s : State) : Host.Outcome State Fault Refusal :=
  let k := s.cluster c
  match k.mx with
  | none => .next s
  | some m =>
    match m.pend with
    | none => .next s
    | some p =>
      match p.mismatch with
      | none => .next s
      | some o =>
        let s := s.rerunStall c m.sameFmt
        let l0 := colsErr p.cols o.1 o.2
        let l1 := colsErr p.cols col1 err1
        let l2 := colsErr p.cols col2 err2
        if sameCols l1 l2 ∧ sameCols l1 l0 then
          let m1 := m.accRow p.row l0
          let s1 := s.setCluster c { k with mx := some { m1 with flags := m1.flags ||| 0x20 } }
          let s2 := s1.setReg (aMX c + 0x18) (setFld (s1.reg (aMX c + 0x18)) 1 0 1)
          .next ((logCluster s2 c (s.wrEvent m eWrChecker 0xFF)).flagCluster (s2.phOf c) 4)
        else if sameCols l1 l2 ∧ comparePasses m.cmd l1 (dyAdd p.chk chkErr) p.chkE then
          let m1 := m.accRow p.row l1
          let s1 := s.setCluster c { k with mx := some { m1 with flags := m1.flags ||| 0x10 } }
          .next (logCluster (s1.bump (aMX c + 0x18) 31 16 1) c (s.wrEvent m eWrMasked 0xFF))
        else
          let s1 := s.setCluster c { k with lastTileB := m.tile.isB, mx := some { m with pend := none, failed := true } }
          .next ((logCluster s1 c (s.wrEvent m eWrEngine Status.checkFail.code)).retireCluster (s1.phOf c) 4)

/-! ### Drains and the end -/

/-- A drained value breaks the range window (R84). -/
def MxCmd.breaks (x : MxCmd) (t : TileEl) : Bool :=
  if !x.range then false
  else
    match decode x.acc t.bits.toNat with
    | .fin _ m e => !((decode 0 x.rangeLo.toNat).le (.fin false m e) && (Val.fin false m e).le (decode 0 x.rangeHi.toNat))
    | _ => true
/-- The lowest violating index of a tile's rows. -/
def MxCmd.firstBreak (x : MxCmd) (t : Tile) : Option Nat :=
  (t.els.zipIdx.flatMap fun r => r.1.zipIdx.map fun e => (e.1, (t.firstRow + r.2) * x.n + e.2)).find? (fun q => x.breaks q.1)
    |>.map (·.2)

/-- MX_TILE_DRAIN_DONE: the drain port has written the oldest completed tile's raw sums to C in row order (R72, R83, R84); the
tile is free. -/
def execMxTileDrainDone (c : Nat) (s : State) : Host.Outcome State Fault Refusal :=
  match (s.cluster c).mx with
  | none => .next s
  | some m =>
    match m.drain with
    | [] => .next s
    | t :: rest =>
      let x := m.cmd
      let die := s.dieOf c
      let s1 := t.els.zipIdx.foldl (fun s r =>
        storeMem s die (x.cAddr + (t.firstRow + r.2) * x.cLd)
          (r.1.flatMap fun e => pbOf x.accB (e.bits.toNat % 2 ^ (8 * x.accB)) e.psn)) s
      let cover := (upTo t.els.length).foldl (fun m i => coverAdd m (x.cAddr + (t.firstRow + i) * x.cLd) (x.n * x.accB)) m.cover
      .next (s1.setCluster c { s1.cluster c with mx := some { m with
        drain := rest, cover
        wrotePsn := m.wrotePsn || t.els.any fun r => r.any (·.psn)
        viol := match m.viol, x.firstBreak t with
          | some a, some b => some (min a b)
          | some a, none => some a
          | none, b => b } })

/-- MX_COMMAND_END: the last drain has ended and the command completes (R70, R81, R82, R84); blocks written whole have fresh check
values (R304). -/
def execMxCommandEnd (c : Nat) (s : State) : Host.Outcome State Fault Refusal :=
  let k := s.cluster c
  match k.mx with
  | none => .next s
  | some m =>
    if !m.drain.isEmpty || m.pend.isSome || (!m.failed && decide (m.block < m.cmd.blocks)) then .next s
    else
      let own : Status := if m.failed then .checkFail else if m.wrotePsn then .poisoned else if m.viol.isSome then .rangeCheck else .ok
      let st := Status.worse own (m.stop.getD .ok)
      let s1 := (s.setCluster c { k with mx := none }).coverFresh (s.dieOf c) m.cover
      let s2 := if st = .rangeCheck then
          s1.setReg (aMX c + 0x28) (w64 (m.viol.getD 0 % 2 ^ 48 + m.cmd.seq % 2 ^ 16 * 2 ^ 48)) else s1
      .next (s2.engineEnd c m.part m.src m.hdr st m.flags 0)

end Sys2Proof.Machine
end

