-- ==== Sys2Proof/Machine/Mgmt.lean ====
section
/-! DEFINITION. The management sideband (R401-R403, R371) and the TAP (R441). -/

namespace Sys2Proof.Machine

/-- The sideband answers: main power is on, the device is out of reset, it has an address (R401), and Hayward is not taking over
(R357). -/
def State.mgmtOn (s : State) : Bool := s.power.pwrGood && s.power.sysRstN && !s.hw.takeover && s.mgmt.dynAddr.isSome
/-- An answer on the sideband, where it answers. -/
def State.reply (s : State) (status : Nat) (l : List Byte) : State := if s.mgmtOn then s.emit (.sideband status l) else s
/-- A dynamic address is assigned to a target that has none (I3C). -/
def State.setDyn (s : State) (da : BitVec 7) : State :=
  if s.power.pwrGood && s.mgmt.dynAddr.isNone then { s with mgmt := { s.mgmt with dynAddr := some da.toNat } } else s

/-- ENTDAA. -/
def execEntdaa (da : BitVec 7) (s : State) : Host.Outcome State Fault Refusal := .next (s.setDyn da)
/-- SETDASA: to the target of this static address. -/
def execSetdasa (sa da : BitVec 7) (s : State) : Host.Outcome State Fault Refusal :=
  .next (if sa.toNat = s.mgmt.staticAddr then s.setDyn da else s)

/-- The messages that DSP0236 requires of an endpoint: Set and Get Endpoint ID, Get Endpoint UUID, Get MCTP Version Support, Get
Message Type Support (log entry 41). -/
def mctpKnown (cmd : Nat) : Bool := decide (1 ≤ cmd) && decide (cmd ≤ 5)
/-- MCTP_CONTROL: the completion code, the endpoint ID for the first two commands, and what the standard defines for the rest. -/
def execMctpControl (cmd eid : Nat) (s : State) : Host.Outcome State Fault Refusal :=
  .next (if !s.mgmtOn then s
    else if !mctpKnown cmd then s.reply 5 []
    else if cmd = 1 then
      if eid < 8 ∨ 254 < eid then s.reply 2 []
      else ({ s with mgmt := { s.mgmt with eid } }).reply 0 (leBytes 1 eid ++ Config.mctpAnswer 1)
    else if cmd = 2 then s.reply 0 (leBytes 1 s.mgmt.eid ++ Config.mctpAnswer 2)
    else s.reply 0 (Config.mctpAnswer cmd))

/-! ### PLDM (R402) -/

/-- GET_TID. -/
def execGetTid (s : State) : Host.Outcome State Fault Refusal := .next (s.reply 0 (Config.pldmAnswer 2 0))
/-- GET_PLDM_VERSION. -/
def execGetPldmVersion (s : State) : Host.Outcome State Fault Refusal := .next (s.reply 0 (Config.pldmAnswer 3 0))
/-- GET_PLDM_TYPES: types 0 and 2, Base and Platform Monitoring and Control. -/
def execGetPldmTypes (s : State) : Host.Outcome State Fault Refusal := .next (s.reply 0 (leBytes 8 5))
/-- GET_PLDM_COMMANDS. -/
def execGetPldmCommands (s : State) : Host.Outcome State Fault Refusal := .next (s.reply 0 (Config.pldmAnswer 5 0))
/-- GET_PDR_REPOSITORY_INFO. -/
def execGetPdrRepositoryInfo (s : State) : Host.Outcome State Fault Refusal := .next (s.reply 0 (Config.pldmAnswer 0x50 0))
/-- GET_PDR. -/
def execGetPdr (h : Nat) (s : State) : Host.Outcome State Fault Refusal := .next (s.reply 0 (Config.pldmAnswer 0x51 h))
/-- GET_SENSOR_READING: a numeric sensor of Table 12.7, as last refreshed; any other ID is invalid (DSP0248). -/
def execGetSensorReading (id : Nat) (s : State) : Host.Outcome State Fault Refusal :=
  .next (if 1 ≤ id ∧ id ≤ 27 then s.reply 0 (leBytes 4 (mget 0 s.mgmt.sensors id)) else s.reply 0x80 [])
/-- GET_STATE_SENSOR_READINGS: a state sensor of Table 12.7. -/
def execGetStateSensorReadings (id : Nat) (s : State) : Host.Outcome State Fault Refusal :=
  .next (if 28 ≤ id ∧ id ≤ 31 then s.reply 0 (leBytes 1 (mget 0 s.mgmt.sensors id)) else s.reply 0x80 [])
/-- SENSOR_REFRESH: rd holds what is measured for sensors 2 to 7; the others show what the device knows. -/
def execSensorRefresh (rd : List Nat) (s : State) : Host.Outcome State Fault Refusal :=
  let put := fun (m : SMap Nat) (q : Nat × Nat) => mput 0 m q.1 q.2
  let m1 := ((upTo 6).map fun i => (i + 2, rd.getD i 0)).foldl put s.mgmt.sensors
  let m2 := ((upTo 20).map fun i => (i + 8, mget 0 s.power.pkgTemp i)).foldl put m1
  let m3 := [(1, fld (s.reg (aCK + 0x10)) 27 16), (28, s.power.div), (29, b2n (bitW s.guar 0)), (30, b2n s.hw.fatal)
    , (31, b2n s.hw.activeB)].foldl put m2
  .next (if s.power.pwrGood then { s with mgmt := { s.mgmt with sensors := m3 } } else s)

/-! ### Vendor commands (R403) -/

/-- STATUS. -/
def execMgmtStatus (s : State) : Host.Outcome State Fault Refusal :=
  .next (s.reply 0 (leBytes 8 s.hwStatus.toNat ++ leBytes 8 s.guar.toNat ++ leBytes 8 s.fallowReg.toNat ++ leBytes 8 s.logStat.toNat
    ++ leBytes 8 (s.psec % 2 ^ 32)))
/-- The 64 bytes of a log entry. -/
def LogEntry.bytes (e : LogEntry) : List Byte := (upTo 8).flatMap fun i => leBytes 8 (e.word 4 i).toNat
/-- LOG_READ. -/
def execMgmtLogRead (sq n : Nat) (s : State) : Host.Outcome State Fault Refusal :=
  .next (if n = 0 ∨ 4 < n then s.reply 2 []
    else s.reply 0 (((s.hw.log.reverse.filter fun e => decide (sq ≤ e.seq)).take n).flatMap LogEntry.bytes))
/-- LOG_ACK. -/
def execMgmtLogAck (sq : Nat) (s : State) : Host.Outcome State Fault Refusal :=
  .next (if !s.mgmtOn then s else ({ s with hw := { s.hw with acked := max s.hw.acked (sq + 1) } }).reply 0 [])
/-- ROT_SUSPEND. -/
def execRotSuspend (s : State) : Host.Outcome State Fault Refusal :=
  .next (if !s.mgmtOn then s
    else if !s.policy.mgmtWrite then s.reply 3 []
    else ({ s with hw := { s.hw with suspended := true } }).refreshHolds.reply 0 [])
/-- ROT_RESUME: clusters that are past due are flagged. -/
def execRotResume (s : State) : Host.Outcome State Fault Refusal :=
  .next (if !s.mgmtOn then s
    else if !s.policy.mgmtWrite then s.reply 3 []
    else ({ s with hw := { s.hw with suspended := false } }).flagPastDue.reply 0 [])

/-! ### The TAP (R441) -/

/-- The TAP takes an instruction, and what it shifts out. -/
def State.tapTo (s : State) (n : Nat) (w : BitVec 32) : State :=
  if s.power.pwrGood then ({ s with mgmt := { s.mgmt with tap := n } }).emit (.jtag w) else s
/-- BYPASS. -/
def execJtagBypass (s : State) : Host.Outcome State Fault Refusal := .next (s.tapTo 0 0)
/-- IDCODE. -/
def execJtagIdcode (s : State) : Host.Outcome State Fault Refusal :=
  .next (s.tapTo 1 (BitVec.ofNat 32 (0x10000000 + 0x2048 * 2 ^ 12 + Config.jep106.toNat * 2 + 1)))
/-- SAMPLE_PRELOAD: the contacts as they stand, which nothing in the model gives. -/
def execJtagSamplePreload (s : State) : Host.Outcome State Fault Refusal :=
  .next ({ s with freeCtr := s.freeCtr + 1 }.tapTo 2 (Config.boundaryScan s.freeCtr))
/-- EXTEST: BYPASS unless SYS_RST_N is asserted. -/
def execJtagExtest (s : State) : Host.Outcome State Fault Refusal :=
  .next (if s.power.sysRstN then s.tapTo 0 0 else { s with freeCtr := s.freeCtr + 1 }.tapTo 3 (Config.boundaryScan s.freeCtr))
/-- CLAMP: BYPASS unless SYS_RST_N is asserted. -/
def execJtagClamp (s : State) : Host.Outcome State Fault Refusal := .next (s.tapTo (if s.power.sysRstN then 0 else 4) 0)

end Sys2Proof.Machine
end

