-- ==== Sys2Proof/Machine/Power.lean ====
section
/-! DEFINITION. The divider (R406-R409), the power cap (R410), temperature (R412-R414) and the clock and supply monitors (R359). -/

namespace Sys2Proof.Machine

/-! ### The divider -/

/-- The next higher and the next lower divider (R406). -/
def divUp (n : Nat) : Nat := if n < 9 then 9 else if n < 10 then 10 else 12
def divDown (n : Nat) : Nat := if 10 < n then 10 else if 9 < n then 9 else 8

/-- R407-R409: a change to the higher of the two dividers is decided, once none is in progress and the step before it is far
enough back; the hold of Table 13.1 begins. -/
def State.divRequest (s : State) : State :=
  let w := s.power
  let t := max w.pwrDiv w.thermDiv
  if t = w.div ∨ w.divPending.isSome then s
  else if w.div < t then
    if w.sinceUp < 10 then s else { s with power := { w with divPending := some t, holdIssue := true, sinceUp := 0 } }
  else if w.sinceDown < 1000 then s
  else { s with power := { w with divPending := some t, holdIssue := true, sinceDown := 0 } }

/-- DIVIDER_SWITCH (R408): after 32 ac the divider switches at a root clock edge. -/
def execDividerSwitch (s : State) : Host.Outcome State Fault Refusal :=
  .next (match s.power.divPending with
    | none => s
    | some n => ({ s with power := { s.power with div := n, divPending := none } }).bump (aCK + 8) 47 16 1)
/-- The 48 ac of a hold, counted as throttle for an engine that runs a matrix command and for each core that would issue (R408, R310):
`SE.STALL_MX[6]` and `SE.STALL_VX[6]`. -/
def State.throttled (s : State) (c : Nat) : State :=
  let n := ((upTo 8).filter fun i => (s.core (c * 8 + i)).run == .running).length
  let s1 := if (s.cluster c).mx.isSome then s.setReg (aMX c + 0x470) (s.reg (aMX c + 0x470) + 48) else s
  s1.setReg (aMX c + 0x4F0) (s1.reg (aMX c + 0x4F0) + w64 (48 * n))
/-- ADMISSION_RESUME (R408): 16 ac later; a thermal stop keeps its hold (R413). -/
def execAdmissionResume (s : State) : Host.Outcome State Fault Refusal :=
  .next (if s.power.divPending.isSome ∨ s.power.thermStop ∨ !s.power.holdIssue then s
    else (upTo 256).foldl (fun s c => s.throttled c) { s with power := { s.power with holdIssue := false } })

/-! ### The power cap (R410) -/

/-- The sum of numbers. -/
def sumN (l : List Nat) : Nat := l.foldl (· + ·) 0
/-- The average of the latest 50 µs exceeds the cap. -/
def State.powerHigh (s : State) : Bool :=
  decide (50 ≤ s.power.samples.length) && decide (50 * s.cap < sumN (s.power.samples.take 50))
/-- The prediction at the next lower divider is at or below 0.95 of the cap. -/
def State.powerLow (s : State) : Bool :=
  decide (1000 ≤ s.power.samples.length) &&
    decide (sumN s.power.samples * s.power.div * 100 ≤ 95 * s.cap * divDown s.power.div * 1000)

/-- A sample of 1 µs is recorded: `CK.PWR.AVG_W` and PEAK_W over 1 ms. -/
def State.takeSample (s : State) (watts : Nat) : State :=
  let l := (watts :: s.power.samples).take 1000
  let avg := satN 12 (sumN l / 1000)
  let r := setFld (s.reg (aCK + 0x10)) 27 16 avg
  let t := s.setReg (aCK + 0x10) (setFld r 43 32 (max (fld r 43 32) avg))
  { t with power := { t.power with samples := l, sinceUp := min 1000 (t.power.sinceUp + 1), sinceDown := min 1000 (t.power.sinceDown + 1) } }

/-- POWER_SAMPLE (R410): a step up where the 50 µs average exceeds the cap; a step down once the prediction has held for a full
1 ms, never below the temperature divider. -/
def execPowerSample (watts : Nat) (s : State) : Host.Outcome State Fault Refusal :=
  let t := s.takeSample watts
  let w := t.power
  let n := if t.powerLow then min 1000 (w.lowFor + 1) else 0
  let u := { t with power := { w with lowFor := n } }
  .next (if t.powerHigh && w.divPending.isNone && decide (10 ≤ w.sinceUp) && decide (w.div < 12) then
      { u with power := { u.power with pwrDiv := divUp w.div, lowFor := 0 } }.divRequest
    else if decide (1000 ≤ n) && w.divPending.isNone && decide (1000 ≤ w.sinceDown) && decide (w.div = w.pwrDiv) && decide (8 < w.div)
        && decide (w.thermDiv ≤ divDown w.div) then
      { u with power := { u.power with pwrDiv := divDown w.div, lowFor := 0 } }.divRequest
    else u.divRequest)

/-! ### Temperature (R412-R414) -/

/-- Every engine run stops with a status: a ticket's run too. -/
def Cluster.stopRuns (k : Cluster) (st : Status) : Cluster :=
  { k with mx := k.mx.map fun m => { m with stop := some (m.stop.getD st) }
           se := k.se.map fun x => { x with status := some (x.status.getD st) } }

/-- R346: one ABORT frame with CODE THERMAL to each partner of each active operation, which completes THERMAL. -/
def State.linksThermal (s : State) : State :=
  s.linkOps.foldl (fun s o =>
    let t := if o.ctxHeld then o.refs.foldl (fun s r => s.sendCtl r 5 Status.thermal.code 0 o.ctx 0) s else s
    t.endOp o .thermal o.flags o.detail) s

/-- R413: the thermal stop. -/
def State.thermalStop (s : State) : State :=
  if s.power.thermStop then s
  else
    let s1 := s.linksThermal
    let s2 := (s1.cmds.map (·.id)).foldl (fun s id => (s.abortCmd id .thermal).finish id .thermal 0 0) s1
    let ks : SMap Cluster := s2.clusters.map fun q => (q.1, Cluster.stopRuns q.2 .thermal)
    let s3 := { s2 with clusters := ks }
    let s4 := (upTo 4).foldl (fun s p => (s.chansOf p).foldl (fun s ch => if s.armed ch then s.haltChan ch .thermal 0 else s) s) s3
    let s5 := s4.bump (aCK + 0x18) 47 32 1
    { s5 with power := { s5.power with thermStop := true, holdIssue := true } }

/-- Every die has read below 100 °C and every package at or below 95 °C. -/
def State.cool (s : State) : Bool := decide (s.power.hotDie < 100) && s.power.pkgTemp.all fun q => decide (q.2 ≤ 95)
/-- Since when R414's condition has held without a break. -/
def State.coolMark (s : State) : State :=
  { s with power := { s.power with coolFrom := if s.cool then some (s.power.coolFrom.getD s.sc) else none } }

/-- 10 ms in sc cycles, 1 s in sc cycles (Table 0.1). -/
def tenMs : Nat := 3333334
def oneSec : Nat := 333333334
/-- A condition that has held since a time has held for n sc. -/
def heldFor (now : Nat) (since : Option Nat) (n : Nat) : Bool := since.any fun t => decide (t + n ≤ now)

/-- Table 13.2, first two rows: the temperature divider after a reading of the hottest die. -/
def Power.dieRead (w : Power) (now degC : Nat) : Power :=
  let b95 := if degC < 95 then some (w.below95.getD now) else none
  let b100 := if degC < 100 then some (w.below100.getD now) else none
  let on10 := decide (100 ≤ degC) || (w.hold10 && !heldFor now b95 tenMs)
  let on12 := decide (105 ≤ degC) || (decide (w.thermDiv = 12) && !heldFor now b100 tenMs)
  { w with hotDie := degC, below95 := b95, below100 := b100, hold10 := on10, thermDiv := if on12 then 12 else if on10 then 10 else 8 }

/-- THERMAL_SAMPLE (R412): a reading of the hottest die sensor. -/
def execThermalSample (degC : Nat) (s : State) : Host.Outcome State Fault Refusal :=
  let s1 := s.setReg (aCK + 0x18) (setFld (s.reg (aCK + 0x18)) 7 0 (satN 8 degC))
  let s2 := ({ s1 with power := s1.power.dieRead s1.sc degC }).coolMark
  .next (if 115 ≤ degC then s2.divRequest.thermalStop else s2.divRequest)

/-- The hottest package, the lowest-numbered among equals, and its report. -/
def State.hotPkg (s : State) : Nat × Nat :=
  s.power.pkgTemp.foldl (fun b q => if b.2 < q.2 then q else b) (0, 0)

/-- DDR_TEMP_READ (R412, R256): a package's report; above 105 °C it is held to half its data bursts. -/
def execDdrTempRead (pkg degC : Nat) (s : State) : Host.Outcome State Fault Refusal :=
  if 20 ≤ pkg then .next s
  else
    let s1 := { s with power := { s.power with pkgTemp := mput 0 s.power.pkgTemp pkg degC } }
    let h := s1.hotPkg
    let v := setFld (setFld (setFld (s1.reg (aCK + 0x18)) 15 8 (satN 8 h.2)) 20 16 h.1) 21 21 (b2n (decide (105 < h.2)))
    let s2 := (s1.setReg (aCK + 0x18) v).coolMark
    .next (if 115 ≤ degC then s2.thermalStop else s2)

/-- THERMAL_STOP_END (R414): after 1 s below the limits dispatch resumes. -/
def execThermalStopEnd (s : State) : Host.Outcome State Fault Refusal :=
  .next (if s.power.thermStop && heldFor s.sc s.power.coolFrom oneSec then
    { s with power := { s.power with thermStop := false, holdIssue := s.power.divPending.isSome } } else s)

/-! ### Clock and supply monitors (R359, R361) -/

/-- CLOCK_FAULT: UKIND 10. -/
def execClockFault (clk : Nat) (s : State) : Host.Outcome State Fault Refusal :=
  .next (s.deviceFatal 16 { ev eClockFault with parts := s.allParts, ukind := 10, unit := clk })
/-- SUPPLY_FAULT: UKIND 11. -/
def execSupplyFault (rail : Nat) (s : State) : Host.Outcome State Fault Refusal :=
  .next (s.deviceFatal 16 { ev eSupplyFault with parts := s.allParts, ukind := 11, unit := rail })

end Sys2Proof.Machine
end

