-- ==== Sys2Proof/Machine/Stream.lean ====
section
/-! DEFINITION. The stream engines (R295-R305, R307, R374): lists, descriptors, slots, check values, digests. Descriptors of a list
run one after another (log entry 32). -/

namespace Sys2Proof.Machine

/-! ### Descriptors (Tables 9.12, 9.13) -/

def dOp (w : List W64) : Nat := fld (w.getD 4 0) 3 0
def dFcode (w : List W64) : Nat := fld (w.getD 4 0) 7 4
def dSrcHost (w : List W64) : Bool := bitW (w.getD 4 0) 8
def dDstHost (w : List W64) : Bool := bitW (w.getD 4 0) 9 && dOp w != 3
def dCset (w : List W64) : Nat := fld (w.getD 4 0) 13 10
def dBuf (w : List W64) : Nat := fld (w.getD 4 0) 19 14
def dLen (w : List W64) : Nat := fld (w.getD 2 0) 31 0
def dRows (w : List W64) : Nat := fld (w.getD 2 0) 63 32
def dDigest (w : List W64) : Nat := fld (w.getD 5 0) 47 0
/-- A row's address: base and signed stride, modulo 2^64. -/
def rowAt (base : W64) (stride r : Nat) : Nat := (((base.toNat : Int) + r * sx 32 stride) % (2 ^ 64 : Nat)).toNat
def dSrc (w : List W64) (r : Nat) : Nat := rowAt (w.getD 0 0) (fld (w.getD 3 0) 31 0) r
def dDst (w : List W64) (r : Nat) : Nat := rowAt (w.getD 1 0) (fld (w.getD 3 0) 63 32) r
/-- The op reads rows of bytes at SRC; writes rows of bytes at DST; folds elements into cells. -/
def readsRows (w : List W64) : Bool := dOp w == 0 || dOp w == 2 || dOp w == 3
def writesRows (w : List W64) : Bool := dOp w != 2 && dOp w != 3
def foldsCells (w : List W64) : Bool := dOp w == 2 && decide (3 ≤ dFcode w)
/-- The width of a FOLD's source elements, or of a line. -/
def foldWidth (f : Nat) : Nat := if f = 3 then 8 else if f = 4 then 4 else if f = 5 then 2 else 64
/-- The multiple that LEN must be of. -/
def lenUnit (w : List W64) : Nat := if dOp w = 1 ∨ dOp w = 4 then 8 else if dOp w = 2 then foldWidth (dFcode w) else 1

/-- The destination clusters of a BCAST as its set names them. -/
def State.bcastSet (s : State) (p cs : Nat) : List Nat := (upTo 256).filter fun c => bitW (s.reg (aCSet p cs (c / 64))) (c % 64)
/-- Where row r goes in cluster c' for a BCAST of cluster c (Table 9.13). -/
def bcastAt (c c' a : Nat) : Nat := (((stagingBase c' : Int) + a - stagingBase c) % (2 ^ 64 : Nat)).toNat
/-- Every place that row r is written to as plain bytes. -/
def State.rowDsts (s : State) (c p : Nat) (w : List W64) (r : Nat) : List Nat :=
  if dOp w = 3 then (s.bcastSet p (dCset w)).map fun c' => bcastAt c c' (dDst w r) else if writesRows w then [dDst w r] else []

/-- A range split at 4 KiB boundaries: the pieces of R299. -/
def pieces (a n : Nat) : List (Nat × Nat) :=
  if n = 0 then []
  else (List.range ((a + n - 1) / 4096 - a / 4096 + 1)).map fun i =>
    let b := a / 4096 + i
    (max a (b * 4096), min (a + n) ((b + 1) * 4096) - max a (b * 4096))

/-! ### Checks (R297) -/

/-- The first address of a range that its region check refuses. -/
def State.extBad (s : State) (p : Nat) (need : List Nat) (a n : Nat) : Option Nat :=
  if 2 ^ 48 ≤ a then some a
  else
    match s.chk p need a n with
    | .ok => none
    | x => some x.addr
/-- The first check-table entry of a range's blocks that is refused (R303). -/
def State.cvBad (s : State) (p : Nat) (need : List Nat) (a n : Nat) : Option Nat :=
  ((pieces a n).filterMap fun q => s.cvEntry q.1).find? fun e => !(s.chk p need e 8).isOk
/-- The first answer of a list of tests. -/
def firstSome {α : Type} (l : List α) (f : α → Option Nat) : Option Nat := l.findSome? f

/-- The first address of a descriptor's extents that is refused. -/
def State.descExt (s : State) (c p : Nat) (w : List W64) : Option Nat :=
  let rows := upTo (dRows w)
  let n := dLen w
  let src := if readsRows w && !dSrcHost w then firstSome rows fun r => s.extBad p [pR] (dSrc w r) n else none
  let dst := if dDstHost w then none else firstSome rows fun r => firstSome (s.rowDsts c p w r) fun a => s.extBad p [pW] a n
  let lines := if dOp w == 2 && !foldsCells w && !dDstHost w then firstSome rows fun r => s.extBad p [] (dDst w r) n else none
  let dig := if dDigest w = 0 then none else s.extBad p [pW] (dDigest w) 16
  let cvs := if readsRows w && !dSrcHost w then firstSome rows fun r => s.cvBad p [pR] (dSrc w r) n else none
  let cvd := if dDstHost w then none else firstSome rows fun r => firstSome (s.rowDsts c p w r) fun a => s.cvBad p [pR, pW] a n
  let cvg := if dDigest w = 0 then none else s.cvBad p [pR, pW] (dDigest w) 16
  [src, dst, lines, dig, cvs, cvd, cvg].findSome? id

/-- What is wrong with a descriptor as fetched: none where it may run. -/
def State.descBad (s : State) (c p idx : Nat) (w : List W64) (psn : Bool) : Option (Status × W64) :=
  let set := s.bcastSet p (dCset w)
  if psn || decide (4 < dOp w) || (dOp w == 2 && decide (7 ≤ dFcode w)) || dLen w == 0 || dRows w == 0 || dLen w % lenUnit w != 0
      || (dOp w == 3 && (set.isEmpty || set.any fun x => !(s.part p).clusters.contains x)) then some (.illegalCommand, w64 idx)
  else
    match s.descExt c p w with
    | some a => some (.outOfBounds, w64 a)
    | none => none

/-! ### The list -/

/-- The slots that a descriptor needs, and at which engines (R302). -/
def slotsOf (w : List W64) : Nat := min 8 ((dLen w * dRows w + 4095) / 4096)
def State.slotEngines (s : State) (c p : Nat) (w : List W64) : List Nat :=
  let ds := if dDstHost w then [] else (upTo (dRows w)).flatMap fun r => s.rowDsts c p w r
  (ds.filter isStaging).foldl (fun l a => sadd l (stagingCluster a)) [c]

/-- The statuses that a list ends with, with their DETAIL; the highest-ranked counts. -/
def SeRun.outcome (x : SeRun) : Status × W64 :=
  let l : List (Status × W64) :=
    (match x.status with
      | some st => [(st, 0)]
      | none => [])
    ++ (match x.bad with
      | some b => [(b.2.1, b.2.2)]
      | none => [])
    ++ (match x.rej with
      | some st => [(st, 0)]
      | none => [])
    ++ (match x.failAt with
      | some a => [(Status.checkFail, w64 a)]
      | none => [])
    ++ (match x.psnAt with
      | some a => [(Status.poisoned, w64 a)]
      | none => [])
  l.foldl (fun b y => if y.1.rank < b.1.rank then y else b) (.ok, 0)

/-- Blocks that the command wrote whole and that still await a value (R304, generation). -/
def SeRun.toGenerate (x : SeRun) : SMap Nat := x.cover.filter fun q => !x.carried.contains q.1 && !x.noValue.contains q.1
/-- The list ends: generated values, completion. -/
def State.seEnd (s : State) (c : Nat) (x : SeRun) : State :=
  let g := x.toGenerate
  let gen := g.any fun q => q.2 == 2 ^ 4096 - 1 && (s.cvEntry (q.1 * 4096)).isSome && !pbPsn (s.peek (q.1 * 4096) 4096)
  let s1 := s.coverFresh (s.dieOf c) g
  let s2 := s1.setCluster c { s1.cluster c with se := none }
  s2.engineEnd c x.part x.src x.hdr x.outcome.1 (if gen then x.flags ||| 2 else x.flags) x.outcome.2

/-- The next fetched descriptor begins, asking for its slots; where none is left or may begin, the list ends. -/
def State.seNext (s : State) (c : Nat) (x : SeRun) : State :=
  match x.cur with
  | some _ => s.setCluster c { s.cluster c with se := some x }
  | none =>
    match x.status, x.fetched with
    | none, d :: rest =>
      let y : Desc := { idx := d.1, words := d.2, phase := .waitSlots, slots := slotsOf d.2, engines := s.slotEngines c x.part d.2
                        req := s.nextId, good := [], wrong := [] }
      let s1 := { s with nextId := s.nextId + 1 }
      s1.setCluster c { s1.cluster c with se := some { x with fetched := rest, cur := some y } }
    | none, [] =>
      if x.bad.isSome ∨ x.count ≤ x.next then s.seEnd c x else s.setCluster c { s.cluster c with se := some x }
    | some _, _ => s.seEnd c x

/-- SE_LIST (R295, R297): the command at the head of the queue is checked. -/
def execSeList (c : Nat) (s : State) : Host.Outcome State Fault Refusal :=
  let k := s.cluster c
  match k.se, k.seQ with
  | none, q :: rest =>
    let w := fun i => q.words.getD i 0
    let list := fld (w 1) 47 0
    let count := fld (w 2) 16 0
    let s1 := s.setCluster c { k with seQ := rest }
    if count = 0 ∨ 65536 < count ∨ list % 64 ≠ 0 ∨ opOf q.words ≠ 0x30 then
      .next (s1.engineEnd c q.part q.src (w 0) .illegalCommand 0 0)
    else
      let x : SeRun :=
        { src := q.src, part := q.part, hdr := w 0, list, count, next := 0, fetched := [], bad := none, cur := none, flags := 0
          status := none, rej := none, failAt := none, psnAt := none, retries := 0, cover := [], carried := [], noValue := [] }
      .next (s1.setCluster c { s1.cluster c with se := some x })
  | _, _ => .next s

/-- Fetch and check n more descriptors. -/
def fetchDescs (c : Nat) : Nat → State → SeRun → State × SeRun
  | 0, s, x => (s, x)
  | n + 1, s, x =>
    if x.bad.isSome ∨ x.count ≤ x.next then (s, x)
    else
      let a := x.list + 64 * x.next
      match s.extBad x.part [pR] a 64 with
      | some b => (s, { x with bad := some (x.next, .outOfBounds, w64 b) })
      | none =>
        let r := readMem s (s.dieOf c) a 64
        let w := pbWords r.2
        match r.1.descBad c x.part x.next w (pbPsn r.2) with
        | some e => (r.1, { x with bad := some (x.next, e) })
        | none => fetchDescs c n r.1 { x with next := x.next + 1, fetched := x.fetched ++ [(x.next, w)] }
/-- DESCRIPTOR_FETCH (R295, R297): a burst of up to sixteen arrives. -/
def execDescriptorFetch (c : Nat) (s : State) : Host.Outcome State Fault Refusal :=
  match (s.cluster c).se with
  | none => .next s
  | some x =>
    if 8 < x.fetched.length ∨ x.bad.isSome ∨ x.count ≤ x.next then .next s
    else
      let r := fetchDescs c 16 s x
      .next (r.1.seNext c r.2)

/-! ### Slots (R302) -/

/-- The waiting requests of other engines' lists, earlier than this one and sharing an engine with it. -/
def State.passes (s : State) (d : Desc) : List Nat :=
  (s.clusters.filter fun q => match q.2.se.bind (·.cur) with
    | some e => e.phase == .waitSlots && decide (e.req < d.req) && e.engines.any fun c => d.engines.contains c
    | none => false).map (·.1)
/-- SLOT_GRANT: all of the descriptor's slots at once; none is passed over more than sixteen times. -/
def execSlotGrant (c : Nat) (s : State) : Host.Outcome State Fault Refusal :=
  match (s.cluster c).se with
  | none => .next s
  | some x =>
    match x.cur with
    | none => .next s
    | some d =>
      let ahead := s.passes d
      if d.phase != .waitSlots || d.engines.any (fun e => decide ((s.cluster e).slotsFree < d.slots))
          || ahead.any (fun e => decide (16 ≤ (s.cluster e).passedOver)) then .next s
      else
        let s1 := d.engines.foldl (fun s e => s.setCluster e { s.cluster e with slotsFree := (s.cluster e).slotsFree - d.slots }) s
        let s2 := ahead.foldl (fun s e => s.setCluster e { s.cluster e with passedOver := (s.cluster e).passedOver + 1 }) s1
        .next (s2.setCluster c { s2.cluster c with passedOver := 0, se := some { x with cur := some { d with phase := .granted } } })

/-! ### Moving data -/

/-- What moving a descriptor carries along: the state, the list's record, the bytes of its digest so far. -/
structure Mv where
  s : State
  x : SeRun
  dig : List PB
  deriving DecidableEq, Repr

/-- The function whose requester ID a list's host accesses carry (R386). -/
def State.seFn (s : State) (x : SeRun) : Nat :=
  match x.src with
  | .cmd id => match s.cmd id with
    | some c => s.chanFn c.ch
    | none => 0
  | .ticket d _ => match (s.core d).kernel.bind s.cmd with
    | some c => s.chanFn c.ch
    | none => 0

/-- A whole source block that has a valid entry and has not been read again: its CRC, where it is to be compared. -/
def State.toCompare (s : State) (d : Desc) (q : Nat × Nat) : Option (BitVec 32) :=
  if q.2 ≠ 4096 ∨ d.good.contains q.1 ∨ d.wrong.contains q.1 then none
  else
    match s.cvEntry q.1 with
    | none => none
    | some e =>
      let v := s.cvRead e
      if v.2.1 && !v.2.2 then some (BitVec.ofNat 32 v.1) else none
/-- The first source block whose comparison mismatches, by its content or by a transfer fault (R304). -/
def State.firstMismatch (s : State) (c : Nat) (d : Desc) : Option Nat :=
  if !readsRows d.words || dSrcHost d.words then none
  else
    ((upTo (dRows d.words)).flatMap fun r => pieces (dSrc d.words r) (dLen d.words)).findSome? fun q =>
      match s.toCompare d q with
      | none => none
      | some v =>
        if (s.cluster c).xferFault ≠ 0 ∨ crc32c ((readMem s (s.dieOf c) q.1 q.2).2.map (·.1)) ≠ v then some q.1 else none

/-- A piece as it leaves its source: its bytes, the verified value of a whole block, and whether it admits no value (R303-R305). -/
def readPiece (m : Mv) (c : Nat) (d : Desc) (q : Nat × Nat) : Mv × List PB × Option Nat × Bool :=
  if dSrcHost d.words then (m, m.s.hostRead m.x.part q.1 q.2, none, false)
  else
    let r := readMem m.s (m.s.dieOf c) q.1 q.2
    match m.s.cvEntry q.1 with
    | none => ({ m with s := r.1 }, r.2, none, false)
    | some e =>
      let v := m.s.cvRead e
      if v.2.2 then ({ m with s := r.1, x := { m.x with psnAt := some (m.x.psnAt.getD e) } }, r.2, none, true)
      else if !v.2.1 then ({ m with s := r.1 }, r.2, none, false)
      else if q.2 ≠ 4096 then
        ({ m with s := r.1.bump (aSE c + 8) 31 0 1, x := { m.x with flags := m.x.flags ||| 1 } }, r.2, none, false)
      else if d.wrong.contains q.1 then ({ m with s := r.1 }, r.2.map fun b => (b.1, true), none, true)
      else ({ m with s := r.1 }, r.2, some v.1, false)

/-- The word of the first poisoned byte of a write at a. -/
def firstPsn (a : Nat) (l : List PB) : Option Nat := (l.zipIdx.find? fun q => q.1.2).map fun q => (a + q.2) / 8 * 8
/-- Record that poison has been written (R300). -/
def SeRun.mark (x : SeRun) (a : Nat) (l : List PB) : SeRun :=
  match firstPsn a l with
  | none => x
  | some b => { x with psnAt := some (x.psnAt.getD b), flags := x.flags ||| 8 }

/-- A range split at 512-byte boundaries: the write TLPs of Table 12.1's payload size. -/
def tlps (a n : Nat) : List (Nat × Nat) :=
  if n = 0 then []
  else (List.range ((a + n - 1) / 512 - a / 512 + 1)).map fun i =>
    let b := a / 512 + i
    (max a (b * 512), min (a + n) ((b + 1) * 512) - max a (b * 512))

/-- Write bytes at a destination on the bus. -/
def putHost (m : Mv) (a : Nat) (l : List PB) : Mv :=
  let fn := m.s.seFn m.x
  { m with s := (tlps a l.length).foldl (fun s q => s.hostWrite m.x.part fn q.1 ((l.drop (q.1 - a)).take q.2)) m.s
           x := m.x.mark a l }
/-- Write bytes at a device destination, with the value that a whole verified block carries (R304). -/
def putDev (m : Mv) (c a : Nat) (l : List PB) (v : Option Nat) (noVal : Bool) : Mv :=
  let die := m.s.dieOf c
  (pieces a l.length).foldl (fun m q =>
    let part := (l.drop (q.1 - a)).take q.2
    let s1 := writeMem m.s die q.1 part
    let b := q.1 / 4096
    match (if q.2 = 4096 ∧ l.length = 4096 ∧ !pbPsn part then v else none) with
    | some v =>
      { m with s := s1.cvSet die q.1 v
               x := { m.x with cover := coverAdd m.x.cover q.1 q.2, carried := sadd m.x.carried b, noValue := sdel m.x.noValue b } }
    | none =>
      { m with s := s1.cvClear die q.1 q.2
               x := { (m.x.mark q.1 part) with cover := coverAdd m.x.cover q.1 q.2, carried := sdel m.x.carried b
                                               noValue := if noVal then sadd m.x.noValue b else m.x.noValue } }) m

/-- COPY and BCAST: one piece from its source to each destination. -/
def copyPiece (m : Mv) (c : Nat) (d : Desc) (r : Nat) (q : Nat × Nat) : Mv :=
  let o := q.1 - dSrc d.words r
  let x := readPiece m c d q
  let m1 := { x.1 with dig := x.1.dig ++ x.2.1 }
  if dDstHost d.words then putHost m1 (dDst d.words r + o) x.2.1
  else (m1.s.rowDsts c m1.x.part d.words r).foldl (fun m a => putDev m c (a + o) x.2.1 x.2.2.1 x.2.2.2) m1
/-- FILL: one row. -/
def fillRow (m : Mv) (c : Nat) (d : Desc) (r : Nat) : Mv :=
  let a := dDst d.words r
  let l : List PB := (upTo (dLen d.words)).map fun i => (((d.words.getD 6 0).extractLsb' (8 * ((a + i) % 8)) 8), false)
  let m1 := { m with dig := m.dig ++ l }
  if dDstHost d.words then putHost m1 a l else putDev m1 c a l none false

/-- What a fold's answer leaves in the list's record. -/
def noteFold (m : Mv) (r : FoldRes) (psnAt : Option Nat) : Mv :=
  let worse := fun (a : Option Status) (b : Status) => some (match a with
    | none => b
    | some x => x.worse b)
  let x := match r.rej with
    | some st => { m.x with rej := worse m.x.rej st }
    | none => match psnAt with
      | some a => { m.x with psnAt := some (m.x.psnAt.getD a) }
      | none => m.x
  { m with s := r.s, x := if r.cv then { x with rej := worse x.rej .outOfBounds } else x }
/-- FOLD: element or line e of row r, from the row's bytes. -/
def foldElem (m : Mv) (_c : Nat) (d : Desc) (r : Nat) (row : List PB) (e : Nat) : Mv :=
  let w := d.words
  let f := dFcode w
  let z := foldWidth f
  let l := (row.drop (z * e)).take z
  let p := m.x.part
  let v := pbNat l
  if f < 3 then
    let a := dDst w r + 64 * e
    let op := foldLaneOp f
    let lanePsn := fun i => pbPsn ((l.drop (op.1 * i)).take op.1)
    let res := if dDstHost w then foldReject m.s p .illegalTarget else lineFold m.s p a op.1 op.2 v (fun _ => true) lanePsn
    noteFold m res (if pbPsn l then some a else none)
  else
    let n := dBuf w
    let cell := (w.getD 1 0).toNat + r * (dLen w / z) + e
    let a := m.s.sbBase p n + 64 * cell
    let res := if !(m.s.sbValid p n) || decide (m.s.sbCells p n ≤ cell) then foldReject m.s p .illegalTarget
      else if f = 6 then swardAdd m.s p n a (pbPsn l) (cellContrib (m.s.anchor p n) (m.s.anchor p n) (cellInt l))
      else swaddFloat m.s p a n (if f = 3 then 0 else if f = 4 then 1 else 3) v (pbPsn l)
    noteFold m res (if pbPsn l then some a else none)
/-- FOLD: one row. -/
def foldRow (m : Mv) (c : Nat) (d : Desc) (r : Nat) : Mv :=
  let g := (pieces (dSrc d.words r) (dLen d.words)).foldl (fun (g : Mv × List PB) q =>
    let x := readPiece g.1 c d q
    (x.1, g.2 ++ x.2.1)) (m, [])
  (upTo (dLen d.words / foldWidth (dFcode d.words))).foldl (fun m e => foldElem m c d r g.2 e) { g.1 with dig := g.1.dig ++ g.2 }
/-- SWREAD: one row. -/
def swreadRow (m : Mv) (c : Nat) (d : Desc) (r : Nat) : Mv :=
  let w := d.words
  let n := dBuf w
  (upTo (dLen w / 8)).foldl (fun m e =>
    let p := m.x.part
    let cell := (w.getD 0 0).toNat + r * (dLen w / 8) + e
    let res := if !(m.s.sbValid p n) || decide (m.s.sbCells p n ≤ cell) then foldReject m.s p .illegalTarget
      else swardRead m.s p (m.s.sbBase p n + 64 * cell) n false
    let m1 := noteFold m res none
    if res.rej.isSome then m1
    else
      let l := pbOf 8 res.val.toNat res.psn
      let m2 := { m1 with dig := m1.dig ++ l }
      if dDstHost w then putHost m2 (dDst w r + 8 * e) l else putDev m2 c (dDst w r + 8 * e) l none false) m

/-- The digest of what was moved (R374). -/
def putDigest (m : Mv) (c : Nat) (w : List W64) : Mv :=
  if dDigest w = 0 then m
  else
    { m with s := storeMem m.s (m.s.dieOf c) (dDigest w) (pbOf 16 (sheaf (m.dig.map (·.1))).toNat (pbPsn m.dig))
             x := { m.x with flags := m.x.flags ||| 0x20 } }

/-- Run the current descriptor, where it is of this op and holds its slots: a mismatched source block stops it to be read again
(R305); host memory may be refused or held (R384, R386). -/
def runDesc (s : State) (c op : Nat) (row : Mv → Nat → Desc → Nat → Mv) : State :=
  match (s.cluster c).se with
  | none => s
  | some x =>
    match x.cur with
    | none => s
    | some d =>
      let host := (readsRows d.words && dSrcHost d.words) || (!(foldsCells d.words) && dOp d.words != 2 && dDstHost d.words)
      if d.phase != .granted || dOp d.words != op then s
      else if host && s.hostWay x.part (s.seFn x) == .held then s
      else if host && s.hostWay x.part (s.seFn x) == .denied then
        let x1 := { x with bad := some (d.idx, .denied, 0), fetched := [], cur := some { d with phase := .moved } }
        s.setCluster c { s.cluster c with se := some x1 }
      else
        match s.firstMismatch c d with
        | some b => s.setCluster c { s.cluster c with xferFault := (s.cluster c).xferFault - 1,
                                                      se := some { x with cur := some { d with phase := .reread b } } }
        | none =>
          let m := putDigest ((upTo (dRows d.words)).foldl (fun m r => row m c d r) ⟨s, x, []⟩) c d.words
          m.s.setCluster c { m.s.cluster c with se := some { m.x with cur := some { d with phase := .moved } } }

/-- The pieces of a copied row, one after another. -/
def copyRow (m : Mv) (c : Nat) (d : Desc) (r : Nat) : Mv :=
  (pieces (dSrc d.words r) (dLen d.words)).foldl (fun m q => copyPiece m c d r q) m

/-- COPY. -/
def execStreamCopy (c : Nat) (s : State) : Host.Outcome State Fault Refusal := .next (runDesc s c 0 copyRow)
/-- FILL. -/
def execStreamFill (c : Nat) (s : State) : Host.Outcome State Fault Refusal := .next (runDesc s c 1 fillRow)
/-- FOLD. -/
def execStreamFold (c : Nat) (s : State) : Host.Outcome State Fault Refusal := .next (runDesc s c 2 foldRow)
/-- BCAST. -/
def execStreamBcast (c : Nat) (s : State) : Host.Outcome State Fault Refusal := .next (runDesc s c 3 copyRow)
/-- SWREAD. -/
def execStreamSwread (c : Nat) (s : State) : Host.Outcome State Fault Refusal := .next (runDesc s c 4 swreadRow)

/-- CV_REREAD (R305): the block is read once again: a match goes on, a second mismatch fails the command and poisons what the
block is written to. -/
def execCvReread (c : Nat) (s : State) : Host.Outcome State Fault Refusal :=
  match (s.cluster c).se with
  | none => .next s
  | some x =>
    match x.cur with
    | none => .next s
    | some d =>
      match d.phase with
      | .reread b =>
        let k := s.cluster c
        let e := (s.cvEntry b).getD 0
        let ok := k.xferFault == 0 && (crc32c ((readMem s (s.dieOf c) b 4096).2.map (·.1))).toNat == (s.cvRead e).1
        let d1 := if ok then { d with phase := .granted, good := b :: d.good } else { d with phase := .granted, wrong := b :: d.wrong }
        let x1 := if ok then { x with cur := some d1, flags := x.flags ||| 4 }
          else { x with cur := some d1, failAt := some (x.failAt.getD b) }
        let s1 := s.setCluster c { k with xferFault := k.xferFault - 1, se := some x1 }
        let st := if ok then 0xFF else Status.checkFail.code
        .next (logCluster s1 c { ev (if ok then eCvRetry else eCvFail) with
                              addr := b, channel := s.srcChannel x.src, cmdseq := fld x.hdr 63 48
                              status := st })
      | _ => .next s

/-- DESCRIPTOR_DONE (R298, R302): the last write is complete; the slots are free and the next descriptor begins, or the list
ends. A stopped list also gives up a descriptor that still waits for its slots. -/
def execDescriptorDone (c : Nat) (s : State) : Host.Outcome State Fault Refusal :=
  match (s.cluster c).se with
  | none => .next s
  | some x =>
    match x.cur with
    | none => if x.status.isSome then .next (s.seEnd c x) else .next s
    | some d =>
      if d.phase = .moved then
        let s1 := d.engines.foldl (fun s e =>
          s.setCluster e { s.cluster e with slotsFree := min 64 ((s.cluster e).slotsFree + d.slots) }) s
        .next (s1.seNext c { x with cur := none })
      else if d.phase = .waitSlots ∧ x.status.isSome then .next (s.seNext c { x with cur := none })
      else .next s

/-! ### NACKs and host reads -/

/-- MOVED_NACK (R307): the route is re-resolved, up to three times; a fourth rejection fails the command. -/
def execMovedNack (c : Nat) (s : State) : Host.Outcome State Fault Refusal :=
  match (s.cluster c).se with
  | none => .next s
  | some x =>
    if x.retries < 3 then
      .next ((s.setCluster c { s.cluster c with se := some { x with retries := x.retries + 1, flags := x.flags ||| 0x10 } }).bump
        (aSE c + 0x10) 15 0 1)
    else
      .next ((s.setCluster c { s.cluster c with se := some { x with status := some ((x.status.getD .staleRole).worse .staleRole) } }).bump
        (aSE c + 0x10) 31 16 1)
/-- STALE_NACK (R307). -/
def execStaleNack (c : Nat) (s : State) : Host.Outcome State Fault Refusal :=
  match (s.cluster c).se with
  | none => .next s
  | some x =>
    .next (s.setCluster c { s.cluster c with se := some { x with status := some ((x.status.getD .staleRole).worse .staleRole) } })

/-- HOST_READ_FAIL (R387): the command that needs host memory at bus address a fails. -/
def execHostReadFail (id a : Nat) (s : State) : Host.Outcome State Fault Refusal :=
  match s.cmd id with
  | none => .next s
  | some cmd =>
    let c := cmd.cluster
    match (s.cluster c).se with
    | some x =>
      if x.src.is id then
        .next (s.setCluster c { s.cluster c with se := some { x with
          bad := some (x.next, .outOfBounds, w64 a), fetched := []
          cur := x.cur.map fun d => if d.phase = .waitSlots then d else { d with phase := .moved }
          status := if x.cur.any (fun d => d.phase == .waitSlots) then some (x.status.getD .outOfBounds) else x.status } })
      else .next (s.finish id .outOfBounds 0 (w64 a))
    | none => .next (if cmd.started ∧ !(s.linkOps.any fun o => o.id == id) then s else s.finish id .outOfBounds 0 (w64 a))

/-! ### The end of a disarming (R235) -/

/-- The ranges that a running command's start-time check admitted: matrix operands, the current descriptor. -/
def State.heldRanges (s : State) (p : Nat) : List (Nat × Nat) :=
  (s.clusters.flatMap fun q =>
    (match q.2.mx with
      | some m => if m.part = p then m.cmd.aExt :: m.cmd.bExt :: m.cmd.cExt :: m.cmd.scaleExts else []
      | none => [])
    ++ (match q.2.se with
      | some x =>
        if x.part = p then
          ((x.cur.map (·.words)).toList ++ x.fetched.map (·.2)).flatMap fun w =>
            (upTo (dRows w)).flatMap fun r =>
              (if readsRows w && !dSrcHost w then [(dSrc w r, dLen w)] else [])
                ++ (if dDstHost w then [] else (s.rowDsts q.1 p w r).map fun a => (a, dLen w))
        else []
      | none => []))
    ++ (s.linkOps.filter fun o => o.part == p && o.ctxHeld).map fun o => (o.loc, if o.kind == .vote then 16 else o.len)
/-- RGN_DISARM_DONE: no running command still uses the entry, and VALID reads 0. -/
def execRgnDisarmDone (p n : Nat) (s : State) : Host.Outcome State Fault Refusal :=
  let lo := s.reg (aRgnLo p n)
  if !s.disarming.contains (p, n) then .next s
  else if (s.heldRanges p).any fun r => overlap r.1 r.2 (rgnBase lo) (rgnLen lo (s.reg (aRgnHi p n))) then .next s
  else
    .next { (s.setReg (aRgnLo p n) (setFld lo 0 0 0)) with disarming := s.disarming.filter fun x => x != (p, n) }

end Sys2Proof.Machine
end

