-- ==== Sys2Proof/Machine/Token.lean ====
section
/-! DEFINITION. Tokens (R444-R450), the end of mailbox requests (R399), and the life-cycle timers and reset (R442, R446, R447). -/

namespace Sys2Proof.Machine

/-! ### The token in the mailbox -/

/-- Bytes b to b + n - 1 of the token. -/
def State.tok (s : State) (p b n : Nat) : List Byte := s.mbReq p (4 + b) n
def State.tokKind (s : State) (p : Nat) : Nat := leNat (s.tok p 4 1)
def State.tokSigner (s : State) (p : Nat) : Nat := leNat (s.tok p 5 1)
def State.tokP0 (s : State) (p : Nat) : Nat := leNat (s.tok p 56 4)
def State.tokP1 (s : State) (p : Nat) : Nat := leNat (s.tok p 60 4)

/-- A delegated key with this USAGE bit: SIGNER 2 + i names KEYS record i. -/
def State.delegated (s : State) (signer bit : Nat) : Bool :=
  let i := signer - 2
  let r := keyRecord s.boot.keys i
  decide (4 ≤ signer) && decide (i < keyCount s.boot.keys) && leNat (cut r 0 0) == 3 && (leNat (cut r 1 1)).testBit bit
/-- The key that SIGNER names. -/
def State.signerKey (s : State) (signer : Nat) : List Byte :=
  keyOf (keyRecord s.boot.keys (if signer = 0 then 1 else if signer = 1 then 0 else signer - 2))

/-- Table 14.6: the state and the signer are admitted, and R446. -/
def State.tokAdmitted (s : State) (p : Nat) : Bool :=
  let k := s.tokKind p
  let g := s.tokSigner p
  let lc := s.life.lc
  let maker := lc == 0 || lc == 2
  let when446 := (s.boot.stage == 5 || (s.boot.stage == 7 && (k == 1 || k == 5)))
    && (!s.boot.applying || k == 1) && (!s.life.pending || k == 5)
  when446 &&
    (if k = 1 then lc == 1 && (g == 0 || s.delegated g 0)
    else if k = 2 then lc == 1 && g == 0
    else if k = 3 then lc == 1 && s.life.retArmed && g == 1
    else if k = 4 then maker && g == 1
    else if k = 5 then (lc == 1 && g == 0) || (maker && g == 1)
    else if k = 6 then
      if maker || (lc == 1 && decide (s.tokP0 p ≤ 4)) then g == 1 else lc == 1 && (g == 0 || s.delegated g 1)
    else (maker || lc == 1) && g == 1 && decide (s.tokP0 p < leNat (cut (keyRecord s.boot.keys 0) 2 2)))
/-- The parameters are in range, and R436, Table 14.4 and R447 allow them. KEYDIG is zero but for PROVISION. -/
def State.tokParams (s : State) (p : Nat) : Bool :=
  let k := s.tokKind p
  let a := s.tokP0 p
  let b := s.tokP1 p
  (k == 4 || allZero (s.tok p 64 48)) &&
    (if k = 1 then
      decide (a < 32) && decide (1 ≤ b) && decide (b ≤ 86400)
        && (!a.testBit 4 || (upTo 4).all fun q => !(s.part q).enabled || a.testBit q)
    else if k = 4 then a == s.life.ownerDig.length && decide (a ≤ 4) && b == 0
    else if k = 6 then
      decide (1 ≤ a) && decide (a ≤ 6) && decide (1 ≤ b) && decide (b ≤ 32)
        && (decide (b ≤ s.life.svnMin.getD (a - 1) 0) || decide (b ≤ (secOf s.boot.secs a).svn))
    else if k = 7 then decide (a ≤ 3) && b == 0
    else a == 0 && b == 0)

/-- R445: the first check that fails, as RESULT and detail code; none where the token is accepted. R400 comes first. -/
def State.tokCheck (s : State) (p : Nat) : Option (Nat × Nat) :=
  if s.life.lc = 3 || s.boot.stage == 6 || p != s.policy.ownerPart then some (3, 0)
  else if s.mbLen p != 212 || !allZero (s.mbReq p 2 2) || leNat (s.tok p 0 4) != 0x4E4B4F54 || !(decide (1 ≤ s.tokKind p) && decide (s.tokKind p ≤ 7))
      || !allZero (s.tok p 6 2) then some (2, 1)
  else if s.tok p 8 16 != leBytes 16 s.deviceId.toNat then some (2, 2)
  else if s.tok p 24 32 != s.life.nonce then some (2, 3)
  else if !s.tokAdmitted p then some (3, 4)
  else if !Config.ecdsaVerifies (s.signerKey (s.tokSigner p)) (s.tok p 0 112) (s.tok p 112 96) then some (2, 5)
  else if !s.tokParams p then some (2, 6)
  else none

/-- A token is accepted or refused; the nonce is drawn anew in either case. -/
def State.redraw (s : State) : State := { s with life := { s.life with nonceNo := s.life.nonceNo + 1 } }
/-- A DEBUG_TOKEN request whose KIND is k: checked, and where it is accepted, its effect. -/
def tokenOp (s : State) (p k : Nat) (f : State → State) : State :=
  if !s.mbBusy p || s.mbOp p != 4 || s.tokKind p != k then s
  else
    match s.tokCheck p with
    | some e => s.redraw.answerD p e.1 e.2
    | none => (f s).redraw.answerD p 0 0

/-! ### What tokens do -/

/-- DEBUG (R447). -/
def execTokenDebug (p : Nat) (s : State) : Host.Outcome State Fault Refusal :=
  .next (tokenOp s p 1 fun s =>
    let a := s.tokP0 p
    { s with life := { s.life with dbgParts := BitVec.ofNat 4 a, dbgDev := a.testBit 4, dbgSecs := s.tokP1 p } })
/-- RELEASE (R446). -/
def execTokenRelease (p : Nat) (s : State) : Host.Outcome State Fault Refusal :=
  .next (tokenOp s p 2 fun s => { s with life := { s.life with retArmed := true } })

/-- R448 steps 1 and 3: every partition stops, each with a PARTITION_FATAL entry; the slot-select records are erased. -/
def State.stopForChange (s : State) : State :=
  let s1 := (upTo 4).foldl (fun s p =>
    if (s.part p).enabled then logEv s (16 + p / 2) { ev ePartitionFatal with parts := pbit p } else s) s
  let s2 := s1.stopAll
  { s2 with boot := { s2.boot with slotRecs := [] } }
/-- VENDOR_RETURN (R448). -/
def execTokenVendorReturn (p : Nat) (s : State) : Host.Outcome State Fault Refusal :=
  .next (tokenOp s p 3 fun s =>
    let t := s.stopForChange
    { t with life := { t.life with returns := t.life.returns + 1, pending := true } })
/-- PROVISION (R450). -/
def execTokenProvision (p : Nat) (s : State) : Host.Outcome State Fault Refusal :=
  .next (tokenOp s p 4 fun s =>
    let d := digNat (s.tok p 64 48)
    { s with life := { s.life with ownerDig := s.life.ownerDig ++ [d], provisions := s.life.provisions + 1, pending := true
                                   newOwnerDig := some d } })
/-- SCRAP (R449): it replaces a pending change. -/
def execTokenScrap (p : Nat) (s : State) : Host.Outcome State Fault Refusal :=
  .next (tokenOp s p 5 fun s =>
    let t := s.stopForChange
    { t with life := { t.life with udsKill := true, scrapped := true, pending := true, newOwnerDig := none } })
/-- SVN (R436): the thermometer code of a section type rises. -/
def execTokenSvn (p : Nat) (s : State) : Host.Outcome State Fault Refusal :=
  .next (tokenOp s p 6 fun s =>
    let a := s.tokP0 p
    let up := fun (i : Nat) => if i + 1 = a then max (s.life.svnMin.getD i 0) (s.tokP1 p) else s.life.svnMin.getD i 0
    { s with life := { s.life with svnMin := (upTo 6).map up } })
/-- REVOKE (R444). -/
def execTokenRevoke (p : Nat) (s : State) : Host.Outcome State Fault Refusal :=
  .next (tokenOp s p 7 fun s => { s with life := { s.life with vendorRev := s.life.vendorRev ||| BitVec.ofNat 4 (2 ^ s.tokP0 p) } })

/-! ### The end of a request (R399, R400) -/

/-- A request that no row of its own answers: an unknown OP, an unknown SUB, an unknown KIND. -/
def State.mbUnknown (s : State) (p : Nat) : Option State :=
  let op := s.mbOp p
  if op = 0 ∨ 4 < op then
    some (s.answer p (if s.life.lc = 3 ∨ s.boot.stage = 6 then 3 else 1) [])
  else if op = 3 ∧ 3 < s.subOp p then some (if s.mayStage p && s.life.lc != 3 then s.answerD p 2 1 else s.answerD p 3 3)
  else if op = 4 ∧ (s.tokKind p = 0 ∨ 7 < s.tokKind p) then
    some (s.redraw.answerD p ((s.tokCheck p).getD (2, 1)).1 ((s.tokCheck p).getD (2, 1)).2)
  else none
/-- The answer goes into `HP.MB_RSP`, RLEN, RESULT and DONE are set, BUSY cleared, VECTOR raised. -/
def State.mbFinish (s : State) (p result : Nat) (l : List Byte) : State :=
  let s1 := (upTo ((l.length + 7) / 8)).foldl (fun s i => s.setReg (aHP p + 0x2000 + 8 * i) (w64 (leNat ((l.drop (8 * i)).take 8)))) s
  let st := setFld (setFld (setFld (s1.reg (aHP p + 0x18)) 1 0 2) 28 16 l.length) 39 32 result
  let s2 := (s1.setReg (aHP p + 0x18) st).setHost p { s1.host p with mbAnswer := none }
  if bitW (s2.reg (aHP p + 0x10)) 17 then msixDue s2 p 0 (fld (s2.reg (aHP p + 0x10)) 28 18) else s2
/-- MAILBOX_RESPONSE. -/
def execMailboxResponse (p : Nat) (s : State) : Host.Outcome State Fault Refusal :=
  let t := if s.mbBusy p then (s.mbUnknown p).getD s else s
  .next (match (t.host p).mbAnswer with
    | none => s
    | some (r, l) => t.mbFinish p r l)

/-! ### Timers, debug and the reset -/

/-- RET_ARM_EXPIRE (R446). -/
def execRetArmExpire (s : State) : Host.Outcome State Fault Refusal := .next { s with life := { s.life with retArmed := false } }
/-- DEBUG_EXPIRE (R447). -/
def execDebugExpire (s : State) : Host.Outcome State Fault Refusal :=
  .next { s with life := { s.life with dbgParts := 0, dbgDev := false, dbgSecs := 0 } }
/-- LIFECYCLE_RESET (R442): a change is pending, and its token is answered. -/
def execLifecycleReset (s : State) : Host.Outcome State Fault Refusal :=
  .next (if s.life.pending && (upTo 4).all fun p => (s.host p).mbAnswer.isNone then s.deviceReset else s)

/-- R440, R447: the instruments are open for a partition, or for the device. -/
def State.instOpen (s : State) (p : Option Nat) : Bool :=
  match s.life.lc with
  | 0 => true
  | 2 => true
  | 1 => match p with
    | some p => s.life.dbgParts.getLsbD p
    | none => s.life.dbgDev
  | _ => false
/-- DEBUG_HALT_REQUEST (R447, R224). -/
def execDebugHaltRequest (d : Nat) (s : State) : Host.Outcome State Fault Refusal :=
  .next (if d < 2048 ∧ s.instOpen (s.ownerOf (d / 8)) then s.hayward d 2 else s)

/-- A free byte, and the next one's number. -/
def State.freeByte (s : State) : State × Byte := ({ s with freeCtr := s.freeCtr + 1 }, (Config.freeValue s.freeCtr).setWidth 8)
/-- INSTRUMENT_ACCESS (R447): in scope, memory is read and written; what a scan of other state captures is not stated. -/
def execInstrumentAccess (q : InstrumentReq) (s : State) : Host.Outcome State Fault Refusal :=
  let scope := match q.target with
    | .cluster c => s.ownerOf c
    | .core d => s.ownerOf (d / 8)
    | .memory a => s.grantPart a
    | .device => none
  .next (if !s.power.pwrGood then s
    else if !s.instOpen scope then s.emit (.instrument false 0)
    else
      match q.target, q.wr with
      | .memory a, some b => (storeMem s 16 a [(b, false)]).emit (.instrument true b)
      | .memory a, none =>
        let r := readMem s 16 a 1
        r.1.emit (.instrument true ((r.2.map (·.1)).headD 0))
      | _, some b => s.emit (.instrument true b)
      | _, none =>
        let r := s.freeByte
        r.1.emit (.instrument true r.2))

end Sys2Proof.Machine
end

