-- ==== Sys2Proof/Machine/Dispatch.lean ====
section
/-! DEFINITION. exec: one arm per command, each one direct call of its meaning. -/

namespace Sys2Proof.Machine

/-- The effect of a command on everything but the queue. -/
def exec (i : Instr) (s : State) : Host.Outcome State Fault Refusal :=
  match i with
  | .lit d imm => Sys2Proof.Machine.execLit d imm s
  | .ext d imm => Sys2Proof.Machine.execExt d imm s
  | .dup d => Sys2Proof.Machine.execDup d s
  | .drop d => Sys2Proof.Machine.execDrop d s
  | .swap d => Sys2Proof.Machine.execSwap d s
  | .over d => Sys2Proof.Machine.execOver d s
  | .rot d => Sys2Proof.Machine.execRot d s
  | .nip d => Sys2Proof.Machine.execNip d s
  | .tuck d => Sys2Proof.Machine.execTuck d s
  | .pick d => Sys2Proof.Machine.execPick d s
  | .tor d => Sys2Proof.Machine.execTor d s
  | .fromr d => Sys2Proof.Machine.execFromr d s
  | .rfetch d => Sys2Proof.Machine.execRfetch d s
  | .depth d => Sys2Proof.Machine.execDepth d s
  | .add d => Sys2Proof.Machine.execAdd d s
  | .sub d => Sys2Proof.Machine.execSub d s
  | .mul d => Sys2Proof.Machine.execMul d s
  | .mulhs d => Sys2Proof.Machine.execMulhs d s
  | .mulhu d => Sys2Proof.Machine.execMulhu d s
  | .divs d => Sys2Proof.Machine.execDivs d s
  | .divu d => Sys2Proof.Machine.execDivu d s
  | .rems d => Sys2Proof.Machine.execRems d s
  | .remu d => Sys2Proof.Machine.execRemu d s
  | .neg d => Sys2Proof.Machine.execNeg d s
  | .band d => Sys2Proof.Machine.execBand d s
  | .bor d => Sys2Proof.Machine.execBor d s
  | .bxor d => Sys2Proof.Machine.execBxor d s
  | .bnot d => Sys2Proof.Machine.execBnot d s
  | .shl d => Sys2Proof.Machine.execShl d s
  | .shr d => Sys2Proof.Machine.execShr d s
  | .sar d => Sys2Proof.Machine.execSar d s
  | .eq d => Sys2Proof.Machine.execEq d s
  | .ne d => Sys2Proof.Machine.execNe d s
  | .lts d => Sys2Proof.Machine.execLts d s
  | .ltu d => Sys2Proof.Machine.execLtu d s
  | .les d => Sys2Proof.Machine.execLes d s
  | .leu d => Sys2Proof.Machine.execLeu d s
  | .eqz d => Sys2Proof.Machine.execEqz d s
  | .sel d => Sys2Proof.Machine.execSel d s
  | .fadd d => Sys2Proof.Machine.execFadd d s
  | .fsub d => Sys2Proof.Machine.execFsub d s
  | .fmul d => Sys2Proof.Machine.execFmul d s
  | .fdiv d => Sys2Proof.Machine.execFdiv d s
  | .fmax d => Sys2Proof.Machine.execFmax d s
  | .fmin d => Sys2Proof.Machine.execFmin d s
  | .fsqrt d => Sys2Proof.Machine.execFsqrt d s
  | .flt d => Sys2Proof.Machine.execFlt d s
  | .fle d => Sys2Proof.Machine.execFle d s
  | .feq d => Sys2Proof.Machine.execFeq d s
  | .cvtif d => Sys2Proof.Machine.execCvtif d s
  | .cvtfi d => Sys2Proof.Machine.execCvtfi d s
  | .ld8u d => Sys2Proof.Machine.execLd8u d s
  | .ld8s d => Sys2Proof.Machine.execLd8s d s
  | .ld16u d => Sys2Proof.Machine.execLd16u d s
  | .ld16s d => Sys2Proof.Machine.execLd16s d s
  | .ld32u d => Sys2Proof.Machine.execLd32u d s
  | .ld32s d => Sys2Proof.Machine.execLd32s d s
  | .ld64 d => Sys2Proof.Machine.execLd64 d s
  | .st8 d => Sys2Proof.Machine.execSt8 d s
  | .st16 d => Sys2Proof.Machine.execSt16 d s
  | .st32 d => Sys2Proof.Machine.execSt32 d s
  | .st64 d => Sys2Proof.Machine.execSt64 d s
  | .lld8u d => Sys2Proof.Machine.execLld8u d s
  | .lld8s d => Sys2Proof.Machine.execLld8s d s
  | .lld16u d => Sys2Proof.Machine.execLld16u d s
  | .lld16s d => Sys2Proof.Machine.execLld16s d s
  | .lld32u d => Sys2Proof.Machine.execLld32u d s
  | .lld32s d => Sys2Proof.Machine.execLld32s d s
  | .lld64 d => Sys2Proof.Machine.execLld64 d s
  | .lst8 d => Sys2Proof.Machine.execLst8 d s
  | .lst16 d => Sys2Proof.Machine.execLst16 d s
  | .lst32 d => Sys2Proof.Machine.execLst32 d s
  | .lst64 d => Sys2Proof.Machine.execLst64 d s
  | .lldi d imm => Sys2Proof.Machine.execLldi d imm s
  | .lsti d imm => Sys2Proof.Machine.execLsti d imm s
  | .brz d imm => Sys2Proof.Machine.execBrz d imm s
  | .call d imm => Sys2Proof.Machine.execCall d imm s
  | .loop d imm => Sys2Proof.Machine.execLoop d imm s
  | .mxq d => Sys2Proof.Machine.execMxq d s
  | .seqEnq d => Sys2Proof.Machine.execSeqEnq d s
  | .qwait d => Sys2Proof.Machine.execQwait d s
  | .qtest d => Sys2Proof.Machine.execQtest d s
  | .ret d => Sys2Proof.Machine.execRet d s
  | .rte d => Sys2Proof.Machine.execRte d s
  | .jmpi d => Sys2Proof.Machine.execJmpi d s
  | .calli d => Sys2Proof.Machine.execCalli d s
  | .lexit d => Sys2Proof.Machine.execLexit d s
  | .lcnt d => Sys2Proof.Machine.execLcnt d s
  | .moder d => Sys2Proof.Machine.execModer d s
  | .modew d => Sys2Proof.Machine.execModew d s
  | .dcinv d => Sys2Proof.Machine.execDcinv d s
  | .dcinvl d => Sys2Proof.Machine.execDcinvl d s
  | .icinv d => Sys2Proof.Machine.execIcinv d s
  | .fence d => Sys2Proof.Machine.execFence d s
  | .atw d => Sys2Proof.Machine.execAtw d s
  | .atwc d => Sys2Proof.Machine.execAtwc d s
  | .ecall d => Sys2Proof.Machine.execEcall d s
  | .wfi d => Sys2Proof.Machine.execWfi d s
  | .kend d => Sys2Proof.Machine.execKend d s
  | .nop d => Sys2Proof.Machine.execNop d s
  | .illegalInstr d imm => Sys2Proof.Machine.execIllegalInstr d imm s
  | .vadd d => Sys2Proof.Machine.execVadd d s
  | .vsub d => Sys2Proof.Machine.execVsub d s
  | .vmul d => Sys2Proof.Machine.execVmul d s
  | .vdiv d => Sys2Proof.Machine.execVdiv d s
  | .vmax d => Sys2Proof.Machine.execVmax d s
  | .vmin d => Sys2Proof.Machine.execVmin d s
  | .vfma d => Sys2Proof.Machine.execVfma d s
  | .vadds d => Sys2Proof.Machine.execVadds d s
  | .vmuls d => Sys2Proof.Machine.execVmuls d s
  | .vmaxs d => Sys2Proof.Machine.execVmaxs d s
  | .vmins d => Sys2Proof.Machine.execVmins d s
  | .vabs d => Sys2Proof.Machine.execVabs d s
  | .vneg d => Sys2Proof.Machine.execVneg d s
  | .vsqrt d => Sys2Proof.Machine.execVsqrt d s
  | .vrsqrt d => Sys2Proof.Machine.execVrsqrt d s
  | .vexp d => Sys2Proof.Machine.execVexp d s
  | .vlog d => Sys2Proof.Machine.execVlog d s
  | .vtanh d => Sys2Proof.Machine.execVtanh d s
  | .vsig d => Sys2Proof.Machine.execVsig d s
  | .vcmpEq d => Sys2Proof.Machine.execVcmpEq d s
  | .vcmpNe d => Sys2Proof.Machine.execVcmpNe d s
  | .vcmpLt d => Sys2Proof.Machine.execVcmpLt d s
  | .vcmpLe d => Sys2Proof.Machine.execVcmpLe d s
  | .vcmpGt d => Sys2Proof.Machine.execVcmpGt d s
  | .vcmpGe d => Sys2Proof.Machine.execVcmpGe d s
  | .vmand d => Sys2Proof.Machine.execVmand d s
  | .vmor d => Sys2Proof.Machine.execVmor d s
  | .vmxor d => Sys2Proof.Machine.execVmxor d s
  | .vmandn d => Sys2Proof.Machine.execVmandn d s
  | .vmset d => Sys2Proof.Machine.execVmset d s
  | .vcvt d => Sys2Proof.Machine.execVcvt d s
  | .vqmx d => Sys2Proof.Machine.execVqmx d s
  | .vsetvl d => Sys2Proof.Machine.execVsetvl d s
  | .vgetvl d => Sys2Proof.Machine.execVgetvl d s
  | .vchain d => Sys2Proof.Machine.execVchain d s
  | .vld d => Sys2Proof.Machine.execVld d s
  | .vst d => Sys2Proof.Machine.execVst d s
  | .vlds d => Sys2Proof.Machine.execVlds d s
  | .vsts d => Sys2Proof.Machine.execVsts d s
  | .vgather d => Sys2Proof.Machine.execVgather d s
  | .vscatter d => Sys2Proof.Machine.execVscatter d s
  | .vldff d => Sys2Proof.Machine.execVldff d s
  | .vgatherff d => Sys2Proof.Machine.execVgatherff d s
  | .vocld d => Sys2Proof.Machine.execVocld d s
  | .vocst d => Sys2Proof.Machine.execVocst d s
  | .ocfill d => Sys2Proof.Machine.execOcfill d s
  | .ocbind d => Sys2Proof.Machine.execOcbind d s
  | .ocwb d => Sys2Proof.Machine.execOcwb d s
  | .ocevict d => Sys2Proof.Machine.execOcevict d s
  | .ocsync d => Sys2Proof.Machine.execOcsync d s
  | .vfold d => Sys2Proof.Machine.execVfold d s
  | .vswadd d => Sys2Proof.Machine.execVswadd d s
  | .vswrd d => Sys2Proof.Machine.execVswrd d s
  | .vswrdc d => Sys2Proof.Machine.execVswrdc d s
  | .vrsum d => Sys2Proof.Machine.execVrsum d s
  | .vrprod d => Sys2Proof.Machine.execVrprod d s
  | .vrmax d => Sys2Proof.Machine.execVrmax d s
  | .vrmin d => Sys2Proof.Machine.execVrmin d s
  | .vcount d => Sys2Proof.Machine.execVcount d s
  | .vany d => Sys2Proof.Machine.execVany d s
  | .vall d => Sys2Proof.Machine.execVall d s
  | .vfirst d => Sys2Proof.Machine.execVfirst d s
  | .vrsw d => Sys2Proof.Machine.execVrsw d s
  | .resultFill d => Sys2Proof.Machine.execResultFill d s
  | .reductionResult d => Sys2Proof.Machine.execReductionResult d s
  | .stackRefill d ret => Sys2Proof.Machine.execStackRefill d ret s
  | .dcacheFill d line => Sys2Proof.Machine.execDcacheFill d line s
  | .icacheFill d line => Sys2Proof.Machine.execIcacheFill d line s
  | .controlLoadReturn d => Sys2Proof.Machine.execControlLoadReturn d s
  | .storeAck d => Sys2Proof.Machine.execStoreAck d s
  | .vectorLoadArrive d => Sys2Proof.Machine.execVectorLoadArrive d s
  | .ocFillDone d line => Sys2Proof.Machine.execOcFillDone d line s
  | .ocWritebackAck d line => Sys2Proof.Machine.execOcWritebackAck d line s
  | .exceptionEntry d => Sys2Proof.Machine.execExceptionEntry d s
  | .atomicWindowExpire d => Sys2Proof.Machine.execAtomicWindowExpire d s
  | .wfiWake d => Sys2Proof.Machine.execWfiWake d s
  | .abortTimeout d => Sys2Proof.Machine.execAbortTimeout d s
  | .softPost d v => Sys2Proof.Machine.execSoftPost d v s
  | .ticketEnqueue d t => Sys2Proof.Machine.execTicketEnqueue d t s
  | .ticketComplete d t => Sys2Proof.Machine.execTicketComplete d t s
  | .mxMatmul c => Sys2Proof.Machine.execMxMatmul c s
  | .mxExtAlone c => Sys2Proof.Machine.execMxExtAlone c s
  | .mxRowEnter c => Sys2Proof.Machine.execMxRowEnter c s
  | .mxPassBoundary c => Sys2Proof.Machine.execMxPassBoundary c s
  | .windrowCompare c col colErr chkErr => Sys2Proof.Machine.execWindrowCompare c col colErr chkErr s
  | .windrowVote c col1 err1 col2 err2 chkErr => Sys2Proof.Machine.execWindrowVote c col1 err1 col2 err2 chkErr s
  | .mxTileDrainDone c => Sys2Proof.Machine.execMxTileDrainDone c s
  | .mxCommandEnd c => Sys2Proof.Machine.execMxCommandEnd c s
  | .fadd32 p a x en psn => Sys2Proof.Machine.execFadd32 p a x en psn s
  | .fadd64 p a x en psn => Sys2Proof.Machine.execFadd64 p a x en psn s
  | .iadd64 p a x en psn => Sys2Proof.Machine.execIadd64 p a x en psn s
  | .swaddF64 p a buf x psn => Sys2Proof.Machine.execSwaddF64 p a buf x psn s
  | .swaddF32 p a buf x psn => Sys2Proof.Machine.execSwaddF32 p a buf x psn s
  | .swaddBf16 p a buf x psn => Sys2Proof.Machine.execSwaddBf16 p a buf x psn s
  | .swaddCell p a buf x anchor psn => Sys2Proof.Machine.execSwaddCell p a buf x anchor psn s
  | .swrd p a buf => Sys2Proof.Machine.execSwrd p a buf s
  | .swrdClr p a buf => Sys2Proof.Machine.execSwrdClr p a buf s
  | .registerWrite ag a size v => Sys2Proof.Machine.execRegisterWrite ag a size v s
  | .rgnArm p n v => Sys2Proof.Machine.execRgnArm p n v s
  | .rgnArmDone p n => Sys2Proof.Machine.execRgnArmDone p n s
  | .rgnDisarm p n => Sys2Proof.Machine.execRgnDisarm p n s
  | .rgnDisarmDone p n => Sys2Proof.Machine.execRgnDisarmDone p n s
  | .sbArm p n v => Sys2Proof.Machine.execSbArm p n v s
  | .sbArmDone p n => Sys2Proof.Machine.execSbArmDone p n s
  | .sbDisarm p n => Sys2Proof.Machine.execSbDisarm p n s
  | .winArm p w v => Sys2Proof.Machine.execWinArm p w v s
  | .winArmDone p w => Sys2Proof.Machine.execWinArmDone p w s
  | .winDisarm p w => Sys2Proof.Machine.execWinDisarm p w s
  | .b2WinArm p n v => Sys2Proof.Machine.execB2WinArm p n v s
  | .b2WinArmDone p n => Sys2Proof.Machine.execB2WinArmDone p n s
  | .b2WinDisarm p n => Sys2Proof.Machine.execB2WinDisarm p n s
  | .scrubRead r => Sys2Proof.Machine.execScrubRead r s
  | .correctedWriteback r => Sys2Proof.Machine.execCorrectedWriteback r s
  | .spareCopyDone b row => Sys2Proof.Machine.execSpareCopyDone b row s
  | .granuleCopyDone g => Sys2Proof.Machine.execGranuleCopyDone g s
  | .pprDone r => Sys2Proof.Machine.execPprDone r s
  | .pprTimeout r => Sys2Proof.Machine.execPprTimeout r s
  | .ddrGranuleCopyDone g => Sys2Proof.Machine.execDdrGranuleCopyDone g s
  | .repairRecordWrite => Sys2Proof.Machine.execRepairRecordWrite s
  | .beatReplay c a ok => Sys2Proof.Machine.execBeatReplay c a ok s
  | .bondErased c grp => Sys2Proof.Machine.execBondErased c grp s
  | .d2dLaneRepaired grp ok => Sys2Proof.Machine.execD2dLaneRepaired grp ok s
  | .ddrRefresh k bank => Sys2Proof.Machine.execDdrRefresh k bank s
  | .ddrTempRead pkg degC => Sys2Proof.Machine.execDdrTempRead pkg degC s
  | .ddrRetrainStep k => Sys2Proof.Machine.execDdrRetrainStep k s
  | .channelScan => Sys2Proof.Machine.execChannelScan s
  | .channelAbortDone ch => Sys2Proof.Machine.execChannelAbortDone ch s
  | .commandRecordCopy ch => Sys2Proof.Machine.execCommandRecordCopy ch s
  | .commandDispatch ch => Sys2Proof.Machine.execCommandDispatch ch s
  | .kernelAccept id => Sys2Proof.Machine.execKernelAccept id s
  | .kernelStart id => Sys2Proof.Machine.execKernelStart id s
  | .kernelComplete id => Sys2Proof.Machine.execKernelComplete id s
  | .seList c => Sys2Proof.Machine.execSeList c s
  | .barArm id => Sys2Proof.Machine.execBarArm id s
  | .nopCommand id => Sys2Proof.Machine.execNopCommand id s
  | .commandCompletion id => Sys2Proof.Machine.execCommandCompletion id s
  | .progressWatchdogExpire ch => Sys2Proof.Machine.execProgressWatchdogExpire ch s
  | .descriptorFetch c => Sys2Proof.Machine.execDescriptorFetch c s
  | .slotGrant c => Sys2Proof.Machine.execSlotGrant c s
  | .streamCopy c => Sys2Proof.Machine.execStreamCopy c s
  | .streamFill c => Sys2Proof.Machine.execStreamFill c s
  | .streamFold c => Sys2Proof.Machine.execStreamFold c s
  | .streamBcast c => Sys2Proof.Machine.execStreamBcast c s
  | .streamSwread c => Sys2Proof.Machine.execStreamSwread c s
  | .cvReread c => Sys2Proof.Machine.execCvReread c s
  | .descriptorDone c => Sys2Proof.Machine.execDescriptorDone c s
  | .movedNack c => Sys2Proof.Machine.execMovedNack c s
  | .staleNack c => Sys2Proof.Machine.execStaleNack c s
  | .hostReadFail id a => Sys2Proof.Machine.execHostReadFail id a s
  | .lkXfer id => Sys2Proof.Machine.execLkXfer id s
  | .lkColl id => Sys2Proof.Machine.execLkColl id s
  | .lkMcast id => Sys2Proof.Machine.execLkMcast id s
  | .lkVote id => Sys2Proof.Machine.execLkVote id s
  | .lkExpel id => Sys2Proof.Machine.execLkExpel id s
  | .linkContextGrant die => Sys2Proof.Machine.execLinkContextGrant die s
  | .remoteWriteFrame k f => Sys2Proof.Machine.execRemoteWriteFrame k f s
  | .remoteFoldFrame k f => Sys2Proof.Machine.execRemoteFoldFrame k f s
  | .readRequest k f => Sys2Proof.Machine.execReadRequest k f s
  | .readResponse k f => Sys2Proof.Machine.execReadResponse k f s
  | .collectiveFrame k f => Sys2Proof.Machine.execCollectiveFrame k f s
  | .voteFrame k f => Sys2Proof.Machine.execVoteFrame k f s
  | .ackFrame k f => Sys2Proof.Machine.execAckFrame k f s
  | .nackFrame k f => Sys2Proof.Machine.execNackFrame k f s
  | .noticeFrame k f => Sys2Proof.Machine.execNoticeFrame k f s
  | .abortFrame k f => Sys2Proof.Machine.execAbortFrame k f s
  | .keepaliveFrame k f => Sys2Proof.Machine.execKeepaliveFrame k f s
  | .helloExchange k node part => Sys2Proof.Machine.execHelloExchange k node part s
  | .ackTimer ref => Sys2Proof.Machine.execAckTimer ref s
  | .retransmissionTimeout ref => Sys2Proof.Machine.execRetransmissionTimeout ref s
  | .keepaliveSend ref => Sys2Proof.Machine.execKeepaliveSend ref s
  | .peerSilence ref => Sys2Proof.Machine.execPeerSilence ref s
  | .lagLimitExpire id m => Sys2Proof.Machine.execLagLimitExpire id m s
  | .noticeSend => Sys2Proof.Machine.execNoticeSend s
  | .pfcFrame k prio pause => Sys2Proof.Machine.execPfcFrame k prio pause s
  | .pfcWatchdog k prio => Sys2Proof.Machine.execPfcWatchdog k prio s
  | .linkDrops k => Sys2Proof.Machine.execLinkDrops k s
  | .partnerEntryWrite p ref => Sys2Proof.Machine.execPartnerEntryWrite p ref s
  | .partnerEntryRead p ref => Sys2Proof.Machine.execPartnerEntryRead p ref s
  | .expelPartner p ref => Sys2Proof.Machine.execExpelPartner p ref s
  | .keyLoad p v => Sys2Proof.Machine.execKeyLoad p v s
  | .portEnable k => Sys2Proof.Machine.execPortEnable k s
  | .equaliserTrained k => Sys2Proof.Machine.execEqualiserTrained k s
  | .laneDeskewDone k => Sys2Proof.Machine.execLaneDeskewDone k s
  | .trainingTimeout k => Sys2Proof.Machine.execTrainingTimeout k s
  | .helloRetry k => Sys2Proof.Machine.execHelloRetry k s
  | .autoNegotiation k ok => Sys2Proof.Machine.execAutoNegotiation k ok s
  | .laneRecalTrigger k lane => Sys2Proof.Machine.execLaneRecalTrigger k lane s
  | .degradeFlit k => Sys2Proof.Machine.execDegradeFlit k s
  | .laneRecalDone k ok => Sys2Proof.Machine.execLaneRecalDone k ok s
  | .perstAssert p => Sys2Proof.Machine.execPerstAssert p s
  | .perstDeassert p => Sys2Proof.Machine.execPerstDeassert p s
  | .hotReset p => Sys2Proof.Machine.execHotReset p s
  | .dataLinkDown p => Sys2Proof.Machine.execDataLinkDown p s
  | .functionLevelReset p => Sys2Proof.Machine.execFunctionLevelReset p s
  | .vfFunctionLevelReset p n => Sys2Proof.Machine.execVfFunctionLevelReset p n s
  | .presetIdle p => Sys2Proof.Machine.execPresetIdle p s
  | .presetCleared p => Sys2Proof.Machine.execPresetCleared p s
  | .presetEraseDone p => Sys2Proof.Machine.execPresetEraseDone p s
  | .partitionResetFail p => Sys2Proof.Machine.execPartitionResetFail p s
  | .configRequest p q => Sys2Proof.Machine.execConfigRequest p q s
  | .d3hotEntry p n => Sys2Proof.Machine.execD3hotEntry p n s
  | .d0Return p n => Sys2Proof.Machine.execD0Return p n s
  | .bar2Read p o len => Sys2Proof.Machine.execBar2Read p o len s
  | .bar2Write p o data ep => Sys2Proof.Machine.execBar2Write p o data ep s
  | .ideKm p st => Sys2Proof.Machine.execIdeKm p st s
  | .ideInsecure p st => Sys2Proof.Machine.execIdeInsecure p st s
  | .spdmRequest p q => Sys2Proof.Machine.execSpdmRequest p q s
  | .getId p => Sys2Proof.Machine.execGetId p s
  | .attest p => Sys2Proof.Machine.execAttest p s
  | .imageBegin p => Sys2Proof.Machine.execImageBegin p s
  | .imageWrite p => Sys2Proof.Machine.execImageWrite p s
  | .imageCommit p => Sys2Proof.Machine.execImageCommit p s
  | .imageApply p => Sys2Proof.Machine.execImageApply p s
  | .policyQuiesceApply => Sys2Proof.Machine.execPolicyQuiesceApply s
  | .monitorInPlace c => Sys2Proof.Machine.execMonitorInPlace c s
  | .plannedSwitchover => Sys2Proof.Machine.execPlannedSwitchover s
  | .applyComplete => Sys2Proof.Machine.execApplyComplete s
  | .mailboxResponse p => Sys2Proof.Machine.execMailboxResponse p s
  | .tokenDebug p => Sys2Proof.Machine.execTokenDebug p s
  | .tokenRelease p => Sys2Proof.Machine.execTokenRelease p s
  | .tokenVendorReturn p => Sys2Proof.Machine.execTokenVendorReturn p s
  | .tokenProvision p => Sys2Proof.Machine.execTokenProvision p s
  | .tokenScrap p => Sys2Proof.Machine.execTokenScrap p s
  | .tokenSvn p => Sys2Proof.Machine.execTokenSvn p s
  | .tokenRevoke p => Sys2Proof.Machine.execTokenRevoke p s
  | .retArmExpire => Sys2Proof.Machine.execRetArmExpire s
  | .debugExpire => Sys2Proof.Machine.execDebugExpire s
  | .debugHaltRequest d => Sys2Proof.Machine.execDebugHaltRequest d s
  | .lifecycleReset => Sys2Proof.Machine.execLifecycleReset s
  | .entdaa da => Sys2Proof.Machine.execEntdaa da s
  | .setdasa sa da => Sys2Proof.Machine.execSetdasa sa da s
  | .mctpControl cmd eid => Sys2Proof.Machine.execMctpControl cmd eid s
  | .getTid => Sys2Proof.Machine.execGetTid s
  | .getPldmVersion => Sys2Proof.Machine.execGetPldmVersion s
  | .getPldmTypes => Sys2Proof.Machine.execGetPldmTypes s
  | .getPldmCommands => Sys2Proof.Machine.execGetPldmCommands s
  | .getPdrRepositoryInfo => Sys2Proof.Machine.execGetPdrRepositoryInfo s
  | .getPdr h => Sys2Proof.Machine.execGetPdr h s
  | .getSensorReading id => Sys2Proof.Machine.execGetSensorReading id s
  | .getStateSensorReadings id => Sys2Proof.Machine.execGetStateSensorReadings id s
  | .sensorRefresh rd => Sys2Proof.Machine.execSensorRefresh rd s
  | .mgmtStatus => Sys2Proof.Machine.execMgmtStatus s
  | .mgmtLogRead sq n => Sys2Proof.Machine.execMgmtLogRead sq n s
  | .mgmtLogAck sq => Sys2Proof.Machine.execMgmtLogAck sq s
  | .rotSuspend => Sys2Proof.Machine.execRotSuspend s
  | .rotResume => Sys2Proof.Machine.execRotResume s
  | .pvAck p v => Sys2Proof.Machine.execPvAck p v s
  | .lockstepMismatch active => Sys2Proof.Machine.execLockstepMismatch active s
  | .standbyTakeover => Sys2Proof.Machine.execStandbyTakeover s
  | .clockFault clk => Sys2Proof.Machine.execClockFault clk s
  | .supplyFault rail => Sys2Proof.Machine.execSupplyFault rail s
  | .recoveryActionStart => Sys2Proof.Machine.execRecoveryActionStart s
  | .clusterDue c => Sys2Proof.Machine.execClusterDue c s
  | .clusterBorrowed c => Sys2Proof.Machine.execClusterBorrowed c s
  | .migrationStart c => Sys2Proof.Machine.execMigrationStart c s
  | .migrationDone c => Sys2Proof.Machine.execMigrationDone c s
  | .migrationHoldRelease c => Sys2Proof.Machine.execMigrationHoldRelease c s
  | .migrationRetry c => Sys2Proof.Machine.execMigrationRetry c s
  | .testKernelDone ph agrees last => Sys2Proof.Machine.execTestKernelDone ph agrees last s
  | .clusterReplace c => Sys2Proof.Machine.execClusterReplace c s
  | .rotationRecordWrite ph => Sys2Proof.Machine.execRotationRecordWrite ph s
  | .powerSample watts => Sys2Proof.Machine.execPowerSample watts s
  | .dividerSwitch => Sys2Proof.Machine.execDividerSwitch s
  | .admissionResume => Sys2Proof.Machine.execAdmissionResume s
  | .thermalSample degC => Sys2Proof.Machine.execThermalSample degC s
  | .thermalStopEnd => Sys2Proof.Machine.execThermalStopEnd s
  | .enRise => Sys2Proof.Machine.execEnRise s
  | .enFall => Sys2Proof.Machine.execEnFall s
  | .vinOutOfRange dv => Sys2Proof.Machine.execVinOutOfRange dv s
  | .powerUpRestart => Sys2Proof.Machine.execPowerUpRestart s
  | .powerGood straps => Sys2Proof.Machine.execPowerGood straps s
  | .sysRstNAssert => Sys2Proof.Machine.execSysRstNAssert s
  | .sysRstNDeassert => Sys2Proof.Machine.execSysRstNDeassert s
  | .bootRom iaOk ibOk => Sys2Proof.Machine.execBootRom iaOk ibOk s
  | .bootImage => Sys2Proof.Machine.execBootImage s
  | .bootInit => Sys2Proof.Machine.execBootInit s
  | .bootMemory ms => Sys2Proof.Machine.execBootMemory ms s
  | .psecWrite => Sys2Proof.Machine.execPsecWrite s
  | .jtagBypass => Sys2Proof.Machine.execJtagBypass s
  | .jtagIdcode => Sys2Proof.Machine.execJtagIdcode s
  | .jtagSamplePreload => Sys2Proof.Machine.execJtagSamplePreload s
  | .jtagExtest => Sys2Proof.Machine.execJtagExtest s
  | .jtagClamp => Sys2Proof.Machine.execJtagClamp s
  | .portConfigReady p => Sys2Proof.Machine.execPortConfigReady p s
  | .pcieLinkUp p speed width => Sys2Proof.Machine.execPcieLinkUp p speed width s
  | .vin48InRange => Sys2Proof.Machine.execVin48InRange s
  | .instrumentAccess q => Sys2Proof.Machine.execInstrumentAccess q s

end Sys2Proof.Machine
end

