-- ==== Sys2Proof/Machine/Tick.lean ====
section
/-! DEFINITION. What one cycle of the supervisor clock does when no command waits (log entry 11). -/

namespace Sys2Proof.Machine

/-- The ac cycles of one sc cycle at the divider in force, with the remainder carried: 32 root cycles make one sc, and the
divider counts root cycles to one ac (R7, R405, Table 0.1). -/
def State.acStep (s : State) : Nat := (s.acRem + 32) / (max 1 s.power.div)

/-- An open window's remaining count after n ac; its expiry is a command of its own (R219). -/
def Core.winTick (k : Core) (n : Nat) : Core := if k.winOpen then { k with winRem := max 1 (k.winRem - n) } else k

/-- The clocks count: `HW.SC_COUNT` and the ac count, and once every 333,333,333 sc the powered seconds (R8, R30, R416). -/
def State.idle (s : State) : State :=
  if !s.power.pwrGood then s
  else
  let n := s.acStep
  let s1 := s.setReg (aHW + 8) (w64 (s.sc + 1))
  let t := { s1 with acCount := s.acCount + n, acRem := (s.acRem + 32) % (max 1 s.power.div),
                     cores := s.cores.map fun q => (q.1, q.2.winTick n) }
  if (s.sc + 1) % 333333333 = 0 then
    { t with psec := t.psec + 1, life := { t.life with dbgSecs := t.life.dbgSecs - 1 } }
  else t

end Sys2Proof.Machine
end

