-- ==== Sys2Proof/Safety.lean ====
section
/-! DEFINITION. What a safe run is, and the canonical form that sparse data keeps. -/

namespace Sys2Proof.Machine

/-- The state after n steps, where every one of them answers a next state. -/
def runs : Nat → State → Option State
  | 0, s => some s
  | n + 1, s =>
    match step s with
    | .next t => runs n t
    | .fault _ => none
    | .refused _ => none

/-- A run of n steps from s meets no fault and no refusal. -/
def SafeRun (n : Nat) (s : State) : Prop := (runs n s).isSome = true

/-! ### When an instruction of a core issues -/

/-- The state once core d's instruction has been fetched (R185). -/
abbrev State.fetched (s : State) (d : Nat) : State := (fetch s d).1

/-- The instruction at core d's pc issues: the core runs and no divider change holds issue; R200 lets in no interrupt first;
the instruction can be fetched, its word is not poisoned, and it may stand where it stands (R174, R180). -/
abbrev Issues (s : State) (d : Nat) (pl : Place) : Prop :=
  s.issuing d = true ∧ ((s.core d).slot.isSome = true ∨ (s.core d).admitted = none)
    ∧ s.canFetch d (s.core d).pc = true ∧ (fetch s d).2 = false ∧ ((s.fetched d).core d).misplaced pl = none

/-- A core with further entries on its data stack, the last of the list on top. -/
def Core.stacked (k : Core) (l : List Entry) : Core := { k with ds := l.reverse ++ k.ds }

/-- Core d's data stack has n entries; l lists them, the top one last, and k is the core without them (R158, R162). -/
abbrev Pops (s : State) (d n : Nat) (l : List Entry) (k : Core) : Prop :=
  ((s.fetched d).core d).need n = .ok (k.stacked l) ∧ l.length = n

/-- A transfer of core d to a target has executed: its slot is next (R173). -/
def State.transfer (s : State) (d target : Nat) : State := s.setCore d ((s.core d).transfer target)

/-- A vector instruction of n operands issues: they stand on the stack, none that ctl names is poisoned, and no paired
comparison of it mismatches (R154, R158). -/
abbrev VecIssues (s : State) (d n : Nat) (ctl : Nat → Bool) (l : List Entry) (k : Core) : Prop :=
  Issues s d .plain ∧ Pops s d n l k ∧ (l.zipIdx.any fun q => ctl q.2 && q.1.psn) = false
    ∧ ((s.fetched d).core d).pairMiss = false

/-- A vector instruction of core d completes with core k; an interrupt request that came meanwhile stays. -/
def State.completes (s : State) (d : Nat) (k : Core) : State :=
  (s.setCore d { k with hwPend := (s.core d).hwPend, abortPend := (s.core d).abortPend }).retire d

/-- The active elements of a group set to f of their index, with the flags that f raises, and poisoned where psn says. -/
def Core.mapped (k : Core) (g : Grp) (f : Nat → Nat × Fl) (psn : Nat → Bool) : Core :=
  (k.putGroup g (k.active g) fun e => ((f e).1, psn e)).raise ((k.actives g).foldl (fun (x : Fl) e => x ||| (f e).2) 0)

/-! ### Vector memory accesses -/

/-- A vector load of core d completes: the elements act of group g hold what their places in memory held, from their bit on, with
its poison; one more vector load has yet to arrive (R132), and `VX.VL` is vl. -/
def State.vecLoaded (s : State) (d : Nat) (k : Core) (g : Grp) (act : List Nat) (place : Nat → Nat × Nat) (bit : Nat → Nat)
    (vl : W64) : State :=
  let r := readRuns s (s.dieOf (d / 8)) (runsOf (act.map place))
  let k1 := k.putGroup g (fun e => act.contains e) fun e =>
    let b := fromRuns r.2 (place e).1 (place e).2
    (pbNat b / 2 ^ bit e % 2 ^ fmtBits g.fmt, pbPsn b)
  r.1.completes d { k1 with vloadsOut := k1.vloadsOut + 1, vxVl := vl }

/-- Instruction i, which loads group g of core k from the places of its active elements, loads them all where none faults; where
one does, a first-fault form loads those below it, unless it is the first, and any other form takes the fault (R129-R131). -/
def VecLoads (i : Instr) (op : BitVec 16) (s : State) (d : Nat) (k : Core) (g : Grp) (ff : Bool) (place : Nat → Nat × Nat)
    (bit : Nat → Nat) : Prop :=
  let t := s.fetched d
  let act := k.actives g
  let flt := firstFault t d pR (decide (16 ≤ fmtBits g.fmt)) (act.map fun e => (e, place e))
  let calm := fun (l : List Nat) => ((readRuns t (t.dieOf (d / 8)) (runsOf (l.map place))).1.core d).pairMiss = false
  (flt = none → calm act → exec i s = .next (t.vecLoaded d k g act place bit k.vxVl))
  ∧ ∀ f, flt = some f →
      (ff = true → act.head? ≠ some f.1 → calm (act.filter (· < f.1)) →
        exec i s = .next (t.vecLoaded d k g (act.filter (· < f.1)) place bit (BitVec.ofNat 64 f.1)))
      ∧ (ff = false ∨ act.head? = some f.1 → exec i s = .next ((vecFault t d f.2.1 f.1 f.2.2.1 f.2.2.2).run d op))

/-- A vector store of core d completes: the writes land in order, joined where they adjoin, and are one unacknowledged store. -/
def State.vecStored (s : State) (d : Nat) (k : Core) (ws : List (Nat × List PB)) : State :=
  (vecWrite (s.setCore d k) d (joinWrites ws)).retire d

/-- Group g's active elements after the range test that its descriptor asks for (R152). -/
def Core.rangeTested (k : Core) (g : Grp) : Core :=
  if g.rchk then k.rangeTest ((k.actives g).map fun e => (e, decode g.fmt (k.el g e))) else k

/-- Instruction i, which stores group g of core k at the places of its active elements, makes the writes ws where none faults, and
takes the fault of the lowest that does otherwise (R130). -/
def VecStores (i : Instr) (op : BitVec 16) (s : State) (d : Nat) (k : Core) (g : Grp) (place : Nat → Nat × Nat)
    (ws : List (Nat × List PB)) : Prop :=
  let t := s.fetched d
  let flt := firstFault t d pW (decide (16 ≤ fmtBits g.fmt)) ((k.actives g).map fun e => (e, place e))
  (flt = none → exec i s = .next (t.vecStored d (k.rangeTested g) ws))
  ∧ ∀ f, flt = some f → exec i s = .next ((vecFault t d f.2.1 f.1 f.2.2.1 f.2.2.2).run d op)

/-! ### Canonical forms -/

/-- The canonical form of a sparse map whose unlisted keys read as d: keys strictly rising, none listed with d. -/
abbrev Canonical {α : Type} (d : α) (m : SMap α) : Prop :=
  m.Pairwise (fun x y => x.1 < y.1) ∧ ∀ q ∈ m, q.2 ≠ d

/-- The canonical form of a set of numbers: strictly rising. -/
abbrev Rising (l : List Nat) : Prop := l.Pairwise (· < ·)

/-- The canonical form of device memory: an unlisted byte reads 0 (R424), and the sets of poisoned words, of words that await
their write-back and of granules in error are rising. -/
abbrev Memory.wf (m : Mem) : Prop :=
  Canonical 0 m.bytes ∧ Rising m.psn ∧ Rising m.writeback ∧ Rising m.detected

end Sys2Proof.Machine
end

