-- ==== Sys2Proof/Certificates/Slice0/Obligations.lean ====
section
/-! DEFINITION. The statements about the model, for the provers. -/

open Sys2Proof Sys2Proof.Machine

/-! ### The queue -/

/-- A step with a command at the front of the queue is exec of it on the state with the queue's rest. -/
def Obligations.StepRunsFrontCommand : Prop :=
  ∀ (s : State) (c : Instr) (rest : List Instr), step { s with pending := c :: rest } = exec c { s with pending := rest }

/-- On an empty queue a step is one cycle of the service clock (log entry 11: the model's choice): while power is good
`HW.SC_COUNT` grows by one, the ac count by the cycles that 32 root cycles make at the divider in force, and the powered
seconds by one at each 333,333,333rd cycle; the queue, memory and the clusters stay. Without power nothing changes. -/
def Obligations.EmptyQueueTicks : Prop :=
  ∀ s : State, s.pending = [] →
    step s = .next s.idle
    ∧ (s.power.pwrGood = false → s.idle = s)
    ∧ (s.power.pwrGood = true →
        (s.regs.Pairwise (fun x y => x.1 < y.1) → s.idle.reg (aHW + 8) = w64 (s.sc + 1))
        ∧ s.idle.acCount = s.acCount + (s.acRem + 32) / max 1 s.power.div
        ∧ s.idle.acRem = (s.acRem + 32) % max 1 s.power.div
        ∧ s.idle.psec = s.psec + (if (s.sc + 1) % 333333333 = 0 then 1 else 0)
        ∧ s.idle.mem = s.mem ∧ s.idle.clusters = s.clusters ∧ s.idle.hw = s.hw ∧ s.idle.pending = [])

/-! ### The control core (chapter 6) -/

/-- The stack, integer, logic, shift and comparison instructions: n operands off the data stack, the top one last in the list,
and what the table says of them onto it; the core then goes on to its next instruction. A result with a latency is claimed. -/
def Obligations.StackInstructionResults : Prop :=
  (∀ row ∈ ([
      (.dup, 1, false, fun | [a] => [a, a] | _ => []),
      (.drop, 1, false, fun _ => []),
      (.swap, 2, false, fun | [a, b] => [b, a] | _ => []),
      (.over, 2, false, fun | [a, b] => [a, b, a] | _ => []),
      (.rot, 3, false, fun | [a, b, c] => [b, c, a] | _ => []),
      (.nip, 2, false, fun | [_, b] => [b] | _ => []),
      (.tuck, 2, false, fun | [a, b] => [b, a, b] | _ => []),
      (.add, 2, false, bin fun a b => a + b),
      (.sub, 2, false, bin fun a b => a - b),
      (.mul, 2, true, bin fun a b => a * b),
      (.mulhs, 2, true, bin fun a b => BitVec.ofInt 64 (a.toInt * b.toInt / 2 ^ 64)),
      (.mulhu, 2, true, bin fun a b => BitVec.ofNat 64 (a.toNat * b.toNat / 2 ^ 64)),
      (.divs, 2, true, bin fun a b => if b = 0 then 0 else BitVec.ofInt 64 (Int.tdiv a.toInt b.toInt)),
      (.divu, 2, true, bin fun a b => if b = 0 then 0 else BitVec.ofNat 64 (a.toNat / b.toNat)),
      (.rems, 2, true, bin fun a b => if b = 0 then a else BitVec.ofInt 64 (Int.tmod a.toInt b.toInt)),
      (.remu, 2, true, bin fun a b => if b = 0 then a else BitVec.ofNat 64 (a.toNat % b.toNat)),
      (.neg, 1, false, un fun a => -a),
      (.band, 2, false, bin fun a b => a &&& b),
      (.bor, 2, false, bin fun a b => a ||| b),
      (.bxor, 2, false, bin fun a b => a ^^^ b),
      (.bnot, 1, false, un fun a => ~~~a),
      (.eq, 2, false, bin fun a b => if a = b then 1 else 0),
      (.ne, 2, false, bin fun a b => if a ≠ b then 1 else 0),
      (.lts, 2, false, bin fun a b => if a.toInt < b.toInt then 1 else 0),
      (.ltu, 2, false, bin fun a b => if a.toNat < b.toNat then 1 else 0),
      (.les, 2, false, bin fun a b => if a.toInt ≤ b.toInt then 1 else 0),
      (.leu, 2, false, bin fun a b => if a.toNat ≤ b.toNat then 1 else 0),
      (.eqz, 1, false, un fun a => if a = 0 then 1 else 0)]
      : List ((Nat → Instr) × Nat × Bool × (List Entry → List Entry))),
    ∀ (s : State) (d : Nat) (l : List Entry) (k k' : Core), Issues s d .plain → Pops s d row.2.1 l k →
      k.pushAll (row.2.2.2 l) = .ok k' →
      exec (row.1 d) s = .next (((s.fetched d).setCore d (if row.2.2.1 then k'.claim else k')).retire d))
  ∧ (∀ (s : State) (d : Nat) (imm : BitVec 12) (k' : Core), Issues s d .plain →
      ((s.fetched d).core d).push ⟨imm.signExtend 64, false⟩ = .ok k' →
      exec (.lit d imm) s = .next (((s.fetched d).setCore d k').retire d))
  ∧ (∀ (s : State) (d : Nat) (imm : BitVec 12) (a : Entry) (k k' : Core), Issues s d .plain → Pops s d 1 [a] k →
      k.push ⟨a.val <<< 12 ||| imm.setWidth 64, a.psn⟩ = .ok k' →
      exec (.ext d imm) s = .next (((s.fetched d).setCore d k').retire d))

/-- Shifts go by their amount modulo 64, SEL chooses by its condition; a poisoned amount or condition is a DATA_POISON
exception. -/
def Obligations.ShiftAndSelectResults : Prop :=
  (∀ row ∈ ([(.shl, (fun a n => a <<< n), 0x2024), (.shr, (fun a n => a >>> n), 0x2025),
      (.sar, (fun a n => a.sshiftRight n), 0x2026)] : List ((Nat → Instr) × (W64 → Nat → W64) × BitVec 16)),
    ∀ (s : State) (d : Nat) (a n : Entry) (k k' : Core), Issues s d .plain → Pops s d 2 [a, n] k →
      (n.psn = false → k.push ⟨row.2.1 a.val (n.val.toNat % 64), a.psn⟩ = .ok k' →
        exec (row.1 d) s = .next (((s.fetched d).setCore d k').retire d))
      ∧ (n.psn = true → exec (row.1 d) s = .next (takeException (s.fetched d) d cDataPoison 0 row.2.2)))
  ∧ ∀ (s : State) (d : Nat) (a b f : Entry) (k k' : Core), Issues s d .plain → Pops s d 3 [a, b, f] k →
      (f.psn = false → k.push ⟨if f.val ≠ 0 then a.val else b.val, a.psn || b.psn⟩ = .ok k' →
        exec (.sel d) s = .next (((s.fetched d).setCore d k').retire d))
      ∧ (f.psn = true → exec (.sel d) s = .next (takeException (s.fetched d) d cDataPoison 0 0x2037))

/-- PICK copies the entry n places below its operand, TOR, FROMR and RFETCH move or copy between the stacks, DEPTH pushes the
depth before the push. -/
def Obligations.StackTransferResults : Prop :=
  (∀ (s : State) (d : Nat) (n x : Entry) (k k' : Core), Issues s d .plain → Pops s d 1 [n] k → n.psn = false →
      k.dsAt n.val.toNat = .ok x → k.push x = .ok k' →
      exec (.pick d) s = .next (((s.fetched d).setCore d k').retire d))
  ∧ (∀ (s : State) (d : Nat) (x : Entry) (k k' : Core), Issues s d .plain → Pops s d 1 [x] k → k.rsPush x = .ok k' →
      exec (.tor d) s = .next (((s.fetched d).setCore d k').retire d))
  ∧ (∀ (s : State) (d : Nat) (x : Entry) (k k' : Core), Issues s d .plain →
      ((s.fetched d).core d).rsNeed 1 = .ok { k with rs := x :: k.rs } →
      (k.push x = .ok k' → exec (.fromr d) s = .next (((s.fetched d).setCore d k').retire d))
      ∧ ({ k with rs := x :: k.rs }.push x = .ok k' →
          exec (.rfetch d) s = .next (((s.fetched d).setCore d k').retire d)))
  ∧ ∀ (s : State) (d : Nat) (k' : Core), Issues s d .plain →
      ((s.fetched d).core d).push ⟨BitVec.ofNat 64 ((s.fetched d).core d).dsDepth, false⟩ = .ok k' →
      exec (.depth d) s = .next (((s.fetched d).setCore d k').retire d)

/-- Too few entries, or a spilled word at or beyond LIMIT, is a STACK exception and the instruction changes nothing else. What
a push and a pop of the data stack do: a push onto a hardware stack with room changes nothing else; onto a full one it spills
the bottom entry to the next word of the spill region; at LIMIT it is refused with detail 1; popping more entries than there
are is refused with detail 0. -/
def Obligations.StackSpillsAndFaults : Prop :=
  (∀ row ∈ ([(.dup, 1, 0x2000), (.drop, 1, 0x2001), (.swap, 2, 0x2002), (.rot, 3, 0x2004), (.pick, 1, 0x2007), (.tor, 1, 0x2008),
      (.add, 2, 0x2010), (.divs, 2, 0x2015), (.shl, 2, 0x2024), (.sel, 3, 0x2037), (.fadd, 2, 0x2040), (.ld64, 1, 0x3006),
      (.st64, 2, 0x300B), (.lld64, 1, 0x3406), (.lst64, 2, 0x340B), (.mxq, 1, 0x9000), (.qwait, 1, 0x9010), (.vadd, 3, 0x7000),
      (.vld, 2, 0x8000), (.vst, 2, 0x8001), (.vrsum, 1, 0xB000)]
      : List ((Nat → Instr) × Nat × BitVec 16)),
    ∀ (s : State) (d e : Nat), Issues s d .plain → ((s.fetched d).core d).need row.2.1 = .error e →
      exec (row.1 d) s = .next (takeException (s.fetched d) d cStack e row.2.2))
  ∧ ((∀ (k : Core) (x : Entry), k.ds.length < 32 → k.push x = .ok { k with ds := x :: k.ds })
  ∧ (∀ (k : Core) (x : Entry), 32 ≤ k.ds.length → bndLimit k.ccDsBnd ≤ bndBase k.ccDsBnd + k.dsSpill → k.push x = .error 1)
  ∧ (∀ (k : Core) (x y : Entry) (l : List Entry), k.ds = l ++ [y] → l.length = 31 →
      bndBase k.ccDsBnd + k.dsSpill < bndLimit k.ccDsBnd →
      ∃ k', k.push x = .ok k' ∧ k'.ds = x :: l ∧ k'.dsSpill = k.dsSpill + 1
        ∧ (Canonical 0 k.lm → k'.lmEntry (bndBase k.ccDsBnd + k.dsSpill) = y)
        ∧ ∀ j, j < 8 * (bndBase k.ccDsBnd + k.dsSpill) ∨ 8 * (bndBase k.ccDsBnd + k.dsSpill) + 8 ≤ j →
            mget 0 k'.lm j = mget 0 k.lm j)
  ∧ ∀ (k : Core) (n : Nat), k.dsDepth < n → k.need n = .error 0)

/-- The FP64 instructions: the operation on the operands' patterns in the core's mode, its condition flags into `VX.STATUS`,
the result claimed and pushed with the operands' poison. The model's own choices in it: log entry 69. -/
def Obligations.FloatInstructionResults : Prop :=
  ∀ row ∈ ([
      (.fadd, 2, fun i l => addV i 0 (decode 0 (l.getD 0 0)) (decode 0 (l.getD 1 0))),
      (.fsub, 2, fun i l => subV i 0 (decode 0 (l.getD 0 0)) (decode 0 (l.getD 1 0))),
      (.fmul, 2, fun i l => mulV i 0 (decode 0 (l.getD 0 0)) (decode 0 (l.getD 1 0))),
      (.fdiv, 2, fun i l => divV i 0 (decode 0 (l.getD 0 0)) (decode 0 (l.getD 1 0))),
      (.fmax, 2, fun i l => maxMin true i 0 (l.getD 0 0) (l.getD 1 0)),
      (.fmin, 2, fun i l => maxMin false i 0 (l.getD 0 0) (l.getD 1 0)),
      (.fsqrt, 1, fun i l => sqrtV i 0 (decode 0 (l.getD 0 0))),
      (.flt, 2, fun i l => (b2n ((decode 0 (l.getD 0 0)).lt (decode 0 (l.getD 1 0))), cmpFl i (decode 0 (l.getD 0 0)) (decode 0 (l.getD 1 0)))),
      (.fle, 2, fun i l => (b2n ((decode 0 (l.getD 0 0)).le (decode 0 (l.getD 1 0))), cmpFl i (decode 0 (l.getD 0 0)) (decode 0 (l.getD 1 0)))),
      (.feq, 2, fun i l => (b2n ((decode 0 (l.getD 0 0)).eqv (decode 0 (l.getD 1 0))), cmpFl i (decode 0 (l.getD 0 0)) (decode 0 (l.getD 1 0)))),
      (.cvtif, 1, fun i l => convert 0 .arith i (decode 14 (l.getD 0 0))),
      (.cvtfi, 1, fun _ l => cvtfi (decode 0 (l.getD 0 0)))]
      : List ((Nat → Instr) × Nat × (Bool → List Nat → Nat × Fl))),
    ∀ (s : State) (d : Nat) (l : List Entry) (k k' : Core), Issues s d .plain → Pops s d row.2.1 l k →
      (k.raise (row.2.2 k.ieee (l.map fun x => x.val.toNat)).2).claim.push
        ⟨BitVec.ofNat 64 (row.2.2 k.ieee (l.map fun x => x.val.toNat)).1, l.any (·.psn)⟩ = .ok k' →
      exec (row.1 d) s = .next (((s.fetched d).setCore d k').retire d)

/-- Transfers: BRZ goes to pc + 2 + 2 × o where its condition is zero and past its slot where it is not, CALL and CALLI push
pc + 4, RET pops its target, JMPI and CALLI pop theirs and ignore bit 0; the slot at pc + 2 comes first. The model's own
choices in it: log entry 16. -/
def Obligations.TransferResults : Prop :=
  (∀ (s : State) (d : Nat) (o : BitVec 12) (c : Entry) (k : Core), Issues s d .noEnd → Pops s d 1 [c] k → c.psn = false →
      exec (.brz d o) s = .next (((s.fetched d).setCore d k).transfer d
        (if c.val = 0 then ((k.pc : Int) + 2 + 2 * o.toInt).toNat else k.pc + 4)))
  ∧ (∀ (s : State) (d : Nat) (o : BitVec 12) (k' : Core), Issues s d .noEnd →
      ((s.fetched d).core d).rsPush ⟨BitVec.ofNat 64 (((s.fetched d).core d).pc + 4), false⟩ = .ok k' →
      exec (.call d o) s = .next (((s.fetched d).setCore d k').transfer d
        ((((s.fetched d).core d).pc : Int) + 2 + 2 * o.toInt).toNat))
  ∧ (∀ (s : State) (d : Nat) (x : Entry) (k : Core), Issues s d .noEnd →
      ((s.fetched d).core d).rsNeed 1 = .ok { k with rs := x :: k.rs } → x.psn = false →
      exec (.ret d) s = .next (((s.fetched d).setCore d k).transfer d (x.val.toNat / 2 * 2)))
  ∧ (∀ (s : State) (d : Nat) (x : Entry) (k : Core), Issues s d .noEnd → Pops s d 1 [x] k → x.psn = false →
      exec (.jmpi d) s = .next (((s.fetched d).setCore d k).transfer d (x.val.toNat / 2 * 2)))
  ∧ ∀ (s : State) (d : Nat) (x : Entry) (k k' : Core), Issues s d .noEnd → Pops s d 1 [x] k → x.psn = false →
      k.rsPush ⟨BitVec.ofNat 64 (k.pc + 4), false⟩ = .ok k' →
      exec (.calli d) s = .next (((s.fetched d).setCore d k').transfer d (x.val.toNat / 2 * 2))

/-- Control passes: after a transfer the slot is next and the target after it; an instruction in a slot goes on to the target;
one at the innermost level's end address goes back to its start while its count is above 1, and closes the level where it is
1; any other goes on to the next. Nothing but pc, slot and loop levels changes. -/
def Obligations.ControlPassesAtRetirement : Prop :=
  (∀ (k : Core) (target : Nat), (k.transfer target) = { k with slot := some target, pc := k.pc + 2 })
  ∧ (∀ (k : Core) (t : Nat), k.slot = some t → k.retire = { k with pc := t, slot := none })
  ∧ (∀ k : Core, k.slot = none → k.loops = [] → k.retire = { k with pc := k.pc + 2 })
  ∧ (∀ (k : Core) (l : List LoopLevel) (x : LoopLevel), k.slot = none → k.loops = l ++ [x] → x.start + 2 * x.lenM1 ≠ k.pc →
      k.retire = { k with pc := k.pc + 2 })
  ∧ (∀ (k : Core) (l : List LoopLevel) (x : LoopLevel), k.slot = none → k.loops = l ++ [x] → x.start + 2 * x.lenM1 = k.pc →
      1 < x.count → k.retire = { k with pc := x.start, loops := l ++ [{ x with count := x.count - 1 }] })
  ∧ ∀ (k : Core) (l : List LoopLevel) (x : LoopLevel), k.slot = none → k.loops = l ++ [x] → x.start + 2 * x.lenM1 = k.pc →
      x.count ≤ 1 → k.retire = { k with loops := l }.retire

/-- LOOP opens a level over the next n instructions, skips them where the count is zero, LEXIT closes the innermost level,
LCNT pushes a level's count or 0. LOOP 0 is illegal, and so is a fifth level. -/
def Obligations.LoopInstructionResults : Prop :=
  (∀ (s : State) (d : Nat) (n : BitVec 12) (c : Entry) (k : Core), Issues s d .noEnd → n ≠ 0 → Pops s d 1 [c] k →
      c.psn = false → k.loops.length < 4 →
      exec (.loop d n) s = .next ((s.fetched d).setCore d
        (if c.val = 0 then { k with pc := k.pc + 2 * n.toNat + 2 }
         else { k with pc := k.pc + 2, loops := k.loops ++ [⟨k.pc + 2, n.toNat - 1, c.val.toNat⟩] })))
  ∧ (∀ (s : State) (d : Nat), Issues s d .noEnd →
      exec (.loop d 0) s = .next (takeException (s.fetched d) d cIllegal 0 0x6000))
  ∧ (∀ (s : State) (d : Nat) (n : BitVec 12) (c : Entry) (k : Core), Issues s d .noEnd → n ≠ 0 → Pops s d 1 [c] k →
      c.psn = false → 4 ≤ k.loops.length →
      exec (.loop d n) s = .next (takeException (s.fetched d) d cLoopDepth 0 (0x6000 ||| n.setWidth 16)))
  ∧ (∀ (s : State) (d : Nat), Issues s d .noSlot → ((s.fetched d).core d).loops = [] →
      exec (.lexit d) s = .next ((s.fetched d).setCore d
        { (s.fetched d).core d with pc := ((s.fetched d).core d).pc + 2 }))
  ∧ (∀ (s : State) (d : Nat) (l : List LoopLevel) (x : LoopLevel), Issues s d .noSlot → ((s.fetched d).core d).loops = l ++ [x] →
      (x.start + 2 * x.lenM1 = ((s.fetched d).core d).pc → exec (.lexit d) s = .next ((s.fetched d).setCore d
        { (s.fetched d).core d with loops := l, pc := ((s.fetched d).core d).pc + 2 }))
      ∧ (x.start + 2 * x.lenM1 ≠ ((s.fetched d).core d).pc → exec (.lexit d) s = .next (((s.fetched d).setCore d
        { (s.fetched d).core d with loops := l }).retire d)))
  ∧ ∀ (s : State) (d : Nat) (i : Entry) (k k' : Core), Issues s d .plain → Pops s d 1 [i] k → i.psn = false →
      k.push ⟨BitVec.ofNat 64 (((k.loops.reverse[i.val.toNat]?).map (·.count)).getD 0), false⟩ = .ok k' →
      exec (.lcnt d) s = .next (((s.fetched d).setCore d k').retire d)

/-- MODER pushes `CC.MODE`; MODEW writes its IE and DCE once everything earlier has completed, and changing IE at U is a
privilege exception; DCINV, DCINVL and ICINV empty what they name; FENCE waits for the stores; NOP only goes on. The model's
own choices in it: log entry 19. -/
def Obligations.ModeAndCacheResults : Prop :=
  (∀ (s : State) (d : Nat) (k' : Core), Issues s d .plain →
      ((s.fetched d).core d).push ⟨((s.fetched d).core d).mode, false⟩ = .ok k' →
      exec (.moder d) s = .next (((s.fetched d).setCore d k').retire d))
  ∧ (∀ (s : State) (d : Nat) (m : Entry) (k : Core), Issues s d .noSlot → Pops s d 1 [m] k → m.psn = false →
      (k.priv ≠ .U ∨ m.val.getLsbD 0 = k.ie →
        exec (.modew d) s = .next (((s.fetched d).setCore d
          { (k.stacked [m]).settle with ds := k.ds, ie := m.val.getLsbD 0, dce := m.val.getLsbD 1 }).retire d))
      ∧ (k.priv = .U → m.val.getLsbD 0 ≠ k.ie →
        exec (.modew d) s = .next (takeException (s.fetched d) d cPrivilege 0 0xA021)))
  ∧ (∀ (s : State) (d : Nat), Issues s d .plain →
      exec (.dcinv d) s = .next (((s.fetched d).setCore d
        { (s.fetched d).core d with misses := [], dcache := [] }).retire d)
      ∧ exec (.icinv d) s = .next (((s.fetched d).setCore d { (s.fetched d).core d with icache := [] }).retire d)
      ∧ exec (.fence d) s = .next (((s.fetched d).setCore d { (s.fetched d).core d with storesOut := 0 }).retire d)
      ∧ exec (.nop d) s = .next ((s.fetched d).retire d))
  ∧ ∀ (s : State) (d : Nat) (a : Entry) (k : Core), Issues s d .plain → Pops s d 1 [a] k → a.psn = false →
      exec (.dcinvl d) s = .next (((s.fetched d).setCore d
        { k with dcache := cacheDrop k.dcache a.val.toNat }).retire d)

/-- ATW opens a window of min(n, 1,024) ac, or shortens an open one, and sets CLAMP above 1,024; ATWC closes it; both are
privilege exceptions at U; a window whose count runs out closes and sets OVERRUN. The model's own choices in it: log entry 11.
-/
def Obligations.AtomicWindowResults : Prop :=
  (∀ (s : State) (d : Nat) (n : Entry) (k : Core), Issues s d .plain → Pops s d 1 [n] k → n.psn = false → k.priv ≠ .U →
      exec (.atw d) s = .next (((s.fetched d).setCore d
        (let m := min n.val.toNat 1024
         let r := if k.winOpen then min k.winRem m else m
         { k with winOpen := decide (r ≠ 0), winRem := r, winClamp := k.winClamp || decide (1024 < n.val.toNat) })).retire d))
  ∧ (∀ (s : State) (d : Nat), Issues s d .plain → ((s.fetched d).core d).priv ≠ .U →
      exec (.atwc d) s = .next (((s.fetched d).setCore d
        { (s.fetched d).core d with winOpen := false, winRem := 0 }).retire d))
  ∧ (∀ (s : State) (d : Nat), Issues s d .plain → ((s.fetched d).core d).priv = .U →
      exec (.atwc d) s = .next (takeException (s.fetched d) d cPrivilege 0 0xA041))
  ∧ ∀ (s : State) (d : Nat), (s.core d).winOpen = true →
      ∃ e, exec (.atomicWindowExpire d) s = .next (logUnit
        (s.setCore d { s.core d with winOpen := false, winRem := 0, winOverrun := true }) (s.dieOf (d / 8)) e 0)
        ∧ e.code = eWinOverrun ∧ e.lcluster = d / 8 ∧ e.addr = (s.core d).pc

/-- ECALL completes and is taken as a trap with the popped detail; an illegal instruction is a fault with its own bits in the
frame; WFI goes on where an interrupt is pending and waits where none is, and a pending one wakes it; KEND ends the core's
part. The model's own choices in it: log entries 46 and 53. -/
def Obligations.TrapWaitAndEndResults : Prop :=
  (∀ (s : State) (d : Nat) (x : Entry) (k : Core), Issues s d .plain → Pops s d 1 [x] k →
      exec (.ecall d) s = .next (takeException (((s.fetched d).setCore d k).retire d) d cEcall x.val.toNat 0xA050))
  ∧ (∀ (s : State) (d : Nat) (w : BitVec 16), Issues s d .plain →
      exec (.illegalInstr d w) s = .next (takeException (s.fetched d) d cIllegal 0 w))
  ∧ (∀ (s : State) (d : Nat), Issues s d .plain → ((s.fetched d).core d).priv ≠ .U →
      (((s.fetched d).core d).irqPending = true → exec (.wfi d) s = .next ((s.fetched d).retire d))
      ∧ (((s.fetched d).core d).irqPending = false →
          exec (.wfi d) s = .next ((s.fetched d).setCore d { (s.fetched d).core d with run := .waitIrq })))
  ∧ (∀ (s : State) (d : Nat), Issues s d .plain → ((s.fetched d).core d).priv = .U →
      exec (.wfi d) s = .next (takeException (s.fetched d) d cPrivilege 0 0xA060))
  ∧ (∀ (s : State) (d : Nat), (s.core d).run = .waitIrq → (s.core d).irqPending = true → s.power.holdIssue = false →
      exec (.wfiWake d) s = .next (((s.setCore d { s.core d with run := .running }).retire d).boundary d))
  ∧ ∀ (s : State) (d : Nat), Issues s d .noSlot →
      (((s.fetched d).core d).mFault = false → exec (.kend d) s = .next ((s.fetched d).setCore d ((s.fetched d).core d).kend))
      ∧ (((s.fetched d).core d).mFault = true → ∃ e, e.code = eMFault
          ∧ exec (.kend d) s = .next (logUnit ((s.fetched d).setCore d ((s.fetched d).core d).kend)
              ((s.fetched d).dieOf (d / 8)) e 0))
      ∧ ((s.fetched d).core d).kend.run = .idle
      ∧ (((s.fetched d).core d).priv = .U → ((s.fetched d).core d).kend.endStatus = some .ok)

/-- An interrupt that R200 lets in at the boundary is taken before the instruction, whatever the instruction is; a core that
does not run, or whose issue a divider change holds, is left alone. Exception entry with room on the return stack: the frame's
sixteen entries are pushed, E15 first, and the core starts at VBAR + 0x40 × c of the level, with IE clear, no loop level and
no window open, and the cause recorded. The model's own choices in it: log entries 5, 17, 19 and 47. -/
def Obligations.InterruptAndExceptionEntry : Prop :=
  (∀ (s : State) (d : Nat) (instr : BitVec 16) (pl : Place) (body : State → Body),
    (∀ x, s.issuing d = true → (s.core d).slot = none → (s.core d).admitted = some x →
      issue s d instr pl body = takeInterrupt s d x.1 x.2)
    ∧ (s.issuing d = false → issue s d instr pl body = s))
  ∧ (∀ (s : State) (d c detail : Nat) (instr : BitVec 16) (k' : Core),
    (s.core d).mfaActive = false →
    (s.core d).rsPushAll (((s.core d).frame c 0 detail (takenAt c (s.core d).priv) instr
      (s.acCount + Config.acSkew (d / 8))).reverse.map fun w => ⟨w, false⟩) = .ok k' →
    takeException s d c detail instr = s.setCore d
      { k' with
        run := .running
        pc := ((if takenAt c (s.core d).priv = .M then s.vbarM d (s.core d) else (s.core d).exVbarS.toNat) + 0x40 * c) % 2 ^ 48
        slot := none, priv := takenAt c (s.core d).priv, ie := false, loops := [], winOpen := false, winRem := 0
        claims := 0, redClaims := 0
        exLastCause := BitVec.ofNat 64 (c + (takenAt c (s.core d).priv).code * 2 ^ 8 + instr.toNat * 2 ^ 16)
        exLastDetail := BitVec.ofNat 64 detail })

/-- RTE restores what the frame holds: pc, slot and target, level, IE, DCE, loop levels and window are those at entry. The
model's own choices in it: log entry 5. -/
def Obligations.FrameRestoresContext : Prop :=
  ∀ (k k' : Core) (c mfa detail : Nat) (lvl : Priv) (instr : BitVec 16) (ac : Nat), let e := k.frame c mfa detail lvl instr ac
    k.pc < 2 ^ 48 → (∀ t, k.slot = some t → t < 2 ^ 48) → k.loops.length ≤ 4 →
    (∀ x ∈ k.loops, x.start < 2 ^ 48 ∧ x.lenM1 < 4096 ∧ x.count < 2 ^ 64) → k.winRem ≤ 1024 → (k.winOpen = false → k.winRem = 0) →
    c < 0x40 → mfa < 2 →
    e.length = 16 ∧ Priv.ofCode (fld (e.getD 2 0) 1 0) = some k.priv
    ∧ (k'.restore e k.priv).pc = k.pc ∧ (k'.restore e k.priv).slot = k.slot ∧ (k'.restore e k.priv).priv = k.priv
    ∧ (k'.restore e k.priv).ie = k.ie ∧ (k'.restore e k.priv).dce = k.dce ∧ (k'.restore e k.priv).loops = k.loops
    ∧ (k'.restore e k.priv).winOpen = k.winOpen ∧ (k'.restore e k.priv).winRem = k.winRem

/-- RTE pops the top frame and resumes it, unless it is poisoned, names no level (0b10), or names one above the current; those
are PRIV_RETURN exceptions, taken at M, with the frame left where it is (R215), whether it lies on the return stack or in the
machine frame area; a return stack of fewer than 16 entries is a STACK exception. An interrupt that R201 lets in is taken by
EXCEPTION_ENTRY. -/
def Obligations.ExceptionReturnResults : Prop :=
  (∀ (s : State) (d : Nat) (l : List Entry) (k : Core), Issues s d .noEnd → ((s.fetched d).core d).mfaActive = false →
      ((s.fetched d).core d).rsNeed 16 = .ok { k with rs := l ++ k.rs } → l.length = 16 →
      (∀ lvl, Priv.ofCode (fld (l.getD 2 ⟨0, false⟩).val 1 0) = some lvl → lvl.code ≤ ((s.fetched d).core d).priv.code →
        l.any (·.psn) = false →
        exec (.rte d) s = .next ((s.fetched d).setCore d (k.restore (l.map (·.val)) lvl)))
      ∧ (Priv.ofCode (fld (l.getD 2 ⟨0, false⟩).val 1 0) = none ∨ l.any (·.psn) = true →
        exec (.rte d) s = .next (takeException (s.fetched d) d cPrivReturn (l.getD 2 ⟨0, false⟩).val.toNat 0xA001))
      ∧ (∀ lvl, Priv.ofCode (fld (l.getD 2 ⟨0, false⟩).val 1 0) = some lvl → ((s.fetched d).core d).priv.code < lvl.code →
        exec (.rte d) s = .next (takeException (s.fetched d) d cPrivReturn (l.getD 2 ⟨0, false⟩).val.toNat 0xA001)))
  ∧ (∀ (s : State) (d : Nat) (lvl : Priv), Issues s d .noEnd → let k := (s.fetched d).core d
      k.mfaActive = true → Priv.ofCode (fld (k.mfaTop.getD 2 ⟨0, false⟩).val 1 0) = some lvl → lvl.code ≤ k.priv.code →
      k.mfaTop.any (·.psn) = false →
      exec (.rte d) s = .next ((s.fetched d).setCore d
        ((if k.mfaFrames ≤ 1 then k.mfaThaw else { k with mfaFrames := k.mfaFrames - 1 }).restore (k.mfaTop.map (·.val)) lvl)))
  ∧ (∀ (s : State) (d : Nat), Issues s d .noEnd → let k := (s.fetched d).core d
      let refused := exec (.rte d) s = .next (takeException (s.fetched d) d cPrivReturn (k.mfaTop.getD 2 ⟨0, false⟩).val.toNat 0xA001)
      k.mfaActive = true →
      (Priv.ofCode (fld (k.mfaTop.getD 2 ⟨0, false⟩).val 1 0) = none ∨ k.mfaTop.any (·.psn) = true → refused)
      ∧ ∀ lvl, Priv.ofCode (fld (k.mfaTop.getD 2 ⟨0, false⟩).val 1 0) = some lvl → k.priv.code < lvl.code → refused)
  ∧ ((∀ p, takenAt cPrivReturn p = .M) ∧ (∀ b, Priv.ofCode b = none ↔ b = 2 ∨ 4 ≤ b)
    ∧ ∀ detail v, defaultStatus cPrivReturn detail v = .denied)
  ∧ (∀ (s : State) (d e : Nat), Issues s d .noEnd → ((s.fetched d).core d).mfaActive = false →
      ((s.fetched d).core d).rsNeed 16 = .error e →
      exec (.rte d) s = .next (takeException (s.fetched d) d cStack e 0xA001))
  ∧ ∀ (s : State) (d : Nat) (x : Nat × Nat), s.issuing d = true → (s.core d).slot = none → (s.core d).admitted = some x →
      exec (.exceptionEntry d) s = .next (takeInterrupt s d x.1 x.2)

/-- Addressed loads: an aligned, readable memory access pushes what the data cache or memory delivers, zero- or sign-extended,
with its poison, its entry claimed; a control-space access holds issue with its data; a poisoned address, a misaligned or a
refused access is the exception of its kind, and the instruction changes nothing else. The model's own choices in it: log
entry 19. -/
def Obligations.ScalarLoadResults : Prop :=
  ∀ row ∈ ([(.ld8u, false, 1, 0x3000), (.ld8s, true, 1, 0x3001), (.ld16u, false, 2, 0x3002), (.ld16s, true, 2, 0x3003),
      (.ld32u, false, 4, 0x3004), (.ld32s, true, 4, 0x3005), (.ld64, false, 8, 0x3006)]
      : List ((Nat → Instr) × Bool × Nat × BitVec 16)),
    ∀ (s : State) (d : Nat) (x : Entry) (k : Core), Issues s d .plain → Pops s d 1 [x] k →
      let t := s.fetched d
      let a := x.val.toNat
      (x.psn = true → exec (row.1 d) s = .next (takeException t d cDataPoison 0 row.2.2.2))
      ∧ (x.psn = false → a % row.2.2.1 ≠ 0 → exec (row.1 d) s = .next (takeException t d cAlign a row.2.2.2))
      ∧ (x.psn = false → a % row.2.2.1 = 0 → isControl a = false →
          ((k.priv = .M ∧ t.inMonitor a row.2.2.1 = true) ∨ (t.chk (t.corePart d) [pR] a row.2.2.1).isOk = true) →
          ∀ k', let r := dcLoad (t.setCore d k) d a row.2.2.1
            (r.1.core d).claim.push (loadVal row.2.1 row.2.2.1 r.2) = .ok k' →
            exec (row.1 d) s = .next ((r.1.setCore d k').retire d))
      ∧ (x.psn = false → a % row.2.2.1 = 0 → isControl a = false → (k.priv ≠ .M ∨ t.inMonitor a row.2.2.1 = false) →
          (t.chk (t.corePart d) [pR] a row.2.2.1).isOk = false →
          exec (row.1 d) s = .next (takeException t d cAccess a row.2.2.2))
      ∧ (x.psn = false → a % row.2.2.1 = 0 → isControl a = true →
          (ctlReach t (t.corePart d) a = true → let r := ctlLoad (t.setCore d k) d a row.2.2.1
            exec (row.1 d) s = .next (r.1.setCore d { r.1.core d with
              run := .waitControl (loadVal row.2.1 row.2.2.1 (pbOf row.2.2.1 r.2.toNat false)) }))
          ∧ (ctlReach t (t.corePart d) a = false → exec (row.1 d) s = .next (takeException t d cAccess a row.2.2.2)))

/-- Addressed stores: an aligned, writable memory access writes the entry's low bytes with its poison to memory and to the
line that the data cache holds, and one more store is unacknowledged; a control-space access writes the register. The model's
own choices in it: log entry 19. -/
def Obligations.ScalarStoreResults : Prop :=
  ∀ row ∈ ([(.st8, 1, 0x3008), (.st16, 2, 0x3009), (.st32, 4, 0x300A), (.st64, 8, 0x300B)]
      : List ((Nat → Instr) × Nat × BitVec 16)),
    ∀ (s : State) (d : Nat) (x ad : Entry) (k : Core), Issues s d .plain → Pops s d 2 [x, ad] k →
      let t := s.fetched d
      let a := ad.val.toNat
      let t1 := t.setCore d { k with sawPoison := k.sawPoison || x.psn }
      (k.priv = .U → ownCcEx d a = true → exec (row.1 d) s = .next (takeException t d cPrivilege 0 row.2.2))
      ∧ (k.priv ≠ .U ∨ ownCcEx d a = false →
        (ad.psn = true → exec (row.1 d) s = .next (takeException t d cDataPoison 0 row.2.2))
        ∧ (ad.psn = false → a % row.2.1 ≠ 0 → exec (row.1 d) s = .next (takeException t d cAlign a row.2.2))
        ∧ (ad.psn = false → a % row.2.1 = 0 → isControl a = false → (t.chk (t.corePart d) [pW] a row.2.1).isOk = true →
            let b := pbOf row.2.1 x.val.toNat x.psn
            let u := coreWrite t1 d a b
            exec (row.1 d) s = .next ((u.setCore d { (u.core d).dcStore a b with
              storesOut := (u.core d).storesOut + 1, cvCover := mdel (u.core d).cvCover (a / 4096) }).retire d))
        ∧ (ad.psn = false → a % row.2.1 = 0 → isControl a = false → (t.chk (t.corePart d) [pW] a row.2.1).isOk = false →
            exec (row.1 d) s = .next (takeException t d cAccess a row.2.2))
        ∧ (ad.psn = false → a % row.2.1 = 0 → isControl a = true →
            (ctlReach t (t.corePart d) a = true → exec (row.1 d) s = .next ((ctlStore t1 d a row.2.1 x.val).retire d))
            ∧ (ctlReach t (t.corePart d) a = false →
                exec (row.1 d) s = .next (takeException t d cAccess a row.2.2))))

/-- A core's store writes no byte but its own, and those of the check-table entries that it makes stale (R304); no other write
of its instruction reaches memory. Bytes that a write stores read back as written, and clear, where the granule is present and
neither they nor their word are in error or have been poisoned. The model's own choices in it: log entry 45. -/
def Obligations.MemoryWritesItsBytes : Prop :=
  (∀ (s : State) (die a : Nat) (l : List PB) (j : Nat), (j < a ∨ a + l.length ≤ j) →
      mget 0 (writeMem s die a l).mem.bytes j = mget 0 s.mem.bytes j)
  ∧ (∀ (s : State) (d a : Nat) (l : List PB) (j : Nat), s.mem.latent = [] → (j < a ∨ a + l.length ≤ j) →
      (∀ x e, s.cvEntry x = some e → j < e ∨ e + 8 ≤ j) →
      mget 0 (coreWrite s d a l).mem.bytes j = mget 0 s.mem.bytes j)
  ∧ (∀ (s : State) (d j : Nat), mget 0 (s.fetched d).mem.bytes j = mget 0 s.mem.bytes j)
  ∧ ∀ (s : State) (die die' a : Nat) (l : List PB), Memory.wf s.mem → s.mem.latent = [] → s.repair.absent = [] → s.mem.psn = [] →
    (∀ x ∈ l, x.2 = false) → l ≠ [] →
    (readMem (writeMem s die a l) die' a l.length).2 = l

/-- Local loads and stores at an aligned offset that the level may use; a misaligned or refused offset is ALIGN or ACCESS. The
model's own choices in it: log entry 49. -/
def Obligations.LocalMemoryResults : Prop :=
  (∀ row ∈ ([(.lld8u, false, 1, 0x3400), (.lld8s, true, 1, 0x3401), (.lld16u, false, 2, 0x3402), (.lld16s, true, 2, 0x3403),
      (.lld32u, false, 4, 0x3404), (.lld32s, true, 4, 0x3405), (.lld64, false, 8, 0x3406)]
      : List ((Nat → Instr) × Bool × Nat × BitVec 16)),
    ∀ (s : State) (d : Nat) (o : Entry) (k : Core), Issues s d .plain → Pops s d 1 [o] k → o.psn = false →
      (o.val.toNat % row.2.2.1 = 0 → k.lmOk k.priv o.val.toNat row.2.2.1 = true → ∀ k',
        k.claim.push (loadVal row.2.1 row.2.2.1 (k.lmRead o.val.toNat row.2.2.1)) = .ok k' →
        exec (row.1 d) s = .next (((s.fetched d).setCore d k').retire d))
      ∧ (o.val.toNat % row.2.2.1 ≠ 0 →
        exec (row.1 d) s = .next (takeException (s.fetched d) d cAlign o.val.toNat row.2.2.2))
      ∧ (o.val.toNat % row.2.2.1 = 0 → k.lmOk k.priv o.val.toNat row.2.2.1 = false →
        exec (row.1 d) s = .next (takeException (s.fetched d) d cAccess o.val.toNat row.2.2.2)))
  ∧ (∀ row ∈ ([(.lst8, 1, 0x3408), (.lst16, 2, 0x3409), (.lst32, 4, 0x340A), (.lst64, 8, 0x340B)]
      : List ((Nat → Instr) × Nat × BitVec 16)),
    ∀ (s : State) (d : Nat) (x o : Entry) (k : Core), Issues s d .plain → Pops s d 2 [x, o] k → o.psn = false →
      (o.val.toNat % row.2.1 = 0 → k.lmOk k.priv o.val.toNat row.2.1 = true →
        exec (row.1 d) s = .next (((s.fetched d).setCore d ({ k with sawPoison := k.sawPoison || x.psn }.lmWrite o.val.toNat
          (pbOf row.2.1 x.val.toNat x.psn))).retire d))
      ∧ (o.val.toNat % row.2.1 ≠ 0 →
        exec (row.1 d) s = .next (takeException (s.fetched d) d cAlign o.val.toNat row.2.2))
      ∧ (o.val.toNat % row.2.1 = 0 → k.lmOk k.priv o.val.toNat row.2.1 = false →
        exec (row.1 d) s = .next (takeException (s.fetched d) d cAccess o.val.toNat row.2.2)))
  ∧ (∀ (s : State) (d : Nat) (imm : BitVec 10) (k' : Core), Issues s d .plain → let k := (s.fetched d).core d
      k.lmOk k.priv (8 * imm.toNat) 8 = true → k.claim.push (k.lmEntry imm.toNat) = .ok k' →
      exec (.lldi d imm) s = .next (((s.fetched d).setCore d k').retire d))
  ∧ ∀ (s : State) (d : Nat) (imm : BitVec 10) (x : Entry) (k : Core), Issues s d .plain → Pops s d 1 [x] k →
      k.lmOk k.priv (8 * imm.toNat) 8 = true →
      exec (.lsti d imm) s = .next (((s.fetched d).setCore d ({ k with sawPoison := k.sawPoison || x.psn }.lmWrite
        (8 * imm.toNat) (pbOf 8 x.val.toNat x.psn))).retire d)

/-- Local memory: a write changes no byte but its own; who may reach an offset goes by level, and no access below M reaches
the machine frame area. The model's own choices in it: log entry 49. -/
def Obligations.LocalMemoryFrameAndRights : Prop :=
  (∀ (k : Core) (off : Nat) (l : List PB) (j : Nat), (j < off ∨ off + l.length ≤ j) →
      mget 0 (k.lmWrite off l).lm j = mget 0 k.lm j)
  ∧ (∀ (k : Core) (off : Nat) (l : List PB), Canonical 0 k.lm → rdBytes 0 (k.lmWrite off l).lm off l.length = l.map (·.1))
  ∧ ∀ (k : Core) (off n : Nat),
      (k.lmOk .M off n = true ↔ off + n ≤ 0x10000) ∧ (k.lmOk .S off n = true ↔ off + n ≤ 0xF800)
      ∧ (k.lmOk .U off n = true ↔ off + n ≤ 0xF800 ∧ off + n ≤ fld k.ccLmProt 15 0)

/-- What the data cache answers: memory where DCE is 0, the line where it holds one. The model's own choices in it: log entry
18. -/
def Obligations.DataCacheAnswers : Prop :=
  (∀ (s : State) (d a n : Nat), (s.core d).dce = false → dcLoad s d a n = readMem s (s.dieOf (d / 8)) a n)
  ∧ ∀ (s : State) (d a n : Nat) (l : CacheLine), (s.core d).dce = true → cacheFind (s.core d).dcache a = some l → l.bad = false →
      dcLoad s d a n = (s.setCore d { s.core d with dcache := cachePut (s.core d).dcache l }, l.bytes a n)

/-- What ends a core's waits and fills its entries: each event changes only the core, and there only what it names. The
model's own choices in it: log entries 18 and 113. -/
def Obligations.CoreEventResults : Prop :=
  ∀ (s : State) (d : Nat), let k := s.core d
    exec (.resultFill d) s = .next (s.setCore d { k with claims := k.claims - 1 })
    ∧ exec (.reductionResult d) s = .next (s.setCore d { k with redClaims := k.redClaims - 1 })
    ∧ exec (.storeAck d) s = .next (s.setCore d { k with storesOut := k.storesOut - 1 })
    ∧ exec (.vectorLoadArrive d) s = .next (s.setCore d { k with vloadsOut := k.vloadsOut - 1 })
    ∧ (k.ds.length < 24 → 0 < k.dsSpill → bndBase k.ccDsBnd + (k.dsSpill - 1) < bndLimit k.ccDsBnd →
        exec (.stackRefill d false) s = .next (s.setCore d
          { k with ds := k.ds ++ [k.lmEntry (bndBase k.ccDsBnd + (k.dsSpill - 1))], dsSpill := k.dsSpill - 1 }))
    ∧ (k.rs.length < 12 → 0 < k.rsSpill → k.mfaActive = false → bndBase k.ccRsBnd + (k.rsSpill - 1) < bndLimit k.ccRsBnd →
        exec (.stackRefill d true) s = .next (s.setCore d
          { k with rs := k.rs ++ [k.lmEntry (bndBase k.ccRsBnd + (k.rsSpill - 1))], rsSpill := k.rsSpill - 1 }))
    ∧ (∀ a m, (k.misses.find? fun m => m.line.addr == a / 64 * 64) = some m →
        exec (.dcacheFill d a) s = .next (s.setCore d { k with
          dcache := cachePut k.dcache m.line, misses := k.misses.filter fun x => x.line.addr != a / 64 * 64 }))
    ∧ (∀ a, s.canFetch d (a / 64 * 64) = true → cacheFind k.icache a = none →
        exec (.icacheFill d a) s = .next (s.icFill d a).1)
    ∧ (∀ x k', k.run = .waitControl x → { k with run := .running }.push x = .ok k' →
        exec (.controlLoadReturn d) s = .next ((s.setCore d k').retire d))
    ∧ (∀ i, (k.ocLine i).st = .filling →
        exec (.ocFillDone d i) s = .next (s.setCore d (k.setOc i { k.ocLine i with st := .clean })))
    ∧ (∀ i, (k.ocLine i).wbPending = true →
        exec (.ocWritebackAck d i) s = .next (s.setCore d (k.setOc i { k.ocLine i with st := .clean, wbPending := false })))
    ∧ (∀ v : BitVec 32, v ≠ 0 →
        exec (.softPost d v) s = .next (s.setCore d { k with post := k.post ||| v, softPend := true }))
    ∧ (k.kernel.isSome = true → k.endStatus = none → k.exAbort ≠ 0 →
        ∃ e, e.code = eCoreHalted ∧ exec (.abortTimeout d) s = .next (logUnit (s.setCore d { k with
          run := .idle, endStatus := some ((Status.ofCode (fld k.exAbort 7 0)).getD .aborted), abortPend := none, slot := none
          winOpen := false, winRem := 0 }) (s.dieOf (d / 8)) e 0))

/-- MXQ and SEQ: an aligned, readable, unpoisoned record of the core's local memory takes the lowest free ticket; it enters
its engine's queue where its WAIT mask is satisfied, none of the engine's is ahead of it and the queue has room, and waits
under its ticket where its WAIT mask is not satisfied or an earlier one waits. -/
def Obligations.EnqueueResults : Prop :=
  ∀ row ∈ ([(.mxq, .mx, 0x9000), (.seqEnq, .se, 0x9001)] : List ((Nat → Instr) × Engine × BitVec 16)),
    ∀ (s : State) (d : Nat) (la : Entry) (k : Core), Issues s d .plain → Pops s d 1 [la] k → la.psn = false →
      let t := s.fetched d
      let a := la.val.toNat
      let rec0 := k.lmRead a 64
      let n := if row.2.1 = .mx ∧ wantsExt (pbWords rec0) = true then 128 else 64
      let ext := if n = 128 then pbWords (k.lmRead (a + 64) 64) else []
      let k1 := { k with ticketOrder := k.ticketOrder + 1 }
      let ready := t.waitOk (d / 8) (t.corePart d) k.cbBase k.pbBase ((pbWords rec0).getD 0 0) = true
        ∧ k.waitsAhead row.2.1 k.ticketOrder = false
      (a % 64 ≠ 0 → exec (row.1 d) s = .next (takeException t d cEnqueue 0 row.2.2))
      ∧ (a % 64 = 0 → a + n ≤ 0x10000 → k.lmOk k.priv a n = true → k.lmOk k.priv a 64 = true → pbPsn (k.lmRead a n) = false →
        (k.freeTicket = none → exec (row.1 d) s = .next (takeException t d cEnqueue 3 row.2.2))
        ∧ ∀ i k', k.freeTicket = some i →
          (ready → (((t.cluster (d / 8)).queue row.2.1).length < 4 ∨ row.2.1.takes (opOf (pbWords rec0)) = false) →
            let u := (t.setCore d k1).ticketEnter d i row.2.1 k.ticketOrder (pbWords rec0) ext
            (u.core d).push ⟨BitVec.ofNat 64 i, false⟩ = .ok k' →
            exec (row.1 d) s = .next ((u.setCore d k').retire d))
          ∧ (¬ ready →
            { k1 with tickets := madd k1.tickets i ⟨row.2.1, k.ticketOrder, .waiting (pbWords rec0) ext⟩ }.push
              ⟨BitVec.ofNat 64 i, false⟩ = .ok k' →
            exec (row.1 d) s = .next ((t.setCore d k').retire d)))

/-- QWAIT pushes a completed ticket's word and frees it, or waits; QTEST tests without waiting; a ticket that is not
outstanding is an ENQUEUE exception; a waiting command enters its queue, an ended one records its word, and a QWAIT that waits
for it then completes. The model's own choices in it: log entry 55. -/
def Obligations.TicketResults : Prop :=
  (∀ (s : State) (d : Nat) (x : Entry) (k : Core), Issues s d .plain → Pops s d 1 [x] k → x.psn = false →
    (∀ t w k', k.ticketAt x = some t → t.st = .done w →
      ({ k with tickets := mdel k.tickets x.val.toNat }.push ⟨w, false⟩ = .ok k' →
        exec (.qwait d) s = .next (((s.fetched d).setCore d k').retire d))
      ∧ ({ k with tickets := mdel k.tickets x.val.toNat }.pushAll [⟨w, false⟩, ⟨1, false⟩] = .ok k' →
        exec (.qtest d) s = .next (((s.fetched d).setCore d k').retire d)))
    ∧ (∀ t k', k.ticketAt x = some t → (∀ w, t.st ≠ .done w) →
      exec (.qwait d) s = .next ((s.fetched d).setCore d { (s.fetched d).core d with run := .waitTicket x.val.toNat })
      ∧ (k.pushAll [⟨0, false⟩, ⟨0, false⟩] = .ok k' →
        exec (.qtest d) s = .next (((s.fetched d).setCore d k').retire d)))
    ∧ (k.ticketAt x = none → exec (.qwait d) s = .next (takeException (s.fetched d) d cEnqueue 4 0x9010)))
  ∧ (∀ (s : State) (d t order : Nat) (e : Engine) (words ext : List W64), let k := s.core d
      mfind k.tickets t = some ⟨e, order, .waiting words ext⟩ →
      s.waitOk (d / 8) (s.corePart d) k.cbBase k.pbBase (words.getD 0 0) = true → k.waitsAhead e order = false →
      (((s.cluster (d / 8)).queue e).length < 4 ∨ e.takes (opOf words) = false) →
      exec (.ticketEnqueue d t) s = .next (s.ticketEnter d t e order words ext))
  ∧ (∀ (s : State) (d t order : Nat) (e : Engine) (w : W64), let k := s.core d
      let k1 := { k with tickets := madd k.tickets t ⟨e, order, .done w⟩ }
      mfind k.tickets t = some ⟨e, order, .ended w⟩ →
      (k.run ≠ .waitTicket t → exec (.ticketComplete d t) s = .next (s.setCore d k1))
      ∧ (k.run = .waitTicket t → exec (.ticketComplete d t) s =
          .next ((qwaitBody d (s.setCore d { k1 with run := .running })).run d 0x9010)))
  ∧ (∀ (s : State) (d t order : Nat) (e : Engine) (words ext : List W64), let k := s.core d
      e.takes (opOf words) = true →
      s.ticketEnter d t e order words ext =
        (s.setCore d { k with tickets := madd k.tickets t ⟨e, order, .queued⟩ }).setCluster (d / 8)
          ((s.cluster (d / 8)).enq e { src := .ticket d t, words, ext := if ext = [] then none else some ext
                                       part := s.corePart d }))

/-! ### The vector unit (chapter 5) -/

/-- The element-wise instructions: every active element of the destination group becomes the operation on the sources'
elements, with its flags and the sources' poison; groups past v2047 or of unlike formats or counts, and a float operation on
integers, are VEC_OPERAND exceptions. The model's own choices in it: log entries 3 and 69. -/
def Obligations.VectorElementResults : Prop :=
  (∀ row ∈ ([(.vadd, false, elAdd, 0x7000), (.vsub, false, elSub, 0x7001), (.vmul, false, elMul, 0x7002),
      (.vdiv, true, elDiv, 0x7003), (.vmax, false, elMax, 0x7004), (.vmin, false, elMin, 0x7005)]
      : List ((Nat → Instr) × Bool × (Nat → Bool → Nat → Nat → Nat × Fl) × BitVec 16)),
    ∀ (s : State) (d : Nat) (x y z : Entry) (k : Core), VecIssues s d 3 (fun _ => true) [x, y, z] k →
      let a := grp x.val
      let b := grp y.val
      let g := grp z.val
      let ok := a.ok = true ∧ b.ok = true ∧ g.ok = true ∧ isArith g.fmt = true ∧ a.fmt = g.fmt ∧ b.fmt = g.fmt ∧ a.n = g.n
        ∧ b.n = g.n ∧ (row.2.1 = true → isFloat g.fmt = true)
      (ok → exec (row.1 d) s = .next ((s.fetched d).completes d
        (k.mapped g (fun e => row.2.2.1 g.fmt k.ieee (k.el a e) (k.el b e)) fun e => k.elPsn a e || k.elPsn b e)))
      ∧ (¬ ok → exec (row.1 d) s = .next ((operandFault (s.fetched d) d).run d row.2.2.2)))
  ∧ (∀ (s : State) (d : Nat) (x y w z : Entry) (k : Core), VecIssues s d 4 (fun _ => true) [x, y, w, z] k →
      let a := grp x.val
      let b := grp y.val
      let c := grp w.val
      let g := grp z.val
      a.ok = true → b.ok = true → c.ok = true → g.ok = true → isArith g.fmt = true → a.fmt = g.fmt → b.fmt = g.fmt →
      c.fmt = g.fmt → a.n = g.n → b.n = g.n → c.n = g.n →
      exec (.vfma d) s = .next ((s.fetched d).completes d
        (k.mapped g (fun e => elFma g.fmt k.ieee (k.el a e) (k.el b e) (k.el c e))
          fun e => k.elPsn a e || k.elPsn b e || k.elPsn c e)))
  ∧ (∀ row ∈ ([(.vadds, elAdd), (.vmuls, elMul), (.vmaxs, elMax), (.vmins, elMin)]
      : List ((Nat → Instr) × (Nat → Bool → Nat → Nat → Nat × Fl))),
    ∀ (s : State) (d : Nat) (x y z : Entry) (k : Core), VecIssues s d 3 (fun i => i != 1) [x, y, z] k →
      let a := grp x.val
      let g := grp z.val
      a.ok = true → g.ok = true → isArith g.fmt = true → a.fmt = g.fmt → a.n = g.n →
      let c := scalarEl g.fmt k.ieee y.val
      exec (row.1 d) s = .next ((s.fetched d).completes d
        ((if k.actives g = [] then k else k.raise c.2).mapped g (fun e => row.2 g.fmt k.ieee (k.el a e) c.1)
          fun e => k.elPsn a e || y.psn)))
  ∧ ∀ row ∈ ([(.vabs, false, fun c _ x => (elAbs c x, 0)), (.vneg, false, fun c _ x => (elNeg c x, 0)),
      (.vsqrt, true, fun c i x => sqrtV i c (decode c x)), (.vrsqrt, true, fun c i x => elemFn nRsqrt i c x),
      (.vexp, true, fun c i x => elemFn nExp i c x), (.vlog, true, fun c i x => elemFn nLog i c x),
      (.vtanh, true, fun c i x => elemFn nTanh i c x), (.vsig, true, fun c i x => elemFn nSig i c x)]
      : List ((Nat → Instr) × Bool × (Nat → Bool → Nat → Nat × Fl))),
    ∀ (s : State) (d : Nat) (x z : Entry) (k : Core), VecIssues s d 2 (fun _ => true) [x, z] k →
      let a := grp x.val
      let g := grp z.val
      a.ok = true → g.ok = true → isArith g.fmt = true → a.fmt = g.fmt → a.n = g.n →
      (row.2.1 = true → isFloat g.fmt = true) →
      exec (row.1 d) s = .next ((s.fetched d).completes d
        (k.mapped g (fun e => row.2.2 g.fmt k.ieee (k.el a e)) fun e => k.elPsn a e))

/-- What writing a group leaves: an active element holds its result, an inactive one its old value or zero by the mask policy,
no other register changes, and a register is poisoned where an active element's source is, or where it was and is not wholly
written. -/
def Obligations.GroupWriteElements : Prop :=
  ∀ (k : Core) (g : Grp) (act : Nat → Bool) (res : Nat → Nat × Bool), Canonical 0 k.vr → g.fmt < 16 →
    let k' := k.putGroup g act res
    (∀ e, e < g.n → k'.el g e = if act e then (res e).1 % 2 ^ fmtBits g.fmt else if g.zero then 0 else k.el g e)
    ∧ (∀ r, r < g.first ∨ g.first + g.len ≤ r → k'.vreg r = k.vreg r ∧ k'.vrPsn.contains r = k.vrPsn.contains r)
    ∧ (∀ i, i < g.len → let es := (List.range (perReg g.fmt)).map (· + i * perReg g.fmt)
        k'.vrPsn.contains (g.first + i) = (es.any (fun e => act e && (res e).2)
          || (!(g.zero || es.all act) && k.vrPsn.contains (g.first + i))))
    ∧ { k' with vr := k.vr, vrPsn := k.vrPsn } = k

/-- Compares write a mask bit for every active element and leave the others; mask operations work on whole masks; VMSET sets
the first k bits; VSETVL writes `VX.VL` up to 4,096 and VGETVL pushes it. A mask's bits, as VCMP and VMSET leave them. The
model's own choices in it: log entry 21. -/
def Obligations.VectorMaskResults : Prop :=
  ((∀ row ∈ ([(.vcmpEq, Val.eqv), (.vcmpNe, fun a b => !a.eqv b), (.vcmpLt, Val.lt), (.vcmpLe, Val.le),
      (.vcmpGt, fun a b => b.lt a), (.vcmpGe, fun a b => b.le a)] : List ((Nat → Instr) × (Val → Val → Bool))),
    ∀ (s : State) (d : Nat) (x y m : Entry) (k : Core), VecIssues s d 3 (fun _ => true) [x, y, m] k →
      let a := grp x.val
      let b := grp y.val
      let i := m.val.toNat
      a.ok = true → b.ok = true → isArith a.fmt = true → a.fmt = b.fmt → a.n = b.n → i < 16 →
      let bad := (k.actives a).any fun e => k.elPsn a e || k.elPsn b e
      exec (row.1 d) s = .next ((s.fetched d).completes d
        { (k.setMask i (maskOf fun e => if k.active a e then row.2 (decode a.fmt (k.el a e)) (decode a.fmt (k.el b e))
            else (k.mreg i).getLsbD e)).raise ((k.actives a).foldl (fun (f : Fl) e =>
              f ||| cmpFl k.ieee (decode a.fmt (k.el a e)) (decode a.fmt (k.el b e))) 0) with
          vxRstat := if bad then k.vxRstat ||| 2 else k.vxRstat, sawPoison := k.sawPoison || bad }))
  ∧ (∀ row ∈ ([(.vmand, fun a b => a &&& b), (.vmor, fun a b => a ||| b), (.vmxor, fun a b => a ^^^ b),
      (.vmandn, fun a b => a &&& ~~~b)] : List ((Nat → Instr) × (BitVec 2048 → BitVec 2048 → BitVec 2048))),
    ∀ (s : State) (d : Nat) (x y z : Entry) (k : Core), VecIssues s d 3 (fun _ => true) [x, y, z] k →
      x.val.toNat < 16 → y.val.toNat < 16 → z.val.toNat < 16 →
      exec (row.1 d) s = .next ((s.fetched d).completes d
        (k.setMask z.val.toNat (row.2 (k.mreg x.val.toNat) (k.mreg y.val.toNat)))))
  ∧ (∀ (s : State) (d : Nat) (n m : Entry) (k : Core), VecIssues s d 2 (fun _ => true) [n, m] k →
      n.val.toNat ≤ 2048 → m.val.toNat < 16 →
      exec (.vmset d) s = .next ((s.fetched d).completes d
        (k.setMask m.val.toNat (BitVec.ofNat 2048 (2 ^ n.val.toNat - 1)))))
  ∧ (∀ (s : State) (d : Nat) (n : Entry) (k : Core), VecIssues s d 1 (fun _ => true) [n] k →
      (n.val.toNat ≤ 4096 → exec (.vsetvl d) s = .next (((s.fetched d).setCore d { k with vxVl := n.val }).retire d))
      ∧ (4096 < n.val.toNat → exec (.vsetvl d) s = .next ((operandFault (s.fetched d) d).run d 0x7060)))
  ∧ ∀ (s : State) (d : Nat) (k' : Core), Issues s d .plain →
      ((s.fetched d).core d).push ⟨BitVec.ofNat 64 (fld ((s.fetched d).core d).vxVl 12 0), false⟩ = .ok k' →
      exec (.vgetvl d) s = .next (((s.fetched d).setCore d k').retire d))
  ∧ ((∀ (p : Nat → Bool) (i : Nat), i < 2048 → (maskOf p).getLsbD i = p i)
  ∧ (∀ n i : Nat, n ≤ 2048 → i < 2048 → (BitVec.ofNat 2048 (2 ^ n - 1)).getLsbD i = decide (i < n))
  ∧ ∀ (k : Core) (m j : Nat) (v : BitVec 2048), Canonical 0 k.mr →
      (k.setMask m v).mreg m = v ∧ (j ≠ m → (k.setMask m v).mreg j = k.mreg j))

/-- VCVT converts a group into another format under its conversion control and advances the generator; VQMX quantises a float
group into MX blocks with their scales. The model's own choices in it: log entry 69. -/
def Obligations.VectorConversionResults : Prop :=
  (∀ (s : State) (d : Nat) (x y c : Entry) (k : Core), VecIssues s d 3 (fun _ => true) [x, y, c] k →
      let a := grp x.val
      let g := grp y.val
      a.ok = true → g.ok = true → a.n = g.n →
      let r := convList (fld c.val 7 0) k.ieee a.fmt g.fmt ((List.range g.n).map fun e => (k.el a e, k.active g e))
        (k.vxSrState.setWidth 32)
      exec (.vcvt d) s = .next ((s.fetched d).completes d
        { (k.putGroup g (k.active g) fun e => ((r.1.getD e (0, 0)).1, k.elPsn a e)).raise
            (r.1.foldl (fun (f : Fl) q => f ||| q.2) 0) with vxSrState := r.2.setWidth 64 }))
  ∧ ∀ (s : State) (d : Nat) (x y z c : Entry) (k : Core), VecIssues s d 4 (fun _ => true) [x, y, z, c] k →
      let a := grp x.val
      let g := grp y.val
      let sc := grp z.val
      let ctl := fld c.val 7 0
      let blk := fun b => (List.range 32).map (· + 32 * b)
      a.ok = true → g.ok = true → sc.ok = true → a.fmt ≤ 3 → g.fmt ∈ [4, 5, 6, 7, 8, 9] → sc.fmt = 15 → a.n = g.n →
      g.n % 32 = 0 → sc.n = g.n / 32 →
      (∀ b, b < g.n / 32 → (∀ e ∈ blk b, k.active g e = true) ∨ ∀ e ∈ blk b, k.active g e = false) →
      let r := mxBlocks ctl k.ieee g.fmt ((List.range (g.n / 32)).map fun b =>
        ((blk b).map fun e => decodeZ (ctlFtz ctl k.ieee) a.fmt (k.el a e), k.active g (32 * b))) (k.vxSrState.setWidth 32)
      let k1 := k.putGroup g (k.active g) fun e => ((r.1.getD (e / 32) (0, [])).2.getD (e % 32) 0, k.elPsn a e)
      exec (.vqmx d) s = .next ((s.fetched d).completes d
        { (k1.putGroup { sc with zero := g.zero } (fun b => k.active g (32 * b)) fun b =>
            ((r.1.getD b (0, [])).1, (blk b).any fun e => k.elPsn a e)).raise r.2.1 with vxSrState := r.2.2.setWidth 64 })

/-- Reductions push a fixed-order result and mask summaries a count, a flag or an index; `VX.RSTAT` tells an empty selection
and a poisoned source. -/
def Obligations.ReductionResults : Prop :=
  (∀ row ∈ ([(.vrsum, false), (.vrprod, true)] : List ((Nat → Instr) × Bool)),
    ∀ (s : State) (d : Nat) (x : Entry) (k k' : Core), VecIssues s d 1 (fun _ => true) [x] k →
      let a := grp x.val
      let act := k.actives a
      let k1 := k.rstat act.isEmpty (act.any (k.elPsn a))
      let ws : List (Nat × Nat × Fl) := act.map fun e => (e, wideEl k.ieee a.fmt (k.el a e))
      let one := if row.2 then 0x3FF0000000000000 else 0
      let f := fun x y => if row.2 then mulV k.ieee 0 (decode 0 x) (decode 0 y) else addV k.ieee 0 (decode 0 x) (decode 0 y)
      let r := if act = [] then (one, 0) else redFloat f one (ws.map fun q => (q.1, q.2.1))
      a.ok = true → isArith a.fmt = true →
      (isFloat a.fmt = true →
        { k1.raise (ws.foldl (fun (f : Fl) (q : Nat × Nat × Fl) => f ||| q.2.2) r.2) with redClaims := k1.redClaims + 1 }.push
          ⟨BitVec.ofNat 64 r.1, false⟩ = .ok k' →
        exec (row.1 d) s = .next (((s.fetched d).setCore d k').retire d))
      ∧ (isFloat a.fmt = false →
        { k1 with redClaims := k1.redClaims + 1 }.push ⟨BitVec.ofInt 64 (ws.foldl (fun (i : Int) (q : Nat × Nat × Fl) =>
          if row.2 then i * sx 64 q.2.1 else i + sx 64 q.2.1) (if row.2 then 1 else 0)), false⟩ = .ok k' →
        exec (row.1 d) s = .next (((s.fetched d).setCore d k').retire d)))
  ∧ (∀ row ∈ ([(.vrmax, true), (.vrmin, false)] : List ((Nat → Instr) × Bool)),
    ∀ (s : State) (d : Nat) (x : Entry) (k k' : Core), VecIssues s d 1 (fun _ => true) [x] k →
      let a := grp x.val
      let act := k.actives a
      let k1 := k.rstat act.isEmpty (act.any (k.elPsn a))
      a.ok = true → isArith a.fmt = true →
      (act = [] → { k1 with redClaims := k1.redClaims + 1 }.push
          ⟨if isFloat a.fmt then BitVec.ofNat 64 (encInf 0 row.2)
            else BitVec.ofInt 64 (if row.2 then intMin a.fmt else intMax a.fmt), false⟩ = .ok k' →
        exec (row.1 d) s = .next (((s.fetched d).setCore d k').retire d))
      ∧ (∀ e l, act = e :: l →
        let r := l.foldl (fun (r : Nat × Fl) e =>
          ((maxMin row.2 k.ieee a.fmt r.1 (k.el a e)).1, r.2 ||| (maxMin row.2 k.ieee a.fmt r.1 (k.el a e)).2)) (k.el a e, 0)
        let w := wideEl k.ieee a.fmt r.1
        { k1.raise (r.2 ||| w.2) with redClaims := k1.redClaims + 1 }.push ⟨BitVec.ofNat 64 w.1, false⟩ = .ok k' →
        exec (row.1 d) s = .next (((s.fetched d).setCore d k').retire d)))
  ∧ ∀ row ∈ ([(.vcount, fun l _ => BitVec.ofNat 64 l.length), (.vany, fun l _ => if l = [] then 0 else 1),
      (.vall, fun l n => if l.length = n then 1 else 0),
      (.vfirst, fun l _ => if l = [] then BitVec.allOnes 64 else BitVec.ofNat 64 (l.getD 0 0))]
      : List ((Nat → Instr) × (List Nat → Nat → W64))),
    ∀ (s : State) (d : Nat) (m n : Entry) (k k' : Core), VecIssues s d 2 (fun _ => true) [m, n] k →
      m.val.toNat < 16 → n.val.toNat ≤ 2048 →
      let k1 := k.rstat (decide (n.val.toNat = 0)) false
      { k1 with redClaims := k1.redClaims + 1 }.push
        ⟨row.2 ((List.range n.val.toNat).filter fun i => (k.mreg m.val.toNat).getLsbD i) n.val.toNat, false⟩ = .ok k' →
      exec (row.1 d) s = .next (((s.fetched d).setCore d k').retire d)

/-- Vector loads: the active elements hold what memory holds at their addresses, contiguous, strided or indexed; a first-fault
form stops below the first element that faults and sets `VX.VL`; any other fault is a vector exception. The model's own
choices in it: log entry 51. -/
def Obligations.VectorLoadResults : Prop :=
  (∀ row ∈ ([(.vld, false, 0x8000), (.vldff, true, 0x8006)] : List ((Nat → Instr) × Bool × BitVec 16)),
    ∀ (s : State) (d : Nat) (a z : Entry) (k : Core), VecIssues s d 2 (fun _ => true) [a, z] k →
      let g := grp z.val
      (g.ok = true → VecLoads (row.1 d) row.2.2 s d k g row.2.1 (contPlace g.fmt a.val.toNat) (placeBit g.fmt))
      ∧ (g.ok = false → exec (row.1 d) s = .next ((operandFault (s.fetched d) d).run d row.2.2)))
  ∧ (∀ (s : State) (d : Nat) (a st z : Entry) (k : Core), VecIssues s d 3 (fun _ => true) [a, st, z] k →
      let g := grp z.val
      g.ok = true → isPacked g.fmt = false →
      VecLoads (.vlds d) 0x8002 s d k g false
        (fun e => (addrAt a.val.toNat (st.val.toInt * e), fmtBits g.fmt / 8)) fun _ => 0)
  ∧ ∀ row ∈ ([(.vgather, false, 0x8004), (.vgatherff, true, 0x8007)] : List ((Nat → Instr) × Bool × BitVec 16)),
    ∀ (s : State) (d : Nat) (a i z : Entry) (k : Core), VecIssues s d 3 (fun _ => true) [a, i, z] k →
      let g := grp z.val
      let x := grp i.val
      g.ok = true → isPacked g.fmt = false → idxOk x g.n = true →
      ((k.actives g).any (k.elPsn x) = false →
        VecLoads (row.1 d) row.2.2 s d k g row.2.1 (idxPlace k x g.fmt a.val.toNat) fun _ => 0)
      ∧ ((k.actives g).any (k.elPsn x) = true →
        exec (row.1 d) s = .next (takeException (s.fetched d) d cDataPoison 0 row.2.2))

/-- Vector stores write the active elements with their poison, and nothing where an element faults; a packed format writes
whole bytes or groups over what memory holds. The model's own choices in it: log entry 51. -/
def Obligations.VectorStoreResults : Prop :=
  (∀ (s : State) (d : Nat) (z a : Entry) (k : Core), VecIssues s d 2 (fun _ => true) [z, a] k →
      let g := grp z.val
      let base := a.val.toNat
      let per := if elW g.fmt = 4 then 2 else 4
      (g.ok = true → isPacked g.fmt = false →
        VecStores (.vst d) 0x8001 s d k g (contPlace g.fmt base) ((k.actives g).map fun e =>
          ((contPlace g.fmt base e).1, pbOf (contPlace g.fmt base e).2 (k.el g e) (k.elPsn g e))))
      ∧ (g.ok = true → isPacked g.fmt = true →
        VecStores (.vst d) 0x8001 s d k g (contPlace g.fmt base)
          (((List.range (g.n / per)).filter fun u => (List.range per).any fun i => k.active g (u * per + i)).map
            (packedUnit (s.fetched d) (k.rangeTested g) g base)))
      ∧ (g.ok = false → exec (.vst d) s = .next ((operandFault (s.fetched d) d).run d 0x8001)))
  ∧ (∀ (s : State) (d : Nat) (z a st : Entry) (k : Core), VecIssues s d 3 (fun _ => true) [z, a, st] k →
      let g := grp z.val
      let place := fun e : Nat => (addrAt a.val.toNat (st.val.toInt * e), fmtBits g.fmt / 8)
      g.ok = true → isPacked g.fmt = false →
      VecStores (.vsts d) 0x8003 s d k g place
        ((k.actives g).map fun e => ((place e).1, pbOf (place e).2 (k.el g e) (k.elPsn g e))))
  ∧ ∀ (s : State) (d : Nat) (z a i : Entry) (k : Core), VecIssues s d 3 (fun _ => true) [z, a, i] k →
      let g := grp z.val
      let x := grp i.val
      let place := idxPlace k x g.fmt a.val.toNat
      g.ok = true → isPacked g.fmt = false → idxOk x g.n = true → (k.actives g).any (k.elPsn x) = false →
      VecStores (.vscatter d) 0x8005 s d k g place
        ((k.actives g).map fun e => ((place e).1, pbOf (place e).2 (k.el g e) (k.elPsn g e)))

/-- The operand cache: VOCLD and VOCST move elements of its lines, OCFILL and OCBIND bind lines to addresses, OCWB writes back
the DIRTY ones, OCEVICT unbinds, each discard of a DIRTY line counted, and OCSYNC ends every fill and write-back. The model's
own choices in it: log entry 19. -/
def Obligations.OperandCacheResults : Prop :=
  (∀ (s : State) (d : Nat) (x z : Entry) (k : Core), VecIssues s d 2 (fun _ => true) [x, z] k →
      let line := x.val.toNat
      let g := grp z.val
      let ls := ocLinesOf g.fmt line (k.actives g)
      let k1 := k.ocSettle ls
      g.ok = true → line < 2048 → k.ocUsable ls = true →
      exec (.vocld d) s = .next ((s.fetched d).completes d
        (k1.putGroup g (k1.active g) fun e => (k1.ocEl g.fmt line e, k1.ocPsn g.fmt line e))))
  ∧ (∀ (s : State) (d : Nat) (z x : Entry) (k : Core), VecIssues s d 2 (fun _ => true) [z, x] k →
      let line := x.val.toNat
      let g := grp z.val
      let act := k.actives g
      let ls := ocLinesOf g.fmt line act
      let k1 := k.ocSettle ls
      let k2 := k1.ocWrite g.fmt line (act.map fun e => (e, k1.el g e, k1.elPsn g e))
      let k3 := if g.rchk then k2.rangeTest (act.map fun e => (e, decode g.fmt (k1.el g e))) else k2
      g.ok = true → line < 2048 → k.ocUsable ls = true →
      exec (.vocst d) s = .next ((s.fetched d).completes d (ls.foldl (fun k i => k.dcInval (k.ocLine i).addr 64) k3)))
  ∧ (∀ (s : State) (d : Nat) (a x n : Entry) (k : Core), VecIssues s d 3 (fun _ => true) [a, x, n] k →
      let t := s.fetched d
      let line := x.val.toNat
      let count := n.val.toNat
      let at' := fun i => a.val.toNat + 64 * i
      ocRange line count = true → a.val.toNat % 64 = 0 →
      (firstFault t d pW false ((List.range count).map fun i => (0, at' i, 64)) = none →
        let k1 := (List.range count).foldl (fun (k : Core) i => (k.ocDiscard (line + i)).setOc (line + i)
          { st := .clean, addr := at' i, data := 0, psn := false, wbPending := false }) k
        exec (.ocbind d) s = .next ((t.setCore d { k1 with hwPend := (t.core d).hwPend }).retire d))
      ∧ (firstFault t d pR false ((List.range count).map fun i => (0, at' i, 64)) = none →
        let r := (List.range count).foldl (fun (r : State × Core) i =>
          let b := readMem r.1 (t.dieOf (d / 8)) (at' i) 64
          let x : OcLine := ⟨.filling, at' i, BitVec.ofNat 512 (pbNat b.2), pbPsn b.2, false⟩
          (b.1, (r.2.ocDiscard (line + i)).setOc (line + i) x)) (t, k)
        exec (.ocfill d) s = .next ((r.1.setCore d { r.2 with hwPend := (r.1.core d).hwPend }).retire d)))
  ∧ (∀ (s : State) (d : Nat) (x n : Entry) (k : Core), VecIssues s d 2 (fun _ => true) [x, n] k →
      let t := s.fetched d
      let line := x.val.toNat
      let count := n.val.toNat
      let ls := ocLines line count
      let k1 := k.ocSettle ls
      let ds := ls.filter fun i => (k1.ocLine i).st == .dirty
      (ocRange line count = true →
        firstFault t d pW false (ds.map fun i => (i - line, (k1.ocLine i).addr, 64)) = none →
        exec (.ocwb d) s = .next ((vecWrite
          (t.setCore d (ds.foldl (fun k i => k.setOc i { k.ocLine i with wbPending := true }) k1)) d
          (ds.map fun i => ((k1.ocLine i).addr, pbOf 64 (k1.ocLine i).data.toNat (k1.ocLine i).psn))).retire d))
      ∧ (ocRange line count = true →
        exec (.ocevict d) s = .next ((t.setCore d
          (ls.foldl (fun k i => (k.ocDiscard i).setOc i OcLine.none) k)).retire d))
      ∧ (ocRange line count = false →
        exec (.ocwb d) s = .next ((operandFault t d).run d 0x8014)
        ∧ exec (.ocevict d) s = .next ((operandFault t d).run d 0x8015)))
  ∧ ∀ (s : State) (d : Nat), Issues s d .plain →
      exec (.ocsync d) s = .next (((s.fetched d).setCore d
        (((s.fetched d).core d).ocSettle (((s.fetched d).core d).oc.map (·.1)))).retire d)

/-- VCHAIN runs the chain that its descriptor in local memory describes; it draws from the generator once for each stochastic
rounding of each element, and writes no vector or mask register, no local memory and no line it does not name. The model's own
choices in it: log entry 20. -/
def Obligations.ChainResults : Prop :=
  (∀ (s : State) (d : Nat) (x : Entry) (k : Core), VecIssues s d 1 (fun _ => true) [x] k →
      let ca := x.val.toNat
      let w := pbWords (k.lmRead ca 128)
      ca % 8 = 0 → k.lmOk k.priv ca 128 = true → pbPsn (k.lmRead ca 128) = false →
      (chainOk k w = true → exec (.vchain d) s = .next ((s.fetched d).completes d (k.chain w)))
      ∧ (chainOk k w = false → exec (.vchain d) s = .next ((operandFault (s.fetched d) d).run d 0x7070)))
  ∧ ∀ (k : Core) (w : List W64), let k' := k.chain w
      k'.vxSrState = (srSteps (chainDraws w * chainN (w.getD 0 0)) (k.vxSrState.setWidth 32)).setWidth 64
      ∧ k'.vr = k.vr ∧ k'.vrPsn = k.vrPsn ∧ k'.mr = k.mr ∧ k'.lm = k.lm ∧ k'.ds = k.ds ∧ k'.rs = k.rs
      ∧ (Canonical OcLine.none k.oc → ∀ i, i ∉ chainTouched w → chainOk k w = true → k'.ocLine i = k.ocLine i)

/-- Folds that a core issues: VFOLD folds each line of a group into memory, VSWADD adds each element to its cell, VSWRD and
VSWRDC read cells out, VRSW adds the exact sum of a group to one cell and pushes its flags. The model's own choices in it: log
entries 22, 50 and 118. -/
def Obligations.VectorFoldResults : Prop :=
  (∀ row ∈ ([(0, 1), (1, 0), (2, 14)] : List (Nat × Nat)),
    ∀ (s : State) (d : Nat) (z a o : Entry) (k : Core), VecIssues s d 3 (fun _ => true) [z, a, o] k →
      let t := s.fetched d
      let g := grp z.val
      let p := t.corePart d
      let per := 512 / elW g.fmt
      let lines := (List.range ((g.n + per - 1) / per)).filter fun i => (List.range per).any fun j => k.active g (i * per + j)
      o.val.toNat = row.1 → g.fmt = row.2 → g.ok = true → a.val.toNat % 64 = 0 →
      (∀ i ∈ lines, t.foldTarget p (a.val.toNat + 64 * i) = none) →
      exec (.vfold d) s = .next ((lines.foldl (fun s i =>
        let x := (List.range per).foldl (fun n j =>
          n + (if i * per + j < g.n then k.el g (i * per + j) else 0) * 2 ^ (elW g.fmt * j)) 0
        foldSeen (lineFold s p (a.val.toNat + 64 * i) (foldLaneOp row.1).1 (foldLaneOp row.1).2 x
          (fun j => k.active g (i * per + j)) fun j => k.elPsn g (i * per + j)) d) (t.setCore d k)).retire d))
  ∧ (∀ (s : State) (d : Nat) (z b c : Entry) (k : Core), VecIssues s d 3 (fun _ => true) [z, b, c] k →
      let t := s.fetched d
      let g := grp z.val
      let p := t.corePart d
      g.ok = true → g.fmt ∈ [0, 1, 3] → swardFault t p b.val.toNat c.val.toNat (k.actives g) = none →
      exec (.vswadd d) s = .next (((k.actives g).foldl (fun u e => foldSeen (swaddFloat u p
        (u.sbBase p b.val.toNat + 64 * (c.val.toNat + e)) b.val.toNat g.fmt (k.el g e) (k.elPsn g e)) d) (t.setCore d k)).retire d))
  ∧ (∀ row ∈ ([(.vswrd, false), (.vswrdc, true)] : List ((Nat → Instr) × Bool)),
    ∀ (s : State) (d : Nat) (b c z : Entry) (k : Core), VecIssues s d 3 (fun _ => true) [b, c, z] k →
      let t := s.fetched d
      let g := grp z.val
      let p := t.corePart d
      g.ok = true → g.fmt = 0 → swardFault t p b.val.toNat c.val.toNat (k.actives g) = none →
      let r := (k.actives g).foldl (fun (r : State × List (Nat × Nat × Bool)) e =>
        let x := swardRead r.1 p (r.1.sbBase p b.val.toNat + 64 * (c.val.toNat + e)) b.val.toNat row.2
        (foldSeen x d, if x.rej.isSome then r.2 else r.2 ++ [(e, x.val.toNat, x.psn)])) (t.setCore d k, [])
      let res := fun e => (r.2.find? fun q => q.1 == e).map (·.2)
      exec (row.1 d) s = .next ((r.1.setCore d
        ((r.1.core d).putGroup g (fun e => (res e).isSome) fun e => (res e).getD (0, false))).retire d))
  ∧ ∀ (s : State) (d : Nat) (z b c : Entry) (k k' : Core), VecIssues s d 3 (fun _ => true) [z, b, c] k →
      let t := s.fetched d
      let g := grp z.val
      let p := t.corePart d
      g.ok = true → g.fmt ∈ [0, 1, 3] → swardFault t p b.val.toNat c.val.toNat [0] = none →
      let r := localCell (t.anchor p b.val.toNat) ((k.actives g).map fun e => (decode g.fmt (k.el g e), k.elPsn g e))
      let f := foldSeen (swardAdd (t.setCore d k) p b.val.toNat (t.sbBase p b.val.toNat + 64 * c.val.toNat) (r.2 / 8 % 2 == 1)
        (some (sx 512 (r.1 % (2 ^ 512 : Nat)).toNat), r.2)) d
      { f.core d with redClaims := (f.core d).redClaims + 1 }.push ⟨BitVec.ofNat 64 r.2, false⟩ = .ok k' →
      exec (.vrsw d) s = .next ((f.setCore d k').retire d)

/-- A fold request that its bank rejects changes nothing but the count of rejections; one that is accepted folds the enabled
lanes of its line, adds to its cell or reads it out, and stops at no fault. -/
def Obligations.FoldUnitResults : Prop :=
  (∀ row ∈ ([(.fadd64, 1), (.iadd64, 2)] : List ((Nat → Nat → BitVec 512 → BitVec 8 → BitVec 8 → Instr) × Nat)),
    ∀ (s : State) (p a : Nat) (x : BitVec 512) (en psn : BitVec 8),
      ((s.foldTarget p a).isSome = true → exec (row.1 p a x en psn) s = .next (s.bump (aReject p) 31 0 1))
      ∧ (s.foldTarget p a = none → let r := readMem s (foldDie a) (foldLine a) 64
        exec (row.1 p a x en psn) s = .next (foldStore r.1 p (foldLine a)
          (laneWords 8 (foldLaneOp row.2).2 r.2 x.toNat (fun i => en.getLsbD i) fun i => psn.getLsbD i)).1))
  ∧ (∀ (s : State) (p a : Nat) (x : BitVec 512) (en psn : BitVec 16),
      ((s.foldTarget p a).isSome = true → exec (.fadd32 p a x en psn) s = .next (s.bump (aReject p) 31 0 1))
      ∧ (s.foldTarget p a = none → let r := readMem s (foldDie a) (foldLine a) 64
        exec (.fadd32 p a x en psn) s = .next (foldStore r.1 p (foldLine a)
          (laneWords 4 (foldLaneOp 0).2 r.2 x.toNat (fun i => en.getLsbD i) fun i => psn.getLsbD i)).1))
  ∧ (∀ (s : State) (p a b : Nat), (s.swardTarget p b a).isSome = true →
      (∀ x psn, exec (.swaddF64 p a b x psn) s = .next (s.bump (aReject p) 31 0 1))
      ∧ (∀ x psn, exec (.swaddF32 p a b x psn) s = .next (s.bump (aReject p) 31 0 1))
      ∧ (∀ x psn, exec (.swaddBf16 p a b x psn) s = .next (s.bump (aReject p) 31 0 1))
      ∧ (∀ x anc psn, exec (.swaddCell p a b x anc psn) s = .next (s.bump (aReject p) 31 0 1))
      ∧ exec (.swrd p a b) s = .next (s.bump (aReject p) 31 0 1)
      ∧ exec (.swrdClr p a b) s = .next (s.bump (aReject p) 31 0 1))
  ∧ ∀ (s : State) (p a b : Nat), s.swardTarget p b a = none →
      let r := readMem s (foldDie a) (foldLine a) 64
      let add := fun (c : Option Int × Nat) => raiseSward (match pbPsn r.2, c.1 with
        | false, some v => (foldStore r.1 p (foldLine a) (pbOf 64 ((cellInt r.2 + v) % (2 ^ 512 : Nat)).toNat false)).1
        | _, _ => r.1) p b (granuleDie (granuleOf a)) c.2
      (∀ x, exec (.swaddF64 p a b x false) s = .next (add (swContrib (s.anchor p b) (decode 0 x.toNat))))
      ∧ (∀ x, exec (.swaddF32 p a b x false) s = .next (add (swContrib (s.anchor p b) (decode 1 x.toNat))))
      ∧ (∀ x, exec (.swaddBf16 p a b x false) s = .next (add (swContrib (s.anchor p b) (decode 3 x.toNat))))
      ∧ (∀ x anc, exec (.swaddCell p a b x anc false) s = .next (add (cellContrib (s.anchor p b) anc.toInt x.toInt)))
      ∧ (∀ x, exec (.swaddF64 p a b x true) s = .next (raiseSward
          (foldStore r.1 p (foldLine a) (r.2.map fun q => (q.1, true))).1 p b (granuleDie (granuleOf a)) 8))
      ∧ exec (.swrd p a b) s = .next (r.1.emit (.foldValue p (readOut (s.anchor p b) (cellInt r.2)) (pbPsn r.2)))
      ∧ exec (.swrdClr p a b) s = .next ((foldStore r.1 p (foldLine a) (pbOf 64 0 false)).1.emit
          (.foldValue p (readOut (s.anchor p b) (cellInt r.2)) (pbPsn r.2)))

/-! ### Registers as commands (chapters 4, 8, 10, 12) -/

/-- Arming: the write keeps the entry not valid and queues its checks; when its turn has come, with Hayward in service, the
first failing check in the order of its table is recorded, or VALID reads 1; a disarming write of a valid entry takes VALID
away. The model's own choices in it: log entries 14 and 71. -/
def Obligations.ArmingResults : Prop :=
  (∀ (s : State) (p n : Nat) (v : W64), n < 256 → p < 4 → s.isArming kRgn p n = false →
    (bitW (s.reg (aRgnLo p n)) 0 = false → exec (.rgnArm p n v) s = .next (((s.setReg (aRgnLo p n)
      (setFld v 0 0 1 &&& rgnLoMask)).setReg (aMM p + 0x1218) (BitVec.ofNat 64 n)).armPut kRgn p n))
    ∧ (bitW (s.reg (aRgnLo p n)) 0 = true → exec (.rgnArm p n v) s = .next s)
    ∧ (bitW (s.reg (aRgnLo p n)) 0 = true → (p, n) ∉ s.disarming →
        exec (.rgnDisarm p n) s = .next { s with disarming := s.disarming ++ [(p, n)] }))
  ∧ (∀ (s : State) (p n : Nat), (s.armTurn kRgn p n = false → exec (.rgnArmDone p n) s = .next s)
    ∧ (s.armTurn kRgn p n = true →
      let lo := s.reg (aRgnLo p n)
      let hi := s.reg (aRgnHi p n)
      let b := rgnBase lo
      let l := rgnLen lo hi
      let t := s.armEnd kRgn p n
      let err := fun c : Nat => exec (.rgnArmDone p n) s = .next (t.setReg (aMM p + 0x1218) (BitVec.ofNat 64 (n + c * 256)))
      (fld hi 19 0 = 0 → err 1)
      ∧ (fld hi 19 0 ≠ 0 → bitW lo 1 = true → fld lo 29 21 ≠ 0 → err 2)
      ∧ (rgnCheck s p n = 0 → exec (.rgnArmDone p n) s = .next (t.setReg (aRgnLo p n) (setFld lo 0 0 1)))
      ∧ (rgnCheck s p n = 0 ↔ fld hi 19 0 ≠ 0 ∧ (bitW lo 1 = true → fld lo 29 21 = 0) ∧ s.inGrants p b l = true
          ∧ s.isAbsent b = false ∧ ¬ s.nextAbsent b (b + l) < b + l
          ∧ (bitW lo 3 = true → isBase b = true ∧ isBase (b + l - 1) = true ∧ bitW lo 4 = true ∧ bitW lo 5 = true)
          ∧ ∀ r ∈ s.rgns p, r.1 ≠ n → bitW r.2.1 0 = true → overlap b l (rgnBase r.2.1) (rgnLen r.2.1 r.2.2) = false)
      ∧ (rgnCheck s p n ≠ 0 → err (rgnCheck s p n))))
  ∧ (∀ (s : State) (p n : Nat) (v : W64), n < 64 → p < 4 → s.isArming kSb p n = false →
    (s.sbValid p n = false → exec (.sbArm p n v) s = .next ((s.setReg (aSbCfg p n) (setFld v 63 63 1 &&& maskW 43 0)).armPut kSb p n))
    ∧ (s.sbValid p n = true → exec (.sbDisarm p n) s = .next (s.setReg (aSbCfg p n) (setFld (s.reg (aSbCfg p n)) 63 63 0))))
  ∧ (∀ (s : State) (p n : Nat), (s.armTurn kSb p n = false → exec (.sbArmDone p n) s = .next s)
    ∧ (s.armTurn kSb p n = true →
      let t := s.armEnd kSb p n
      let b := s.sbBase p n
      let l := s.sbCells p n * 64
      let st := s.sbStat p n
      let folds := (s.chk p [pFold] b l).isOk && (s.chk p [pFold] st 64).isOk
      let err := fun c : Nat => exec (.sbArmDone p n) s = .next (t.setReg (aSbCfg p n) (setFld (s.reg (aSbCfg p n)) 61 60 c))
      (l = 0 → err 2) ∧ (l ≠ 0 → folds = false → err 1) ∧ (l ≠ 0 → folds = true → b ≤ st ∧ st < b + l → err 3)
      ∧ (l ≠ 0 → folds = true → ¬ (b ≤ st ∧ st < b + l) →
        let t1 := storeMem t 16 st (pbOf 8 0 false ++ pbOf 2 (fld (s.reg (aSbCfg p n)) 15 0) false ++ pbOf 54 0 false)
        let fl := (List.range 8).foldl (fun m d => mput 0 m ((p * 64 + n) * 8 + d) 0) t1.sbFlags
        exec (.sbArmDone p n) s = .next ({ t1 with sbFlags := fl }.setReg (aSbCfg p n)
          (setFld (s.reg (aSbCfg p n)) 63 63 1)))))
  ∧ (∀ (s : State) (p w : Nat) (v : W64), w < 64 → p < 4 → s.isArming kWin p w = false →
    (s.winValid p w = false → exec (.winArm p w v) s = .next
      ((s.setReg (aWinHi p w) (setFld v 32 32 1 &&& (maskW 31 0 ||| maskW 49 33))).armPut kWin p w))
    ∧ (s.winValid p w = true → exec (.winDisarm p w) s = .next (s.setReg (aWinHi p w) (setFld (s.reg (aWinHi p w)) 32 32 0))))
  ∧ (∀ (s : State) (p w : Nat), (s.armTurn kWin p w = false → exec (.winArmDone p w) s = .next s)
    ∧ (winCheck s p w = 0 ↔ (∃ r ∈ s.liveRgns p, bitW r.2.1 3 = true ∧ rgnBase r.2.1 ≤ s.winBase p w
          ∧ s.winBase p w + s.winLen p w ≤ rgnBase r.2.1 + rgnLen r.2.1 r.2.2) ∧ s.winLen p w ≠ 0
        ∧ (bitW (s.reg (aWinHi p w)) 36 = true → let n := fld (s.reg (aWinHi p w)) 42 37
          s.sbValid p n = true ∧ s.sbBase p n ≤ s.winBase p w
          ∧ s.winBase p w + s.winLen p w ≤ s.sbBase p n + s.sbCells p n * 64))
    ∧ (s.armTurn kWin p w = true →
      (winCheck s p w = 0 → exec (.winArmDone p w) s = .next (((s.armEnd kWin p w).setReg (aWinLo p w)
        (setFld (s.reg (aWinLo p w)) 63 48 (s.winEpoch p w + 1))).setReg (aWinHi p w) (setFld (s.reg (aWinHi p w)) 32 32 1)))
      ∧ (winCheck s p w ≠ 0 → exec (.winArmDone p w) s = .next ((s.armEnd kWin p w).setReg (aWinHi p w)
        (setFld (s.reg (aWinHi p w)) 51 50 (winCheck s p w))))))
  ∧ (∀ (s : State) (p n : Nat) (v : W64), n < 16 → p < 4 → s.isArming kB2 p n = false →
    (s.b2Valid p n = false → exec (.b2WinArm p n v) s = .next (((s.setReg (aB2Lo p n) (setFld v 0 0 1 &&& maskW 47 21)).setReg
      (aB2Hi p n) (setFld ((s.setReg (aB2Lo p n) (setFld v 0 0 1 &&& maskW 47 21)).reg (aB2Hi p n)) 43 41 0)).armPut kB2 p n))
    ∧ (s.b2Valid p n = true → exec (.b2WinDisarm p n) s = .next (s.setReg (aB2Lo p n) (setFld (s.reg (aB2Lo p n)) 0 0 0))))
  ∧ ∀ (s : State) (p n : Nat), (s.armTurn kB2 p n = false → exec (.b2WinArmDone p n) s = .next s)
    ∧ (s.armTurn kB2 p n = true →
      let t := s.armEnd kB2 p n
      let o := s.b2Off p n
      let l := s.b2Len p n
      let clash := ((List.range 16).any fun m => m != n && s.b2Valid p m && overlap o l (s.b2Off p m) (s.b2Len p m)) = true
      let err := fun c : Nat => exec (.b2WinArmDone p n) s = .next (t.setReg (aB2Hi p n) (setFld (s.reg (aB2Hi p n)) 43 41 c))
      (l = 0 → err 1) ∧ (l ≠ 0 → 2 ^ s.bar2Log2 p < o + l → err 2)
      ∧ (l ≠ 0 → o + l ≤ 2 ^ s.bar2Log2 p → (clash → err 3)
        ∧ (¬ clash → s.inGrants p (s.b2Dev p n) l = false → err 4)
        ∧ (¬ clash → s.inGrants p (s.b2Dev p n) l = true →
          exec (.b2WinArmDone p n) s = .next (t.setReg (aB2Lo p n) (setFld (s.reg (aB2Lo p n)) 0 0 1)))))

/-- A REGISTER_WRITE: a host's write reaches the register, channel entry or vector that its BAR0 offset shows; one that is not
4 or 8 aligned bytes, or reaches a reserved offset, is a bad access; a core's write outside its partition is ACCESS. The
model's own choices in it: log entries 90, 92, 98 and 110. -/
def Obligations.RegisterWriteResults : Prop :=
  (∀ (s : State) (p o size : Nat) (v : W64), s.hw.fatal = false → (s.host p).fatal = false → s.power.pwrGood = true →
    s.power.sysRstN = true → s.boot.stage = 5 → s.ideOk p = true → (s.host p).preset = .none →
    (∀ a, s.bar0Pf p o = .reg a →
      (∀ m, regLanes a size = some m →
        exec (.registerWrite (.pf p) o size v) s = .next (writeReg s true p (a / 8 * 8) m (laneVal a v)))
      ∧ (regLanes a size = none → exec (.registerWrite (.pf p) o size v) s = .next (badAccess s (16 + p / 2) p a)))
    ∧ (∀ ch b, s.bar0Pf p o = .chan ch b → exec (.registerWrite (.pf p) o size v) s = .next (s.setChW ch (b / 8)
        (merge (s.chW ch (b / 8)) (byteMask (b % 8) size) (v <<< (8 * (b % 8))))))
    ∧ (s.bar0Pf p o = .reserved → exec (.registerWrite (.pf p) o size v) s = .next (badAccess s (16 + p / 2) p o))
    ∧ (s.bar0Pf p o = .pba → exec (.registerWrite (.pf p) o size v) s = .next s)
    ∧ ∀ n ch b, s.bar0Vf p n o = .chan ch b → exec (.registerWrite (.vf p n) o size v) s = .next (s.setChW ch (b / 8)
        (merge (s.chW ch (b / 8)) (byteMask (b % 8) size) (v <<< (8 * (b % 8))))))
  ∧ (∀ (s : State) (p o size : Nat) (v : W64), (s.power.pwrGood = false ∨ s.power.sysRstN = false ∨ (s.host p).fatal = true) →
      exec (.registerWrite (.pf p) o size v) s = .next s)
  ∧ (∀ (s : State) (d a size : Nat) (v : W64), let p := s.corePart d
      let ins : BitVec 16 := if size = 8 then 0x300B else 0x300A
      (isControl a = false ∨ ctlReach s p a = false →
        exec (.registerWrite (.core d) a size v) s = .next (takeException s d cAccess a ins))
      ∧ (isControl a = true → ctlReach s p a = true →
        ((s.core d).priv = .U → aCoreWin d + 0x100 ≤ a → a < aCoreWin d + 0x300 →
          exec (.registerWrite (.core d) a size v) s = .next (takeException s d cPrivilege 0 ins))
        ∧ ((s.core d).priv ≠ .U ∨ a < aCoreWin d + 0x100 ∨ aCoreWin d + 0x300 ≤ a →
          (∀ m, regLanes a size = some m →
            (aCoreWin d ≤ a / 8 * 8 ∧ a / 8 * 8 < aCoreWin (d + 1) → exec (.registerWrite (.core d) a size v) s =
              .next (s.setCore d ((s.core d).write (s.core d).priv (a / 8 * 8 % 0x1000) m (laneVal a v))))
            ∧ (¬ (aCoreWin d ≤ a / 8 * 8 ∧ a / 8 * 8 < aCoreWin (d + 1)) →
              exec (.registerWrite (.core d) a size v) s = .next (writeReg s false p (a / 8 * 8) m (laneVal a v))))
          ∧ (regLanes a size = none →
            exec (.registerWrite (.core d) a size v) s = .next (badAccess s (s.dieOf (d / 8)) p a)))))
  ∧ ∀ (k : Core) (lvl : Priv) (v : W64), let all := BitVec.allOnes 64
      fld (k.write lvl 8 all v).vxVl 12 0 ≤ 4096
      ∧ (k.write lvl 0x48 all v).vxSrState.toNat % 2 ^ 32 ≠ 0
      ∧ (lvl ≠ .M → k.write lvl 0x208 all v = k)
      ∧ ∀ o, (k.write lvl o all v).ds = k.ds ∧ (k.write lvl o all v).lm = k.lm ∧ (k.write lvl o all v).vr = k.vr
          ∧ (k.write lvl o all v).priv = k.priv

/-- The rows for single registers of the LK and HW blocks: partner entries written, read and expelled by their port's owner,
key slots loaded, ports enabled, and the partition view's entry acknowledged. The model's own choices in it: log entries 70
and 76. -/
def Obligations.LinkRegisterResults : Prop :=
  (∀ (s : State) (p ref cmd : Nat) (c : Nat → Nat → Instr) (t : State → Nat → Nat → State),
    (c, t, cmd) ∈ ([(.partnerEntryWrite, ptWrite, 1), (.partnerEntryRead, ptRead, 2), (.expelPartner, ptExpel, 3)]
      : List ((Nat → Nat → Instr) × (State → Nat → Nat → State) × Nat)) → p < 4 →
    let s1 := s.setReg (aLK p + 8) (setFld (s.reg (aLK p + 8)) 15 0 ref)
    exec (c p ref) s = .next (t s1 p (fld (s1.reg (aLK p + 8)) 15 0)))
  ∧ (∀ (s : State) (p r : Nat),
    (s.portPart (refPort r) ≠ some p → ptWrite s p r = s.ptErr p 1 ∧ ptRead s p r = s.ptErr p 1 ∧ ptExpel s p r = s.ptErr p 1)
    ∧ (s.portPart (refPort r) = some p →
      (refEntry r = 0 → ptExpel s p r = s.ptErr p 2)
      ∧ (refEntry r ≠ 0 → ptExpel s p r = (((s.setPtState r 2).setTransport r
          { s.transport r with unacked := [], queue := [], held := [] }).endOpsWith r .denied none).ptErr p 0)
      ∧ ptRead s p r = ((List.range 8).foldl (fun (s : State) i => s.setReg (aLK p + 0x40 + 8 * i) (s.partner r i)) s).ptErr p 0))
  ∧ (∀ (s : State) (p : Nat) (v : W64), p < 4 → let k := fld v 16 14
      let d := fun i => (s.reg (aLK p + 0x80 + 8 * i)).toNat
      let x : KeySlot := ⟨BitVec.ofNat 256 (d 0 + d 1 * 2 ^ 64 + d 2 * 2 ^ 128 + d 3 * 2 ^ 192),
        BitVec.ofNat 96 (d 4 + d 5 % 2 ^ 32 * 2 ^ 64), BitVec.ofNat 32 (d 5 / 2 ^ 32), fld v 18 17, 1⟩
      (s.portPart k ≠ some p → exec (.keyLoad p v) s = .next s)
      ∧ (s.portPart k = some p → exec (.keyLoad p v) s = .next { s with keys := madd s.keys (k * 16384 + fld v 13 0) x }))
  ∧ (∀ (s : State) (k p : Nat), k < 8 → s.portPart k = some p → bitW (s.reg (aPortCfg p k)) 2 = false →
      let s1 := s.setReg (aPortCfg p k) (setFld (s.reg (aPortCfg p k)) 2 2 1)
      bitW (s1.reg (aPortCfg p k)) 2 = true → exec (.portEnable k) s = .next
        (if (s1.port k).phase = .down then s1.setPort k { s1.port k with
          phase := .equalise, lanes := 0, degraded := false, recal := none } else s1))
  ∧ ∀ (s : State) (p : Nat) (v : W64), p < 4 →
      (mget 0 s.hw.viewAt (2 * p) ≠ fld v 31 0 + 1 → exec (.pvAck p v) s = .next s)
      ∧ (mget 0 s.hw.viewAt (2 * p) = fld v 31 0 + 1 → exec (.pvAck p v) s = .next
        (((List.range 8).foldl (fun (u : State) i => u.setReg (aPV p + 0x40 + 8 * i) 0)
          { s with hw := { s.hw with viewAt := mput 0 s.hw.viewAt (2 * p) 0 } }).present p))

/-! ### Storage repair (chapter 8) and transfer codes (chapters 2, 8) -/

/-- Scrubbing and repair: a scrub read corrects or poisons what it finds where the scrub is on; a write-back ends a soft error
and spares the row of a hard one; the ends of copies set the map, the granule's place or the spare pool; each leaves its
record. The model's own choices in it: log entries 27, 37, 64 and 116. -/
def Obligations.RepairResults : Prop :=
  (∀ (s : State) (d off a : Nat), let w := lmWord d off
      (s.policy.scrub = false → exec (.scrubRead (.lm d off)) s = .next s ∧ exec (.scrubRead (.dev a)) s = .next s)
      ∧ (mfind s.mem.latent w = none → exec (.scrubRead (.lm d off)) s = .next s)
      ∧ (s.policy.scrub = true → ∀ x, mfind s.mem.latent w = some x →
          exec (.scrubRead (.lm d off)) s = .next (s.lmFound w x))
      ∧ (mfind s.mem.latent (unitOf a) = none ∨ isMemory a = false → exec (.scrubRead (.dev a)) s = .next s)
      ∧ (s.policy.scrub = true → isMemory a = true → s.isDetect a = false → s.isAbsent a = false →
          ∀ x, mfind s.mem.latent (unitOf a) = some x →
          let s1 := (readErr s (if isDdr a then 16 else bankDie (s.bankRow a).1) (unitOf a) x).1
          exec (.scrubRead (.dev a)) s = .next
            (if s1.mem.writeback.contains (unitOf a) then s1.writeBack (unitOf a) else s1))
      ∧ exec (.correctedWriteback (.lm d off)) s = .next s
      ∧ (unitOf a ∉ s.mem.writeback → exec (.correctedWriteback (.dev a)) s = .next s)
      ∧ (unitOf a ∈ s.mem.writeback →
          let s1 := { s with mem := { s.mem with writeback := sdel s.mem.writeback (unitOf a) } }
          (mfind s.mem.latent (unitOf a) = some (.correctable true) →
            exec (.correctedWriteback (.dev a)) s = .next (s1.rowFails (unitOf a * 8)))
          ∧ (mfind s.mem.latent (unitOf a) = some (.correctable false) → exec (.correctedWriteback (.dev a)) s = .next
              { s1 with mem := { s1.mem with latent := mdel s1.mem.latent (unitOf a) } })
          ∧ (mfind s.mem.latent (unitOf a) = none → exec (.correctedWriteback (.dev a)) s = .next s1)))
  ∧ (∀ (s : State) (b : BankRef) (row sp : Nat), let n := s.bankNo b
      ((s.bank n).copying = none → exec (.spareCopyDone b row) s = .next s)
      ∧ ((s.bank n).copying = some (row, sp) →
        let s1 := s.copied fun w => (decide (2 ^ 50 ≤ w) || (isMemory (w * 8) && !isDdr (w * 8))) && s.wordRow w == (n, row)
        let s2 := s1.setBank n { s.bank n with map := madd (s.bank n).map row sp, copying := none }
        exec (.spareCopyDone b row) s = .next (if n < 1000 then s2.endAction uBaseBank n else s2)))
  ∧ (∀ (s : State) (g t : Nat), (mfind s.repair.copying g = none → exec (.granuleCopyDone g) s = .next s)
      ∧ (mfind s.repair.copying g = some t →
        let s1 := s.copied fun w => isBase (w * 8) && granuleOf (w * 8) == g
        let s2 := { s1 with repair := { s1.repair with
          copying := mdel s1.repair.copying g, granuleAt := madd s1.repair.granuleAt g t } }
        ∃ e : LogEntry, e.code = eGranuleMoved ∧ e.addr = granuleAddr g ∧ exec (.granuleCopyDone g) s = .next
          ((logEv (s2.record 4 (granuleDie g) (granuleBank g) 0 (0x400000000000 / 0x200000 + g) t) (8 + granuleDie g) e).nextMove
            (s.homeBank g) 5))
      ∧ (mfind s.repair.ddrCopying g = none → exec (.ddrGranuleCopyDone g) s = .next s)
      ∧ (mfind s.repair.ddrCopying g = some t →
        let s1 := s.copied fun w => isDdr (w * 8) && w * 8 / 0x200000 == g
        let s2 := { s1 with repair := { s1.repair with ddrCopying := mdel s1.repair.ddrCopying g, ddrAt := madd s1.repair.ddrAt g t } }
        ∃ e : LogEntry, e.code = eGranuleMoved ∧ e.addr = g * 0x200000 ∧ exec (.ddrGranuleCopyDone g) s =
          .next (logEv (s2.record 4 (g * 0x200000 / 256 % 80 / 4) (g * 0x200000 / 256 % 80) 0 g t) 16 e)))
  ∧ (∀ (s : State) (r : DdrRow), let arg := r.bank + 256 * r.row
      (s.pprOn r = false → exec (.pprDone r) s = .next s ∧ exec (.pprTimeout r) s = .next s)
      ∧ (s.pprOn r = true →
        (let s1 := s.copied (inDdrRow r.chan arg)
          let s2 := { s1 with repair := { s1.repair with rows := ⟨r.chan, r.bank, r.row, r.addr, false⟩ :: s1.dropRow r } }
          ∃ e : LogEntry, e.code = eDdrRepaired ∧ e.addr = r.addr ∧ exec (.pprDone r) s = .next
            ((logEv (s2.record 6 (r.chan / 4) (r.chan + 256 * r.bank) r.row (r.chan + 128 * arg) r.addr) 16 e).endAction uDdrRow
              (r.chan + 128 * arg)))
        ∧ exec (.pprTimeout r) s = .next (((({ s with repair := { s.repair with rows := s.dropRow r } }).endAction uDdrRow
            (r.chan + 128 * arg)).retireUnit uDdrRow (r.chan + 128 * arg)).unrepairable r.chan arg r.addr)))
  ∧ (∀ (s : State) (k b : Nat),
      (k < 80 → b < 256 → exec (.ddrRefresh k b) s = .next { s with repair := { s.repair with
        refreshes := mput 0 s.repair.refreshes k (mget 0 s.repair.refreshes k + 1) } })
      ∧ (k < 80 → exec (.ddrRetrainStep k) s = .next { s with repair := { s.repair with
        retrainSteps := mput 0 s.repair.retrainSteps k (mget 0 s.repair.retrainSteps k + 1) } }))
  ∧ (∀ (s : State), (s.repair.pending = [] → exec .repairRecordWrite s = .next s)
      ∧ ∀ r rest, s.repair.pending = r :: rest →
        let all := s.repair.recs ++ [r]
        let kept := if all.length ≤ 16384 then all else all.filter fun x => !all.any fun y => y.over x
        (kept.length ≤ 16384 →
          exec .repairRecordWrite s = .next { s with repair := { s.repair with pending := rest, recs := kept } })
        ∧ (16384 < kept.length → ∃ e : LogEntry, e.code = eRepairLog ∧ e.detail = 2 ∧ exec .repairRecordWrite s =
            .next (logEv { s with repair := { s.repair with pending := rest } } 16 e)))
  ∧ (∀ (s : State) (c a : Nat), exec (.beatReplay c a true) s = .next s
      ∧ (isMemory (a / 256 * 256) = true → s.isAbsent (a / 256 * 256) = false →
        ∃ e : LogEntry, e.code = ePathUe ∧ e.addr = a / 256 * 256 ∧ exec (.beatReplay c a false) s = .next
          (logCluster { s with mem := { s.mem with
            psn := ((List.range 32).map (· + a / 256 * 256 / 8)).foldl sadd s.mem.psn } } c e)))
  ∧ (∀ (s : State) (c grp ph : Nat), s.physOfRole c = some ph → grp < 288 →
      let x := s.physOf ph
      let near := (x.erased.filter fun g => g % 8 == grp % 8).length
      (grp ∈ x.erased → exec (.bondErased c grp) s = .next s)
      ∧ (grp ∉ x.erased → 2 ≤ near → exec (.bondErased c grp) s = .next (s.retireCluster ph 3))
      ∧ (grp ∉ x.erased → near < 2 → ∃ e : LogEntry, e.code = eBondErased ∧ e.unit = grp ∧ exec (.bondErased c grp) s = .next
          (logEv ((s.setPhys ph { x with erased := sadd x.erased grp }).record 8 (ph / 36) ph grp ph 0) (ph / 36) e)))
  ∧ ∀ (s : State) (grp : Nat),
      (s.repair.d2dRetired.contains grp = true → ∀ ok, exec (.d2dLaneRepaired grp ok) s = .next s)
      ∧ (s.repair.d2dRetired.contains grp = false →
        exec (.d2dLaneRepaired grp false) s = .next (s.d2dRetire grp)
        ∧ ∃ e : LogEntry, e.code = eD2dLaneRepaired ∧ e.unit = grp ∧ let s1 := logUnit s 16 e 0
          exec (.d2dLaneRepaired grp true) s = .next (if s1.unitRetired uD2d grp then s1.d2dRetire grp else s1))

/-! ### The matrix engines (chapters 3, 4) and the stream engines (chapter 9) -/

/-- A matrix command: it starts where its checks pass and completes with their status otherwise; rows enter the array one by
one, passes and blocks follow each other, a completed tile drains to memory, and the command ends with the highest-ranked
status. The model's own choices in it: log entries 23, 24, 25, 57 and 58. -/
def Obligations.MatrixCommandResults : Prop :=
  (∀ (s : State) (c : Nat) q rest, let k := s.cluster c
    k.mx = none → k.mxQ = q :: rest →
    let s1 := s.setCluster c { k with mxQ := rest }
    let x := mxParse q.words q.ext
    let same := bitW (s.reg (aMX c)) 0
    (opOf q.words = 0x21 → exec (.mxExtAlone c) s =
      .next (s1.engineEnd c q.part q.src (q.words.getD 0 0) .illegalCommand 0 0))
    ∧ (opOf q.words = 0x20 →
      (∀ st, s.mxCheck c q.part same x q.ext = some st →
        exec (.mxMatmul c) s = .next (s1.engineEnd c q.part q.src (q.words.getD 0 0) st 0 0))
      ∧ (s.mxCheck c q.part same x q.ext = none →
        let a := loadPass s1 (s.dieOf c) x 0
        let b := loadShadow a.1 (s.dieOf c) x (x.following 0 0)
        ∃ m : MxRun, exec (.mxMatmul c) s = .next (b.1.setCluster c { b.1.cluster c with mx := some m })
          ∧ m.cmd = x ∧ m.src = q.src ∧ m.part = q.part ∧ m.sameFmt = same ∧ m.block = 0 ∧ m.pass = 0 ∧ m.row = 0
          ∧ m.active = some a.2 ∧ m.shadow = b.2 ∧ m.tile = x.freshTile (!k.lastTileB) 0 ∧ m.drain = [] ∧ m.pend = none
          ∧ m.viol = none ∧ m.stop = none ∧ m.failed = false
          ∧ m.flags = BitVec.ofNat 8 (32 * b2n (s.windrowOff c) + 64 * b2n x.noBound))))
  ∧ (∀ (s : State) (c : Nat) (m : MxRun) (w : PassW), let k := s.cluster c
    k.mx = some m → m.active = some w → m.pend = none → m.failed = false → s.power.holdIssue = false →
    m.block < m.cmd.blocks → m.row < m.cmd.rows m.block → (∀ t ∈ m.drain, t.isB ≠ m.tile.isB) →
    let r := readRow s (s.dieOf c) m.cmd m.pass (m.tile.firstRow + m.row)
    let s1 := r.1.setReg (aMX c + 0x30) (r.1.reg (aMX c + 0x30) + 1)
    exec (.mxRowEnter c) s = .next (s1.setCluster c { s1.cluster c with mx := some { m with
      row := m.row + 1, pend := some (arrayRow m.cmd w r.2 m.row) } }))
  ∧ (∀ (s : State) (c : Nat) (m : MxRun), let k := s.cluster c
    k.mx = some m → m.pend = none → m.failed = false → m.block < m.cmd.blocks → m.cmd.rows m.block ≤ m.row →
    let m1 := { m with retained := m.active, active := m.shadow, shadow := none, row := 0 }
    (m.pass + 1 < m.cmd.nPass → let b := loadShadow s (s.dieOf c) m.cmd (m.cmd.following m.block (m.pass + 1))
      exec (.mxPassBoundary c) s = .next (b.1.setCluster c { b.1.cluster c with mx := some { m1 with
        pass := m.pass + 1, shadow := b.2 } }))
    ∧ (m.cmd.nPass ≤ m.pass + 1 → m.block + 1 < m.cmd.blocks → m.stop = none →
      let b := loadShadow s (s.dieOf c) m.cmd (m.cmd.following (m.block + 1) 0)
      exec (.mxPassBoundary c) s = .next (b.1.setCluster c { b.1.cluster c with mx := some { m1 with
        drain := m.drain ++ [m.tile], block := m.block + 1, pass := 0, shadow := b.2
        tile := m.cmd.freshTile (!m.tile.isB) (m.block + 1) } }))
    ∧ (m.cmd.nPass ≤ m.pass + 1 → m.cmd.blocks ≤ m.block + 1 ∨ m.stop ≠ none →
      exec (.mxPassBoundary c) s = .next (s.setCluster c { k with lastTileB := m.tile.isB, mx := some { m1 with
        drain := m.drain ++ [m.tile], block := m.cmd.blocks, active := none } })))
  ∧ (∀ (s : State) (c : Nat) (m : MxRun) t rest, let k := s.cluster c
    k.mx = some m → m.drain = t :: rest →
    let x := m.cmd
    let s1 := t.els.zipIdx.foldl (fun u r => storeMem u (s.dieOf c) (x.cAddr + (t.firstRow + r.2) * x.cLd)
      (r.1.flatMap fun e => pbOf x.accB (e.bits.toNat % 2 ^ (8 * x.accB)) e.psn)) s
    ∃ m' : MxRun, exec (.mxTileDrainDone c) s = .next (s1.setCluster c { s1.cluster c with mx := some m' })
      ∧ m'.drain = rest ∧ m'.wrotePsn = (m.wrotePsn || t.els.any fun r => r.any (·.psn))
      ∧ m'.cover = (List.range t.els.length).foldl (fun v i => coverAdd v (x.cAddr + (t.firstRow + i) * x.cLd) (x.n * x.accB)) m.cover
      ∧ (x.range = false → m'.viol = m.viol)
      ∧ { m' with drain := m.drain, wrotePsn := m.wrotePsn, viol := m.viol, cover := m.cover } = m)
  ∧ ∀ (s : State) (c : Nat) (m : MxRun), let k := s.cluster c
    k.mx = some m → m.drain = [] → m.pend = none → (m.failed = true ∨ m.cmd.blocks ≤ m.block) →
    let s1 := (s.setCluster c { k with mx := none }).coverFresh (s.dieOf c) m.cover
    let own : Status :=
      if m.failed then .checkFail else if m.wrotePsn then .poisoned else if m.viol.isSome then .rangeCheck else .ok
    let st := Status.worse own (m.stop.getD .ok)
    (st ≠ .rangeCheck → exec (.mxCommandEnd c) s = .next (s1.engineEnd c m.part m.src m.hdr st m.flags 0))
    ∧ (st = .rangeCheck → exec (.mxCommandEnd c) s = .next ((s1.setReg (aMX c + 0x28)
        (BitVec.ofNat 64 (m.viol.getD 0 % 2 ^ 48 + m.cmd.seq % 2 ^ 16 * 2 ^ 48))).engineEnd c m.part m.src m.hdr st m.flags 0))

/-- The windrow check: an agreeing row is accumulated; a mismatch waits for its re-runs, and their vote blames the checker,
masks a transient error or retires the engine. The model's own choices in it: log entries 23, 26 and 121. -/
def Obligations.WindrowCheckResults : Prop :=
  (∀ (s : State) (c col : Nat) (e1 e2 : Dy) (m : MxRun) (p : RowPend), let k := s.cluster c
    k.mx = some m → m.pend = some p → p.mismatch = none →
    let l := colsErr p.cols col e1
    let m1 := m.accRow p.row l
    (s.windrowOff c = true → exec (.windrowCompare c col e1 e2) s = .next (s.setCluster c { k with mx := some m1 }))
    ∧ (s.windrowOff c = false →
      (p.skip = true → exec (.windrowCompare c col e1 e2) s =
        .next ((s.setCluster c { k with mx := some { m1 with flags := m1.flags ||| 0x80 } }).bump (aMX c + 0x20) 31 0 1))
      ∧ (p.skip = false → comparePasses m.cmd l (dyAdd p.chk e2) p.chkE = true →
        exec (.windrowCompare c col e1 e2) s = .next (s.setCluster c { k with mx := some m1 }))
      ∧ (p.skip = false → comparePasses m.cmd l (dyAdd p.chk e2) p.chkE = false →
        exec (.windrowCompare c col e1 e2) s = .next (s.setCluster c { k with mx := some { m with
          pend := some { p with mismatch := some (col, e1) } } }))))
  ∧ (∀ (s : State) (c col1 col2 : Nat) (e1 e2 e3 : Dy) (m : MxRun) (p : RowPend) (o : Nat × Dy), let k := s.cluster c
    k.mx = some m → m.pend = some p → p.mismatch = some o →
    let u := s.rerunStall c m.sameFmt
    let l0 := colsErr p.cols o.1 o.2
    let l1 := colsErr p.cols col1 e1
    let l2 := colsErr p.cols col2 e2
    let good := comparePasses m.cmd l1 (dyAdd p.chk e3) p.chkE
    (sameCols l1 l2 = true → sameCols l1 l0 = true → let m1 := m.accRow p.row l0
      let s1 := u.setCluster c { k with mx := some { m1 with flags := m1.flags ||| 0x20 } }
      let s2 := s1.setReg (aMX c + 0x18) (setFld (s1.reg (aMX c + 0x18)) 1 0 1)
      exec (.windrowVote c col1 e1 col2 e2 e3) s = .next ((logCluster s2 c (u.wrEvent m eWrChecker 0xFF)).flagCluster (s2.phOf c) 4))
    ∧ (sameCols l1 l2 = true → sameCols l1 l0 = false → good = true → let m1 := m.accRow p.row l1
      let s1 := u.setCluster c { k with mx := some { m1 with flags := m1.flags ||| 0x10 } }
      exec (.windrowVote c col1 e1 col2 e2 e3) s = .next (logCluster (s1.bump (aMX c + 0x18) 31 16 1) c (u.wrEvent m eWrMasked 0xFF)))
    ∧ (sameCols l1 l2 = false ∨ (sameCols l1 l0 = false ∧ good = false) →
      let s1 := u.setCluster c { k with lastTileB := m.tile.isB, mx := some { m with pend := none, failed := true } }
      exec (.windrowVote c col1 e1 col2 e2 e3) s = .next ((logCluster s1 c (u.wrEvent m eWrEngine Status.checkFail.code)).retireCluster (s1.phOf c) 4)))
  ∧ ∀ (m : MxRun) (row : Nat) (l : List ColRes), m.cmd.acc ≠ 13 → row < m.tile.els.length → (m.tile.els.getD row []).length ≤ l.length →
      let m' := m.accRow row l
      m'.pend = none ∧ (m'.tile.els.getD row []).length = (m.tile.els.getD row []).length
      ∧ (∀ i, i ≠ row → m'.tile.els.getD i [] = m.tile.els.getD i [])
      ∧ ∀ (j : Nat) (c : ColRes) (t : TileEl), l[j]? = some c → (m.tile.els.getD row [])[j]? = some t →
          (m'.tile.els.getD row [])[j]? = some
            ⟨BitVec.ofNat 64 (addV false m.cmd.acc (decode m.cmd.acc t.bits.toNat) c.v.val).1, t.psn || c.psn⟩

/-- A stream command: its list is checked, descriptors are fetched and checked, take their slots, move their rows piece by
piece with check values and digest, and end; a mismatched block is read once more; NACKs and lost host reads end it as ruled.
The model's own choices in it: log entries 30, 32 and 59. -/
def Obligations.StreamCommandResults : Prop :=
  (∀ (s : State) (c : Nat) q rest, let k := s.cluster c
    k.se = none → k.seQ = q :: rest →
    let list := fld (q.words.getD 1 0) 47 0
    let count := fld (q.words.getD 2 0) 16 0
    let s1 := s.setCluster c { k with seQ := rest }
    (count = 0 ∨ 65536 < count ∨ list % 64 ≠ 0 → exec (.seList c) s =
      .next (s1.engineEnd c q.part q.src (q.words.getD 0 0) .illegalCommand 0 0))
    ∧ (1 ≤ count → count ≤ 65536 → list % 64 = 0 → opOf q.words = 0x30 →
      let x : SeRun := ⟨q.src, q.part, q.words.getD 0 0, list, count, 0, [], none, none, 0, none, none, none, none, 0, [], [], []⟩
      exec (.seList c) s = .next (s1.setCluster c { s1.cluster c with se := some x })))
  ∧ (∀ (s : State) (c : Nat) (x : SeRun), (s.cluster c).se = some x → x.fetched.length ≤ 8 → x.bad = none → x.next < x.count →
      let r := fetchDescs c 16 s x
      exec (.descriptorFetch c) s = .next (r.1.seNext c r.2))
  ∧ (∀ (s : State) (c n : Nat) (x : SeRun), x.bad = none → x.next < x.count → ∀ b, s.extBad x.part [pR] (x.list + 64 * x.next) 64 = some b →
      fetchDescs c (n + 1) s x = (s, { x with bad := some (x.next, .outOfBounds, BitVec.ofNat 64 b) }))
  ∧ (∀ (s : State) (c : Nat) (x : SeRun) (d : Desc), (s.cluster c).se = some x → x.cur = some d →
    (d.phase = .waitSlots → (∀ e ∈ d.engines, d.slots ≤ (s.cluster e).slotsFree) →
        (∀ e ∈ s.passes d, (s.cluster e).passedOver < 16) →
      let s1 := d.engines.foldl (fun s e => s.setCluster e { s.cluster e with slotsFree := (s.cluster e).slotsFree - d.slots }) s
      let s2 := (s.passes d).foldl (fun s e => s.setCluster e { s.cluster e with passedOver := (s.cluster e).passedOver + 1 }) s1
      exec (.slotGrant c) s = .next (s2.setCluster c { s2.cluster c with
        passedOver := 0, se := some { x with cur := some { d with phase := .granted } } }))
    ∧ (∀ row ∈ ([(.streamCopy, 0, copyRow), (.streamFill, 1, fillRow), (.streamFold, 2, foldRow), (.streamBcast, 3, copyRow),
        (.streamSwread, 4, swreadRow)] : List ((Nat → Instr) × Nat × (Mv → Nat → Desc → Nat → Mv))),
      let onBus := (readsRows d.words && dSrcHost d.words) || (!foldsCells d.words && dOp d.words != 2 && dDstHost d.words)
      d.phase = .granted → dOp d.words = row.2.1 →
      (onBus = true → s.hostWay x.part (s.seFn x) = .held → exec (row.1 c) s = .next s)
      ∧ (onBus = true → s.hostWay x.part (s.seFn x) = .denied → exec (row.1 c) s = .next (s.setCluster c { s.cluster c with
          se := some { x with bad := some (d.idx, .denied, 0), fetched := [], cur := some { d with phase := .moved } } }))
      ∧ (onBus = false ∨ s.hostWay x.part (s.seFn x) = .open → s.firstMismatch c d = none →
        let m := putDigest ((List.range (dRows d.words)).foldl (fun m r => row.2.2 m c d r) ⟨s, x, []⟩) c d.words
        exec (row.1 c) s = .next (m.s.setCluster c { m.s.cluster c with
          se := some { m.x with cur := some { d with phase := .moved } } }))
      ∧ (onBus = false ∨ s.hostWay x.part (s.seFn x) = .open → ∀ b, s.firstMismatch c d = some b → exec (row.1 c) s = .next (s.setCluster c { s.cluster c with
          xferFault := (s.cluster c).xferFault - 1, se := some { x with cur := some { d with phase := .reread b } } })))
    ∧ (∀ b, d.phase = .reread b → let e := (s.cvEntry b).getD 0
      let good := (s.cluster c).xferFault == 0
        && (crc32c ((readMem s (s.dieOf c) b 4096).2.map (·.1))).toNat == (s.cvRead e).1
      let left := (s.cluster c).xferFault - 1
      ∃ l : LogEntry, l.addr = b ∧ l.code = (if good then eCvRetry else eCvFail)
        ∧ (good = true → let y := { x with cur := some { d with phase := .granted, good := b :: d.good }, flags := x.flags ||| 4 }
          exec (.cvReread c) s = .next (logCluster (s.setCluster c { s.cluster c with xferFault := left, se := some y }) c l))
        ∧ (good = false → let d1 := { d with phase := .granted, wrong := b :: d.wrong }
          let y := { x with cur := some d1, failAt := some (x.failAt.getD b) }
          exec (.cvReread c) s = .next (logCluster (s.setCluster c { s.cluster c with xferFault := left, se := some y }) c l)))
    ∧ (d.phase = .moved → let s1 := d.engines.foldl (fun s e =>
          s.setCluster e { s.cluster e with slotsFree := min 64 ((s.cluster e).slotsFree + d.slots) }) s
        exec (.descriptorDone c) s = .next (s1.seNext c { x with cur := none })))
  ∧ (∀ (s : State) (c : Nat) (x : SeRun), (s.cluster c).se = some x →
      let late := some ((x.status.getD .staleRole).worse .staleRole)
      (x.retries < 3 → exec (.movedNack c) s = .next ((s.setCluster c { s.cluster c with
        se := some { x with retries := x.retries + 1, flags := x.flags ||| 0x10 } }).bump (aSE c + 0x10) 15 0 1))
      ∧ (3 ≤ x.retries → exec (.movedNack c) s = .next ((s.setCluster c { s.cluster c with
        se := some { x with status := late } }).bump (aSE c + 0x10) 31 16 1))
      ∧ exec (.staleNack c) s = .next (s.setCluster c { s.cluster c with se := some { x with status := late } }))
  ∧ (∀ (s : State) (id a : Nat) (x : Cmd) (y : SeRun), s.cmd id = some x → (s.cluster x.cluster).se = some y → y.src.is id = true →
      (∀ d, y.cur = some d → d.phase ≠ .waitSlots) →
      exec (.hostReadFail id a) s = .next (s.setCluster x.cluster { s.cluster x.cluster with se := some { y with
        bad := some (y.next, .outOfBounds, BitVec.ofNat 64 a), fetched := []
        cur := y.cur.map fun d => { d with phase := .moved } } }))
  ∧ (∀ (s : State) (id a : Nat) (x : Cmd), s.cmd id = some x → (s.cluster x.cluster).se = none →
      (x.started = false ∨ (s.linkOps.any fun o => o.id == id) = true →
        exec (.hostReadFail id a) s = .next (s.finish id .outOfBounds 0 (BitVec.ofNat 64 a)))
      ∧ (x.started = true → (s.linkOps.any fun o => o.id == id) = false → exec (.hostReadFail id a) s = .next s))
  ∧ ∀ (s : State) (p n : Nat), let lo := s.reg (aRgnLo p n)
      let used := (s.heldRanges p).any fun r => overlap r.1 r.2 (rgnBase lo) (rgnLen lo (s.reg (aRgnHi p n)))
      ((p, n) ∉ s.disarming ∨ used = true → exec (.rgnDisarmDone p n) s = .next s)
      ∧ ((p, n) ∈ s.disarming → used = false → exec (.rgnDisarmDone p n) s = .next
        { (s.setReg (aRgnLo p n) (setFld lo 0 0 0)) with disarming := s.disarming.filter fun x => x != (p, n) })

/-! ### Channels and kernels (chapter 9) -/

/-- Channels: a scan arms, re-arms or aborts; a copy takes the record at CI; a dispatch pops the head once nothing holds it,
or completes it at once where it is malformed or stale; BAR_ARM and NOP act on barriers; the watchdog fails whole cycles. The
model's own choices in it: log entries 29, 63, 88, 89, 119 and 120. -/
def Obligations.ChannelResults : Prop :=
  (∀ (s : State), exec .channelScan s = .next ((List.range 4).foldl (fun s p =>
      (s.chansOf p).foldl (fun s ch => s.scanOne p ch) s) s))
  ∧ (∀ (s : State) (p ch : Nat), s.dispatchOn p = true →
      (fld (s.chW ch 0) 1 0 = 1 → (s.chan ch).gen ≠ some (fld (s.chW ch 0) 7 4) → s.armOk p ch = false →
        (s.haltChan ch .illegalCommand 0).armed ch = false →
        s.scanOne p ch = s.haltChan ch .illegalCommand 0)
      ∧ (fld (s.chW ch 0) 1 0 = 1 → (s.chan ch).gen ≠ some (fld (s.chW ch 0) 7 4) → s.armOk p ch = true →
        let s1 := s.loadChan p ch
        s1.chWaiting ch ≤ 2 ^ fld (s1.chan ch).w1 5 0 → s.scanOne p ch = s1)
      ∧ (fld (s.chW ch 0) 1 0 = 3 → s.scanOne p ch = (s.restChan ch).abortChannel p ch .aborted .aborted 0)
      ∧ (fld (s.chW ch 0) 1 0 = 0 ∨ fld (s.chW ch 0) 1 0 = 2 → s.scanOne p ch = s.restChan ch)
      ∧ (fld (s.chW ch 0) 1 0 = 1 → (s.chan ch).gen = some (fld (s.chW ch 0) 7 4) → (s.chan ch).live = false → s.scanOne p ch = s))
  ∧ (∀ (s : State) (ch p : Nat), s.chanPart ch = some p → (s.chan ch).live = false →
      exec (.commandRecordCopy ch) s = .next s ∧ exec (.commandDispatch ch) s = .next s)
  ∧ (∀ (s : State) (ch : Nat),
      (fld (s.chW ch 0) 1 0 = 3 → s.cmdsOf ch = [] → (s.chan ch).fetched = [] →
        exec (.channelAbortDone ch) s = .next (s.setChW ch 0 (setFld (s.chW ch 0) 1 0 0)))
      ∧ (fld (s.chW ch 0) 1 0 ≠ 3 ∨ s.cmdsOf ch ≠ [] ∨ (s.chan ch).fetched ≠ [] → exec (.channelAbortDone ch) s = .next s))
  ∧ (∀ (s : State) (ch p : Nat), s.chanPart ch = some p → s.dispatchOn p = true → s.serves ch = true → s.chWaiting ch ≠ 0 →
      (s.chan ch).cached = true → (s.chan ch).gen = some (fld (s.chW ch 0) 7 4) →
      (2 ^ fld (s.chan ch).w1 5 0 < s.chWaiting ch →
        exec (.commandRecordCopy ch) s = .next (s.haltChan ch .illegalCommand 0))
      ∧ (s.chWaiting ch ≤ 2 ^ fld (s.chan ch).w1 5 0 → bitW (s.chan ch).w0 12 = false ∨ s.hostWay p (s.chanFn ch) = .open →
        let r := s.ringRecord p ch (s.chCi ch)
        let t := r.1.setChW ch 4 (setFld (r.1.chW ch 4) 31 0 (r.1.chCi ch + 1))
        exec (.commandRecordCopy ch) s = .next (t.setChan ch { t.chan ch with fetched := (t.chan ch).fetched ++ [r.2] })))
  ∧ (∀ (s : State) (ch p : Nat) (h : Head), s.chanPart ch = some p → s.dispatchOn p = true → s.serves ch = true →
      (s.chan ch).cached = true → headOf (s.chan ch).fetched = some h → s.cplRoom ch = true →
      let hdr := h.words.getD 0 0
      let op := opOf h.words
      let popped := fun (t : State) => t.setChan ch { t.chan ch with fetched := h.rest, recency := t.nextId }
      (h.psn = true ∨ opKnown op = false ∨ s.target p (s.chan ch).w0 hdr = none →
        exec (.commandDispatch ch) s = .next (popped (s.addCmd ch p 0 h.words h.ext (some .illegalCommand) 0)))
      ∧ (h.psn = false → opKnown op = true → ∀ c, s.target p (s.chan ch).w0 hdr = some c →
        (s.headReady p ch c h = false → exec (.commandDispatch ch) s = .next s)
        ∧ (s.headReady p ch c h = true → opCluster op = false ∨ ((ch ∈ (s.cluster c).chans ∨ (s.cluster c).chans.length < 4)
            ∧ (s.cluster c).room op = true ∧ s.outranked p ch c op = false) →
          (fld (s.chan ch).w6 31 16 ≠ fld (s.reg (aEpoch p)) 15 0 →
            exec (.commandDispatch ch) s = .next (popped (s.addCmd ch p c h.words h.ext (some .staleRole) 0)))
          ∧ (fld (s.chan ch).w6 31 16 = fld (s.reg (aEpoch p)) 15 0 →
            exec (.commandDispatch ch) s = .next (popped (s.handOver p ch c h))))))
  ∧ (∀ (s : State) (id : Nat) (c : Cmd),
      (s.waitingCmd id 0x41 = some c →
        exec (.nopCommand id) s = .next ((s.updCmd id fun c => { c with started := true }).finish id .ok 0 0))
      ∧ (s.waitingCmd id 0x40 = some c →
        let m := bitW (c.words.getD 3 0) 32
        let v := fld (c.words.getD 3 0) 31 0
        let s1 := ((List.range 32).filter fun i => bitW (c.words.getD 1 0) i).foldl (fun s i => armBar s m v (aCB c.cluster i)) s
        let s2 := ((List.range 64).filter fun i => bitW (c.words.getD 2 0) i).foldl (fun s i => armBar s m v (aPB c.part i)) s1
        exec (.barArm id) s = .next ((s2.updCmd id fun c => { c with started := true }).finish id .ok 0 0))
      ∧ ∀ a v, armBar s true v a = s.setReg a (BitVec.ofNat 64 (v * 2 ^ 32))
        ∧ armBar s false v a = s.setReg a (setFld (s.reg a) 63 32 (fld (s.reg a) 63 32 + v)))
  ∧ ∀ (s : State) (ch p : Nat), s.chanPart ch = some p →
      (s.cmdsOf ch = [] → (s.chan ch).fetched = [] → exec (.progressWatchdogExpire ch) s = .next s)
      ∧ (s.cmdsOf ch ≠ [] ∨ (s.chan ch).fetched ≠ [] →
        sadd ((s.chans.map (·.1)).filter fun x => s.chanPart x == some p) ch = [ch] →
        let a := aCH p + 0x10
        let s1 := s.setReg a (setFld (setFld (bumpFld (s.reg a) 47 32 1) 12 0 1) 13 13 0)
        let s2 := (List.range 16).foldl (fun s i => s.setReg (aCH p + 0x80 + 8 * i)
          (if i = 0 then BitVec.ofNat 64 (ch + 4096) else 0)) s1
        ∃ (e : LogEntry) (sq : Nat), e.code = eNoProgress ∧ e.channel = ch ∧ exec (.progressWatchdogExpire ch) s = .next
          (((logEv s2 (16 + p / 2) e).haltChan ch .noProgress sq).abortChannel p ch .noProgress .aborted 1))

/-- A completion: the barriers of SIGNAL act, the record stands at the completion index, the index is raised, the message is
due where asked or not OK, a non-OK status halts its channel as the entry says, and the command leaves the books. The model's
own choices in it: log entry 63. -/
def Obligations.CommandCompletionResults : Prop :=
  (∀ (s : State) (id : Nat) (c : Cmd) (st : Status), s.cmd id = some c → c.status = some st →
      (c.silent = true → exec (.commandCompletion id) s = .next (s.dropCmd c))
      ∧ (c.silent = false → (bitW (s.chan c.ch).w0 13 = true → s.hostWay c.part (s.chanFn c.ch) = .held →
        exec (.commandCompletion id) s = .next s)
      ∧ (bitW (s.chan c.ch).w0 13 = false →
        let k := s.chan c.ch
        let fn := s.chanFn c.ch
        let s1 := s.signalMask c.cluster c.part (fld k.w0 20 16) (fld k.w0 26 21) (c.words.getD 0 0) st
        let r := s1.putRecord c st
        let s2 := r.1.setChW c.ch 4 (setFld (r.1.chW c.ch 4) 63 32 (r.1.cplPi c.ch + 1))
        let s3 := if bitW (c.words.getD 0 0) 8 = true ∨ st ≠ .ok then
          msixDue s2 c.part (if fn = 0 then fld k.w0 30 27 else fn) (fld k.w0 44 34) else s2
        (bitW (s1.chan c.ch).w0 13 = false) →
        (st.halts k.w0 = true ∧ fld (s3.chW c.ch 0) 1 0 < 2 →
          exec (.commandCompletion id) s = .next ((s3.haltChan c.ch st (seqOf c.words)).dropCmd c))
        ∧ (¬ (st.halts k.w0 = true ∧ fld (s3.chW c.ch 0) 1 0 < 2) →
          exec (.commandCompletion id) s = .next (s3.dropCmd c)))))
  ∧ ∀ (s : State) (c : Cmd) (st : Status), bitW (s.chan c.ch).w0 13 = false →
      let n := fld (s.chan c.ch).w2 5 0
      let j := s.cplPi c.ch
      (s.putRecord c st).1 = storeMem s (16 + c.part / 2) (fld (s.chan c.ch).w2 63 6 * 64 + 32 * (j % 2 ^ n))
          ((completionRecord c st j n s.sc (s.chW c.ch 5)).map fun b => (b, false))
      ∧ (completionRecord c st j n s.sc (s.chW c.ch 5)).length = 32

/-- Kernels: acceptance, the start on every core of the mask once all are free, and the completion once every core has ended,
with the highest-ranked status of its cores. The model's own choices in it: log entry 31. -/
def Obligations.KernelResults : Prop :=
  (∀ (s : State) (id : Nat) (c : Cmd), s.waitingCmd id 0x10 = some c →
      let w := fun i => c.words.getD i 0
      let k : Kernel := ⟨id, c.cluster, coresOf (fld (w 1) 55 48), fld (w 1) 47 0, (List.range 5).map fun i => w (i + 2),
        bitW (w 0) 9, false, none⟩
      exec (.kernelAccept id) s = .next { (s.updCmd id fun c => { c with started := true }) with kernels := s.kernels ++ [k] })
  ∧ (∀ (s : State) (id : Nat) (x : Kernel) (c : Cmd), (s.kernels.find? fun k => k.id == id) = some x → s.cmd id = some c →
      x.started = false → x.abort = none → s.power.holdIssue = false →
      (∀ i ∈ x.cores, (s.core (x.cluster * 8 + i)).kernel = none ∧ (s.core (x.cluster * 8 + i)).run = .idle) →
      ((s.kernels.takeWhile fun k => k.id != id).any fun k =>
        k.cluster == x.cluster && !k.started && k.cores.any fun i => x.cores.contains i) = false →
      let w0 := (s.chan c.ch).w0
      let ks := s.kernels.map fun k => if k.id = id then { k with started := true } else k
      exec (.kernelStart id) s = .next (x.cores.foldl (fun t i => t.setCore (x.cluster * 8 + i)
        ((t.core (x.cluster * 8 + i)).start x (s.part c.part).sEntry (fld w0 20 16) (fld w0 26 21))) { s with kernels := ks }))
  ∧ (∀ (k : Core) (x : Kernel) (e cb pb : Nat), let k' := k.start x e cb pb
      k'.run = .running ∧ k'.pc = e ∧ k'.priv = .S ∧ k'.ie = false ∧ k'.ds = [⟨BitVec.ofNat 64 x.entry, false⟩] ∧ k'.dsSpill = 0
      ∧ k'.rs = [] ∧ k'.rsSpill = 0 ∧ k'.loops = [] ∧ k'.tickets = [] ∧ k'.exKstat = 0 ∧ k'.exLastCause = 0
      ∧ k'.exLastDetail = 0 ∧ k'.ieee = x.ieee ∧ k'.kernel = some x.id ∧ bitW k'.vxRcStat 0 = false ∧ bitW k'.vxStatus 5 = false)
  ∧ ∀ (s : State) (id : Nat) (x : Kernel), (s.kernels.find? fun k => k.id == id) = some x →
      let ks := x.cores.map fun i => s.core (x.cluster * 8 + i)
      let s1 := { s with kernels := s.kernels.filter fun k => k.id != id }
      (x.started = false → ∀ st, x.abort = some st → st ≠ .noProgress →
        exec (.kernelComplete id) s = .next (s1.finish id st 0 0))
      ∧ (x.started = true → (ks.all Core.kernelEnded) = false → exec (.kernelComplete id) s = .next s)
      ∧ (x.started = true → (ks.all Core.kernelEnded) = true →
        let st := x.abort.getD (Status.worst (ks.map Core.kernelStatus))
        let fl := b2n (ks.any fun k => bitW k.vxStatus 5) + 2 * b2n (ks.any fun k => bitW k.vxRcStat 0)
        let s2 := s1.coverFresh (s.dieOf x.cluster) (ks.foldl (fun m k => coverUnion m k.cvCover) [])
        let s3 := x.cores.foldl (fun t i => t.setCore (x.cluster * 8 + i) (t.core (x.cluster * 8 + i)).release) s2
        st ≠ .noProgress → exec (.kernelComplete id) s = .next (s3.finish id st (BitVec.ofNat 8 fl) 0))

/-! ### Links (chapter 10) -/

/-- Link commands: one whose checks fail completes with the status that ranks first; the others start where a context is free
and none of their partition waits, and wait in order otherwise; a grant checks anew; LK_EXPEL expels and completes OK. The
model's own choices in it: log entries 74, 76, 82 and 85. -/
def Obligations.LinkCommandResults : Prop :=
  (∀ row ∈ ([(.lkXfer, 0x50, planXfer), (.lkColl, 0x51, planColl), (.lkMcast, 0x52, planMcast), (.lkVote, 0x53, planVote)]
      : List ((Nat → Instr) × Nat × (State → Cmd → LkPlan))),
    ∀ (s : State) (id : Nat),
      (s.waitingCmd id row.2.1 = none → exec (row.1 id) s = .next s)
      ∧ ∀ c, s.waitingCmd id row.2.1 = some c →
        let pl := row.2.2 s c
        let s1 := pl.s.updCmd id fun c => { c with started := true }
        let room := s1.ctxFree pl.op.part pl.op.die = true
          ∧ (s1.linkOps.any fun o => !o.ctxHeld && o.part == pl.op.part && o.die == pl.op.die) = false
        (pl.fails ≠ [] → exec (row.1 id) s = .next (s1.finish id (worstOf pl.fails).1 0 (worstOf pl.fails).2))
        ∧ (pl.fails = [] → room → exec (row.1 id) s = .next (s1.startOp pl.op))
        ∧ (pl.fails = [] → ¬ room → exec (row.1 id) s = .next { s1 with linkOps := s1.linkOps ++ [pl.op] }))
  ∧ (∀ (s : State) (id : Nat) (c : Cmd), s.waitingCmd id 0x54 = some c →
      let r := fld (c.words.getD 1 0) 15 0
      let s1 := s.updCmd id fun c => { c with started := true }
      (s.portPart (refPort r) ≠ some c.part → exec (.lkExpel id) s = .next (s1.finish id .denied 0 0))
      ∧ (s.portPart (refPort r) = some c.part → refEntry r ≠ 0 →
        exec (.lkExpel id) s = .next ((s1.expel r none).finish id .ok 0 0)))
  ∧ (∀ (s : State) (die : Nat),
      (((s.linkOps.find? fun o => !o.ctxHeld && o.die == die && s.ctxFree o.part die) = none) →
        exec (.linkContextGrant die) s = .next s)
      ∧ ∀ o, (s.linkOps.find? fun o => !o.ctxHeld && o.die == die && s.ctxFree o.part die) = some o →
        let s1 := { s with linkOps := s.linkOps.filter fun x => x.id != o.id }
        ∀ c, s1.cmd o.id = some c → ∀ plan : State → Cmd → LkPlan,
        (o.kind, plan) ∈ ([(.xfer, planXfer), (.coll, planColl), (.mcast, planMcast), (.vote, planVote)]
          : List (LinkKind × (State → Cmd → LkPlan))) →
        ((plan s1 c).fails = [] → exec (.linkContextGrant die) s = .next ((plan s1 c).s.startOp (plan s1 c).op))
        ∧ ((plan s1 c).fails ≠ [] → exec (.linkContextGrant die) s = .next
          ((plan s1 c).s.finish o.id (worstOf (plan s1 c).fails).1 0 (worstOf (plan s1 c).fails).2)))
  ∧ ∀ (s : State) (p r : Nat),
      (s.portPart (refPort r) ≠ some p → s.refFails p r = [.denied])
      ∧ (s.portPart (refPort r) = some p → (s.refValid r = false → s.refFails p r = [.illegalCommand])
        ∧ (s.refValid r = true → (s.ptState r = 2 → s.refFails p r = [.denied])
          ∧ (s.ptState r = 1 → s.refFails p r = [.peerLost]) ∧ (s.ptState r = 0 → s.refFails p r = [])))

/-- Frames that arrive: what the filter lets in goes to the transport and to what its kind does, after which its
acknowledgement fields act; everything else is dropped and counted by its reason. The model's own choices in it: log entries
34, 36, 73, 77, 78, 79 and 80. -/
def Obligations.LinkFrameResults : Prop :=
  (∀ row ∈ ([(.remoteWriteFrame, 0), (.remoteFoldFrame, 1), (.readRequest, 2), (.readResponse, 3), (.collectiveFrame, 4),
      (.voteFrame, 5)] : List ((Nat → Frame → Instr) × Nat)),
    ∀ (s t : State) (k r p : Nat) (f : Frame), f.type = 1 → f.op = row.2 → s.portPart k = some p →
      (s.takeIn k f = (t, none) → exec (row.1 k f) s = .next t)
      ∧ (s.takeIn k f = (t, some r) → exec (row.1 k f) s = .next ((t.recvData k p r f).afterFrame k r f)))
  ∧ (∀ row ∈ ([(.ackFrame, 2), (.nackFrame, 3), (.noticeFrame, 4), (.abortFrame, 5), (.keepaliveFrame, 6)]
      : List ((Nat → Frame → Instr) × Nat)),
    ∀ (s t : State) (k : Nat) (f : Frame), f.type = row.2 →
      (s.takeIn k f = (t, none) → exec (row.1 k f) s = .next t)
      ∧ ∀ r p, s.takeIn k f = (t, some r) → s.portPart k = some p →
        (row.2 = 2 ∨ row.2 = 6 → exec (row.1 k f) s = .next (t.afterFrame k r f))
        ∧ (row.2 = 3 → exec (row.1 k f) s = .next (((t.takeNack r f).markDead r).afterFrame k r f))
        ∧ (row.2 = 5 → f.code = Status.thermal.code →
          exec (row.1 k f) s = .next ((t.peerLost r Status.thermal.code false).afterFrame k r f))
        ∧ (row.2 = 5 → f.code ≠ Status.thermal.code →
          (t.groupOp .coll r f.ctx = none → exec (row.1 k f) s = .next (t.afterFrame k r f))
          ∧ ∀ o m, t.groupOp .coll r f.ctx = some (o, m) → exec (row.1 k f) s = .next
            ((t.endOp o .peerLost o.flags (BitVec.ofNat 64 (o.sender r m))).afterFrame k r f)))
  ∧ (∀ (s t : State) (k r p : Nat) (f : Frame), f.type = 4 → s.takeIn k f = (t, some r) → s.portPart k = some p →
      let g := fun (o : LinkOp) => ((o.memberOf r).map fun m => min (min f.aux (fld (t.partner r 6) 63 48))
        (fld (t.reg (aLK p)) 49 34 - mget 0 o.granted m)).getD 0
      let gets := fun (o : LinkOp) => o.ctxHeld && decide (0 < g o)
      let more := fun (o : LinkOp) => { o with
        granted := mput 0 o.granted ((o.memberOf r).getD 0) (mget 0 o.granted ((o.memberOf r).getD 0) + g o), flags := o.flags ||| 2 }
      let u := (t.bump (aLK p + 0x18) 31 16 1).bump (aLK p + 0x18) 47 32 (b2n (t.linkOps.any gets))
      exec (.noticeFrame k f) s = .next
        ({ u with linkOps := t.linkOps.map fun o => if gets o then more o else o }.afterFrame k r f))
  ∧ (∀ (s : State) (k : Nat) (f : Frame),
      ((s.port k).phase ≠ .up ∨ s.ptValid (k * 8192) = false → s.takeIn k f = (s, none))
      ∧ ((s.port k).phase = .up → s.ptValid (k * 8192) = true →
          (s.portEth k = false ∨ s.rxFill k + 32 + f.payload.length ≤ 0x200000) →
        (s.framed k f = false → s.takeIn k f = (s.dropMalformed k, none))
        ∧ (s.framed k f = true → (s.macsec k f = none → s.takeIn k f = (s.dropAuth k, none))
          ∧ ∀ s1 r, s.macsec k f = some (s1, r) →
            (s1.ethMatch k r f = false → s.takeIn k f = (s1.dropMalformed k, none))
            ∧ (s1.ethMatch k r f = true → s1.ptState r = 2 → s.takeIn k f = (s1.dropExpelled k, none))
            ∧ (s1.ethMatch k r f = true → s1.ptState r ≠ 2 → (s1.bucketTake r f = none → s.takeIn k f = (s1.dropRate k, none))
              ∧ ∀ s2, s1.bucketTake r f = some s2 → (frameHeaderOk f = true → s.takeIn k f = (s2, some r))
                ∧ (frameHeaderOk f = false → s.takeIn k f = (s2.dropMalformed k, none))))))
  ∧ (∀ (s : State) (k : Nat) (f : Frame),
      (s.refOfSci k f.sci = none → s.macsec k f = none)
      ∧ ∀ r i x, s.refOfSci k f.sci = some r → s.rxKey r f.an = some (i, x) →
        (f.icvOk = false ∨ f.pn + fld (s.reg (aPortCfg ((s.portPart k).getD 0) k)) 50 35 < x.nextPn → s.macsec k f = none)
        ∧ (f.icvOk = true → x.nextPn ≤ f.pn + fld (s.reg (aPortCfg ((s.portPart k).getD 0) k)) 50 35 → s.macsec k f = some
          ({ s with keys := madd s.keys i { x with nextPn := max x.nextPn (f.pn + 1) } }, r)))
  ∧ ∀ (s : State) (k p r : Nat) (f : Frame), f.len = f.payload.length →
      (∀ st, s.winRefuses p r f true false f.len = some st → s.applyWF k p r f false = (s, some st))
      ∧ (s.winRefuses p r f true false f.len = none → s.applyWF k p r f false =
        ((storeMem s (16 + k / 4) (s.winBase p f.window + f.offset) (f.payload.map fun b => (b, false))).quotaTake r f.len, none))

/-- Link timers, flow control and training: each row acts where its time has come, and the port's phases, lanes and
recalibration follow each other as ruled. The model's own choices in it: log entries 35, 84 and 87. -/
def Obligations.LinkPortResults : Prop :=
  (∀ (s : State) (r : Nat), let t := s.transport r
      (t.sinceAck = 0 → exec (.ackTimer r) s = .next s) ∧ (t.sinceAck ≠ 0 → exec (.ackTimer r) s = .next (s.sendCtl r 2 0 0 0 0))
      ∧ (t.unacked = [] ∨ s.ptState r ≠ 0 → exec (.retransmissionTimeout r) s = .next (s.pump r))
      ∧ (t.unacked ≠ [] → s.ptState r = 0 → exec (.retransmissionTimeout r) s = .next
        (((t.unacked.filter fun x => !x.sacked && !x.dead).foldl (fun s x => s.sendData r x true)
          (s.setTransport r { t with rtoUs := min 5000 (2 * t.rtoUs) })).pump r).settle)
      ∧ (s.activeWith r = true → s.ptState r = 0 → exec (.keepaliveSend r) s = .next ((s.sendCtl r 6 0 0 0 0).pump r))
      ∧ (s.activeWith r = false ∨ s.ptState r ≠ 0 → exec (.keepaliveSend r) s = .next s)
      ∧ (s.ptValid r = true → s.ptState r = 0 → refEntry r ≠ 0 → s.activeWith r = true ∨ (t.unacked.any fun x => !x.dead) = true →
        exec (.peerSilence r) s = .next (s.peerLost r 0xFF true))
      ∧ (s.ptValid r = false ∨ s.ptState r ≠ 0 ∨ refEntry r = 0 → exec (.peerSilence r) s = .next s))
  ∧ (∀ (s : State) (id m : Nat) (o : LinkOp), (s.linkOps.find? fun o => o.id == id && o.ctxHeld) = some o → m < o.n →
      o.usesMember m = true → let r := (o.members.getD m (0, 0)).1
      (o.kind = .coll → o.fromMember m < o.inTotal m → exec (.lagLimitExpire id m) s = .next
        (((o.refs.filter fun x => x != r).foldl (fun s x => s.sendCtl x 5 Status.peerLost.code 0 o.ctx 0) s).endOp o .peerLost
          o.flags (BitVec.ofNat 64 m)))
      ∧ (o.kind = .mcast → o.sentTo m < o.outTotal m → exec (.lagLimitExpire id m) s = .next
        (((s.updOp id fun o => o.detach m .peerLost).markDead r).settle))
      ∧ (o.kind = .vote → (o.digests.any fun d => d.1 == m) = false → exec (.lagLimitExpire id m) s = .next
        (s.updOp id fun o => { o with absent := sadd o.absent m }).settle)
      ∧ (o.kind = .xfer → exec (.lagLimitExpire id m) s = .next s))
  ∧ (∀ (s : State), (s.pkgHot = false → exec .noticeSend s = .next s)
      ∧ (s.pkgHot = true → exec .noticeSend s = .next ((s.linkOps.filter (·.ctxHeld)).foldl (fun s o =>
        ((List.range o.n).filter fun m => o.usesMember m && !(o.detached.any fun d => d.1 == m)).foldl (fun (s : State) m =>
          let r := (o.members.getD m (0, 0)).1
          if s.canSend r then (s.sendCtl r 4 0 0 o.ctx (fld (s.partner r 6) 47 32)).bump (aLK o.part + 0x18) 15 0 1 else s) s) s)))
  ∧ (∀ (s : State) (k q : Nat), let x := s.port k
      (s.portEth k = true → x.phase = .up → q < 8 →
        exec (.pfcFrame k q true) s = .next (s.setPort k { x with paused := sadd x.paused q })
        ∧ exec (.pfcFrame k q false) s = .next
          ((s.setPort k { x with paused := sdel x.paused q, ignored := sdel x.ignored q }).pumpPort k).settle)
      ∧ (s.portEth k = false ∨ x.phase ≠ .up → ∀ b, exec (.pfcFrame k q b) s = .next s)
      ∧ (∀ p, s.portPart k = some p → q ∈ x.paused → q ∉ x.ignored →
        let s1 := (s.setPort k { x with ignored := sadd x.ignored q }).setReg (aPortStat p k) (setFld (s.reg (aPortStat p k)) 6 6 1)
        ∃ e : LogEntry, e.code = ePfcIgnored ∧ exec (.pfcWatchdog k q) s = .next (((logEv s1 (16 + k / 4) e).pumpPort k).settle))
      ∧ (x.dropped = false → exec (.linkDrops k) s = .next s)
      ∧ (x.dropped = true → ∃ e : LogEntry, e.code = eLinkDrops ∧ e.detail = k ∧
        exec (.linkDrops k) s = .next (logEv (s.setPort k { x with dropped := false }) (16 + k / 4) e)))
  ∧ (∀ (s : State) (k node part : Nat), let x := s.port k
      (s.portEth k = false →
        (x.phase = .equalise → exec (.equaliserTrained k) s = .next (s.setPort k { x with phase := .deskew }))
        ∧ (x.phase = .deskew → exec (.laneDeskewDone k) s = .next
          ((s.setPort k { x with phase := .hello, helloRefused := false }).emit (.trainFlit k 1)))
        ∧ (x.phase = .hello → (part = 0x2048 → node ≠ fld (s.partner (k * 8192) 0) 31 16 →
            exec (.helloExchange k node part) s = .next (s.portUp k))
          ∧ (part ≠ 0x2048 ∨ node = fld (s.partner (k * 8192) 0) 31 16 →
            exec (.helloExchange k node part) s = .next (s.setPort k { x with helloRefused := true }))))
      ∧ (x.phase = .hello → x.helloRefused = true →
        exec (.helloRetry k) s = .next (s.emit (.trainFlit k 1)) ∧ exec (.trainingTimeout k) s = .next s)
      ∧ (x.phase = .equalise ∨ x.phase = .deskew ∨ (x.phase = .hello ∧ x.helloRefused = false) →
        exec (.trainingTimeout k) s = .next (s.setPort k x.retrain))
      ∧ (x.phase = .equalise → s.portEth k = true → exec (.autoNegotiation k true) s = .next (s.portUp k)
        ∧ exec (.autoNegotiation k false) s = .next (s.setPort k x.retrain)))
  ∧ ∀ (s : State) (k lane : Nat) (ok : Bool), let x := s.port k
      let again := satN 16 (x.recals + 1)
      (x.phase = .up → lane < 4 → s.portEth k = true →
        exec (.laneRecalTrigger k lane) s = .next (s.setPort k { x.retrain with recals := again }))
      ∧ (x.phase = .up → lane < 4 → s.portEth k = false → x.degraded = true →
        exec (.laneRecalTrigger k lane) s = .next (if x.lanes.getLsbD lane then s.setPort k x.retrain else s))
      ∧ (x.phase = .up → lane < 4 → s.portEth k = false → x.degraded = false → x.recal = none →
        let r := s.startAction uLane (4 * k + lane) 0 0
        exec (.laneRecalTrigger k lane) s = .next
          (if r.2 then (r.1.setPort k { x with recal := some lane }).emit (.trainFlit k 2) else r.1))
      ∧ (x.recal = some lane → x.phase = .up → x.degraded = false → exec (.degradeFlit k) s = .next
        (s.setPort k { x with degraded := true, lanes := if lane < 2 then 0b1100 else 0b0011 }))
      ∧ (x.recal = some lane → x.degraded = true → let s1 := s.endAction uLane (4 * k + lane)
        (ok = true → s1.unitRetired uLane (4 * k + lane) = false → exec (.laneRecalDone k ok) s = .next
          (s1.setPort k { x with degraded := false, lanes := 0xF, recal := none, recals := again }))
        ∧ (ok = false ∨ s1.unitRetired uLane (4 * k + lane) = true → ∃ e : LogEntry, e.code = eLaneDegraded ∧
          e.unit = 4 * k + lane ∧ exec (.laneRecalDone k ok) s = .next
            (logUnit (s1.setPort k { x with recal := none, recals := again }) (16 + k / 4) e 0)))

/-! ### Power, reset and temperature (chapter 13) -/

/-- Power and reset pins: what each event changes, and that a device reset keeps the flash, the fuses and the pins and
discards the rest; powered seconds are written in flash and taken from it at power-good. The model's own choices in it: log
entries 93 and 94. -/
def Obligations.PowerAndResetResults : Prop :=
  (∀ (s : State), let w := s.power
      exec .enRise s = .next ({ s with power := { w with en := true } }.powerUp)
      ∧ exec .enFall s = .next ({ s with power := { w with en := false } }.powerOff)
      ∧ (∀ dv, 650 < dv → exec (.vinOutOfRange dv) s = .fault .beyondAbsoluteMaximum)
      ∧ (∀ dv, 380 ≤ dv → dv ≤ 620 → exec (.vinOutOfRange dv) s = .next s)
      ∧ (∀ dv, dv < 380 ∨ 620 < dv → dv ≤ 650 →
        exec (.vinOutOfRange dv) s = .next ({ s with power := { w with vinOk := false } }.powerOff))
      ∧ exec .vin48InRange s = .next ({ s with power := { w with vinOk := true } }.powerUp)
      ∧ (w.en = true → w.held = true → exec .powerUpRestart s = .next ({ s with power := { w with held := false } }.powerUp))
      ∧ (w.en = false ∨ w.held = false → exec .powerUpRestart s = .next s)
      ∧ exec .sysRstNAssert s = .next ({ s with power := { w with sysRstN := false } }.deviceReset)
      ∧ (w.sysRstN = false → exec .sysRstNDeassert s = .next ({ s with power := { w with sysRstN := true } }.deviceReset))
      ∧ (w.sysRstN = true → exec .sysRstNDeassert s = .next s)
      ∧ (w.pwrGood = true → exec .psecWrite s =
        .next { s with boot := { s.boot with counterRecs := putCounter s.boot.counterRecs s.psec } })
      ∧ (w.pwrGood = false → exec .psecWrite s = .next s)
      ∧ s.powerUp = (if w.en && w.vinOk && !w.held then { s with power := { w with rails := true } } else s))
  ∧ (∀ (s : State) (straps : BitVec 3), s.power.pwrGood = false → s.power.en = true → s.power.vinOk = true → s.power.rails = true →
      ∃ t : State, exec (.powerGood straps) s = .next t ∧ t.psec = psecAtPower s.boot.counterRecs ∧ t.power.pwrGood = true
        ∧ t.power.straps = straps ∧ t.mgmt.staticAddr = 0x30 + straps.toNat ∧ t.boot = s.deviceReset.boot
        ∧ t.life = s.deviceReset.life ∧ t.cores = [] ∧ t.clusters = [] ∧ t.cmds = [] ∧ t.mem.bytes = [])
  ∧ (∀ (s : State), let t := s.powerOff
      t.power.pwrGood = false ∧ t.power.rails = false ∧ t.power.held = (s.power.held || s.power.rails) ∧ t.cores = []
        ∧ t.cmds = [] ∧ t.mem.bytes = [] ∧ t.boot.flash = s.boot.flash ∧ t.life.ownerDig = s.life.ownerDig)
  ∧ (∀ (s : State), let t := s.deviceReset
      t.boot.flash = s.boot.flash ∧ t.boot.slotRecs = s.boot.slotRecs ∧ t.boot.counterRecs = s.boot.counterRecs
        ∧ t.boot.stage = 1 ∧ t.repair.recs = s.repair.recs
        ∧ t.life.ownerDig = s.life.ownerDig ∧ t.life.svnMin = s.life.svnMin ∧ t.life.vendorRev = s.life.vendorRev
        ∧ t.life.udsKill = s.life.udsKill ∧ t.life.scrapped = s.life.scrapped ∧ t.life.returns = s.life.returns
        ∧ t.life.provisions = s.life.provisions ∧ t.life.pending = false ∧ t.life.retArmed = false ∧ t.life.dbgParts = 0
        ∧ t.regs = [] ∧ t.cores = [] ∧ t.clusters = [] ∧ t.chanTab = [] ∧ t.chans = [] ∧ t.cmds = [] ∧ t.kernels = []
        ∧ t.linkOps = [] ∧ t.transports = [] ∧ t.partners = [] ∧ t.keys = [] ∧ t.mem.bytes = [] ∧ t.mem.psn = []
        ∧ t.pending = s.pending ∧ t.psec = s.psec)
  ∧ ∀ (l : List CounterRec) (n : Nat), psecAtPower (putCounter l n) = n

/-- Divider, power cap and temperature: a decided change holds issue until the divider has switched; samples move the dividers
by their thresholds and times; the thermal stop begins at 115 °C and ends after 1 s below its limits; monitors are
device-fatal. The model's own choices in it: log entries 72 and 95. -/
def Obligations.DividerAndThermalResults : Prop :=
  (∀ (s : State), (s.power.divPending = none → exec .dividerSwitch s = .next s)
      ∧ (∀ n, s.power.divPending = some n → exec .dividerSwitch s =
        .next ({ s with power := { s.power with div := n, divPending := none } }.bump (aCK + 8) 47 16 1))
      ∧ (s.power.divPending ≠ none ∨ s.power.thermStop = true ∨ s.power.holdIssue = false → exec .admissionResume s = .next s)
      ∧ (s.power.divPending = none → s.power.thermStop = false → s.power.holdIssue = true → exec .admissionResume s =
        .next ((List.range 256).foldl (fun s c => s.throttled c) { s with power := { s.power with holdIssue := false } }))
      ∧ (s.power.thermStop = true → heldFor s.sc s.power.coolFrom oneSec = true → exec .thermalStopEnd s =
        .next { s with power := { s.power with thermStop := false, holdIssue := s.power.divPending.isSome } })
      ∧ (s.power.thermStop = false ∨ heldFor s.sc s.power.coolFrom oneSec = false → exec .thermalStopEnd s = .next s))
  ∧ (∀ (s : State), let w := s.power
      let t := max w.pwrDiv w.thermDiv
      (t = w.div ∨ w.divPending ≠ none → s.divRequest = s)
      ∧ (w.divPending = none → w.div < t → 10 ≤ w.sinceUp →
        s.divRequest = { s with power := { w with divPending := some t, holdIssue := true, sinceUp := 0 } })
      ∧ (w.divPending = none → t < w.div → 1000 ≤ w.sinceDown →
        s.divRequest = { s with power := { w with divPending := some t, holdIssue := true, sinceDown := 0 } })
      ∧ (w.divPending = none → w.div < t → w.sinceUp < 10 → s.divRequest = s))
  ∧ (∀ (s : State) (watts : Nat), let t := s.takeSample watts
      let w := t.power
      let n := if t.powerLow then min 1000 (w.lowFor + 1) else 0
      let up := t.powerHigh = true ∧ w.divPending = none ∧ 10 ≤ w.sinceUp ∧ w.div < 12
      let down := 1000 ≤ n ∧ w.divPending = none ∧ 1000 ≤ w.sinceDown ∧ w.div = w.pwrDiv ∧ 8 < w.div ∧ w.thermDiv ≤ divDown w.div
      (up → exec (.powerSample watts) s = .next
        ({ t with power := { w with pwrDiv := if w.div < 9 then 9 else if w.div < 10 then 10 else 12, lowFor := 0 } }.divRequest))
      ∧ (¬ up → down → exec (.powerSample watts) s = .next
        ({ t with power := { w with pwrDiv := if 10 < w.div then 10 else if 9 < w.div then 9 else 8, lowFor := 0 } }.divRequest))
      ∧ (¬ up → ¬ down → exec (.powerSample watts) s = .next ({ t with power := { w with lowFor := n } }.divRequest))
      ∧ (t.powerHigh = true ↔ 50 ≤ w.samples.length ∧ 50 * t.cap < sumN (w.samples.take 50))
      ∧ w.samples = (watts :: s.power.samples).take 1000)
  ∧ (∀ (s : State) (degC : Nat), let s1 := s.setReg (aCK + 0x18) (setFld (s.reg (aCK + 0x18)) 7 0 (satN 8 degC))
      let s2 := { s1 with power := s1.power.dieRead s1.sc degC }.coolMark
      (degC < 115 → exec (.thermalSample degC) s = .next s2.divRequest)
      ∧ (115 ≤ degC → exec (.thermalSample degC) s = .next s2.divRequest.thermalStop))
  ∧ (∀ (w : Power) (now degC : Nat), let w' := w.dieRead now degC
      (105 ≤ degC → w'.thermDiv = 12) ∧ (100 ≤ degC → degC < 105 → w.thermDiv ≠ 12 → w'.thermDiv = 10)
      ∧ (degC < 100 → w.hold10 = false → w.thermDiv ≠ 12 → w'.thermDiv = 8) ∧ w'.hotDie = degC
      ∧ (95 ≤ degC → w'.below95 = none) ∧ (100 ≤ degC → w'.below100 = none))
  ∧ (∀ (s : State) (pkg degC : Nat), pkg < 20 →
      let s1 := { s with power := { s.power with pkgTemp := mput 0 s.power.pkgTemp pkg degC } }
      let h := s1.hotPkg
      let v := setFld (setFld (setFld (s1.reg (aCK + 0x18)) 15 8 (satN 8 h.2)) 20 16 h.1) 21 21 (b2n (decide (105 < h.2)))
      (degC < 115 → exec (.ddrTempRead pkg degC) s = .next (s1.setReg (aCK + 0x18) v).coolMark)
      ∧ (115 ≤ degC → exec (.ddrTempRead pkg degC) s = .next (s1.setReg (aCK + 0x18) v).coolMark.thermalStop))
  ∧ (∀ (s : State), (s.power.thermStop = true → s.thermalStop = s)
      ∧ s.thermalStop.power.thermStop = true ∧ (s.power.thermStop = false → s.thermalStop.power.holdIssue = true))
  ∧ ∀ (s : State) (n : Nat), ∃ e f : LogEntry, e.code = eClockFault ∧ e.unit = n ∧ e.parts = s.allParts ∧ f.code = eSupplyFault
      ∧ f.unit = n ∧ f.parts = s.allParts ∧ exec (.clockFault n) s = .next (s.deviceFatal 16 e)
      ∧ exec (.supplyFault n) s = .next (s.deviceFatal 16 f)

/-- The boot stages and live change: each stage goes on to the next, the chosen slot's valid image is in force, else the
other's, else RECOVERY; a committed image applies section by section. The model's own choices in it: log entries 39, 101 and
102. -/
def Obligations.BootAndLiveChangeResults : Prop :=
  (∀ (s : State) (a b : Bool), s.live = true → s.boot.stage = 1 → s.hw.fatal = false →
      let s1 := { s with life := s.life.readFuses, hw := { s.hw with activeB := !a, standby := a && b } }
      (a = true → b = true → s1.life.lc ≠ 3 → exec (.bootRom a b) s = .next { s1 with boot := { s1.boot with stage := 2 } })
      ∧ (a = true → b = true → s1.life.lc = 3 → exec (.bootRom a b) s =
        .next { s1 with boot := (s1.boot.eraseSlot false).eraseSlot true })
      ∧ (a ≠ b → s1.life.lc ≠ 3 → ∃ e : LogEntry, e.code = eStandbyLost ∧ let s2 := logEv s1 16 e
        s2.life.lc ≠ 3 → exec (.bootRom a b) s = .next { s2 with boot := { s2.boot with stage := 2 } })
      ∧ (a = false → b = false → ∃ e : LogEntry, e.code = eHaywardLost ∧ exec (.bootRom a b) s = .next (s1.deviceFatal 16 e)))
  ∧ (∀ (s : State), s.live = false → (∀ a b, exec (.bootRom a b) s = .next s) ∧ exec .bootImage s = .next s
      ∧ exec .bootInit s = .next s ∧ ∀ n, exec (.bootMemory n) s = .next s)
  ∧ (∀ (s : State), s.live = true → s.boot.stage = 2 →
      let o := s.boot.order
      let a := o.1.headD false
      let b := o.1.getD 1 true
      let s1 := if o.2.isSome then { s with boot := s.boot.endTrial } else s
      (∀ im, s.boot.check s.life a false = .ok im →
        exec .bootImage s = .next (s1.bootFrom a im (s1.reg aCK) o.2).eraseBad)
      ∧ ∀ n, s.boot.check s.life a false = .error n → let ck := setFld (setFld (s1.reg aCK) 4 4 1) 11 8 n
        (∀ im, s.boot.check s.life b false = .ok im → exec .bootImage s = .next (s1.bootFrom b im ck o.2).eraseBad)
        ∧ (∀ m, s.boot.check s.life b false = .error m → let t := s1.setReg aCK ck
          exec .bootImage s = .next { t with boot := { t.boot with stage := 6 } }.eraseBad))
  ∧ (∀ (s : State) (n : Policy), s.live = true → s.boot.stage = 3 → s.boot.newPolicy = some n →
      let f := { s.boot with newPolicy := none, stage := 4 }
      let m := { s.mem with bytes := [], psn := [], writeback := [], detected := [] }
      exec .bootInit s = .next { s with policy := n, boot := f, mem := m }.replayAll.placeRoles.placeMonitor)
  ∧ (∀ (s : State) (ms : Nat), s.live = true → s.boot.stage = 4 →
      let soft := s.repair.recs.filter fun r => r.crcOk && (r.type == 6 || r.type == 7) && !governed s.repair.recs r
      let s1 := soft.foldl (fun s r => s.softRepair r) s
      let s2 := if s1.policy.ddrHarden then s1.harden else s1
      let t := s2.setReg aCK (setFld (s2.reg aCK) 31 16 (satN 16 ms))
      exec (.bootMemory ms) s = .next { t with boot := { t.boot with
        stage := 5, slotRecs := putSlot t.boot.slotRecs false t.boot.slotB t.boot.slotB } })
  ∧ (∀ (s : State), (s.policyDue = none → exec .policyQuiesceApply s = .next s)
      ∧ ∀ n, s.policyDue = some n →
        let s1 := if (s.clusterWaits n).all fun p => s.quiesced p then s.applyClusters n else s
        exec .policyQuiesceApply s = .next (if (s1.rangeWaits n).all fun p => s1.quiesced p then s1.applyRanges n else s1))
  ∧ (∀ (s : State) (c : Nat),
      (256 ≤ c ∨ s.boot.applying = false ∨ 2 ∉ s.boot.pendingSecs ∨ (s.cluster c).newMon = true ∨ s.atBoundary c = false →
        exec (.monitorInPlace c) s = .next s)
      ∧ (c < 256 → s.boot.applying = true → 2 ∈ s.boot.pendingSecs → (s.cluster c).newMon = false → s.atBoundary c = true →
        let s1 := (List.range 8).foldl (fun (s : State) i => (s.setCore (c * 8 + i) { s.core (c * 8 + i) with
          exVbarM := some (BitVec.ofNat 64 (s.vbarM (c * 8 + i) (s.core (c * 8 + i)))) }).hayward (c * 8 + i) 3) s
        exec (.monitorInPlace c) s = .next (s1.setCluster c { s1.cluster c with newMon := true })))
  ∧ (∀ (s : State), s.boot.applying = true → s.boot.bootLive = true → 1 ∈ s.boot.pendingSecs → s.hw.takeover = false →
      (s.hw.standby = false → exec .plannedSwitchover s = .next { s with boot := { s.boot with bootLive := false } })
      ∧ ∀ im, s.hw.standby = true → s.boot.check s.life s.targetB true = .ok im →
        let f := (s.boot.inForce (secOf im.secs 1)).applied 1
        exec .plannedSwitchover s = .next { s with
          hw := { s.hw with activeB := !s.hw.activeB }, boot := { f with bootLive := false } })
  ∧ ∀ (s : State), (s.applyDone = false → exec .applyComplete s = .next s)
      ∧ ∀ im, s.applyDone = true → s.boot.check s.life s.targetB true = .ok im →
        ∃ f : Boot, exec .applyComplete s = .next { s with boot := f } ∧ f.applying = false ∧ f.staging = false
          ∧ f.committed = false ∧ f.slotB = s.targetB ∧ f.slotRecs = putSlot s.boot.slotRecs false s.targetB s.targetB
          ∧ f.flash = s.boot.flash ∧ ∀ t ∈ f.pendingSecs, t ∈ s.boot.pendingSecs ∧ (t = 1 ∨ t = 5)

/-! ### Hayward (chapter 11) -/

/-- Rotation: due clusters queue, migrate at their command boundary, are tested and pass, retry or retire; roles of retired
clusters are replaced or absent; records are written. The model's own choices in it: log entries 10, 38, 103, 104 and 105. -/
def Obligations.RotationResults : Prop :=
  (∀ (s : State) (c ph : Nat), s.physOfRole c = some ph → let x := s.physOf ph
      ((s.ownerOf c).isNone = true ∨ x.due = true ∨ s.psec < s.dueAt ph → exec (.clusterDue c) s = .next s)
      ∧ ((s.ownerOf c).isSome = true → x.due = false → s.unitRetired uCluster ph = false → s.dueAt ph ≤ s.psec →
        let s1 := (s.setPhys ph { x with due := true }).refreshHolds
        (s1.hasTarget ph = true → exec (.clusterDue c) s = .next s1)
        ∧ (s1.hasTarget ph = false → s.policy.integrity = true → s.hw.suspended = false → x.flagged = none →
          ∃ e : LogEntry, e.code = eTestDeferred ∧ e.unit = ph ∧ exec (.clusterDue c) s = .next (logEv s1 (ph / 36) e)))
      ∧ (x.due = true → x.borrow = false → x.flagged = none → s.unitRetired uCluster ph = false → s.dueAt ph + 21600 ≤ s.psec →
        s.hasTarget ph = false → let s1 := (s.setPhys ph { x with borrow := true }).refreshHolds
        (s1.hasTarget ph = false → exec (.clusterBorrowed c) s = .next s1)
        ∧ (s1.hasTarget ph = true → ∃ e : LogEntry, e.code = eClusterBorrowed ∧ exec (.clusterBorrowed c) s = .next (logEv s1 (ph / 36) e)))
      ∧ ((s.cluster c).hold = true → s.atBoundary c = true → s.hw.takeover = false →
        (s.hw.queued.any fun a => a.kind == uCluster && a.num == ph) = false →
        ∀ q, (s.targets.find? fun q => q.1 == ph) = some q →
          exec (.migrationStart c) s = .next (s.setCluster c { s.cluster c with moving := some q.2 }))
      ∧ (∀ new, (s.cluster c).moving = some new → s.hw.takeover = false → exec (.migrationDone c) s =
        .next (((s.copied (clusterWord c)).freed ph (pbitO (s.ownerOf c))).takeRole c new).refreshHolds)
      ∧ ((s.cluster c).hold = true → (s.cluster c).moving = none → x.due = true → x.flagged = none → s.unitRetired uCluster ph = false →
        s.psec ≤ s.dueAt ph + 21600 → s.atBoundary c = false →
        exec (.migrationHoldRelease c) s = .next (s.setCluster c { s.cluster c with hold := false, retry := true }))
      ∧ ((s.cluster c).retry = true →
        exec (.migrationRetry c) s = .next (s.setCluster c { s.cluster c with retry := false }).refreshHolds)
      ∧ ((s.cluster c).retry = false → exec (.migrationRetry c) s = .next s)
      ∧ (s.unitRetired uCluster ph = false ∨ s.atBoundary c = false → exec (.clusterReplace c) s = .next s)
      ∧ (s.unitRetired uCluster ph = true → s.atBoundary c = true → s.hw.takeover = false →
        (s.hw.queued.any fun a => a.kind == uCluster && a.num == ph) = false →
        let s0 := s.copied (clusterWord c)
        let s1 := (s0.setPhys ph { s0.physOf ph with
          cond := .retired, heldParts := (s0.physOf ph).heldParts ||| pbitO (s.ownerOf c) }).endAction uCluster ph
        (s1.choose (ph / 36) = none → exec (.clusterReplace c) s = .next (s1.roleAbsent c))
        ∧ ∀ q, s1.choose (ph / 36) = some q → exec (.clusterReplace c) s = .next (s1.replaceRole c q.1 q.2)))
  ∧ (∀ (s : State) (ph : Nat), let x := s.physOf ph
      (ph < 288 → x.cond = .testing → ∀ last,
        (x.retried = false → exec (.testKernelDone ph true last) s = .next (if last then s.testPass ph else s)
          ∧ exec (.testKernelDone ph false last) s = .next (s.setPhys ph { x with retried := true }))
        ∧ (x.retried = true → (∃ e : LogEntry, e.code = eTestRetry ∧ e.unit = ph ∧ exec (.testKernelDone ph true last) s =
            .next (logUnit (s.setPhys ph { x with retried := false, testStart := s.psec }) (ph / 36) e 0))
          ∧ ∃ e : LogEntry, e.code = eTestFail ∧ e.unit = ph ∧ exec (.testKernelDone ph false last) s =
            .next ((logEv s (ph / 36) e).retirePhys ph false)))
      ∧ (ph < 288 → x.recDirty = true → exec (.rotationRecordWrite ph) s = .next (s.setPhys ph { x with
        recDirty := false, recPass := x.lastPass, recRetired := x.recRetired || s.unitRetired uCluster ph }))
      ∧ (288 ≤ ph ∨ x.recDirty = false → exec (.rotationRecordWrite ph) s = .next s))
  ∧ (∀ (s : State), s.hw.fatal = false →
      (s.hw.takeover = true ∨ s.hw.standby = false → ∃ e : LogEntry, e.code = eHaywardLost ∧
        exec (.lockstepMismatch true) s = .next (s.deviceFatal 16 e))
      ∧ (s.hw.takeover = false → s.hw.standby = true → exec (.lockstepMismatch true) s = .next { s with hw := { s.hw with
        takeover := true, standby := false, running := s.hw.running ++ [⟨uPair, s.activePair, s.sc, 0, 0⟩] } })
      ∧ (s.hw.standby = true → ∃ e : LogEntry, e.code = eStandbyLost ∧ exec (.lockstepMismatch false) s =
        .next (logEv { s with hw := { s.hw with standby := false } } 16 e))
      ∧ (s.hw.standby = false → exec (.lockstepMismatch false) s = .next s)
      ∧ (s.hw.takeover = true → ∃ e : LogEntry, e.code = eFailover ∧ e.unit = s.activePair ∧ exec .standbyTakeover s =
        .next (logEv ({ s with hw := { s.hw with takeover := false, activeB := !s.hw.activeB } }.endAction uPair s.activePair)
          16 e).drainBuffers)
      ∧ (s.hw.takeover = false → exec .standbyTakeover s = .next s))
  ∧ ∀ (s : State), (s.hw.queued = [] → exec .recoveryActionStart s = .next s)
      ∧ (s.actionFree = false → exec .recoveryActionStart s = .next s)
      ∧ ∀ a rest, s.hw.queued = a :: rest → s.actionFree = true → exec .recoveryActionStart s =
        .next ({ s with hw := { s.hw with queued := rest, running := s.hw.running ++ [a] } }.beginAction a)

/-! ### Host ports, mailbox, tokens, management (chapters 12, 14) -/

/-- Host ports: the triggers of a partition reset and its steps, the link, configuration space, D-states, BAR2, IDE and SPDM.
The model's own choices in it: log entries 40, 67, 98 and 99. -/
def Obligations.HostPortResults : Prop :=
  (∀ (s : State) (p : Nat), p < 4 → let h := s.host p
      exec (.perstAssert p) s = .next ((s.setHost p { h with perst := true }).trigger p false)
      ∧ exec (.perstDeassert p) s = .next (s.setHost p { h with perst := false })
      ∧ exec (.hotReset p) s = .next (s.trigger p false) ∧ exec (.dataLinkDown p) s = .next (s.trigger p false)
      ∧ exec (.functionLevelReset p) s = .next (s.trigger p true)
      ∧ ∀ link, (s.portLive p = true → s.hw.fatal = false → (s.part p).enabled = true → s.trigger p link = s.startReset p link)
        ∧ (s.portLive p = false ∨ s.hw.fatal = true ∨ (s.part p).enabled = false →
          s.trigger p link = s.setHost p (h.cleared link)))
  ∧ (∀ (s : State) (p n : Nat), (n = 0 ∨ 16 ≤ n ∨ s.portLive p = false → exec (.vfFunctionLevelReset p n) s = .next s)
      ∧ (p < 4 → 1 ≤ n → n < 16 → s.portLive p = true →
        let s1 := ((s.chansOf p).filter fun ch => s.chanFn ch == n).foldl (fun (s : State) ch =>
          let t := s.abortChannel p ch .aborted .aborted 0
          let cs := t.cmds.map fun (c : Cmd) => if c.ch = ch then { c with silent := true } else c
          { t with cmds := cs, chans := mdel t.chans ch, chanTab := t.chanTab.filter fun q => q.1 / 8 != ch }) s
        let h := s1.host p
        ∃ h' : HostPort, exec (.vfFunctionLevelReset p n) s = .next (s1.setHost p h') ∧ h'.bme = sdel h.bme n
          ∧ h'.msixOn = sdel h.msixOn n ∧ h'.d3hot = sdel h.d3hot n ∧ h'.linkUp = h.linkUp ∧ h'.perst = h.perst
          ∧ h'.msix = h.msix.filter (fun q => q.1 / 2 / 2048 != n)))
  ∧ (∀ (s : State) (p : Nat),
      ((s.host p).preset ≠ .stopping → exec (.presetIdle p) s = .next s)
      ∧ ((s.host p).preset = .stopping → ((s.part p).clusters.any fun c => (s.cluster c).mx.isSome || (s.cluster c).se.isSome) = true →
        exec (.presetIdle p) s = .next s)
      ∧ ((s.host p).preset = .stopping →
        ((s.part p).clusters.any fun c => (s.cluster c).mx.isSome || (s.cluster c).se.isSome) = false →
        let s0 := { s with kernels := s.kernels.filter fun k => !(s.part p).clusters.contains k.cluster }
        let s1 := (s.kernels.filter fun k => (s.part p).clusters.contains k.cluster).foldl
          (fun (s : State) k => s.finish k.id .aborted 0 0) s0
        let s3 := (s.part p).clusters.foldl (fun s c => (List.range 8).foldl (fun (s : State) i =>
          if (s.core (c * 8 + i)).kernel.isSome then s.setCore (c * 8 + i) { s.core (c * 8 + i) with
            run := .idle, kernel := none, endStatus := none, abortPend := none } else s) s) s1
        exec (.presetIdle p) s = .next (s3.setHost p { s3.host p with preset := .clearing }))
      ∧ ((s.host p).preset = .clearing → let s1 := s.clearPart p
        let s2 := s1.setReg (aEpoch p) (setFld (s1.reg (aEpoch p)) 15 0 (fld (s1.reg (aEpoch p)) 15 0 + 1))
        exec (.presetCleared p) s = .next (s2.setHost p { s2.host p with
          preset := if s2.policy.resetErase then .erasing else .none
          fatal := (s2.host p).fatal && (s2.part p).clusters.all fun c => (s2.cluster c).absent
          mbAnswer := none }))
      ∧ ((s.host p).preset = .erasing → let s1 := { s with mem := s.mem.zero fun a => s.grantPart a == some p }
        exec (.presetEraseDone p) s = .next (s1.setHost p { s1.host p with preset := .none }))
      ∧ ((s.host p).preset ≠ .erasing → exec (.presetEraseDone p) s = .next s)
      ∧ ((s.host p).preset = .none → exec (.partitionResetFail p) s = .next s)
      ∧ ((s.host p).preset ≠ .none → exec (.partitionResetFail p) s =
        .next ((s.setHost p { s.host p with preset := .none }).partFatal p)))
  ∧ (∀ (s : State) (p sp w : Nat), s.portLive p = true → let h := s.host p
      (h.perst = false → exec (.portConfigReady p) s = .next (s.setHost p { h with cfgReady := true }))
      ∧ (h.perst = false → 1 ≤ sp → sp ≤ 7 → w ∈ ([1, 2, 4, 8] : List Nat) →
        exec (.pcieLinkUp p sp w) s = .next (s.setHost p { h with linkUp := true, speed := sp, width := w }))
      ∧ (∀ q, h.perst = false → h.fatal = false →
        (h.cfgReady = false → exec (.configRequest p q) s = .next (s.emit (.cfgAnswer p true 0)))
        ∧ (h.cfgReady = true → 16 ≤ q.fn ∨ (0 < q.fn ∧ h.vfEnable = false) ∨ 4096 ≤ q.off →
          exec (.configRequest p q) s = .next (s.emit (.cfgAnswer p false 0xFFFFFFFF)))
        ∧ (h.cfgReady = true → q.fn < 16 → q.fn = 0 ∨ h.vfEnable = true → q.off < 4096 →
          (q.wr = none → exec (.configRequest p q) s = .next (s.emit (.cfgAnswer p false (s.cfgRead p q.fn (q.off / 4 * 4)))))
          ∧ ∀ v, q.wr = some v → exec (.configRequest p q) s =
            .next ((s.cfgWrite p q.fn (q.off / 4 * 4) v).emit (.cfgAnswer p false 0))))
      ∧ (∀ n, n < 16 → exec (.d3hotEntry p n) s = .next (s.setHost p { h with d3hot := sadd h.d3hot n })
        ∧ exec (.d0Return p n) s = .next ((s.setHost p { h with d3hot := sdel h.d3hot n }).msixFlush p))
      ∧ (∀ st, st ≤ 8 → h.spdmSession = 2 → exec (.ideKm p st) s =
        .next (s.setHost p { h with ideSecure := sadd h.ideSecure st, ideInsecure := sdel h.ideInsecure st }))
      ∧ (∀ q, h.cfgReady = true → h.fatal = false →
        (s.life.noId = true → exec (.spdmRequest p q) s = .next (s.emit (.spdm p (spdmError 5))))
        ∧ (s.life.noId = false → (∀ e, spdmRefused q = some e → exec (.spdmRequest p q) s = .next (s.emit (.spdm p (spdmError e))))
          ∧ (spdmRefused q = none → exec (.spdmRequest p q) s = .next
            ((s.setHost p { h with spdmSession := spdmNext h.spdmSession q }).emit (.spdm p (Config.spdmAnswer h.spdmSession
              (s.measurements ++ s.boot.l1 ++ [BitVec.ofNat 8 q.code, BitVec.ofNat 8 q.slot] ++ q.body))))))))
  ∧ (∀ (s : State) (p st : Nat), let h := s.host p
      (st ∈ h.ideSecure → exec (.ideInsecure p st) s =
        .next (s.setHost p { h with ideSecure := sdel h.ideSecure st, ideInsecure := sadd h.ideInsecure st }))
      ∧ (st ∉ h.ideSecure → exec (.ideInsecure p st) s = .next s))
  ∧ ∀ (s : State) (p o : Nat), s.portLive p = true → (s.host p).fatal = false → s.ideOk p = true →
      (∀ len, len ≠ 0 → (s.b2Admit p o len pR = none → exec (.bar2Read p o len) s =
          .next ((badAccess s (16 + p / 2) p o).emit (.bar2Data p (List.replicate len 0xFF) false)))
        ∧ ∀ a, s.b2Admit p o len pR = some a → let r := readMem s (16 + p / 2) a len
          exec (.bar2Read p o len) s = .next (r.1.emit (.bar2Data p (r.2.map (·.1)) (pbPsn r.2))))
      ∧ ∀ data ep, data ≠ [] → (s.b2Admit p o data.length pW = none →
          exec (.bar2Write p o data ep) s = .next (badAccess s (16 + p / 2) p o))
        ∧ ∀ a, s.b2Admit p o data.length pW = some a →
          exec (.bar2Write p o data ep) s = .next (storeMem s (16 + p / 2) a (data.map fun b => (b, ep)))

/-- The mailbox and tokens: requests are answered with their result, an image is staged, programmed, verified and applied, a
token passes its checks in order before it acts, and its nonce is drawn anew; timers and the instruments as ruled. The model's
own choices in it: log entries 7, 91, 100, 106 and 108. -/
def Obligations.MailboxAndTokenResults : Prop :=
  (∀ (s : State) (p : Nat), s.mbBusy p = true →
      (s.mbOp p = 1 → s.mbLen p = 4 → s.mbReq p 2 2 = [0, 0] → exec (.getId p) s = .next (s.answer p 0 s.idResponse))
      ∧ (s.mbOp p = 1 → s.mbLen p ≠ 4 → exec (.getId p) s = .next (s.answer p 2 []))
      ∧ (s.mbOp p = 2 → s.boot.stage ≠ 5 → s.boot.stage ≠ 7 → exec (.attest p) s = .next (s.answer p 3 []))
      ∧ (s.mbOp p = 2 → s.boot.stage = 5 → s.mbLen p = 36 → s.mbReq p 2 2 = [0, 0] →
        exec (.attest p) s = .next (s.answer p 0 (s.report p (s.mbReq p 4 32)))))
  ∧ (∀ row ∈ ([(.imageBegin, 0), (.imageWrite, 1), (.imageCommit, 2), (.imageApply, 3)] : List ((Nat → Instr) × Nat)),
    ∀ (s : State) (p : Nat), s.mbBusy p = true → s.mbOp p = 3 → s.subOp p = row.2 →
      (s.life.lc ≠ 3 → s.mayStage p = false → exec (row.1 p) s = .next (s.answerD p 3 3))
      ∧ (s.life.lc ≠ 3 → s.mayStage p = true → s.mbLen p < 16 ∨ s.stageZeros p = false →
        exec (row.1 p) s = .next (s.answerD p 2 1))
      ∧ (s.life.lc ≠ 3 → s.mayStage p = true → 16 ≤ s.mbLen p → s.stageZeros p = true →
        (s.boot.applying = true → exec (row.1 p) s = .next (s.answerD p 3 1))
        ∧ (s.boot.applying = false →
          (row.2 = 0 → let f := s.boot.eraseSlot s.targetB
            ∃ l, exec (row.1 p) s = .next
              ({ s with boot := { f with slotRecs := l, staging := true, committed := false } }.answerD p 0 0))
          ∧ (row.2 = 1 → let o := leNat (s.mbReq p 8 4)
            let n := s.mbLen p - 16
            (4080 < n ∨ slotSize < o + n → exec (row.1 p) s = .next (s.answerD p 2 1))
            ∧ (n ≤ 4080 → o + n ≤ slotSize → let clear := (s.boot.slotBytes s.targetB o n).all fun b => b == 0xFF
              (clear = false → exec (row.1 p) s = .next (s.answerD p 2 6))
              ∧ (clear = true → exec (row.1 p) s = .next
                ({ s with boot := { s.boot.program s.targetB o (s.mbReq p 16 n) with staging := true } }.answerD p 0 0))))
          ∧ (row.2 = 2 → (∀ n, s.boot.check s.life s.targetB true = .error n →
              exec (row.1 p) s = .next (s.answerD p 2 (stageDetail n)))
            ∧ ∀ im, s.boot.check s.life s.targetB true = .ok im → s.boot.stage ≠ 6 →
              let l := putSlot s.boot.slotRecs true s.targetB s.boot.slotB
              exec (row.1 p) s = .next
                ({ s with boot := { s.boot with slotRecs := l, committed := true, staging := true } }.answerD p 0 0))
          ∧ (row.2 = 3 → (s.boot.stage = 6 → exec (row.1 p) s = .next (s.answerD p 3 0))
            ∧ (s.boot.stage ≠ 6 → s.boot.committed = false ∨ s.boot.stage < 5 → exec (row.1 p) s = .next (s.answerD p 3 2))
            ∧ (s.boot.stage ≠ 6 → s.boot.committed = true → 5 ≤ s.boot.stage →
              ∀ im, s.boot.check s.life s.targetB true = .ok im →
                exec (row.1 p) s = .next ((s.startApply im).answerD p 0 0))))))
  ∧ (∀ (s : State) (p : Nat), let a := s.tokP0 p
      let l := s.life
      let d := digNat (s.tok p 64 48)
      let u := s.stopForChange
      let up := fun (i : Nat) => if i + 1 = a then max (l.svnMin.getD i 0) (s.tokP1 p) else l.svnMin.getD i 0
      let ls : List (Instr × State × Life) :=
        [(.tokenDebug p, s, { l with dbgParts := BitVec.ofNat 4 a, dbgDev := a.testBit 4, dbgSecs := s.tokP1 p }),
          (.tokenRelease p, s, { l with retArmed := true }),
          (.tokenVendorReturn p, u, { u.life with returns := u.life.returns + 1, pending := true }),
          (.tokenProvision p, s,
            { l with ownerDig := l.ownerDig ++ [d], provisions := l.provisions + 1, pending := true, newOwnerDig := some d }),
          (.tokenScrap p, u, { u.life with udsKill := true, scrapped := true, pending := true, newOwnerDig := none }),
          (.tokenSvn p, s, { l with svnMin := (List.range 6).map up }),
          (.tokenRevoke p, s, { l with vendorRev := l.vendorRev ||| BitVec.ofNat 4 (2 ^ a) })]
      ∀ k c v x, ls[k]? = some (c, v, x) → s.mbBusy p = true → s.mbOp p = 4 → s.tokKind p = k + 1 →
        (∀ e, s.tokCheck p = some e → exec c s = .next (s.redraw.answerD p e.1 e.2))
        ∧ (s.tokCheck p = none → exec c s = .next ({ v with life := x }.redraw.answerD p 0 0)))
  ∧ (∀ (s : State) (p : Nat), s.tokCheck p = none ↔
      s.life.lc ≠ 3 ∧ s.boot.stage ≠ 6 ∧ p = s.policy.ownerPart ∧ s.mbLen p = 212 ∧ allZero (s.mbReq p 2 2) = true
      ∧ leNat (s.tok p 0 4) = 0x4E4B4F54 ∧ 1 ≤ s.tokKind p ∧ s.tokKind p ≤ 7 ∧ allZero (s.tok p 6 2) = true
      ∧ s.tok p 8 16 = leBytes 16 s.deviceId.toNat ∧ s.tok p 24 32 = s.life.nonce ∧ s.tokAdmitted p = true
      ∧ Config.ecdsaVerifies (s.signerKey (s.tokSigner p)) (s.tok p 0 112) (s.tok p 112 96) = true ∧ s.tokParams p = true)
  ∧ (∀ (s : State) (p : Nat),
      ((s.host p).mbAnswer = none → s.mbBusy p = false → exec (.mailboxResponse p) s = .next s)
      ∧ ∀ r l, ((s.host p).mbAnswer = some (r, l) → exec (.mailboxResponse p) s = .next (s.mbFinish p r l))
        ∧ ∀ u, s.mbBusy p = true → s.mbUnknown p = some u → (u.host p).mbAnswer = some (r, l) →
          exec (.mailboxResponse p) s = .next (u.mbFinish p r l))
  ∧ (∀ (s : State), exec .retArmExpire s = .next { s with life := { s.life with retArmed := false } }
      ∧ exec .debugExpire s = .next { s with life := { s.life with dbgParts := 0, dbgDev := false, dbgSecs := 0 } }
      ∧ (s.life.pending = false → exec .lifecycleReset s = .next s)
      ∧ (s.life.pending = true → (∀ p, p < 4 → (s.host p).mbAnswer = none) → exec .lifecycleReset s = .next s.deviceReset)
      ∧ (∀ d, d < 2048 → s.instOpen (s.ownerOf (d / 8)) = true → exec (.debugHaltRequest d) s = .next (s.hayward d 2))
      ∧ (∀ d, s.instOpen (s.ownerOf (d / 8)) = false → exec (.debugHaltRequest d) s = .next s))
  ∧ ∀ (s : State) (a : Nat), s.power.pwrGood = true →
      (s.instOpen (s.grantPart a) = false → ∀ w, exec (.instrumentAccess ⟨.memory a, w⟩) s = .next (s.emit (.instrument false 0)))
      ∧ (s.instOpen (s.grantPart a) = true →
        (∀ b, exec (.instrumentAccess ⟨.memory a, some b⟩) s = .next ((storeMem s 16 a [(b, false)]).emit (.instrument true b)))
        ∧ let r := readMem s 16 a 1
          exec (.instrumentAccess ⟨.memory a, none⟩) s = .next (r.1.emit (.instrument true ((r.2.map (·.1)).headD 0))))
      ∧ (s.instOpen none = true → exec (.instrumentAccess ⟨.device, none⟩) s = .next
        ({ s with freeCtr := s.freeCtr + 1 }.emit (.instrument true ((Config.freeValue s.freeCtr).setWidth 8))))

/-- The management sideband answers where it has power and an address, PLDM and vendor commands as their tables say, and the
TAP shifts out what its instruction selects. The model's own choices in it: log entries 41, 107 and 108. -/
def Obligations.ManagementResults : Prop :=
  (∀ (s : State) (sa da : BitVec 7),
      (s.power.pwrGood = true → s.mgmt.dynAddr = none →
        exec (.entdaa da) s = .next { s with mgmt := { s.mgmt with dynAddr := some da.toNat } }
        ∧ (sa.toNat = s.mgmt.staticAddr → exec (.setdasa sa da) s = .next { s with mgmt := { s.mgmt with dynAddr := some da.toNat } }))
      ∧ (sa.toNat ≠ s.mgmt.staticAddr → exec (.setdasa sa da) s = .next s))
  ∧ (∀ (s : State), s.mgmtOn = true →
      let tells := fun (c : Instr) (l : List Byte) => exec c s = .next (s.emit (.sideband 0 l))
      tells .getTid (Config.pldmAnswer 2 0) ∧ tells .getPldmVersion (Config.pldmAnswer 3 0) ∧ tells .getPldmTypes (leBytes 8 5)
      ∧ tells .getPldmCommands (Config.pldmAnswer 5 0) ∧ tells .getPdrRepositoryInfo (Config.pldmAnswer 0x50 0)
      ∧ (∀ h, tells (.getPdr h) (Config.pldmAnswer 0x51 h))
      ∧ (∀ n, 1 ≤ n → n ≤ 27 → tells (.getSensorReading n) (leBytes 4 (mget 0 s.mgmt.sensors n)))
      ∧ (∀ n, 27 < n → exec (.getSensorReading n) s = .next (s.emit (.sideband 0x80 [])))
      ∧ (∀ n, 28 ≤ n → n ≤ 31 → tells (.getStateSensorReadings n) (leBytes 1 (mget 0 s.mgmt.sensors n)))
      ∧ tells .mgmtStatus (leBytes 8 s.hwStatus.toNat ++ leBytes 8 s.guar.toNat ++ leBytes 8 s.fallowReg.toNat
          ++ leBytes 8 s.logStat.toNat ++ leBytes 8 (s.psec % 2 ^ 32))
      ∧ (∀ q n, 1 ≤ n → n ≤ 4 →
        tells (.mgmtLogRead q n) (((s.hw.log.reverse.filter fun e => decide (q ≤ e.seq)).take n).flatMap LogEntry.bytes))
      ∧ (∀ q n, n = 0 ∨ 4 < n → exec (.mgmtLogRead q n) s = .next (s.emit (.sideband 2 [])))
      ∧ (∀ q, exec (.mgmtLogAck q) s = .next
        ({ s with hw := { s.hw with acked := max s.hw.acked (q + 1) } }.emit (.sideband 0 [])))
      ∧ (s.policy.mgmtWrite = false → exec .rotSuspend s = .next (s.emit (.sideband 3 []))
        ∧ exec .rotResume s = .next (s.emit (.sideband 3 [])))
      ∧ (s.policy.mgmtWrite = true →
        exec .rotSuspend s = .next ({ s with hw := { s.hw with suspended := true } }.refreshHolds.reply 0 [])
        ∧ exec .rotResume s = .next ({ s with hw := { s.hw with suspended := false } }.flagPastDue.reply 0 []))
      ∧ (∀ e, exec (.mctpControl 0 e) s = .next (s.emit (.sideband 5 [])))
      ∧ (∀ e, 8 ≤ e → e ≤ 254 → exec (.mctpControl 1 e) s = .next
        ({ s with mgmt := { s.mgmt with eid := e } }.emit (.sideband 0 (leBytes 1 e ++ Config.mctpAnswer 1)))))
  ∧ (∀ (s : State), s.mgmtOn = false → exec .mgmtStatus s = .next s ∧ exec .rotSuspend s = .next s ∧ exec .rotResume s = .next s
      ∧ (∀ q, exec (.mgmtLogAck q) s = .next s) ∧ exec .getTid s = .next s)
  ∧ (∀ (s : State) (rd : List Nat), (s.power.pwrGood = false → exec (.sensorRefresh rd) s = .next s)
      ∧ (s.power.pwrGood = true → ∃ m, exec (.sensorRefresh rd) s = .next { s with mgmt := { s.mgmt with sensors := m } }
        ∧ (Canonical 0 s.mgmt.sensors →
          mget 0 m 1 = fld (s.reg (aCK + 0x10)) 27 16 ∧ (∀ i, i < 6 → mget 0 m (i + 2) = rd.getD i 0)
          ∧ (∀ i, i < 20 → mget 0 m (i + 8) = mget 0 s.power.pkgTemp i) ∧ mget 0 m 28 = s.power.div
          ∧ mget 0 m 29 = b2n (bitW s.guar 0) ∧ mget 0 m 30 = b2n s.hw.fatal ∧ mget 0 m 31 = b2n s.hw.activeB)))
  ∧ ∀ (s : State), s.power.pwrGood = true →
      let goes := fun (c : Instr) (n : Nat) (w : BitVec 32) => exec c s = .next ({ s with mgmt := { s.mgmt with tap := n } }.emit (.jtag w))
      goes .jtagBypass 0 0
      ∧ goes .jtagIdcode 1 (BitVec.ofNat 32 (0x10000000 + 0x2048 * 2 ^ 12 + Config.jep106.toNat * 2 + 1))
      ∧ (s.power.sysRstN = true → goes .jtagExtest 0 0 ∧ goes .jtagClamp 0 0) ∧ (s.power.sysRstN = false → goes .jtagClamp 4 0)
      ∧ (let t := { s with freeCtr := s.freeCtr + 1, mgmt := { s.mgmt with tap := 2 } }
        exec .jtagSamplePreload s = .next (t.emit (.jtag (Config.boundaryScan s.freeCtr))))
      ∧ (s.power.sysRstN = false → let t := { s with freeCtr := s.freeCtr + 1, mgmt := { s.mgmt with tap := 3 } }
        exec .jtagExtest s = .next (t.emit (.jtag (Config.boundaryScan s.freeCtr))))

/-! ### The whole machine -/

/-- Every step keeps device memory in its canonical form: bytes by strictly rising address, none listed that reads as an
unlisted one does, and the sets of poisoned words, of words that await their write-back and of granules in error strictly
rising. The model's own choices in it: log entry 45. -/
def Obligations.StepKeepsMemoryCanonical : Prop :=
  ∀ s t : State, Memory.wf s.mem → step s = .next t → Memory.wf t.mem

/-- A step takes the front command off the queue and no command puts one in: the queue of the next state is the rest. The
model's own choices in it: log entry 11. -/
def Obligations.StepTakesOneCommand : Prop :=
  ∀ s t : State, step s = .next t → t.pending = s.pending.tail

/-- No step takes back a burnt fuse: the owner digests are only added to, the minimum security versions only rise,
revocations, the scrap mark and UDS_KILL stay, and the provisionings and returns are never fewer. -/
def Obligations.StepKeepsBurntFuses : Prop :=
  ∀ s t : State, step s = .next t →
    s.life.ownerDig <+: t.life.ownerDig
    ∧ (∀ i, i < 6 → s.life.svnMin.getD i 0 ≤ t.life.svnMin.getD i 0)
    ∧ s.life.vendorRev &&& t.life.vendorRev = s.life.vendorRev
    ∧ (s.life.udsKill = true → t.life.udsKill = true) ∧ (s.life.scrapped = true → t.life.scrapped = true)
    ∧ s.life.provisions ≤ t.life.provisions ∧ s.life.returns ≤ t.life.returns ∧ t.life.vendorDig = s.life.vendorDig

/-- The machine after reset: nothing waits, memory is canonical and reads zero, boot stage 1, divider 8, the identity
register, and the reset values that the tables give `LK.CFG`, `LK.PORT_CFG`, `HW.PV_CFG` and each core. The model's own
choices in it: log entries 10, 43 and 45. -/
def Obligations.ResetState : Prop :=
  State.reset.pending = [] ∧ Memory.wf State.reset.mem
  ∧ (∀ a n, rdBytes 0 State.reset.mem.bytes a n = List.replicate n 0)
  ∧ State.reset.boot.stage = 1 ∧ State.reset.power.div = 8 ∧ State.reset.hw.fatal = false
  ∧ fld (readReg State.reset aHW) 15 0 = 0x2048 ∧ fld (readReg State.reset aHW) 23 16 = 0xB0
  ∧ fld (readReg State.reset aCK) 2 0 = 1 ∧ fld (readReg State.reset (aCK + 8)) 3 0 = 8
  ∧ (∀ p, p < 4 → fld (State.reset.reg (aLK p)) 19 0 = 2000 ∧ fld (State.reset.reg (aLK p)) 33 20 = 10
      ∧ fld (State.reset.reg (aLK p)) 49 34 = 1000 ∧ fld (State.reset.reg (aPV p + 8)) 17 15 = 1
      ∧ bitW (State.reset.reg (aPV p + 8)) 18 = false
      ∧ ∀ k, k < 8 → fld (State.reset.reg (aPortCfg p k)) 18 16 = 3 ∧ fld (State.reset.reg (aPortCfg p k)) 34 19 = 50712
          ∧ fld (State.reset.reg (aPortCfg p k)) 50 35 = 1024 ∧ bitW (State.reset.reg (aPortCfg p k)) 2 = false)
  ∧ ∀ d, (State.reset.core d).run = .idle ∧ (State.reset.core d).priv = .M ∧ (State.reset.core d).ds = []
      ∧ (State.reset.core d).rs = [] ∧ (State.reset.core d).loops = [] ∧ (State.reset.core d).vxVl = 0x1000
      ∧ (State.reset.core d).vxSrState = 0x9E3779B9 ∧ (State.reset.core d).vxRangeHi = 0x7FF0000000000000
      ∧ bndBase (State.reset.core d).ccDsBnd = 4096 ∧ bndLimit (State.reset.core d).ccDsBnd = 6144
      ∧ bndBase (State.reset.core d).ccRsBnd = 6144 ∧ bndLimit (State.reset.core d).ccRsBnd = 7936
      ∧ (State.reset.core d).ccLmProt = 0x8000 ∧ (State.reset.core d).dce = true ∧ (State.reset.core d).ie = false
end

