-- ==== Sys2Proof/Laws/Issue.lean ====
section
/-! SUPPORT. Laws of issue: what the shared operations of the core instructions do once an instruction issues. -/

namespace Sys2Proof.Machine

/-- An instruction that issues does what its body says of the state after the fetch. -/
theorem issue_of_issues {s : State} {d : Nat} {pl : Place} (h : Issues s d pl) (instr : BitVec 16) (body : State → Body) :
    issue s d instr pl body = (body (s.fetched d)).run d instr := by
  obtain ⟨h1, h2, h3, h4, h5⟩ := h
  have h6 : (if (s.core d).slot.isNone then (s.core d).admitted else none) = none := by
    rcases h2 with h2 | h2
    · cases hs : (s.core d).slot <;> simp_all
    · simp [h2]
  simp only [issue, h1, h3, h4, h5, h6, Bool.not_true, Bool.false_eq_true, if_false]

/-- A core that does not issue is left alone. -/
theorem issue_of_idle {s : State} {d : Nat} (h : s.issuing d = false) (instr : BitVec 16) (pl : Place) (body : State → Body) :
    issue s d instr pl body = s := by simp [issue, h]

/-- Entries put on top and taken again. -/
theorem take_drop_of_pops (l ds : List Entry) :
    ((l.reverse ++ ds).take l.length).reverse = l ∧ (l.reverse ++ ds).drop l.length = ds := by
  have h : l.length = l.reverse.length := by simp
  constructor
  · rw [h, List.take_left]; simp
  · rw [h, List.drop_left]

/-- The stacked entries lie on top. -/
@[simp] theorem Core.stacked_ds (k : Core) (l : List Entry) : (k.stacked l).ds = l.reverse ++ k.ds := rfl

/-- Dropping the stacked entries gives the core back. -/
@[simp] theorem Core.stacked_drop (k : Core) (l : List Entry) :
    { k.stacked l with ds := (k.stacked l).ds.drop l.length } = k := by
  simp only [Core.stacked, (take_drop_of_pops l k.ds).2]

/-- A stack instruction that finds its operands pushes what it makes of them. -/
theorem stackOp_of_need {k0 k : Core} {l : List Entry} (h : k0.need l.length = .ok (k.stacked l))
    (f : List Entry → List Entry) : k0.stackOp l.length f = k.pushAll (f l) := by
  obtain ⟨h1, h2⟩ := take_drop_of_pops l k.ds
  simp only [Core.stackOp, h, h1, h2, Core.stacked]

/-- A vector instruction whose operands stand on the stack runs on them. -/
theorem vecOp_of_need {s : State} {d : Nat} {l : List Entry} {k : Core} {ctl : Nat → Bool}
    (h : (s.core d).need l.length = .ok (k.stacked l))
    (hp : (l.zipIdx.any fun q => ctl q.2 && q.1.psn) = false) (f : Core → List Entry → State → Body) :
    vecOp d l.length ctl f s = f k l s := by
  obtain ⟨h1, h2⟩ := take_drop_of_pops l k.ds
  simp only [vecOp, h, h1, h2, hp, Bool.false_eq_true, if_false, Core.stacked]

end Sys2Proof.Machine
end

