-- ==== Sys2Proof/Laws/Map.lean ====
section
/-! SUPPORT. Laws of sparse maps and rising sets: read after write, and that every operation keeps the canonical form. -/

namespace Sys2Proof.Machine

/-- A key below every listed key reads the default. -/
theorem mget_of_lt {α : Type} (d : α) (m : SMap α) (k : Nat) (h : ∀ q ∈ m, k < q.1) : mget d m k = d := by
  induction m with
  | nil => rfl
  | cons q t ih =>
    have hk : k ≠ q.1 := Nat.ne_of_lt (h q (by simp))
    simp only [mget, if_neg hk]
    exact ih fun x hx => h x (by simp [hx])

/-- Writing one key leaves the others as they read. -/
theorem mget_mput_other {α : Type} [DecidableEq α] (d e : α) (m : SMap α) (k j : Nat) (v : α) (h : j ≠ k) :
    mget e (mput d m k v) j = mget e m j := by
  induction m with
  | nil => by_cases hv : v = d <;> simp [mput, hv, mget, h]
  | cons q t ih =>
    simp only [mput]
    split
    · split
      · rfl
      · simp [mget, h]
    · split
      · rename_i _ hk
        split
        · simp [mget, ← hk, h]
        · simp [mget, ← hk, h]
      · simp [mget, ih]

/-- A key reads what was written to it, in a map with rising keys. -/
theorem mget_mput_same {α : Type} [DecidableEq α] (d : α) (m : SMap α) (k : Nat) (v : α)
    (h : m.Pairwise fun x y => x.1 < y.1) : mget d (mput d m k v) k = v := by
  induction m with
  | nil => by_cases hv : v = d <;> simp [mput, hv, mget]
  | cons q t ih =>
    have ht := (List.pairwise_cons.mp h)
    simp only [mput]
    split
    · rename_i hlt
      split
      · rename_i hv
        rw [hv]
        refine mget_of_lt d _ k fun x hx => ?_
        rcases List.mem_cons.mp hx with rfl | hx
        · exact hlt
        · exact Nat.lt_trans hlt (ht.1 x hx)
      · simp [mget]
    · split
      · rename_i _ hk
        split
        · rename_i hv
          rw [hv]
          exact mget_of_lt d _ k fun x hx => hk ▸ ht.1 x hx
        · simp [mget]
      · rename_i _ hk
        simp [mget, hk, ih ht.2]

/-- Keys of a written map: the key itself or one listed before. -/
theorem mem_mput {α : Type} [DecidableEq α] (d : α) (m : SMap α) (k : Nat) (v : α) (q : Nat × α)
    (h : q ∈ mput d m k v) : (q = (k, v) ∧ v ≠ d) ∨ q ∈ m := by
  induction m with
  | nil => by_cases hv : v = d <;> simp_all [mput]
  | cons x t ih =>
    simp only [mput] at h
    split at h
    · split at h
      · exact .inr h
      · rename_i hv
        rcases List.mem_cons.mp h with h | h
        · exact .inl ⟨h, hv⟩
        · exact .inr h
    · split at h
      · split at h
        · exact .inr (List.mem_cons_of_mem _ h)
        · rename_i hv
          rcases List.mem_cons.mp h with h | h
          · exact .inl ⟨h, hv⟩
          · exact .inr (List.mem_cons_of_mem _ h)
      · rcases List.mem_cons.mp h with h | h
        · exact .inr (by simp [h])
        · rcases ih h with h | h
          · exact .inl h
          · exact .inr (List.mem_cons_of_mem _ h)

/-- Writing a key keeps the canonical form. -/
theorem canonical_mput {α : Type} [DecidableEq α] (d : α) (m : SMap α) (k : Nat) (v : α) (h : Canonical d m) :
    Canonical d (mput d m k v) := by
  refine ⟨?_, fun q hq => ?_⟩
  · have hp := h.1
    clear h
    induction m with
    | nil => by_cases hv : v = d <;> simp [mput, hv]
    | cons x t ih =>
      have ht := List.pairwise_cons.mp hp
      simp only [mput]
      split
      · rename_i hlt
        split
        · exact hp
        · refine List.pairwise_cons.mpr ⟨fun y hy => ?_, hp⟩
          rcases List.mem_cons.mp hy with rfl | hy
          · exact hlt
          · exact Nat.lt_trans hlt (ht.1 y hy)
      · split
        · rename_i _ hk
          split
          · exact ht.2
          · exact List.pairwise_cons.mpr ⟨fun y hy => hk ▸ ht.1 y hy, ht.2⟩
        · rename_i h1 h2
          refine List.pairwise_cons.mpr ⟨fun y hy => ?_, ih ht.2⟩
          rcases mem_mput d t k v y hy with ⟨rfl, _⟩ | hy
          · exact Nat.lt_of_le_of_ne (Nat.le_of_not_lt h1) (Ne.symm h2)
          · exact ht.1 y hy
  · rcases mem_mput d m k v q hq with ⟨rfl, hv⟩ | hq
    · exact hv
    · exact h.2 q hq

/-- Dropping entries keeps the canonical form. -/
theorem canonical_filter {α : Type} (d : α) (m : SMap α) (f : Nat × α → Bool) (h : Canonical d m) :
    Canonical d (m.filter f) :=
  ⟨h.1.filter _, fun q hq => h.2 q (List.mem_of_mem_filter hq)⟩

/-- Writing bytes keeps the canonical form. -/
theorem canonical_wrBytes (d : Byte) (m : List Host.Cell) (a : Nat) (l : List Byte) (h : Canonical d m) :
    Canonical d (wrBytes d m a l) := by
  induction l generalizing m a with
  | nil => exact h
  | cons b t ih => exact ih _ _ (canonical_mput d m a b h)

/-- Bytes outside the written ones read as before. -/
theorem mget_wrBytes_other (d : Byte) (m : List Host.Cell) (a : Nat) (l : List Byte) (j : Nat)
    (h : j < a ∨ a + l.length ≤ j) : mget d (wrBytes d m a l) j = mget d m j := by
  induction l generalizing m a with
  | nil => rfl
  | cons b t ih =>
    simp only [List.length_cons] at h
    rw [wrBytes, ih _ _ (by omega), mget_mput_other d d m a j b (by omega)]

/-- The number of bytes that a read answers. -/
@[simp] theorem length_rdBytes (d : Byte) (m : List Host.Cell) (a n : Nat) : (rdBytes d m a n).length = n := by
  induction n generalizing a with
  | zero => rfl
  | succ n ih => simp [rdBytes, ih]

/-- Bytes written are read back. -/
theorem rdBytes_wrBytes (d : Byte) (m : List Host.Cell) (a : Nat) (l : List Byte) (h : Canonical d m) :
    rdBytes d (wrBytes d m a l) a l.length = l := by
  induction l generalizing m a with
  | nil => rfl
  | cons b t ih =>
    have hm := canonical_mput d m a b h
    simp only [List.length_cons, rdBytes, wrBytes]
    rw [ih _ _ hm, mget_wrBytes_other d _ (a + 1) t a (by omega), mget_mput_same d m a b h.1]

/-- Members of a grown set. -/
theorem mem_sadd (l : List Nat) (k j : Nat) : j ∈ sadd l k ↔ j = k ∨ j ∈ l := by
  induction l with
  | nil => simp [sadd]
  | cons h t ih =>
    simp only [sadd]
    split
    · simp
    · split
      · rename_i _ hk; subst hk; simp
      · simp only [List.mem_cons, ih]; tauto

/-- Growing a set keeps it rising. -/
theorem rising_sadd (l : List Nat) (k : Nat) (h : Rising l) : Rising (sadd l k) := by
  induction l with
  | nil => simp [sadd]
  | cons x t ih =>
    have ht := List.pairwise_cons.mp h
    simp only [sadd]
    split
    · rename_i hlt
      refine List.pairwise_cons.mpr ⟨fun y hy => ?_, h⟩
      rcases List.mem_cons.mp hy with rfl | hy
      · exact hlt
      · exact Nat.lt_trans hlt (ht.1 y hy)
    · split
      · exact h
      · rename_i h1 h2
        refine List.pairwise_cons.mpr ⟨fun y hy => ?_, ih ht.2⟩
        rcases (mem_sadd t k y).mp hy with rfl | hy
        · omega
        · exact ht.1 y hy

/-- Dropping members keeps a set rising. -/
theorem rising_filter (l : List Nat) (f : Nat → Bool) (h : Rising l) : Rising (l.filter f) := h.filter _

/-- Growing a set by a list keeps it rising. -/
theorem rising_foldl_sadd (a l : List Nat) (h : Rising l) : Rising (a.foldl sadd l) := by
  induction a generalizing l with
  | nil => exact h
  | cons x t ih => exact ih _ (rising_sadd l x h)

/-- A property that every step of a fold keeps, the fold keeps. -/
theorem foldl_keeps {α σ : Type} (P : σ → Prop) (f : σ → α → σ) (hf : ∀ s a, P s → P (f s a)) (l : List α) (s : σ)
    (h : P s) : P (l.foldl f s) := by
  induction l generalizing s with
  | nil => exact h
  | cons a t ih => exact ih _ (hf s a h)

end Sys2Proof.Machine
end

