-- ==== Sys2Proof/Laws/State.lean ====
section
/-! SUPPORT. The fields of State under its named updates: what an update writes, and that it leaves every other field. -/

namespace Sys2Proof.Machine

/-! ### State.setCore -/

@[simp] theorem State.setCore_pending (s : State) (d : Nat) (x : Core) : (s.setCore d x).pending = s.pending := rfl
@[simp] theorem State.setCore_regs (s : State) (d : Nat) (x : Core) : (s.setCore d x).regs = s.regs := rfl
@[simp] theorem State.setCore_mem (s : State) (d : Nat) (x : Core) : (s.setCore d x).mem = s.mem := rfl
@[simp] theorem State.setCore_hostMem (s : State) (d : Nat) (x : Core) : (s.setCore d x).hostMem = s.hostMem := rfl
@[simp] theorem State.setCore_hostPsn (s : State) (d : Nat) (x : Core) : (s.setCore d x).hostPsn = s.hostPsn := rfl
@[simp] theorem State.setCore_clusters (s : State) (d : Nat) (x : Core) : (s.setCore d x).clusters = s.clusters := rfl
@[simp] theorem State.setCore_phys (s : State) (d : Nat) (x : Core) : (s.setCore d x).phys = s.phys := rfl
@[simp] theorem State.setCore_chanTab (s : State) (d : Nat) (x : Core) : (s.setCore d x).chanTab = s.chanTab := rfl
@[simp] theorem State.setCore_chans (s : State) (d : Nat) (x : Core) : (s.setCore d x).chans = s.chans := rfl
@[simp] theorem State.setCore_cmds (s : State) (d : Nat) (x : Core) : (s.setCore d x).cmds = s.cmds := rfl
@[simp] theorem State.setCore_kernels (s : State) (d : Nat) (x : Core) : (s.setCore d x).kernels = s.kernels := rfl
@[simp] theorem State.setCore_nextId (s : State) (d : Nat) (x : Core) : (s.setCore d x).nextId = s.nextId := rfl
@[simp] theorem State.setCore_policy (s : State) (d : Nat) (x : Core) : (s.setCore d x).policy = s.policy := rfl
@[simp] theorem State.setCore_repair (s : State) (d : Nat) (x : Core) : (s.setCore d x).repair = s.repair := rfl
@[simp] theorem State.setCore_hw (s : State) (d : Nat) (x : Core) : (s.setCore d x).hw = s.hw := rfl
@[simp] theorem State.setCore_partners (s : State) (d : Nat) (x : Core) : (s.setCore d x).partners = s.partners := rfl
@[simp] theorem State.setCore_keys (s : State) (d : Nat) (x : Core) : (s.setCore d x).keys = s.keys := rfl
@[simp] theorem State.setCore_transports (s : State) (d : Nat) (x : Core) : (s.setCore d x).transports = s.transports := rfl
@[simp] theorem State.setCore_ports (s : State) (d : Nat) (x : Core) : (s.setCore d x).ports = s.ports := rfl
@[simp] theorem State.setCore_linkOps (s : State) (d : Nat) (x : Core) : (s.setCore d x).linkOps = s.linkOps := rfl
@[simp] theorem State.setCore_hosts (s : State) (d : Nat) (x : Core) : (s.setCore d x).hosts = s.hosts := rfl
@[simp] theorem State.setCore_boot (s : State) (d : Nat) (x : Core) : (s.setCore d x).boot = s.boot := rfl
@[simp] theorem State.setCore_life (s : State) (d : Nat) (x : Core) : (s.setCore d x).life = s.life := rfl
@[simp] theorem State.setCore_power (s : State) (d : Nat) (x : Core) : (s.setCore d x).power = s.power := rfl
@[simp] theorem State.setCore_mgmt (s : State) (d : Nat) (x : Core) : (s.setCore d x).mgmt = s.mgmt := rfl
@[simp] theorem State.setCore_arming (s : State) (d : Nat) (x : Core) : (s.setCore d x).arming = s.arming := rfl
@[simp] theorem State.setCore_disarming (s : State) (d : Nat) (x : Core) : (s.setCore d x).disarming = s.disarming := rfl
@[simp] theorem State.setCore_sbFlags (s : State) (d : Nat) (x : Core) : (s.setCore d x).sbFlags = s.sbFlags := rfl
@[simp] theorem State.setCore_bus (s : State) (d : Nat) (x : Core) : (s.setCore d x).bus = s.bus := rfl
@[simp] theorem State.setCore_acCount (s : State) (d : Nat) (x : Core) : (s.setCore d x).acCount = s.acCount := rfl
@[simp] theorem State.setCore_acRem (s : State) (d : Nat) (x : Core) : (s.setCore d x).acRem = s.acRem := rfl
@[simp] theorem State.setCore_psec (s : State) (d : Nat) (x : Core) : (s.setCore d x).psec = s.psec := rfl
@[simp] theorem State.setCore_freeCtr (s : State) (d : Nat) (x : Core) : (s.setCore d x).freeCtr = s.freeCtr := rfl
@[simp] theorem State.setCore_cluster (s : State) (d : Nat) (x : Core) (j : Nat) : (s.setCore d x).cluster j = s.cluster j := rfl
@[simp] theorem State.setCore_physOf (s : State) (d : Nat) (x : Core) (j : Nat) : (s.setCore d x).physOf j = s.physOf j := rfl
@[simp] theorem State.setCore_chan (s : State) (d : Nat) (x : Core) (j : Nat) : (s.setCore d x).chan j = s.chan j := rfl
@[simp] theorem State.setCore_chW (s : State) (d : Nat) (x : Core) (j i : Nat) : (s.setCore d x).chW j i = s.chW j i := rfl
@[simp] theorem State.setCore_port (s : State) (d : Nat) (x : Core) (j : Nat) : (s.setCore d x).port j = s.port j := rfl
@[simp] theorem State.setCore_transport (s : State) (d : Nat) (x : Core) (j : Nat) : (s.setCore d x).transport j = s.transport j := rfl
@[simp] theorem State.setCore_host (s : State) (d : Nat) (x : Core) (j : Nat) : (s.setCore d x).host j = s.host j := rfl
@[simp] theorem State.setCore_partner (s : State) (d : Nat) (x : Core) (j i : Nat) : (s.setCore d x).partner j i = s.partner j i := rfl
@[simp] theorem State.setCore_bank (s : State) (d : Nat) (x : Core) (j : Nat) : (s.setCore d x).bank j = s.bank j := rfl
@[simp] theorem State.setCore_reg (s : State) (d : Nat) (x : Core) (j : Nat) : (s.setCore d x).reg j = s.reg j := rfl
@[simp] theorem State.setCore_part (s : State) (d : Nat) (x : Core) (j : Nat) : (s.setCore d x).part j = s.part j := rfl
@[simp] theorem State.setCore_ownerOf (s : State) (d : Nat) (x : Core) (j : Nat) : (s.setCore d x).ownerOf j = s.ownerOf j := rfl
@[simp] theorem State.setCore_corePart (s : State) (d : Nat) (x : Core) (j : Nat) : (s.setCore d x).corePart j = s.corePart j := rfl
@[simp] theorem State.setCore_chanPart (s : State) (d : Nat) (x : Core) (j : Nat) : (s.setCore d x).chanPart j = s.chanPart j := rfl
@[simp] theorem State.setCore_portPart (s : State) (d : Nat) (x : Core) (j : Nat) : (s.setCore d x).portPart j = s.portPart j := rfl
@[simp] theorem State.setCore_grantPart (s : State) (d : Nat) (x : Core) (j : Nat) : (s.setCore d x).grantPart j = s.grantPart j := rfl

/-! ### State.setCluster -/

@[simp] theorem State.setCluster_pending (s : State) (c : Nat) (x : Cluster) : (s.setCluster c x).pending = s.pending := rfl
@[simp] theorem State.setCluster_regs (s : State) (c : Nat) (x : Cluster) : (s.setCluster c x).regs = s.regs := rfl
@[simp] theorem State.setCluster_mem (s : State) (c : Nat) (x : Cluster) : (s.setCluster c x).mem = s.mem := rfl
@[simp] theorem State.setCluster_hostMem (s : State) (c : Nat) (x : Cluster) : (s.setCluster c x).hostMem = s.hostMem := rfl
@[simp] theorem State.setCluster_hostPsn (s : State) (c : Nat) (x : Cluster) : (s.setCluster c x).hostPsn = s.hostPsn := rfl
@[simp] theorem State.setCluster_cores (s : State) (c : Nat) (x : Cluster) : (s.setCluster c x).cores = s.cores := rfl
@[simp] theorem State.setCluster_phys (s : State) (c : Nat) (x : Cluster) : (s.setCluster c x).phys = s.phys := rfl
@[simp] theorem State.setCluster_chanTab (s : State) (c : Nat) (x : Cluster) : (s.setCluster c x).chanTab = s.chanTab := rfl
@[simp] theorem State.setCluster_chans (s : State) (c : Nat) (x : Cluster) : (s.setCluster c x).chans = s.chans := rfl
@[simp] theorem State.setCluster_cmds (s : State) (c : Nat) (x : Cluster) : (s.setCluster c x).cmds = s.cmds := rfl
@[simp] theorem State.setCluster_kernels (s : State) (c : Nat) (x : Cluster) : (s.setCluster c x).kernels = s.kernels := rfl
@[simp] theorem State.setCluster_nextId (s : State) (c : Nat) (x : Cluster) : (s.setCluster c x).nextId = s.nextId := rfl
@[simp] theorem State.setCluster_policy (s : State) (c : Nat) (x : Cluster) : (s.setCluster c x).policy = s.policy := rfl
@[simp] theorem State.setCluster_repair (s : State) (c : Nat) (x : Cluster) : (s.setCluster c x).repair = s.repair := rfl
@[simp] theorem State.setCluster_hw (s : State) (c : Nat) (x : Cluster) : (s.setCluster c x).hw = s.hw := rfl
@[simp] theorem State.setCluster_partners (s : State) (c : Nat) (x : Cluster) : (s.setCluster c x).partners = s.partners := rfl
@[simp] theorem State.setCluster_keys (s : State) (c : Nat) (x : Cluster) : (s.setCluster c x).keys = s.keys := rfl
@[simp] theorem State.setCluster_transports (s : State) (c : Nat) (x : Cluster) : (s.setCluster c x).transports = s.transports := rfl
@[simp] theorem State.setCluster_ports (s : State) (c : Nat) (x : Cluster) : (s.setCluster c x).ports = s.ports := rfl
@[simp] theorem State.setCluster_linkOps (s : State) (c : Nat) (x : Cluster) : (s.setCluster c x).linkOps = s.linkOps := rfl
@[simp] theorem State.setCluster_hosts (s : State) (c : Nat) (x : Cluster) : (s.setCluster c x).hosts = s.hosts := rfl
@[simp] theorem State.setCluster_boot (s : State) (c : Nat) (x : Cluster) : (s.setCluster c x).boot = s.boot := rfl
@[simp] theorem State.setCluster_life (s : State) (c : Nat) (x : Cluster) : (s.setCluster c x).life = s.life := rfl
@[simp] theorem State.setCluster_power (s : State) (c : Nat) (x : Cluster) : (s.setCluster c x).power = s.power := rfl
@[simp] theorem State.setCluster_mgmt (s : State) (c : Nat) (x : Cluster) : (s.setCluster c x).mgmt = s.mgmt := rfl
@[simp] theorem State.setCluster_arming (s : State) (c : Nat) (x : Cluster) : (s.setCluster c x).arming = s.arming := rfl
@[simp] theorem State.setCluster_disarming (s : State) (c : Nat) (x : Cluster) : (s.setCluster c x).disarming = s.disarming := rfl
@[simp] theorem State.setCluster_sbFlags (s : State) (c : Nat) (x : Cluster) : (s.setCluster c x).sbFlags = s.sbFlags := rfl
@[simp] theorem State.setCluster_bus (s : State) (c : Nat) (x : Cluster) : (s.setCluster c x).bus = s.bus := rfl
@[simp] theorem State.setCluster_acCount (s : State) (c : Nat) (x : Cluster) : (s.setCluster c x).acCount = s.acCount := rfl
@[simp] theorem State.setCluster_acRem (s : State) (c : Nat) (x : Cluster) : (s.setCluster c x).acRem = s.acRem := rfl
@[simp] theorem State.setCluster_psec (s : State) (c : Nat) (x : Cluster) : (s.setCluster c x).psec = s.psec := rfl
@[simp] theorem State.setCluster_freeCtr (s : State) (c : Nat) (x : Cluster) : (s.setCluster c x).freeCtr = s.freeCtr := rfl
@[simp] theorem State.setCluster_core (s : State) (c : Nat) (x : Cluster) (j : Nat) : (s.setCluster c x).core j = s.core j := rfl
@[simp] theorem State.setCluster_physOf (s : State) (c : Nat) (x : Cluster) (j : Nat) : (s.setCluster c x).physOf j = s.physOf j := rfl
@[simp] theorem State.setCluster_chan (s : State) (c : Nat) (x : Cluster) (j : Nat) : (s.setCluster c x).chan j = s.chan j := rfl
@[simp] theorem State.setCluster_chW (s : State) (c : Nat) (x : Cluster) (j i : Nat) : (s.setCluster c x).chW j i = s.chW j i := rfl
@[simp] theorem State.setCluster_port (s : State) (c : Nat) (x : Cluster) (j : Nat) : (s.setCluster c x).port j = s.port j := rfl
@[simp] theorem State.setCluster_transport (s : State) (c : Nat) (x : Cluster) (j : Nat) : (s.setCluster c x).transport j = s.transport j := rfl
@[simp] theorem State.setCluster_host (s : State) (c : Nat) (x : Cluster) (j : Nat) : (s.setCluster c x).host j = s.host j := rfl
@[simp] theorem State.setCluster_partner (s : State) (c : Nat) (x : Cluster) (j i : Nat) : (s.setCluster c x).partner j i = s.partner j i := rfl
@[simp] theorem State.setCluster_bank (s : State) (c : Nat) (x : Cluster) (j : Nat) : (s.setCluster c x).bank j = s.bank j := rfl
@[simp] theorem State.setCluster_reg (s : State) (c : Nat) (x : Cluster) (j : Nat) : (s.setCluster c x).reg j = s.reg j := rfl
@[simp] theorem State.setCluster_part (s : State) (c : Nat) (x : Cluster) (j : Nat) : (s.setCluster c x).part j = s.part j := rfl
@[simp] theorem State.setCluster_ownerOf (s : State) (c : Nat) (x : Cluster) (j : Nat) : (s.setCluster c x).ownerOf j = s.ownerOf j := rfl
@[simp] theorem State.setCluster_corePart (s : State) (c : Nat) (x : Cluster) (j : Nat) : (s.setCluster c x).corePart j = s.corePart j := rfl
@[simp] theorem State.setCluster_chanPart (s : State) (c : Nat) (x : Cluster) (j : Nat) : (s.setCluster c x).chanPart j = s.chanPart j := rfl
@[simp] theorem State.setCluster_portPart (s : State) (c : Nat) (x : Cluster) (j : Nat) : (s.setCluster c x).portPart j = s.portPart j := rfl
@[simp] theorem State.setCluster_grantPart (s : State) (c : Nat) (x : Cluster) (j : Nat) : (s.setCluster c x).grantPart j = s.grantPart j := rfl

/-! ### State.setPhys -/

@[simp] theorem State.setPhys_pending (s : State) (ph : Nat) (x : Phys) : (s.setPhys ph x).pending = s.pending := rfl
@[simp] theorem State.setPhys_regs (s : State) (ph : Nat) (x : Phys) : (s.setPhys ph x).regs = s.regs := rfl
@[simp] theorem State.setPhys_mem (s : State) (ph : Nat) (x : Phys) : (s.setPhys ph x).mem = s.mem := rfl
@[simp] theorem State.setPhys_hostMem (s : State) (ph : Nat) (x : Phys) : (s.setPhys ph x).hostMem = s.hostMem := rfl
@[simp] theorem State.setPhys_hostPsn (s : State) (ph : Nat) (x : Phys) : (s.setPhys ph x).hostPsn = s.hostPsn := rfl
@[simp] theorem State.setPhys_cores (s : State) (ph : Nat) (x : Phys) : (s.setPhys ph x).cores = s.cores := rfl
@[simp] theorem State.setPhys_clusters (s : State) (ph : Nat) (x : Phys) : (s.setPhys ph x).clusters = s.clusters := rfl
@[simp] theorem State.setPhys_chanTab (s : State) (ph : Nat) (x : Phys) : (s.setPhys ph x).chanTab = s.chanTab := rfl
@[simp] theorem State.setPhys_chans (s : State) (ph : Nat) (x : Phys) : (s.setPhys ph x).chans = s.chans := rfl
@[simp] theorem State.setPhys_cmds (s : State) (ph : Nat) (x : Phys) : (s.setPhys ph x).cmds = s.cmds := rfl
@[simp] theorem State.setPhys_kernels (s : State) (ph : Nat) (x : Phys) : (s.setPhys ph x).kernels = s.kernels := rfl
@[simp] theorem State.setPhys_nextId (s : State) (ph : Nat) (x : Phys) : (s.setPhys ph x).nextId = s.nextId := rfl
@[simp] theorem State.setPhys_policy (s : State) (ph : Nat) (x : Phys) : (s.setPhys ph x).policy = s.policy := rfl
@[simp] theorem State.setPhys_repair (s : State) (ph : Nat) (x : Phys) : (s.setPhys ph x).repair = s.repair := rfl
@[simp] theorem State.setPhys_hw (s : State) (ph : Nat) (x : Phys) : (s.setPhys ph x).hw = s.hw := rfl
@[simp] theorem State.setPhys_partners (s : State) (ph : Nat) (x : Phys) : (s.setPhys ph x).partners = s.partners := rfl
@[simp] theorem State.setPhys_keys (s : State) (ph : Nat) (x : Phys) : (s.setPhys ph x).keys = s.keys := rfl
@[simp] theorem State.setPhys_transports (s : State) (ph : Nat) (x : Phys) : (s.setPhys ph x).transports = s.transports := rfl
@[simp] theorem State.setPhys_ports (s : State) (ph : Nat) (x : Phys) : (s.setPhys ph x).ports = s.ports := rfl
@[simp] theorem State.setPhys_linkOps (s : State) (ph : Nat) (x : Phys) : (s.setPhys ph x).linkOps = s.linkOps := rfl
@[simp] theorem State.setPhys_hosts (s : State) (ph : Nat) (x : Phys) : (s.setPhys ph x).hosts = s.hosts := rfl
@[simp] theorem State.setPhys_boot (s : State) (ph : Nat) (x : Phys) : (s.setPhys ph x).boot = s.boot := rfl
@[simp] theorem State.setPhys_life (s : State) (ph : Nat) (x : Phys) : (s.setPhys ph x).life = s.life := rfl
@[simp] theorem State.setPhys_power (s : State) (ph : Nat) (x : Phys) : (s.setPhys ph x).power = s.power := rfl
@[simp] theorem State.setPhys_mgmt (s : State) (ph : Nat) (x : Phys) : (s.setPhys ph x).mgmt = s.mgmt := rfl
@[simp] theorem State.setPhys_arming (s : State) (ph : Nat) (x : Phys) : (s.setPhys ph x).arming = s.arming := rfl
@[simp] theorem State.setPhys_disarming (s : State) (ph : Nat) (x : Phys) : (s.setPhys ph x).disarming = s.disarming := rfl
@[simp] theorem State.setPhys_sbFlags (s : State) (ph : Nat) (x : Phys) : (s.setPhys ph x).sbFlags = s.sbFlags := rfl
@[simp] theorem State.setPhys_bus (s : State) (ph : Nat) (x : Phys) : (s.setPhys ph x).bus = s.bus := rfl
@[simp] theorem State.setPhys_acCount (s : State) (ph : Nat) (x : Phys) : (s.setPhys ph x).acCount = s.acCount := rfl
@[simp] theorem State.setPhys_acRem (s : State) (ph : Nat) (x : Phys) : (s.setPhys ph x).acRem = s.acRem := rfl
@[simp] theorem State.setPhys_psec (s : State) (ph : Nat) (x : Phys) : (s.setPhys ph x).psec = s.psec := rfl
@[simp] theorem State.setPhys_freeCtr (s : State) (ph : Nat) (x : Phys) : (s.setPhys ph x).freeCtr = s.freeCtr := rfl
@[simp] theorem State.setPhys_core (s : State) (ph : Nat) (x : Phys) (j : Nat) : (s.setPhys ph x).core j = s.core j := rfl
@[simp] theorem State.setPhys_cluster (s : State) (ph : Nat) (x : Phys) (j : Nat) : (s.setPhys ph x).cluster j = s.cluster j := rfl
@[simp] theorem State.setPhys_chan (s : State) (ph : Nat) (x : Phys) (j : Nat) : (s.setPhys ph x).chan j = s.chan j := rfl
@[simp] theorem State.setPhys_chW (s : State) (ph : Nat) (x : Phys) (j i : Nat) : (s.setPhys ph x).chW j i = s.chW j i := rfl
@[simp] theorem State.setPhys_port (s : State) (ph : Nat) (x : Phys) (j : Nat) : (s.setPhys ph x).port j = s.port j := rfl
@[simp] theorem State.setPhys_transport (s : State) (ph : Nat) (x : Phys) (j : Nat) : (s.setPhys ph x).transport j = s.transport j := rfl
@[simp] theorem State.setPhys_host (s : State) (ph : Nat) (x : Phys) (j : Nat) : (s.setPhys ph x).host j = s.host j := rfl
@[simp] theorem State.setPhys_partner (s : State) (ph : Nat) (x : Phys) (j i : Nat) : (s.setPhys ph x).partner j i = s.partner j i := rfl
@[simp] theorem State.setPhys_bank (s : State) (ph : Nat) (x : Phys) (j : Nat) : (s.setPhys ph x).bank j = s.bank j := rfl
@[simp] theorem State.setPhys_reg (s : State) (ph : Nat) (x : Phys) (j : Nat) : (s.setPhys ph x).reg j = s.reg j := rfl
@[simp] theorem State.setPhys_part (s : State) (ph : Nat) (x : Phys) (j : Nat) : (s.setPhys ph x).part j = s.part j := rfl
@[simp] theorem State.setPhys_ownerOf (s : State) (ph : Nat) (x : Phys) (j : Nat) : (s.setPhys ph x).ownerOf j = s.ownerOf j := rfl
@[simp] theorem State.setPhys_corePart (s : State) (ph : Nat) (x : Phys) (j : Nat) : (s.setPhys ph x).corePart j = s.corePart j := rfl
@[simp] theorem State.setPhys_chanPart (s : State) (ph : Nat) (x : Phys) (j : Nat) : (s.setPhys ph x).chanPart j = s.chanPart j := rfl
@[simp] theorem State.setPhys_portPart (s : State) (ph : Nat) (x : Phys) (j : Nat) : (s.setPhys ph x).portPart j = s.portPart j := rfl
@[simp] theorem State.setPhys_grantPart (s : State) (ph : Nat) (x : Phys) (j : Nat) : (s.setPhys ph x).grantPart j = s.grantPart j := rfl

/-! ### State.setChan -/

@[simp] theorem State.setChan_pending (s : State) (ch : Nat) (x : Chan) : (s.setChan ch x).pending = s.pending := rfl
@[simp] theorem State.setChan_regs (s : State) (ch : Nat) (x : Chan) : (s.setChan ch x).regs = s.regs := rfl
@[simp] theorem State.setChan_mem (s : State) (ch : Nat) (x : Chan) : (s.setChan ch x).mem = s.mem := rfl
@[simp] theorem State.setChan_hostMem (s : State) (ch : Nat) (x : Chan) : (s.setChan ch x).hostMem = s.hostMem := rfl
@[simp] theorem State.setChan_hostPsn (s : State) (ch : Nat) (x : Chan) : (s.setChan ch x).hostPsn = s.hostPsn := rfl
@[simp] theorem State.setChan_cores (s : State) (ch : Nat) (x : Chan) : (s.setChan ch x).cores = s.cores := rfl
@[simp] theorem State.setChan_clusters (s : State) (ch : Nat) (x : Chan) : (s.setChan ch x).clusters = s.clusters := rfl
@[simp] theorem State.setChan_phys (s : State) (ch : Nat) (x : Chan) : (s.setChan ch x).phys = s.phys := rfl
@[simp] theorem State.setChan_chanTab (s : State) (ch : Nat) (x : Chan) : (s.setChan ch x).chanTab = s.chanTab := rfl
@[simp] theorem State.setChan_cmds (s : State) (ch : Nat) (x : Chan) : (s.setChan ch x).cmds = s.cmds := rfl
@[simp] theorem State.setChan_kernels (s : State) (ch : Nat) (x : Chan) : (s.setChan ch x).kernels = s.kernels := rfl
@[simp] theorem State.setChan_nextId (s : State) (ch : Nat) (x : Chan) : (s.setChan ch x).nextId = s.nextId := rfl
@[simp] theorem State.setChan_policy (s : State) (ch : Nat) (x : Chan) : (s.setChan ch x).policy = s.policy := rfl
@[simp] theorem State.setChan_repair (s : State) (ch : Nat) (x : Chan) : (s.setChan ch x).repair = s.repair := rfl
@[simp] theorem State.setChan_hw (s : State) (ch : Nat) (x : Chan) : (s.setChan ch x).hw = s.hw := rfl
@[simp] theorem State.setChan_partners (s : State) (ch : Nat) (x : Chan) : (s.setChan ch x).partners = s.partners := rfl
@[simp] theorem State.setChan_keys (s : State) (ch : Nat) (x : Chan) : (s.setChan ch x).keys = s.keys := rfl
@[simp] theorem State.setChan_transports (s : State) (ch : Nat) (x : Chan) : (s.setChan ch x).transports = s.transports := rfl
@[simp] theorem State.setChan_ports (s : State) (ch : Nat) (x : Chan) : (s.setChan ch x).ports = s.ports := rfl
@[simp] theorem State.setChan_linkOps (s : State) (ch : Nat) (x : Chan) : (s.setChan ch x).linkOps = s.linkOps := rfl
@[simp] theorem State.setChan_hosts (s : State) (ch : Nat) (x : Chan) : (s.setChan ch x).hosts = s.hosts := rfl
@[simp] theorem State.setChan_boot (s : State) (ch : Nat) (x : Chan) : (s.setChan ch x).boot = s.boot := rfl
@[simp] theorem State.setChan_life (s : State) (ch : Nat) (x : Chan) : (s.setChan ch x).life = s.life := rfl
@[simp] theorem State.setChan_power (s : State) (ch : Nat) (x : Chan) : (s.setChan ch x).power = s.power := rfl
@[simp] theorem State.setChan_mgmt (s : State) (ch : Nat) (x : Chan) : (s.setChan ch x).mgmt = s.mgmt := rfl
@[simp] theorem State.setChan_arming (s : State) (ch : Nat) (x : Chan) : (s.setChan ch x).arming = s.arming := rfl
@[simp] theorem State.setChan_disarming (s : State) (ch : Nat) (x : Chan) : (s.setChan ch x).disarming = s.disarming := rfl
@[simp] theorem State.setChan_sbFlags (s : State) (ch : Nat) (x : Chan) : (s.setChan ch x).sbFlags = s.sbFlags := rfl
@[simp] theorem State.setChan_bus (s : State) (ch : Nat) (x : Chan) : (s.setChan ch x).bus = s.bus := rfl
@[simp] theorem State.setChan_acCount (s : State) (ch : Nat) (x : Chan) : (s.setChan ch x).acCount = s.acCount := rfl
@[simp] theorem State.setChan_acRem (s : State) (ch : Nat) (x : Chan) : (s.setChan ch x).acRem = s.acRem := rfl
@[simp] theorem State.setChan_psec (s : State) (ch : Nat) (x : Chan) : (s.setChan ch x).psec = s.psec := rfl
@[simp] theorem State.setChan_freeCtr (s : State) (ch : Nat) (x : Chan) : (s.setChan ch x).freeCtr = s.freeCtr := rfl
@[simp] theorem State.setChan_core (s : State) (ch : Nat) (x : Chan) (j : Nat) : (s.setChan ch x).core j = s.core j := rfl
@[simp] theorem State.setChan_cluster (s : State) (ch : Nat) (x : Chan) (j : Nat) : (s.setChan ch x).cluster j = s.cluster j := rfl
@[simp] theorem State.setChan_physOf (s : State) (ch : Nat) (x : Chan) (j : Nat) : (s.setChan ch x).physOf j = s.physOf j := rfl
@[simp] theorem State.setChan_chW (s : State) (ch : Nat) (x : Chan) (j i : Nat) : (s.setChan ch x).chW j i = s.chW j i := rfl
@[simp] theorem State.setChan_port (s : State) (ch : Nat) (x : Chan) (j : Nat) : (s.setChan ch x).port j = s.port j := rfl
@[simp] theorem State.setChan_transport (s : State) (ch : Nat) (x : Chan) (j : Nat) : (s.setChan ch x).transport j = s.transport j := rfl
@[simp] theorem State.setChan_host (s : State) (ch : Nat) (x : Chan) (j : Nat) : (s.setChan ch x).host j = s.host j := rfl
@[simp] theorem State.setChan_partner (s : State) (ch : Nat) (x : Chan) (j i : Nat) : (s.setChan ch x).partner j i = s.partner j i := rfl
@[simp] theorem State.setChan_bank (s : State) (ch : Nat) (x : Chan) (j : Nat) : (s.setChan ch x).bank j = s.bank j := rfl
@[simp] theorem State.setChan_reg (s : State) (ch : Nat) (x : Chan) (j : Nat) : (s.setChan ch x).reg j = s.reg j := rfl
@[simp] theorem State.setChan_part (s : State) (ch : Nat) (x : Chan) (j : Nat) : (s.setChan ch x).part j = s.part j := rfl
@[simp] theorem State.setChan_ownerOf (s : State) (ch : Nat) (x : Chan) (j : Nat) : (s.setChan ch x).ownerOf j = s.ownerOf j := rfl
@[simp] theorem State.setChan_corePart (s : State) (ch : Nat) (x : Chan) (j : Nat) : (s.setChan ch x).corePart j = s.corePart j := rfl
@[simp] theorem State.setChan_chanPart (s : State) (ch : Nat) (x : Chan) (j : Nat) : (s.setChan ch x).chanPart j = s.chanPart j := rfl
@[simp] theorem State.setChan_portPart (s : State) (ch : Nat) (x : Chan) (j : Nat) : (s.setChan ch x).portPart j = s.portPart j := rfl
@[simp] theorem State.setChan_grantPart (s : State) (ch : Nat) (x : Chan) (j : Nat) : (s.setChan ch x).grantPart j = s.grantPart j := rfl

/-! ### State.setChW -/

@[simp] theorem State.setChW_pending (s : State) (ch w : Nat) (x : W64) : (s.setChW ch w x).pending = s.pending := rfl
@[simp] theorem State.setChW_regs (s : State) (ch w : Nat) (x : W64) : (s.setChW ch w x).regs = s.regs := rfl
@[simp] theorem State.setChW_mem (s : State) (ch w : Nat) (x : W64) : (s.setChW ch w x).mem = s.mem := rfl
@[simp] theorem State.setChW_hostMem (s : State) (ch w : Nat) (x : W64) : (s.setChW ch w x).hostMem = s.hostMem := rfl
@[simp] theorem State.setChW_hostPsn (s : State) (ch w : Nat) (x : W64) : (s.setChW ch w x).hostPsn = s.hostPsn := rfl
@[simp] theorem State.setChW_cores (s : State) (ch w : Nat) (x : W64) : (s.setChW ch w x).cores = s.cores := rfl
@[simp] theorem State.setChW_clusters (s : State) (ch w : Nat) (x : W64) : (s.setChW ch w x).clusters = s.clusters := rfl
@[simp] theorem State.setChW_phys (s : State) (ch w : Nat) (x : W64) : (s.setChW ch w x).phys = s.phys := rfl
@[simp] theorem State.setChW_chans (s : State) (ch w : Nat) (x : W64) : (s.setChW ch w x).chans = s.chans := rfl
@[simp] theorem State.setChW_cmds (s : State) (ch w : Nat) (x : W64) : (s.setChW ch w x).cmds = s.cmds := rfl
@[simp] theorem State.setChW_kernels (s : State) (ch w : Nat) (x : W64) : (s.setChW ch w x).kernels = s.kernels := rfl
@[simp] theorem State.setChW_nextId (s : State) (ch w : Nat) (x : W64) : (s.setChW ch w x).nextId = s.nextId := rfl
@[simp] theorem State.setChW_policy (s : State) (ch w : Nat) (x : W64) : (s.setChW ch w x).policy = s.policy := rfl
@[simp] theorem State.setChW_repair (s : State) (ch w : Nat) (x : W64) : (s.setChW ch w x).repair = s.repair := rfl
@[simp] theorem State.setChW_hw (s : State) (ch w : Nat) (x : W64) : (s.setChW ch w x).hw = s.hw := rfl
@[simp] theorem State.setChW_partners (s : State) (ch w : Nat) (x : W64) : (s.setChW ch w x).partners = s.partners := rfl
@[simp] theorem State.setChW_keys (s : State) (ch w : Nat) (x : W64) : (s.setChW ch w x).keys = s.keys := rfl
@[simp] theorem State.setChW_transports (s : State) (ch w : Nat) (x : W64) : (s.setChW ch w x).transports = s.transports := rfl
@[simp] theorem State.setChW_ports (s : State) (ch w : Nat) (x : W64) : (s.setChW ch w x).ports = s.ports := rfl
@[simp] theorem State.setChW_linkOps (s : State) (ch w : Nat) (x : W64) : (s.setChW ch w x).linkOps = s.linkOps := rfl
@[simp] theorem State.setChW_hosts (s : State) (ch w : Nat) (x : W64) : (s.setChW ch w x).hosts = s.hosts := rfl
@[simp] theorem State.setChW_boot (s : State) (ch w : Nat) (x : W64) : (s.setChW ch w x).boot = s.boot := rfl
@[simp] theorem State.setChW_life (s : State) (ch w : Nat) (x : W64) : (s.setChW ch w x).life = s.life := rfl
@[simp] theorem State.setChW_power (s : State) (ch w : Nat) (x : W64) : (s.setChW ch w x).power = s.power := rfl
@[simp] theorem State.setChW_mgmt (s : State) (ch w : Nat) (x : W64) : (s.setChW ch w x).mgmt = s.mgmt := rfl
@[simp] theorem State.setChW_arming (s : State) (ch w : Nat) (x : W64) : (s.setChW ch w x).arming = s.arming := rfl
@[simp] theorem State.setChW_disarming (s : State) (ch w : Nat) (x : W64) : (s.setChW ch w x).disarming = s.disarming := rfl
@[simp] theorem State.setChW_sbFlags (s : State) (ch w : Nat) (x : W64) : (s.setChW ch w x).sbFlags = s.sbFlags := rfl
@[simp] theorem State.setChW_bus (s : State) (ch w : Nat) (x : W64) : (s.setChW ch w x).bus = s.bus := rfl
@[simp] theorem State.setChW_acCount (s : State) (ch w : Nat) (x : W64) : (s.setChW ch w x).acCount = s.acCount := rfl
@[simp] theorem State.setChW_acRem (s : State) (ch w : Nat) (x : W64) : (s.setChW ch w x).acRem = s.acRem := rfl
@[simp] theorem State.setChW_psec (s : State) (ch w : Nat) (x : W64) : (s.setChW ch w x).psec = s.psec := rfl
@[simp] theorem State.setChW_freeCtr (s : State) (ch w : Nat) (x : W64) : (s.setChW ch w x).freeCtr = s.freeCtr := rfl
@[simp] theorem State.setChW_core (s : State) (ch w : Nat) (x : W64) (j : Nat) : (s.setChW ch w x).core j = s.core j := rfl
@[simp] theorem State.setChW_cluster (s : State) (ch w : Nat) (x : W64) (j : Nat) : (s.setChW ch w x).cluster j = s.cluster j := rfl
@[simp] theorem State.setChW_physOf (s : State) (ch w : Nat) (x : W64) (j : Nat) : (s.setChW ch w x).physOf j = s.physOf j := rfl
@[simp] theorem State.setChW_chan (s : State) (ch w : Nat) (x : W64) (j : Nat) : (s.setChW ch w x).chan j = s.chan j := rfl
@[simp] theorem State.setChW_port (s : State) (ch w : Nat) (x : W64) (j : Nat) : (s.setChW ch w x).port j = s.port j := rfl
@[simp] theorem State.setChW_transport (s : State) (ch w : Nat) (x : W64) (j : Nat) : (s.setChW ch w x).transport j = s.transport j := rfl
@[simp] theorem State.setChW_host (s : State) (ch w : Nat) (x : W64) (j : Nat) : (s.setChW ch w x).host j = s.host j := rfl
@[simp] theorem State.setChW_partner (s : State) (ch w : Nat) (x : W64) (j i : Nat) : (s.setChW ch w x).partner j i = s.partner j i := rfl
@[simp] theorem State.setChW_bank (s : State) (ch w : Nat) (x : W64) (j : Nat) : (s.setChW ch w x).bank j = s.bank j := rfl
@[simp] theorem State.setChW_reg (s : State) (ch w : Nat) (x : W64) (j : Nat) : (s.setChW ch w x).reg j = s.reg j := rfl
@[simp] theorem State.setChW_part (s : State) (ch w : Nat) (x : W64) (j : Nat) : (s.setChW ch w x).part j = s.part j := rfl
@[simp] theorem State.setChW_ownerOf (s : State) (ch w : Nat) (x : W64) (j : Nat) : (s.setChW ch w x).ownerOf j = s.ownerOf j := rfl
@[simp] theorem State.setChW_corePart (s : State) (ch w : Nat) (x : W64) (j : Nat) : (s.setChW ch w x).corePart j = s.corePart j := rfl
@[simp] theorem State.setChW_chanPart (s : State) (ch w : Nat) (x : W64) (j : Nat) : (s.setChW ch w x).chanPart j = s.chanPart j := rfl
@[simp] theorem State.setChW_portPart (s : State) (ch w : Nat) (x : W64) (j : Nat) : (s.setChW ch w x).portPart j = s.portPart j := rfl
@[simp] theorem State.setChW_grantPart (s : State) (ch w : Nat) (x : W64) (j : Nat) : (s.setChW ch w x).grantPart j = s.grantPart j := rfl

/-! ### State.setPort -/

@[simp] theorem State.setPort_pending (s : State) (k : Nat) (x : LinkPort) : (s.setPort k x).pending = s.pending := rfl
@[simp] theorem State.setPort_regs (s : State) (k : Nat) (x : LinkPort) : (s.setPort k x).regs = s.regs := rfl
@[simp] theorem State.setPort_mem (s : State) (k : Nat) (x : LinkPort) : (s.setPort k x).mem = s.mem := rfl
@[simp] theorem State.setPort_hostMem (s : State) (k : Nat) (x : LinkPort) : (s.setPort k x).hostMem = s.hostMem := rfl
@[simp] theorem State.setPort_hostPsn (s : State) (k : Nat) (x : LinkPort) : (s.setPort k x).hostPsn = s.hostPsn := rfl
@[simp] theorem State.setPort_cores (s : State) (k : Nat) (x : LinkPort) : (s.setPort k x).cores = s.cores := rfl
@[simp] theorem State.setPort_clusters (s : State) (k : Nat) (x : LinkPort) : (s.setPort k x).clusters = s.clusters := rfl
@[simp] theorem State.setPort_phys (s : State) (k : Nat) (x : LinkPort) : (s.setPort k x).phys = s.phys := rfl
@[simp] theorem State.setPort_chanTab (s : State) (k : Nat) (x : LinkPort) : (s.setPort k x).chanTab = s.chanTab := rfl
@[simp] theorem State.setPort_chans (s : State) (k : Nat) (x : LinkPort) : (s.setPort k x).chans = s.chans := rfl
@[simp] theorem State.setPort_cmds (s : State) (k : Nat) (x : LinkPort) : (s.setPort k x).cmds = s.cmds := rfl
@[simp] theorem State.setPort_kernels (s : State) (k : Nat) (x : LinkPort) : (s.setPort k x).kernels = s.kernels := rfl
@[simp] theorem State.setPort_nextId (s : State) (k : Nat) (x : LinkPort) : (s.setPort k x).nextId = s.nextId := rfl
@[simp] theorem State.setPort_policy (s : State) (k : Nat) (x : LinkPort) : (s.setPort k x).policy = s.policy := rfl
@[simp] theorem State.setPort_repair (s : State) (k : Nat) (x : LinkPort) : (s.setPort k x).repair = s.repair := rfl
@[simp] theorem State.setPort_hw (s : State) (k : Nat) (x : LinkPort) : (s.setPort k x).hw = s.hw := rfl
@[simp] theorem State.setPort_partners (s : State) (k : Nat) (x : LinkPort) : (s.setPort k x).partners = s.partners := rfl
@[simp] theorem State.setPort_keys (s : State) (k : Nat) (x : LinkPort) : (s.setPort k x).keys = s.keys := rfl
@[simp] theorem State.setPort_transports (s : State) (k : Nat) (x : LinkPort) : (s.setPort k x).transports = s.transports := rfl
@[simp] theorem State.setPort_linkOps (s : State) (k : Nat) (x : LinkPort) : (s.setPort k x).linkOps = s.linkOps := rfl
@[simp] theorem State.setPort_hosts (s : State) (k : Nat) (x : LinkPort) : (s.setPort k x).hosts = s.hosts := rfl
@[simp] theorem State.setPort_boot (s : State) (k : Nat) (x : LinkPort) : (s.setPort k x).boot = s.boot := rfl
@[simp] theorem State.setPort_life (s : State) (k : Nat) (x : LinkPort) : (s.setPort k x).life = s.life := rfl
@[simp] theorem State.setPort_power (s : State) (k : Nat) (x : LinkPort) : (s.setPort k x).power = s.power := rfl
@[simp] theorem State.setPort_mgmt (s : State) (k : Nat) (x : LinkPort) : (s.setPort k x).mgmt = s.mgmt := rfl
@[simp] theorem State.setPort_arming (s : State) (k : Nat) (x : LinkPort) : (s.setPort k x).arming = s.arming := rfl
@[simp] theorem State.setPort_disarming (s : State) (k : Nat) (x : LinkPort) : (s.setPort k x).disarming = s.disarming := rfl
@[simp] theorem State.setPort_sbFlags (s : State) (k : Nat) (x : LinkPort) : (s.setPort k x).sbFlags = s.sbFlags := rfl
@[simp] theorem State.setPort_bus (s : State) (k : Nat) (x : LinkPort) : (s.setPort k x).bus = s.bus := rfl
@[simp] theorem State.setPort_acCount (s : State) (k : Nat) (x : LinkPort) : (s.setPort k x).acCount = s.acCount := rfl
@[simp] theorem State.setPort_acRem (s : State) (k : Nat) (x : LinkPort) : (s.setPort k x).acRem = s.acRem := rfl
@[simp] theorem State.setPort_psec (s : State) (k : Nat) (x : LinkPort) : (s.setPort k x).psec = s.psec := rfl
@[simp] theorem State.setPort_freeCtr (s : State) (k : Nat) (x : LinkPort) : (s.setPort k x).freeCtr = s.freeCtr := rfl
@[simp] theorem State.setPort_core (s : State) (k : Nat) (x : LinkPort) (j : Nat) : (s.setPort k x).core j = s.core j := rfl
@[simp] theorem State.setPort_cluster (s : State) (k : Nat) (x : LinkPort) (j : Nat) : (s.setPort k x).cluster j = s.cluster j := rfl
@[simp] theorem State.setPort_physOf (s : State) (k : Nat) (x : LinkPort) (j : Nat) : (s.setPort k x).physOf j = s.physOf j := rfl
@[simp] theorem State.setPort_chan (s : State) (k : Nat) (x : LinkPort) (j : Nat) : (s.setPort k x).chan j = s.chan j := rfl
@[simp] theorem State.setPort_chW (s : State) (k : Nat) (x : LinkPort) (j i : Nat) : (s.setPort k x).chW j i = s.chW j i := rfl
@[simp] theorem State.setPort_transport (s : State) (k : Nat) (x : LinkPort) (j : Nat) : (s.setPort k x).transport j = s.transport j := rfl
@[simp] theorem State.setPort_host (s : State) (k : Nat) (x : LinkPort) (j : Nat) : (s.setPort k x).host j = s.host j := rfl
@[simp] theorem State.setPort_partner (s : State) (k : Nat) (x : LinkPort) (j i : Nat) : (s.setPort k x).partner j i = s.partner j i := rfl
@[simp] theorem State.setPort_bank (s : State) (k : Nat) (x : LinkPort) (j : Nat) : (s.setPort k x).bank j = s.bank j := rfl
@[simp] theorem State.setPort_reg (s : State) (k : Nat) (x : LinkPort) (j : Nat) : (s.setPort k x).reg j = s.reg j := rfl
@[simp] theorem State.setPort_part (s : State) (k : Nat) (x : LinkPort) (j : Nat) : (s.setPort k x).part j = s.part j := rfl
@[simp] theorem State.setPort_ownerOf (s : State) (k : Nat) (x : LinkPort) (j : Nat) : (s.setPort k x).ownerOf j = s.ownerOf j := rfl
@[simp] theorem State.setPort_corePart (s : State) (k : Nat) (x : LinkPort) (j : Nat) : (s.setPort k x).corePart j = s.corePart j := rfl
@[simp] theorem State.setPort_chanPart (s : State) (k : Nat) (x : LinkPort) (j : Nat) : (s.setPort k x).chanPart j = s.chanPart j := rfl
@[simp] theorem State.setPort_portPart (s : State) (k : Nat) (x : LinkPort) (j : Nat) : (s.setPort k x).portPart j = s.portPart j := rfl
@[simp] theorem State.setPort_grantPart (s : State) (k : Nat) (x : LinkPort) (j : Nat) : (s.setPort k x).grantPart j = s.grantPart j := rfl

/-! ### State.setTransport -/

@[simp] theorem State.setTransport_pending (s : State) (r : Nat) (x : Transport) : (s.setTransport r x).pending = s.pending := rfl
@[simp] theorem State.setTransport_regs (s : State) (r : Nat) (x : Transport) : (s.setTransport r x).regs = s.regs := rfl
@[simp] theorem State.setTransport_mem (s : State) (r : Nat) (x : Transport) : (s.setTransport r x).mem = s.mem := rfl
@[simp] theorem State.setTransport_hostMem (s : State) (r : Nat) (x : Transport) : (s.setTransport r x).hostMem = s.hostMem := rfl
@[simp] theorem State.setTransport_hostPsn (s : State) (r : Nat) (x : Transport) : (s.setTransport r x).hostPsn = s.hostPsn := rfl
@[simp] theorem State.setTransport_cores (s : State) (r : Nat) (x : Transport) : (s.setTransport r x).cores = s.cores := rfl
@[simp] theorem State.setTransport_clusters (s : State) (r : Nat) (x : Transport) : (s.setTransport r x).clusters = s.clusters := rfl
@[simp] theorem State.setTransport_phys (s : State) (r : Nat) (x : Transport) : (s.setTransport r x).phys = s.phys := rfl
@[simp] theorem State.setTransport_chanTab (s : State) (r : Nat) (x : Transport) : (s.setTransport r x).chanTab = s.chanTab := rfl
@[simp] theorem State.setTransport_chans (s : State) (r : Nat) (x : Transport) : (s.setTransport r x).chans = s.chans := rfl
@[simp] theorem State.setTransport_cmds (s : State) (r : Nat) (x : Transport) : (s.setTransport r x).cmds = s.cmds := rfl
@[simp] theorem State.setTransport_kernels (s : State) (r : Nat) (x : Transport) : (s.setTransport r x).kernels = s.kernels := rfl
@[simp] theorem State.setTransport_nextId (s : State) (r : Nat) (x : Transport) : (s.setTransport r x).nextId = s.nextId := rfl
@[simp] theorem State.setTransport_policy (s : State) (r : Nat) (x : Transport) : (s.setTransport r x).policy = s.policy := rfl
@[simp] theorem State.setTransport_repair (s : State) (r : Nat) (x : Transport) : (s.setTransport r x).repair = s.repair := rfl
@[simp] theorem State.setTransport_hw (s : State) (r : Nat) (x : Transport) : (s.setTransport r x).hw = s.hw := rfl
@[simp] theorem State.setTransport_partners (s : State) (r : Nat) (x : Transport) : (s.setTransport r x).partners = s.partners := rfl
@[simp] theorem State.setTransport_keys (s : State) (r : Nat) (x : Transport) : (s.setTransport r x).keys = s.keys := rfl
@[simp] theorem State.setTransport_ports (s : State) (r : Nat) (x : Transport) : (s.setTransport r x).ports = s.ports := rfl
@[simp] theorem State.setTransport_linkOps (s : State) (r : Nat) (x : Transport) : (s.setTransport r x).linkOps = s.linkOps := rfl
@[simp] theorem State.setTransport_hosts (s : State) (r : Nat) (x : Transport) : (s.setTransport r x).hosts = s.hosts := rfl
@[simp] theorem State.setTransport_boot (s : State) (r : Nat) (x : Transport) : (s.setTransport r x).boot = s.boot := rfl
@[simp] theorem State.setTransport_life (s : State) (r : Nat) (x : Transport) : (s.setTransport r x).life = s.life := rfl
@[simp] theorem State.setTransport_power (s : State) (r : Nat) (x : Transport) : (s.setTransport r x).power = s.power := rfl
@[simp] theorem State.setTransport_mgmt (s : State) (r : Nat) (x : Transport) : (s.setTransport r x).mgmt = s.mgmt := rfl
@[simp] theorem State.setTransport_arming (s : State) (r : Nat) (x : Transport) : (s.setTransport r x).arming = s.arming := rfl
@[simp] theorem State.setTransport_disarming (s : State) (r : Nat) (x : Transport) : (s.setTransport r x).disarming = s.disarming := rfl
@[simp] theorem State.setTransport_sbFlags (s : State) (r : Nat) (x : Transport) : (s.setTransport r x).sbFlags = s.sbFlags := rfl
@[simp] theorem State.setTransport_bus (s : State) (r : Nat) (x : Transport) : (s.setTransport r x).bus = s.bus := rfl
@[simp] theorem State.setTransport_acCount (s : State) (r : Nat) (x : Transport) : (s.setTransport r x).acCount = s.acCount := rfl
@[simp] theorem State.setTransport_acRem (s : State) (r : Nat) (x : Transport) : (s.setTransport r x).acRem = s.acRem := rfl
@[simp] theorem State.setTransport_psec (s : State) (r : Nat) (x : Transport) : (s.setTransport r x).psec = s.psec := rfl
@[simp] theorem State.setTransport_freeCtr (s : State) (r : Nat) (x : Transport) : (s.setTransport r x).freeCtr = s.freeCtr := rfl
@[simp] theorem State.setTransport_core (s : State) (r : Nat) (x : Transport) (j : Nat) : (s.setTransport r x).core j = s.core j := rfl
@[simp] theorem State.setTransport_cluster (s : State) (r : Nat) (x : Transport) (j : Nat) : (s.setTransport r x).cluster j = s.cluster j := rfl
@[simp] theorem State.setTransport_physOf (s : State) (r : Nat) (x : Transport) (j : Nat) : (s.setTransport r x).physOf j = s.physOf j := rfl
@[simp] theorem State.setTransport_chan (s : State) (r : Nat) (x : Transport) (j : Nat) : (s.setTransport r x).chan j = s.chan j := rfl
@[simp] theorem State.setTransport_chW (s : State) (r : Nat) (x : Transport) (j i : Nat) : (s.setTransport r x).chW j i = s.chW j i := rfl
@[simp] theorem State.setTransport_port (s : State) (r : Nat) (x : Transport) (j : Nat) : (s.setTransport r x).port j = s.port j := rfl
@[simp] theorem State.setTransport_host (s : State) (r : Nat) (x : Transport) (j : Nat) : (s.setTransport r x).host j = s.host j := rfl
@[simp] theorem State.setTransport_partner (s : State) (r : Nat) (x : Transport) (j i : Nat) : (s.setTransport r x).partner j i = s.partner j i := rfl
@[simp] theorem State.setTransport_bank (s : State) (r : Nat) (x : Transport) (j : Nat) : (s.setTransport r x).bank j = s.bank j := rfl
@[simp] theorem State.setTransport_reg (s : State) (r : Nat) (x : Transport) (j : Nat) : (s.setTransport r x).reg j = s.reg j := rfl
@[simp] theorem State.setTransport_part (s : State) (r : Nat) (x : Transport) (j : Nat) : (s.setTransport r x).part j = s.part j := rfl
@[simp] theorem State.setTransport_ownerOf (s : State) (r : Nat) (x : Transport) (j : Nat) : (s.setTransport r x).ownerOf j = s.ownerOf j := rfl
@[simp] theorem State.setTransport_corePart (s : State) (r : Nat) (x : Transport) (j : Nat) : (s.setTransport r x).corePart j = s.corePart j := rfl
@[simp] theorem State.setTransport_chanPart (s : State) (r : Nat) (x : Transport) (j : Nat) : (s.setTransport r x).chanPart j = s.chanPart j := rfl
@[simp] theorem State.setTransport_portPart (s : State) (r : Nat) (x : Transport) (j : Nat) : (s.setTransport r x).portPart j = s.portPart j := rfl
@[simp] theorem State.setTransport_grantPart (s : State) (r : Nat) (x : Transport) (j : Nat) : (s.setTransport r x).grantPart j = s.grantPart j := rfl

/-! ### State.setHost -/

@[simp] theorem State.setHost_pending (s : State) (p : Nat) (x : HostPort) : (s.setHost p x).pending = s.pending := rfl
@[simp] theorem State.setHost_regs (s : State) (p : Nat) (x : HostPort) : (s.setHost p x).regs = s.regs := rfl
@[simp] theorem State.setHost_mem (s : State) (p : Nat) (x : HostPort) : (s.setHost p x).mem = s.mem := rfl
@[simp] theorem State.setHost_hostMem (s : State) (p : Nat) (x : HostPort) : (s.setHost p x).hostMem = s.hostMem := rfl
@[simp] theorem State.setHost_hostPsn (s : State) (p : Nat) (x : HostPort) : (s.setHost p x).hostPsn = s.hostPsn := rfl
@[simp] theorem State.setHost_cores (s : State) (p : Nat) (x : HostPort) : (s.setHost p x).cores = s.cores := rfl
@[simp] theorem State.setHost_clusters (s : State) (p : Nat) (x : HostPort) : (s.setHost p x).clusters = s.clusters := rfl
@[simp] theorem State.setHost_phys (s : State) (p : Nat) (x : HostPort) : (s.setHost p x).phys = s.phys := rfl
@[simp] theorem State.setHost_chanTab (s : State) (p : Nat) (x : HostPort) : (s.setHost p x).chanTab = s.chanTab := rfl
@[simp] theorem State.setHost_chans (s : State) (p : Nat) (x : HostPort) : (s.setHost p x).chans = s.chans := rfl
@[simp] theorem State.setHost_cmds (s : State) (p : Nat) (x : HostPort) : (s.setHost p x).cmds = s.cmds := rfl
@[simp] theorem State.setHost_kernels (s : State) (p : Nat) (x : HostPort) : (s.setHost p x).kernels = s.kernels := rfl
@[simp] theorem State.setHost_nextId (s : State) (p : Nat) (x : HostPort) : (s.setHost p x).nextId = s.nextId := rfl
@[simp] theorem State.setHost_policy (s : State) (p : Nat) (x : HostPort) : (s.setHost p x).policy = s.policy := rfl
@[simp] theorem State.setHost_repair (s : State) (p : Nat) (x : HostPort) : (s.setHost p x).repair = s.repair := rfl
@[simp] theorem State.setHost_hw (s : State) (p : Nat) (x : HostPort) : (s.setHost p x).hw = s.hw := rfl
@[simp] theorem State.setHost_partners (s : State) (p : Nat) (x : HostPort) : (s.setHost p x).partners = s.partners := rfl
@[simp] theorem State.setHost_keys (s : State) (p : Nat) (x : HostPort) : (s.setHost p x).keys = s.keys := rfl
@[simp] theorem State.setHost_transports (s : State) (p : Nat) (x : HostPort) : (s.setHost p x).transports = s.transports := rfl
@[simp] theorem State.setHost_ports (s : State) (p : Nat) (x : HostPort) : (s.setHost p x).ports = s.ports := rfl
@[simp] theorem State.setHost_linkOps (s : State) (p : Nat) (x : HostPort) : (s.setHost p x).linkOps = s.linkOps := rfl
@[simp] theorem State.setHost_boot (s : State) (p : Nat) (x : HostPort) : (s.setHost p x).boot = s.boot := rfl
@[simp] theorem State.setHost_life (s : State) (p : Nat) (x : HostPort) : (s.setHost p x).life = s.life := rfl
@[simp] theorem State.setHost_power (s : State) (p : Nat) (x : HostPort) : (s.setHost p x).power = s.power := rfl
@[simp] theorem State.setHost_mgmt (s : State) (p : Nat) (x : HostPort) : (s.setHost p x).mgmt = s.mgmt := rfl
@[simp] theorem State.setHost_arming (s : State) (p : Nat) (x : HostPort) : (s.setHost p x).arming = s.arming := rfl
@[simp] theorem State.setHost_disarming (s : State) (p : Nat) (x : HostPort) : (s.setHost p x).disarming = s.disarming := rfl
@[simp] theorem State.setHost_sbFlags (s : State) (p : Nat) (x : HostPort) : (s.setHost p x).sbFlags = s.sbFlags := rfl
@[simp] theorem State.setHost_bus (s : State) (p : Nat) (x : HostPort) : (s.setHost p x).bus = s.bus := rfl
@[simp] theorem State.setHost_acCount (s : State) (p : Nat) (x : HostPort) : (s.setHost p x).acCount = s.acCount := rfl
@[simp] theorem State.setHost_acRem (s : State) (p : Nat) (x : HostPort) : (s.setHost p x).acRem = s.acRem := rfl
@[simp] theorem State.setHost_psec (s : State) (p : Nat) (x : HostPort) : (s.setHost p x).psec = s.psec := rfl
@[simp] theorem State.setHost_freeCtr (s : State) (p : Nat) (x : HostPort) : (s.setHost p x).freeCtr = s.freeCtr := rfl
@[simp] theorem State.setHost_core (s : State) (p : Nat) (x : HostPort) (j : Nat) : (s.setHost p x).core j = s.core j := rfl
@[simp] theorem State.setHost_cluster (s : State) (p : Nat) (x : HostPort) (j : Nat) : (s.setHost p x).cluster j = s.cluster j := rfl
@[simp] theorem State.setHost_physOf (s : State) (p : Nat) (x : HostPort) (j : Nat) : (s.setHost p x).physOf j = s.physOf j := rfl
@[simp] theorem State.setHost_chan (s : State) (p : Nat) (x : HostPort) (j : Nat) : (s.setHost p x).chan j = s.chan j := rfl
@[simp] theorem State.setHost_chW (s : State) (p : Nat) (x : HostPort) (j i : Nat) : (s.setHost p x).chW j i = s.chW j i := rfl
@[simp] theorem State.setHost_port (s : State) (p : Nat) (x : HostPort) (j : Nat) : (s.setHost p x).port j = s.port j := rfl
@[simp] theorem State.setHost_transport (s : State) (p : Nat) (x : HostPort) (j : Nat) : (s.setHost p x).transport j = s.transport j := rfl
@[simp] theorem State.setHost_partner (s : State) (p : Nat) (x : HostPort) (j i : Nat) : (s.setHost p x).partner j i = s.partner j i := rfl
@[simp] theorem State.setHost_bank (s : State) (p : Nat) (x : HostPort) (j : Nat) : (s.setHost p x).bank j = s.bank j := rfl
@[simp] theorem State.setHost_reg (s : State) (p : Nat) (x : HostPort) (j : Nat) : (s.setHost p x).reg j = s.reg j := rfl
@[simp] theorem State.setHost_part (s : State) (p : Nat) (x : HostPort) (j : Nat) : (s.setHost p x).part j = s.part j := rfl
@[simp] theorem State.setHost_ownerOf (s : State) (p : Nat) (x : HostPort) (j : Nat) : (s.setHost p x).ownerOf j = s.ownerOf j := rfl
@[simp] theorem State.setHost_corePart (s : State) (p : Nat) (x : HostPort) (j : Nat) : (s.setHost p x).corePart j = s.corePart j := rfl
@[simp] theorem State.setHost_chanPart (s : State) (p : Nat) (x : HostPort) (j : Nat) : (s.setHost p x).chanPart j = s.chanPart j := rfl
@[simp] theorem State.setHost_portPart (s : State) (p : Nat) (x : HostPort) (j : Nat) : (s.setHost p x).portPart j = s.portPart j := rfl
@[simp] theorem State.setHost_grantPart (s : State) (p : Nat) (x : HostPort) (j : Nat) : (s.setHost p x).grantPart j = s.grantPart j := rfl

/-! ### State.setPartner -/

@[simp] theorem State.setPartner_pending (s : State) (r w : Nat) (x : W64) : (s.setPartner r w x).pending = s.pending := rfl
@[simp] theorem State.setPartner_regs (s : State) (r w : Nat) (x : W64) : (s.setPartner r w x).regs = s.regs := rfl
@[simp] theorem State.setPartner_mem (s : State) (r w : Nat) (x : W64) : (s.setPartner r w x).mem = s.mem := rfl
@[simp] theorem State.setPartner_hostMem (s : State) (r w : Nat) (x : W64) : (s.setPartner r w x).hostMem = s.hostMem := rfl
@[simp] theorem State.setPartner_hostPsn (s : State) (r w : Nat) (x : W64) : (s.setPartner r w x).hostPsn = s.hostPsn := rfl
@[simp] theorem State.setPartner_cores (s : State) (r w : Nat) (x : W64) : (s.setPartner r w x).cores = s.cores := rfl
@[simp] theorem State.setPartner_clusters (s : State) (r w : Nat) (x : W64) : (s.setPartner r w x).clusters = s.clusters := rfl
@[simp] theorem State.setPartner_phys (s : State) (r w : Nat) (x : W64) : (s.setPartner r w x).phys = s.phys := rfl
@[simp] theorem State.setPartner_chanTab (s : State) (r w : Nat) (x : W64) : (s.setPartner r w x).chanTab = s.chanTab := rfl
@[simp] theorem State.setPartner_chans (s : State) (r w : Nat) (x : W64) : (s.setPartner r w x).chans = s.chans := rfl
@[simp] theorem State.setPartner_cmds (s : State) (r w : Nat) (x : W64) : (s.setPartner r w x).cmds = s.cmds := rfl
@[simp] theorem State.setPartner_kernels (s : State) (r w : Nat) (x : W64) : (s.setPartner r w x).kernels = s.kernels := rfl
@[simp] theorem State.setPartner_nextId (s : State) (r w : Nat) (x : W64) : (s.setPartner r w x).nextId = s.nextId := rfl
@[simp] theorem State.setPartner_policy (s : State) (r w : Nat) (x : W64) : (s.setPartner r w x).policy = s.policy := rfl
@[simp] theorem State.setPartner_repair (s : State) (r w : Nat) (x : W64) : (s.setPartner r w x).repair = s.repair := rfl
@[simp] theorem State.setPartner_hw (s : State) (r w : Nat) (x : W64) : (s.setPartner r w x).hw = s.hw := rfl
@[simp] theorem State.setPartner_keys (s : State) (r w : Nat) (x : W64) : (s.setPartner r w x).keys = s.keys := rfl
@[simp] theorem State.setPartner_transports (s : State) (r w : Nat) (x : W64) : (s.setPartner r w x).transports = s.transports := rfl
@[simp] theorem State.setPartner_ports (s : State) (r w : Nat) (x : W64) : (s.setPartner r w x).ports = s.ports := rfl
@[simp] theorem State.setPartner_linkOps (s : State) (r w : Nat) (x : W64) : (s.setPartner r w x).linkOps = s.linkOps := rfl
@[simp] theorem State.setPartner_hosts (s : State) (r w : Nat) (x : W64) : (s.setPartner r w x).hosts = s.hosts := rfl
@[simp] theorem State.setPartner_boot (s : State) (r w : Nat) (x : W64) : (s.setPartner r w x).boot = s.boot := rfl
@[simp] theorem State.setPartner_life (s : State) (r w : Nat) (x : W64) : (s.setPartner r w x).life = s.life := rfl
@[simp] theorem State.setPartner_power (s : State) (r w : Nat) (x : W64) : (s.setPartner r w x).power = s.power := rfl
@[simp] theorem State.setPartner_mgmt (s : State) (r w : Nat) (x : W64) : (s.setPartner r w x).mgmt = s.mgmt := rfl
@[simp] theorem State.setPartner_arming (s : State) (r w : Nat) (x : W64) : (s.setPartner r w x).arming = s.arming := rfl
@[simp] theorem State.setPartner_disarming (s : State) (r w : Nat) (x : W64) : (s.setPartner r w x).disarming = s.disarming := rfl
@[simp] theorem State.setPartner_sbFlags (s : State) (r w : Nat) (x : W64) : (s.setPartner r w x).sbFlags = s.sbFlags := rfl
@[simp] theorem State.setPartner_bus (s : State) (r w : Nat) (x : W64) : (s.setPartner r w x).bus = s.bus := rfl
@[simp] theorem State.setPartner_acCount (s : State) (r w : Nat) (x : W64) : (s.setPartner r w x).acCount = s.acCount := rfl
@[simp] theorem State.setPartner_acRem (s : State) (r w : Nat) (x : W64) : (s.setPartner r w x).acRem = s.acRem := rfl
@[simp] theorem State.setPartner_psec (s : State) (r w : Nat) (x : W64) : (s.setPartner r w x).psec = s.psec := rfl
@[simp] theorem State.setPartner_freeCtr (s : State) (r w : Nat) (x : W64) : (s.setPartner r w x).freeCtr = s.freeCtr := rfl
@[simp] theorem State.setPartner_core (s : State) (r w : Nat) (x : W64) (j : Nat) : (s.setPartner r w x).core j = s.core j := rfl
@[simp] theorem State.setPartner_cluster (s : State) (r w : Nat) (x : W64) (j : Nat) : (s.setPartner r w x).cluster j = s.cluster j := rfl
@[simp] theorem State.setPartner_physOf (s : State) (r w : Nat) (x : W64) (j : Nat) : (s.setPartner r w x).physOf j = s.physOf j := rfl
@[simp] theorem State.setPartner_chan (s : State) (r w : Nat) (x : W64) (j : Nat) : (s.setPartner r w x).chan j = s.chan j := rfl
@[simp] theorem State.setPartner_chW (s : State) (r w : Nat) (x : W64) (j i : Nat) : (s.setPartner r w x).chW j i = s.chW j i := rfl
@[simp] theorem State.setPartner_port (s : State) (r w : Nat) (x : W64) (j : Nat) : (s.setPartner r w x).port j = s.port j := rfl
@[simp] theorem State.setPartner_transport (s : State) (r w : Nat) (x : W64) (j : Nat) : (s.setPartner r w x).transport j = s.transport j := rfl
@[simp] theorem State.setPartner_host (s : State) (r w : Nat) (x : W64) (j : Nat) : (s.setPartner r w x).host j = s.host j := rfl
@[simp] theorem State.setPartner_bank (s : State) (r w : Nat) (x : W64) (j : Nat) : (s.setPartner r w x).bank j = s.bank j := rfl
@[simp] theorem State.setPartner_reg (s : State) (r w : Nat) (x : W64) (j : Nat) : (s.setPartner r w x).reg j = s.reg j := rfl
@[simp] theorem State.setPartner_part (s : State) (r w : Nat) (x : W64) (j : Nat) : (s.setPartner r w x).part j = s.part j := rfl
@[simp] theorem State.setPartner_ownerOf (s : State) (r w : Nat) (x : W64) (j : Nat) : (s.setPartner r w x).ownerOf j = s.ownerOf j := rfl
@[simp] theorem State.setPartner_corePart (s : State) (r w : Nat) (x : W64) (j : Nat) : (s.setPartner r w x).corePart j = s.corePart j := rfl
@[simp] theorem State.setPartner_chanPart (s : State) (r w : Nat) (x : W64) (j : Nat) : (s.setPartner r w x).chanPart j = s.chanPart j := rfl
@[simp] theorem State.setPartner_portPart (s : State) (r w : Nat) (x : W64) (j : Nat) : (s.setPartner r w x).portPart j = s.portPart j := rfl
@[simp] theorem State.setPartner_grantPart (s : State) (r w : Nat) (x : W64) (j : Nat) : (s.setPartner r w x).grantPart j = s.grantPart j := rfl

/-! ### State.setBank -/

@[simp] theorem State.setBank_pending (s : State) (b : Nat) (x : Bank) : (s.setBank b x).pending = s.pending := rfl
@[simp] theorem State.setBank_regs (s : State) (b : Nat) (x : Bank) : (s.setBank b x).regs = s.regs := rfl
@[simp] theorem State.setBank_mem (s : State) (b : Nat) (x : Bank) : (s.setBank b x).mem = s.mem := rfl
@[simp] theorem State.setBank_hostMem (s : State) (b : Nat) (x : Bank) : (s.setBank b x).hostMem = s.hostMem := rfl
@[simp] theorem State.setBank_hostPsn (s : State) (b : Nat) (x : Bank) : (s.setBank b x).hostPsn = s.hostPsn := rfl
@[simp] theorem State.setBank_cores (s : State) (b : Nat) (x : Bank) : (s.setBank b x).cores = s.cores := rfl
@[simp] theorem State.setBank_clusters (s : State) (b : Nat) (x : Bank) : (s.setBank b x).clusters = s.clusters := rfl
@[simp] theorem State.setBank_phys (s : State) (b : Nat) (x : Bank) : (s.setBank b x).phys = s.phys := rfl
@[simp] theorem State.setBank_chanTab (s : State) (b : Nat) (x : Bank) : (s.setBank b x).chanTab = s.chanTab := rfl
@[simp] theorem State.setBank_chans (s : State) (b : Nat) (x : Bank) : (s.setBank b x).chans = s.chans := rfl
@[simp] theorem State.setBank_cmds (s : State) (b : Nat) (x : Bank) : (s.setBank b x).cmds = s.cmds := rfl
@[simp] theorem State.setBank_kernels (s : State) (b : Nat) (x : Bank) : (s.setBank b x).kernels = s.kernels := rfl
@[simp] theorem State.setBank_nextId (s : State) (b : Nat) (x : Bank) : (s.setBank b x).nextId = s.nextId := rfl
@[simp] theorem State.setBank_policy (s : State) (b : Nat) (x : Bank) : (s.setBank b x).policy = s.policy := rfl
@[simp] theorem State.setBank_hw (s : State) (b : Nat) (x : Bank) : (s.setBank b x).hw = s.hw := rfl
@[simp] theorem State.setBank_partners (s : State) (b : Nat) (x : Bank) : (s.setBank b x).partners = s.partners := rfl
@[simp] theorem State.setBank_keys (s : State) (b : Nat) (x : Bank) : (s.setBank b x).keys = s.keys := rfl
@[simp] theorem State.setBank_transports (s : State) (b : Nat) (x : Bank) : (s.setBank b x).transports = s.transports := rfl
@[simp] theorem State.setBank_ports (s : State) (b : Nat) (x : Bank) : (s.setBank b x).ports = s.ports := rfl
@[simp] theorem State.setBank_linkOps (s : State) (b : Nat) (x : Bank) : (s.setBank b x).linkOps = s.linkOps := rfl
@[simp] theorem State.setBank_hosts (s : State) (b : Nat) (x : Bank) : (s.setBank b x).hosts = s.hosts := rfl
@[simp] theorem State.setBank_boot (s : State) (b : Nat) (x : Bank) : (s.setBank b x).boot = s.boot := rfl
@[simp] theorem State.setBank_life (s : State) (b : Nat) (x : Bank) : (s.setBank b x).life = s.life := rfl
@[simp] theorem State.setBank_power (s : State) (b : Nat) (x : Bank) : (s.setBank b x).power = s.power := rfl
@[simp] theorem State.setBank_mgmt (s : State) (b : Nat) (x : Bank) : (s.setBank b x).mgmt = s.mgmt := rfl
@[simp] theorem State.setBank_arming (s : State) (b : Nat) (x : Bank) : (s.setBank b x).arming = s.arming := rfl
@[simp] theorem State.setBank_disarming (s : State) (b : Nat) (x : Bank) : (s.setBank b x).disarming = s.disarming := rfl
@[simp] theorem State.setBank_sbFlags (s : State) (b : Nat) (x : Bank) : (s.setBank b x).sbFlags = s.sbFlags := rfl
@[simp] theorem State.setBank_bus (s : State) (b : Nat) (x : Bank) : (s.setBank b x).bus = s.bus := rfl
@[simp] theorem State.setBank_acCount (s : State) (b : Nat) (x : Bank) : (s.setBank b x).acCount = s.acCount := rfl
@[simp] theorem State.setBank_acRem (s : State) (b : Nat) (x : Bank) : (s.setBank b x).acRem = s.acRem := rfl
@[simp] theorem State.setBank_psec (s : State) (b : Nat) (x : Bank) : (s.setBank b x).psec = s.psec := rfl
@[simp] theorem State.setBank_freeCtr (s : State) (b : Nat) (x : Bank) : (s.setBank b x).freeCtr = s.freeCtr := rfl
@[simp] theorem State.setBank_core (s : State) (b : Nat) (x : Bank) (j : Nat) : (s.setBank b x).core j = s.core j := rfl
@[simp] theorem State.setBank_cluster (s : State) (b : Nat) (x : Bank) (j : Nat) : (s.setBank b x).cluster j = s.cluster j := rfl
@[simp] theorem State.setBank_physOf (s : State) (b : Nat) (x : Bank) (j : Nat) : (s.setBank b x).physOf j = s.physOf j := rfl
@[simp] theorem State.setBank_chan (s : State) (b : Nat) (x : Bank) (j : Nat) : (s.setBank b x).chan j = s.chan j := rfl
@[simp] theorem State.setBank_chW (s : State) (b : Nat) (x : Bank) (j i : Nat) : (s.setBank b x).chW j i = s.chW j i := rfl
@[simp] theorem State.setBank_port (s : State) (b : Nat) (x : Bank) (j : Nat) : (s.setBank b x).port j = s.port j := rfl
@[simp] theorem State.setBank_transport (s : State) (b : Nat) (x : Bank) (j : Nat) : (s.setBank b x).transport j = s.transport j := rfl
@[simp] theorem State.setBank_host (s : State) (b : Nat) (x : Bank) (j : Nat) : (s.setBank b x).host j = s.host j := rfl
@[simp] theorem State.setBank_partner (s : State) (b : Nat) (x : Bank) (j i : Nat) : (s.setBank b x).partner j i = s.partner j i := rfl
@[simp] theorem State.setBank_reg (s : State) (b : Nat) (x : Bank) (j : Nat) : (s.setBank b x).reg j = s.reg j := rfl
@[simp] theorem State.setBank_part (s : State) (b : Nat) (x : Bank) (j : Nat) : (s.setBank b x).part j = s.part j := rfl
@[simp] theorem State.setBank_ownerOf (s : State) (b : Nat) (x : Bank) (j : Nat) : (s.setBank b x).ownerOf j = s.ownerOf j := rfl
@[simp] theorem State.setBank_corePart (s : State) (b : Nat) (x : Bank) (j : Nat) : (s.setBank b x).corePart j = s.corePart j := rfl
@[simp] theorem State.setBank_chanPart (s : State) (b : Nat) (x : Bank) (j : Nat) : (s.setBank b x).chanPart j = s.chanPart j := rfl
@[simp] theorem State.setBank_portPart (s : State) (b : Nat) (x : Bank) (j : Nat) : (s.setBank b x).portPart j = s.portPart j := rfl
@[simp] theorem State.setBank_grantPart (s : State) (b : Nat) (x : Bank) (j : Nat) : (s.setBank b x).grantPart j = s.grantPart j := rfl

/-! ### State.setReg -/

@[simp] theorem State.setReg_pending (s : State) (a : Nat) (x : W64) : (s.setReg a x).pending = s.pending := rfl
@[simp] theorem State.setReg_mem (s : State) (a : Nat) (x : W64) : (s.setReg a x).mem = s.mem := rfl
@[simp] theorem State.setReg_hostMem (s : State) (a : Nat) (x : W64) : (s.setReg a x).hostMem = s.hostMem := rfl
@[simp] theorem State.setReg_hostPsn (s : State) (a : Nat) (x : W64) : (s.setReg a x).hostPsn = s.hostPsn := rfl
@[simp] theorem State.setReg_cores (s : State) (a : Nat) (x : W64) : (s.setReg a x).cores = s.cores := rfl
@[simp] theorem State.setReg_clusters (s : State) (a : Nat) (x : W64) : (s.setReg a x).clusters = s.clusters := rfl
@[simp] theorem State.setReg_phys (s : State) (a : Nat) (x : W64) : (s.setReg a x).phys = s.phys := rfl
@[simp] theorem State.setReg_chanTab (s : State) (a : Nat) (x : W64) : (s.setReg a x).chanTab = s.chanTab := rfl
@[simp] theorem State.setReg_chans (s : State) (a : Nat) (x : W64) : (s.setReg a x).chans = s.chans := rfl
@[simp] theorem State.setReg_cmds (s : State) (a : Nat) (x : W64) : (s.setReg a x).cmds = s.cmds := rfl
@[simp] theorem State.setReg_kernels (s : State) (a : Nat) (x : W64) : (s.setReg a x).kernels = s.kernels := rfl
@[simp] theorem State.setReg_nextId (s : State) (a : Nat) (x : W64) : (s.setReg a x).nextId = s.nextId := rfl
@[simp] theorem State.setReg_policy (s : State) (a : Nat) (x : W64) : (s.setReg a x).policy = s.policy := rfl
@[simp] theorem State.setReg_repair (s : State) (a : Nat) (x : W64) : (s.setReg a x).repair = s.repair := rfl
@[simp] theorem State.setReg_hw (s : State) (a : Nat) (x : W64) : (s.setReg a x).hw = s.hw := rfl
@[simp] theorem State.setReg_partners (s : State) (a : Nat) (x : W64) : (s.setReg a x).partners = s.partners := rfl
@[simp] theorem State.setReg_keys (s : State) (a : Nat) (x : W64) : (s.setReg a x).keys = s.keys := rfl
@[simp] theorem State.setReg_transports (s : State) (a : Nat) (x : W64) : (s.setReg a x).transports = s.transports := rfl
@[simp] theorem State.setReg_ports (s : State) (a : Nat) (x : W64) : (s.setReg a x).ports = s.ports := rfl
@[simp] theorem State.setReg_linkOps (s : State) (a : Nat) (x : W64) : (s.setReg a x).linkOps = s.linkOps := rfl
@[simp] theorem State.setReg_hosts (s : State) (a : Nat) (x : W64) : (s.setReg a x).hosts = s.hosts := rfl
@[simp] theorem State.setReg_boot (s : State) (a : Nat) (x : W64) : (s.setReg a x).boot = s.boot := rfl
@[simp] theorem State.setReg_life (s : State) (a : Nat) (x : W64) : (s.setReg a x).life = s.life := rfl
@[simp] theorem State.setReg_power (s : State) (a : Nat) (x : W64) : (s.setReg a x).power = s.power := rfl
@[simp] theorem State.setReg_mgmt (s : State) (a : Nat) (x : W64) : (s.setReg a x).mgmt = s.mgmt := rfl
@[simp] theorem State.setReg_arming (s : State) (a : Nat) (x : W64) : (s.setReg a x).arming = s.arming := rfl
@[simp] theorem State.setReg_disarming (s : State) (a : Nat) (x : W64) : (s.setReg a x).disarming = s.disarming := rfl
@[simp] theorem State.setReg_sbFlags (s : State) (a : Nat) (x : W64) : (s.setReg a x).sbFlags = s.sbFlags := rfl
@[simp] theorem State.setReg_bus (s : State) (a : Nat) (x : W64) : (s.setReg a x).bus = s.bus := rfl
@[simp] theorem State.setReg_acCount (s : State) (a : Nat) (x : W64) : (s.setReg a x).acCount = s.acCount := rfl
@[simp] theorem State.setReg_acRem (s : State) (a : Nat) (x : W64) : (s.setReg a x).acRem = s.acRem := rfl
@[simp] theorem State.setReg_psec (s : State) (a : Nat) (x : W64) : (s.setReg a x).psec = s.psec := rfl
@[simp] theorem State.setReg_freeCtr (s : State) (a : Nat) (x : W64) : (s.setReg a x).freeCtr = s.freeCtr := rfl
@[simp] theorem State.setReg_core (s : State) (a : Nat) (x : W64) (j : Nat) : (s.setReg a x).core j = s.core j := rfl
@[simp] theorem State.setReg_cluster (s : State) (a : Nat) (x : W64) (j : Nat) : (s.setReg a x).cluster j = s.cluster j := rfl
@[simp] theorem State.setReg_physOf (s : State) (a : Nat) (x : W64) (j : Nat) : (s.setReg a x).physOf j = s.physOf j := rfl
@[simp] theorem State.setReg_chan (s : State) (a : Nat) (x : W64) (j : Nat) : (s.setReg a x).chan j = s.chan j := rfl
@[simp] theorem State.setReg_chW (s : State) (a : Nat) (x : W64) (j i : Nat) : (s.setReg a x).chW j i = s.chW j i := rfl
@[simp] theorem State.setReg_port (s : State) (a : Nat) (x : W64) (j : Nat) : (s.setReg a x).port j = s.port j := rfl
@[simp] theorem State.setReg_transport (s : State) (a : Nat) (x : W64) (j : Nat) : (s.setReg a x).transport j = s.transport j := rfl
@[simp] theorem State.setReg_host (s : State) (a : Nat) (x : W64) (j : Nat) : (s.setReg a x).host j = s.host j := rfl
@[simp] theorem State.setReg_partner (s : State) (a : Nat) (x : W64) (j i : Nat) : (s.setReg a x).partner j i = s.partner j i := rfl
@[simp] theorem State.setReg_bank (s : State) (a : Nat) (x : W64) (j : Nat) : (s.setReg a x).bank j = s.bank j := rfl
@[simp] theorem State.setReg_part (s : State) (a : Nat) (x : W64) (j : Nat) : (s.setReg a x).part j = s.part j := rfl
@[simp] theorem State.setReg_ownerOf (s : State) (a : Nat) (x : W64) (j : Nat) : (s.setReg a x).ownerOf j = s.ownerOf j := rfl
@[simp] theorem State.setReg_corePart (s : State) (a : Nat) (x : W64) (j : Nat) : (s.setReg a x).corePart j = s.corePart j := rfl
@[simp] theorem State.setReg_chanPart (s : State) (a : Nat) (x : W64) (j : Nat) : (s.setReg a x).chanPart j = s.chanPart j := rfl
@[simp] theorem State.setReg_portPart (s : State) (a : Nat) (x : W64) (j : Nat) : (s.setReg a x).portPart j = s.portPart j := rfl
@[simp] theorem State.setReg_grantPart (s : State) (a : Nat) (x : W64) (j : Nat) : (s.setReg a x).grantPart j = s.grantPart j := rfl

/-! ### State.bump -/

@[simp] theorem State.bump_pending (s : State) (a hi lo n : Nat) : (s.bump a hi lo n).pending = s.pending := rfl
@[simp] theorem State.bump_mem (s : State) (a hi lo n : Nat) : (s.bump a hi lo n).mem = s.mem := rfl
@[simp] theorem State.bump_hostMem (s : State) (a hi lo n : Nat) : (s.bump a hi lo n).hostMem = s.hostMem := rfl
@[simp] theorem State.bump_hostPsn (s : State) (a hi lo n : Nat) : (s.bump a hi lo n).hostPsn = s.hostPsn := rfl
@[simp] theorem State.bump_cores (s : State) (a hi lo n : Nat) : (s.bump a hi lo n).cores = s.cores := rfl
@[simp] theorem State.bump_clusters (s : State) (a hi lo n : Nat) : (s.bump a hi lo n).clusters = s.clusters := rfl
@[simp] theorem State.bump_phys (s : State) (a hi lo n : Nat) : (s.bump a hi lo n).phys = s.phys := rfl
@[simp] theorem State.bump_chanTab (s : State) (a hi lo n : Nat) : (s.bump a hi lo n).chanTab = s.chanTab := rfl
@[simp] theorem State.bump_chans (s : State) (a hi lo n : Nat) : (s.bump a hi lo n).chans = s.chans := rfl
@[simp] theorem State.bump_cmds (s : State) (a hi lo n : Nat) : (s.bump a hi lo n).cmds = s.cmds := rfl
@[simp] theorem State.bump_kernels (s : State) (a hi lo n : Nat) : (s.bump a hi lo n).kernels = s.kernels := rfl
@[simp] theorem State.bump_nextId (s : State) (a hi lo n : Nat) : (s.bump a hi lo n).nextId = s.nextId := rfl
@[simp] theorem State.bump_policy (s : State) (a hi lo n : Nat) : (s.bump a hi lo n).policy = s.policy := rfl
@[simp] theorem State.bump_repair (s : State) (a hi lo n : Nat) : (s.bump a hi lo n).repair = s.repair := rfl
@[simp] theorem State.bump_hw (s : State) (a hi lo n : Nat) : (s.bump a hi lo n).hw = s.hw := rfl
@[simp] theorem State.bump_partners (s : State) (a hi lo n : Nat) : (s.bump a hi lo n).partners = s.partners := rfl
@[simp] theorem State.bump_keys (s : State) (a hi lo n : Nat) : (s.bump a hi lo n).keys = s.keys := rfl
@[simp] theorem State.bump_transports (s : State) (a hi lo n : Nat) : (s.bump a hi lo n).transports = s.transports := rfl
@[simp] theorem State.bump_ports (s : State) (a hi lo n : Nat) : (s.bump a hi lo n).ports = s.ports := rfl
@[simp] theorem State.bump_linkOps (s : State) (a hi lo n : Nat) : (s.bump a hi lo n).linkOps = s.linkOps := rfl
@[simp] theorem State.bump_hosts (s : State) (a hi lo n : Nat) : (s.bump a hi lo n).hosts = s.hosts := rfl
@[simp] theorem State.bump_boot (s : State) (a hi lo n : Nat) : (s.bump a hi lo n).boot = s.boot := rfl
@[simp] theorem State.bump_life (s : State) (a hi lo n : Nat) : (s.bump a hi lo n).life = s.life := rfl
@[simp] theorem State.bump_power (s : State) (a hi lo n : Nat) : (s.bump a hi lo n).power = s.power := rfl
@[simp] theorem State.bump_mgmt (s : State) (a hi lo n : Nat) : (s.bump a hi lo n).mgmt = s.mgmt := rfl
@[simp] theorem State.bump_arming (s : State) (a hi lo n : Nat) : (s.bump a hi lo n).arming = s.arming := rfl
@[simp] theorem State.bump_disarming (s : State) (a hi lo n : Nat) : (s.bump a hi lo n).disarming = s.disarming := rfl
@[simp] theorem State.bump_sbFlags (s : State) (a hi lo n : Nat) : (s.bump a hi lo n).sbFlags = s.sbFlags := rfl
@[simp] theorem State.bump_bus (s : State) (a hi lo n : Nat) : (s.bump a hi lo n).bus = s.bus := rfl
@[simp] theorem State.bump_acCount (s : State) (a hi lo n : Nat) : (s.bump a hi lo n).acCount = s.acCount := rfl
@[simp] theorem State.bump_acRem (s : State) (a hi lo n : Nat) : (s.bump a hi lo n).acRem = s.acRem := rfl
@[simp] theorem State.bump_psec (s : State) (a hi lo n : Nat) : (s.bump a hi lo n).psec = s.psec := rfl
@[simp] theorem State.bump_freeCtr (s : State) (a hi lo n : Nat) : (s.bump a hi lo n).freeCtr = s.freeCtr := rfl
@[simp] theorem State.bump_core (s : State) (a hi lo n : Nat) (j : Nat) : (s.bump a hi lo n).core j = s.core j := rfl
@[simp] theorem State.bump_cluster (s : State) (a hi lo n : Nat) (j : Nat) : (s.bump a hi lo n).cluster j = s.cluster j := rfl
@[simp] theorem State.bump_physOf (s : State) (a hi lo n : Nat) (j : Nat) : (s.bump a hi lo n).physOf j = s.physOf j := rfl
@[simp] theorem State.bump_chan (s : State) (a hi lo n : Nat) (j : Nat) : (s.bump a hi lo n).chan j = s.chan j := rfl
@[simp] theorem State.bump_chW (s : State) (a hi lo n : Nat) (j i : Nat) : (s.bump a hi lo n).chW j i = s.chW j i := rfl
@[simp] theorem State.bump_port (s : State) (a hi lo n : Nat) (j : Nat) : (s.bump a hi lo n).port j = s.port j := rfl
@[simp] theorem State.bump_transport (s : State) (a hi lo n : Nat) (j : Nat) : (s.bump a hi lo n).transport j = s.transport j := rfl
@[simp] theorem State.bump_host (s : State) (a hi lo n : Nat) (j : Nat) : (s.bump a hi lo n).host j = s.host j := rfl
@[simp] theorem State.bump_partner (s : State) (a hi lo n : Nat) (j i : Nat) : (s.bump a hi lo n).partner j i = s.partner j i := rfl
@[simp] theorem State.bump_bank (s : State) (a hi lo n : Nat) (j : Nat) : (s.bump a hi lo n).bank j = s.bank j := rfl
@[simp] theorem State.bump_part (s : State) (a hi lo n : Nat) (j : Nat) : (s.bump a hi lo n).part j = s.part j := rfl
@[simp] theorem State.bump_ownerOf (s : State) (a hi lo n : Nat) (j : Nat) : (s.bump a hi lo n).ownerOf j = s.ownerOf j := rfl
@[simp] theorem State.bump_corePart (s : State) (a hi lo n : Nat) (j : Nat) : (s.bump a hi lo n).corePart j = s.corePart j := rfl
@[simp] theorem State.bump_chanPart (s : State) (a hi lo n : Nat) (j : Nat) : (s.bump a hi lo n).chanPart j = s.chanPart j := rfl
@[simp] theorem State.bump_portPart (s : State) (a hi lo n : Nat) (j : Nat) : (s.bump a hi lo n).portPart j = s.portPart j := rfl
@[simp] theorem State.bump_grantPart (s : State) (a hi lo n : Nat) (j : Nat) : (s.bump a hi lo n).grantPart j = s.grantPart j := rfl

/-! ### State.emit -/

@[simp] theorem State.emit_pending (s : State) (e : BusEvent) : (s.emit e).pending = s.pending := rfl
@[simp] theorem State.emit_regs (s : State) (e : BusEvent) : (s.emit e).regs = s.regs := rfl
@[simp] theorem State.emit_mem (s : State) (e : BusEvent) : (s.emit e).mem = s.mem := rfl
@[simp] theorem State.emit_hostMem (s : State) (e : BusEvent) : (s.emit e).hostMem = s.hostMem := rfl
@[simp] theorem State.emit_hostPsn (s : State) (e : BusEvent) : (s.emit e).hostPsn = s.hostPsn := rfl
@[simp] theorem State.emit_cores (s : State) (e : BusEvent) : (s.emit e).cores = s.cores := rfl
@[simp] theorem State.emit_clusters (s : State) (e : BusEvent) : (s.emit e).clusters = s.clusters := rfl
@[simp] theorem State.emit_phys (s : State) (e : BusEvent) : (s.emit e).phys = s.phys := rfl
@[simp] theorem State.emit_chanTab (s : State) (e : BusEvent) : (s.emit e).chanTab = s.chanTab := rfl
@[simp] theorem State.emit_chans (s : State) (e : BusEvent) : (s.emit e).chans = s.chans := rfl
@[simp] theorem State.emit_cmds (s : State) (e : BusEvent) : (s.emit e).cmds = s.cmds := rfl
@[simp] theorem State.emit_kernels (s : State) (e : BusEvent) : (s.emit e).kernels = s.kernels := rfl
@[simp] theorem State.emit_nextId (s : State) (e : BusEvent) : (s.emit e).nextId = s.nextId := rfl
@[simp] theorem State.emit_policy (s : State) (e : BusEvent) : (s.emit e).policy = s.policy := rfl
@[simp] theorem State.emit_repair (s : State) (e : BusEvent) : (s.emit e).repair = s.repair := rfl
@[simp] theorem State.emit_hw (s : State) (e : BusEvent) : (s.emit e).hw = s.hw := rfl
@[simp] theorem State.emit_partners (s : State) (e : BusEvent) : (s.emit e).partners = s.partners := rfl
@[simp] theorem State.emit_keys (s : State) (e : BusEvent) : (s.emit e).keys = s.keys := rfl
@[simp] theorem State.emit_transports (s : State) (e : BusEvent) : (s.emit e).transports = s.transports := rfl
@[simp] theorem State.emit_ports (s : State) (e : BusEvent) : (s.emit e).ports = s.ports := rfl
@[simp] theorem State.emit_linkOps (s : State) (e : BusEvent) : (s.emit e).linkOps = s.linkOps := rfl
@[simp] theorem State.emit_hosts (s : State) (e : BusEvent) : (s.emit e).hosts = s.hosts := rfl
@[simp] theorem State.emit_boot (s : State) (e : BusEvent) : (s.emit e).boot = s.boot := rfl
@[simp] theorem State.emit_life (s : State) (e : BusEvent) : (s.emit e).life = s.life := rfl
@[simp] theorem State.emit_power (s : State) (e : BusEvent) : (s.emit e).power = s.power := rfl
@[simp] theorem State.emit_mgmt (s : State) (e : BusEvent) : (s.emit e).mgmt = s.mgmt := rfl
@[simp] theorem State.emit_arming (s : State) (e : BusEvent) : (s.emit e).arming = s.arming := rfl
@[simp] theorem State.emit_disarming (s : State) (e : BusEvent) : (s.emit e).disarming = s.disarming := rfl
@[simp] theorem State.emit_sbFlags (s : State) (e : BusEvent) : (s.emit e).sbFlags = s.sbFlags := rfl
@[simp] theorem State.emit_acCount (s : State) (e : BusEvent) : (s.emit e).acCount = s.acCount := rfl
@[simp] theorem State.emit_acRem (s : State) (e : BusEvent) : (s.emit e).acRem = s.acRem := rfl
@[simp] theorem State.emit_psec (s : State) (e : BusEvent) : (s.emit e).psec = s.psec := rfl
@[simp] theorem State.emit_freeCtr (s : State) (e : BusEvent) : (s.emit e).freeCtr = s.freeCtr := rfl
@[simp] theorem State.emit_core (s : State) (e : BusEvent) (j : Nat) : (s.emit e).core j = s.core j := rfl
@[simp] theorem State.emit_cluster (s : State) (e : BusEvent) (j : Nat) : (s.emit e).cluster j = s.cluster j := rfl
@[simp] theorem State.emit_physOf (s : State) (e : BusEvent) (j : Nat) : (s.emit e).physOf j = s.physOf j := rfl
@[simp] theorem State.emit_chan (s : State) (e : BusEvent) (j : Nat) : (s.emit e).chan j = s.chan j := rfl
@[simp] theorem State.emit_chW (s : State) (e : BusEvent) (j i : Nat) : (s.emit e).chW j i = s.chW j i := rfl
@[simp] theorem State.emit_port (s : State) (e : BusEvent) (j : Nat) : (s.emit e).port j = s.port j := rfl
@[simp] theorem State.emit_transport (s : State) (e : BusEvent) (j : Nat) : (s.emit e).transport j = s.transport j := rfl
@[simp] theorem State.emit_host (s : State) (e : BusEvent) (j : Nat) : (s.emit e).host j = s.host j := rfl
@[simp] theorem State.emit_partner (s : State) (e : BusEvent) (j i : Nat) : (s.emit e).partner j i = s.partner j i := rfl
@[simp] theorem State.emit_bank (s : State) (e : BusEvent) (j : Nat) : (s.emit e).bank j = s.bank j := rfl
@[simp] theorem State.emit_reg (s : State) (e : BusEvent) (j : Nat) : (s.emit e).reg j = s.reg j := rfl
@[simp] theorem State.emit_part (s : State) (e : BusEvent) (j : Nat) : (s.emit e).part j = s.part j := rfl
@[simp] theorem State.emit_ownerOf (s : State) (e : BusEvent) (j : Nat) : (s.emit e).ownerOf j = s.ownerOf j := rfl
@[simp] theorem State.emit_corePart (s : State) (e : BusEvent) (j : Nat) : (s.emit e).corePart j = s.corePart j := rfl
@[simp] theorem State.emit_chanPart (s : State) (e : BusEvent) (j : Nat) : (s.emit e).chanPart j = s.chanPart j := rfl
@[simp] theorem State.emit_portPart (s : State) (e : BusEvent) (j : Nat) : (s.emit e).portPart j = s.portPart j := rfl
@[simp] theorem State.emit_grantPart (s : State) (e : BusEvent) (j : Nat) : (s.emit e).grantPart j = s.grantPart j := rfl

/-- The one written reads as written. -/
theorem State.setCore_core_same (s : State) (j : Nat) (x : Core) (h : s.cores.Pairwise fun a b => a.1 < b.1) :
    (s.setCore j x).core j = x := mget_mput_same Core.reset s.cores j x h
/-- The others read as before. -/
theorem State.setCore_core_other (s : State) (i j : Nat) (x : Core) (h : j ≠ i) : (s.setCore i x).core j = s.core j :=
  mget_mput_other Core.reset Core.reset s.cores i j x h

/-- The one written reads as written. -/
theorem State.setCluster_cluster_same (s : State) (j : Nat) (x : Cluster) (h : s.clusters.Pairwise fun a b => a.1 < b.1) :
    (s.setCluster j x).cluster j = x := mget_mput_same Cluster.reset s.clusters j x h
/-- The others read as before. -/
theorem State.setCluster_cluster_other (s : State) (i j : Nat) (x : Cluster) (h : j ≠ i) : (s.setCluster i x).cluster j = s.cluster j :=
  mget_mput_other Cluster.reset Cluster.reset s.clusters i j x h

/-- The one written reads as written. -/
theorem State.setPhys_physOf_same (s : State) (j : Nat) (x : Phys) (h : s.phys.Pairwise fun a b => a.1 < b.1) :
    (s.setPhys j x).physOf j = x := mget_mput_same (Phys.reset j) s.phys j x h
/-- The others read as before. -/
theorem State.setPhys_physOf_other (s : State) (i j : Nat) (x : Phys) (h : j ≠ i) : (s.setPhys i x).physOf j = s.physOf j :=
  mget_mput_other _ _ _ i j x h

/-- The one written reads as written. -/
theorem State.setChan_chan_same (s : State) (j : Nat) (x : Chan) (h : s.chans.Pairwise fun a b => a.1 < b.1) :
    (s.setChan j x).chan j = x := mget_mput_same Chan.reset s.chans j x h
/-- The others read as before. -/
theorem State.setChan_chan_other (s : State) (i j : Nat) (x : Chan) (h : j ≠ i) : (s.setChan i x).chan j = s.chan j :=
  mget_mput_other Chan.reset Chan.reset s.chans i j x h

/-- The one written reads as written. -/
theorem State.setPort_port_same (s : State) (j : Nat) (x : LinkPort) (h : s.ports.Pairwise fun a b => a.1 < b.1) :
    (s.setPort j x).port j = x := mget_mput_same LinkPort.reset s.ports j x h
/-- The others read as before. -/
theorem State.setPort_port_other (s : State) (i j : Nat) (x : LinkPort) (h : j ≠ i) : (s.setPort i x).port j = s.port j :=
  mget_mput_other LinkPort.reset LinkPort.reset s.ports i j x h

/-- The one written reads as written. -/
theorem State.setTransport_transport_same (s : State) (j : Nat) (x : Transport) (h : s.transports.Pairwise fun a b => a.1 < b.1) :
    (s.setTransport j x).transport j = x := mget_mput_same Transport.reset s.transports j x h
/-- The others read as before. -/
theorem State.setTransport_transport_other (s : State) (i j : Nat) (x : Transport) (h : j ≠ i) : (s.setTransport i x).transport j = s.transport j :=
  mget_mput_other Transport.reset Transport.reset s.transports i j x h

/-- The one written reads as written. -/
theorem State.setHost_host_same (s : State) (j : Nat) (x : HostPort) (h : s.hosts.Pairwise fun a b => a.1 < b.1) :
    (s.setHost j x).host j = x := mget_mput_same HostPort.reset s.hosts j x h
/-- The others read as before. -/
theorem State.setHost_host_other (s : State) (i j : Nat) (x : HostPort) (h : j ≠ i) : (s.setHost i x).host j = s.host j :=
  mget_mput_other HostPort.reset HostPort.reset s.hosts i j x h

/-- The one written reads as written. -/
theorem State.setReg_reg_same (s : State) (j : Nat) (x : W64) (h : s.regs.Pairwise fun a b => a.1 < b.1) :
    (s.setReg j x).reg j = x := mget_mput_same (regReset j) s.regs j x h
/-- The others read as before. -/
theorem State.setReg_reg_other (s : State) (i j : Nat) (x : W64) (h : j ≠ i) : (s.setReg i x).reg j = s.reg j :=
  mget_mput_other _ _ _ i j x h

end Sys2Proof.Machine
end

