-- ==== Sys2Proof/Laws/Memory.lean ====
section
/-! SUPPORT. Laws of device memory: logging, recovery and sparing leave it alone, and every operation that changes it keeps its
canonical form. -/

namespace Sys2Proof.Machine

/-- A fold whose every step leaves memory alone leaves it alone. -/
theorem foldl_mem {α : Type} (f : State → α → State) (hf : ∀ s a, (f s a).mem = s.mem) (l : List α) (s : State) :
    (l.foldl f s).mem = s.mem :=
  foldl_keeps (fun t => t.mem = s.mem) f (fun t a h => (hf t a).trans h) l s rfl

/-- The same of a fold that carries more than the state. -/
theorem foldl_fst_mem {α β : Type} (f : State × β → α → State × β) (hf : ∀ r a, (f r a).1.mem = r.1.mem) (l : List α)
    (r : State × β) : (l.foldl f r).1.mem = r.1.mem :=
  foldl_keeps (fun t => t.1.mem = r.1.mem) f (fun t a h => (hf t a).trans h) l r rfl

/-! ### The log and what it moves -/

theorem msixSend_mem (s : State) (p fn v : Nat) : (msixSend s p fn v).1.mem = s.mem := by
  unfold msixSend; repeat' split
  all_goals rfl
theorem present_mem (s : State) (p : Nat) : (s.present p).mem = s.mem := by
  unfold State.present
  split
  · rfl
  · split
    · rfl
    · rename_i e _
      have h := foldl_mem (fun (s : State) i => s.setReg (aPV p + 0x40 + 8 * i) (e.word p i)) (fun _ _ => rfl) (upTo 8) s
      simpa only [] using h
theorem viewLost_mem (s : State) (v : LogEntry) : (s.viewLost v).mem = s.mem := by
  refine foldl_mem _ (fun t p => ?_) _ _
  split <;> rfl
theorem putLog_add_mem (s : State) (e : LogEntry) : (putLog.add s e).1.mem = s.mem := by
  refine foldl_fst_mem _ (fun r p => ?_) _ (s, [])
  simp only []; split
  · rfl
  · exact present_mem _ _
theorem putLog_go_mem (s : State) (e : LogEntry) : (putLog.go s e).1.mem = s.mem := by
  unfold putLog.go
  simp only []
  split
  · rw [putLog_add_mem]
  · split
    · rfl
    · split
      · rw [putLog_add_mem, viewLost_mem]; split <;> rfl
      · rfl
theorem putLog_mem (s : State) (e : LogEntry) : (putLog s e).1.mem = s.mem := by
  unfold putLog
  split
  · split
    · rfl
    · exact putLog_go_mem _ _
  · exact putLog_go_mem _ _
theorem logW_mem (n : Nat) (s : State) (e : LogEntry) : (logW n s e).mem = s.mem := by
  induction n generalizing s e with
  | zero => exact putLog_mem _ _
  | succ n ih =>
    unfold logW
    refine (foldl_mem _ (fun t x => ?_) _ _).trans (putLog_mem _ _)
    simp only []; split
    · rw [ih, msixSend_mem]
    · exact msixSend_mem _ _ _ _
/-- Logging leaves memory alone. -/
@[simp] theorem logEv_mem (s : State) (die : Nat) (e : LogEntry) : (logEv s die e).mem = s.mem := by
  unfold logEv; simp only []; repeat' split
  all_goals first | rfl | exact logW_mem _ _ _
@[simp] theorem badAccess_mem (s : State) (die p a : Nat) : (badAccess s die p a).mem = s.mem := logEv_mem _ _ _
@[simp] theorem msixDue_mem (s : State) (p fn v : Nat) : (msixDue s p fn v).mem = s.mem := by
  unfold msixDue; simp only []; split <;> simp [msixSend_mem]

/-! ### Aborts and fatal states -/

@[simp] theorem finish_mem (s : State) (id : Nat) (st : Status) (f : BitVec 8) (w : W64) : (s.finish id st f w).mem = s.mem := rfl
@[simp] theorem abortKernel_mem (s : State) (id : Nat) (st : Status) : (s.abortKernel id st).mem = s.mem := by
  unfold State.abortKernel
  split
  · rfl
  · simp only []; split
    · refine foldl_mem _ (fun t i => ?_) _ _
      split <;> rfl
    · rfl
@[simp] theorem abortCmd_mem (s : State) (id : Nat) (st : Status) : (s.abortCmd id st).mem = s.mem := by
  unfold State.abortCmd
  repeat' split
  all_goals first | rfl | exact abortKernel_mem _ _ _ | skip
  all_goals (simp only []; repeat' split)
  all_goals rfl
@[simp] theorem quarantine_mem (s : State) (c : Nat) : (s.quarantine c).mem = s.mem := by
  refine foldl_mem _ (fun t i => ?_) _ _
  split <;> rfl
theorem haltAll_mem (s : State) (l : List Nat) (f : State → Nat → Bool) :
    (l.foldl (fun s ch => if f s ch then s.haltChan ch .aborted 0 else s) s).mem = s.mem := by
  refine foldl_mem _ (fun t i => ?_) _ _
  split <;> rfl
@[simp] theorem stopAll_mem (s : State) : s.stopAll.mem = s.mem := by
  refine foldl_mem _ (fun t p => ?_) _ _
  exact haltAll_mem t _ _
@[simp] theorem deviceFatal_mem (s : State) (die : Nat) (e : LogEntry) : (s.deviceFatal die e).mem = s.mem := by
  unfold State.deviceFatal; split <;> simp
@[simp] theorem partFatal_mem (s : State) (p : Nat) : (s.partFatal p).mem = s.mem := by
  unfold State.partFatal; split
  · rfl
  · refine (foldl_mem (fun s ch => s.haltChan ch .aborted 0) (fun _ _ => rfl) _ _).trans
      ((foldl_mem (fun s id => s.abortCmd id .aborted) (fun t i => abortCmd_mem t i _) _ _).trans ?_)
    simp

/-! ### Recovery and sparing -/

@[simp] theorem startAction_mem (s : State) (k n x a : Nat) : (s.startAction k n x a).1.mem = s.mem := by
  unfold State.startAction; repeat' split
  all_goals rfl
@[simp] theorem escalated_mem (s : State) (o : LogEntry) (k n : Nat) : (s.escalated o k n).mem = s.mem := logEv_mem _ _ _
@[simp] theorem retireUnit_mem (s : State) (k n : Nat) : (s.retireUnit k n).mem = s.mem := by
  unfold State.retireUnit; split <;> rfl
@[simp] theorem makeAbsent_mem (s : State) (a : Nat) : (s.makeAbsent a).mem = s.mem := by
  unfold State.makeAbsent; simp only []; split
  · rfl
  · split
    · rfl
    · simp only [logEv_mem]; rfl
@[simp] theorem startMove_mem (s : State) (g : Nat) : (s.startMove g).mem = s.mem := by
  unfold State.startMove; simp only []
  repeat' split
  all_goals first | rfl | exact makeAbsent_mem _ _ | exact deviceFatal_mem _ _ _
@[simp] theorem nextMove_mem (s : State) (b n : Nat) : (s.nextMove b n).mem = s.mem := by
  induction n generalizing s with
  | zero => rfl
  | succ n ih =>
    unfold State.nextMove; split
    · rfl
    · simp only []; split
      · simp
      · rw [ih]; simp
@[simp] theorem retireBank_mem (s : State) (b : Nat) : (s.retireBank b).mem = s.mem := by
  unfold State.retireBank; split
  · rfl
  · simp only [nextMove_mem, logEv_mem]; exact retireUnit_mem _ _ _
@[simp] theorem refreshHolds_mem (s : State) : s.refreshHolds.mem = s.mem := by
  unfold State.refreshHolds; simp only []
  generalize s.targets = t
  exact foldl_mem (fun (s : State) c => s.setCluster c { s.cluster c with hold := s.holdOf t c }) (fun _ _ => rfl) _ s
@[simp] theorem flagOnly_mem (s : State) (ph : Nat) : (s.flagOnly ph).mem = s.mem := by
  unfold State.flagOnly; split
  · rfl
  · simp only [refreshHolds_mem]; rfl
@[simp] theorem retirePhys_mem (s : State) (ph : Nat) (q : Bool) : (s.retirePhys ph q).mem = s.mem := by
  unfold State.retirePhys; split
  · rfl
  · simp only []; split
    · simp only [startAction_mem]; split
      · simp only [quarantine_mem]; exact retireUnit_mem _ _ _
      · exact retireUnit_mem _ _ _
    · exact retireUnit_mem _ _ _
@[simp] theorem retireCluster_mem (s : State) (ph c : Nat) : (s.retireCluster ph c).mem = s.mem := by
  unfold State.retireCluster; split <;> simp
@[simp] theorem flagCluster_mem (s : State) (ph cls : Nat) : (s.flagCluster ph cls).mem = s.mem := by
  unfold State.flagCluster; repeat' split
  all_goals simp
@[simp] theorem flagFront_mem (s : State) (ph cls : Nat) : (s.flagFront ph cls).mem = s.mem := by
  unfold State.flagFront; split <;> simp
@[simp] theorem beginSpare_mem (s : State) (b r : Nat) : (s.beginSpare b r).mem = s.mem := by
  unfold State.beginSpare; simp only []
  repeat' split
  all_goals simp
  all_goals rfl
@[simp] theorem spareRow_mem (s : State) (b r : Nat) : (s.spareRow b r).mem = s.mem := by
  unfold State.spareRow; simp only []
  repeat' split
  all_goals simp
@[simp] theorem unrepairable_mem (s : State) (c x a : Nat) : (s.unrepairable c x a).mem = s.mem := by
  refine foldl_mem _ (fun t g => ?_) _ _
  split
  · rfl
  · exact makeAbsent_mem _ _
@[simp] theorem beginPpr_mem (s : State) (c x a : Nat) : (s.beginPpr c x a).mem = s.mem := rfl
@[simp] theorem pprRow_mem (s : State) (c x a : Nat) : (s.pprRow c x a).mem = s.mem := by
  unfold State.pprRow; simp only []
  repeat' split
  all_goals simp
  all_goals rfl
@[simp] theorem escalate_mem (s : State) (o : LogEntry) (k n x a : Nat) : (s.escalate o k n x a).mem = s.mem := by
  unfold State.escalate; simp only []
  repeat' split
  all_goals simp
@[simp] theorem countContained_mem (s : State) (o : LogEntry) (k n x a : Nat) : (s.countContained o k n x a).mem = s.mem := by
  unfold State.countContained; simp only []
  split <;> simp
@[simp] theorem countEvent_mem (s : State) (o : LogEntry) (k n x a : Nat) : (s.countEvent o k n x a).mem = s.mem := by
  unfold State.countEvent; simp only []
  repeat' split
  all_goals simp
/-- Logging and counting an event leaves memory alone. -/
@[simp] theorem logUnit_mem (s : State) (die : Nat) (e : LogEntry) (x : Nat) : (logUnit s die e x).mem = s.mem := by
  simp [logUnit]
@[simp] theorem logCluster_mem (s : State) (c : Nat) (e : LogEntry) : (logCluster s c e).mem = s.mem := logUnit_mem _ _ _ _

/-! ### Reads and writes -/

@[simp] theorem errCnt_mem (s : State) (a h l : Nat) : (s.errCnt a h l).mem = s.mem := by
  unfold State.errCnt; split <;> rfl
@[simp] theorem rowFails_mem (s : State) (a : Nat) : (s.rowFails a).mem = s.mem := by
  unfold State.rowFails; split <;> simp

/-- What one error that a read finds can do to memory: the bytes stay, and the form is kept. -/
theorem readErr_mem (s : State) (die w : Nat) (x : StoreErr) :
    (readErr s die w x).1.mem.bytes = s.mem.bytes ∧ (Memory.wf s.mem → Memory.wf (readErr s die w x).1.mem) := by
  have hc : (s.corrected die w).mem = { s.mem with writeback := sadd s.mem.writeback w } := by
    simp [State.corrected]
  have hu : (s.uncorrected die w).mem = { s.mem with latent := mdel s.mem.latent w, psn := (unitWords (w * 8)).foldl sadd s.mem.psn } := by
    unfold State.uncorrected; simp only []
    repeat' split
    all_goals simp
  have hd : (s.detectHit die w).mem = s.mem
      ∨ (s.detectHit die w).mem = { s.mem with detected := sadd s.mem.detected (w * 8 / 0x200000) } := by
    unfold State.detectHit; simp only []
    split
    · left; simp
    · right; simp
  have wc : Memory.wf s.mem → Memory.wf (s.corrected die w).mem := by
    rw [hc]; exact fun h => ⟨h.1, h.2.1, rising_sadd _ _ h.2.2.1, h.2.2.2⟩
  have wu : Memory.wf s.mem → Memory.wf (s.uncorrected die w).mem := by
    rw [hu]; exact fun h => ⟨h.1, rising_foldl_sadd _ _ h.2.1, h.2.2⟩
  have wd : Memory.wf s.mem → Memory.wf (s.detectHit die w).mem := by
    rcases hd with hd | hd <;> rw [hd]
    · exact id
    · exact fun h => ⟨h.1, h.2.1, h.2.2.1, rising_sadd _ _ h.2.2.2⟩
  have bd : (s.detectHit die w).mem.bytes = s.mem.bytes := by rcases hd with hd | hd <;> rw [hd]
  have bc : (s.corrected die w).mem.bytes = s.mem.bytes := by rw [hc]
  have bu : (s.uncorrected die w).mem.bytes = s.mem.bytes := by rw [hu]
  unfold readErr
  repeat' split
  all_goals first | exact ⟨rfl, id⟩ | exact ⟨bd, wd⟩ | exact ⟨bc, wc⟩ | exact ⟨bu, wu⟩

/-- A read leaves every byte as it is, and keeps memory's form. -/
theorem readMem_mem (s : State) (die a n : Nat) :
    (readMem s die a n).1.mem.bytes = s.mem.bytes ∧ (Memory.wf s.mem → Memory.wf (readMem s die a n).1.mem) := by
  unfold readMem; simp only []
  refine foldl_keeps (fun r : State × List Nat × List Nat =>
    r.1.mem.bytes = s.mem.bytes ∧ (Memory.wf s.mem → Memory.wf r.1.mem)) _ (fun r q h => ?_) _ _ ⟨rfl, id⟩
  have := readErr_mem r.1 die q.1 q.2
  exact ⟨this.1.trans h.1, fun hw => this.2 (h.2 hw)⟩

/-- A write keeps memory's form. -/
theorem writeMem_wf (s : State) (die a : Nat) (l : List PB) (h : Memory.wf s.mem) : Memory.wf (writeMem s die a l).mem := by
  unfold writeMem
  split
  · exact h
  · simp only []
    generalize hs : List.foldl (fun s (q : Nat × StoreErr) => (readErr s die q.1 q.2).1) s _ = s1
    have h1 : Memory.wf s1.mem := by
      rw [← hs]
      exact foldl_keeps (fun t => Memory.wf t.mem) _ (fun t (q : Nat × StoreErr) ht => (readErr_mem t die q.1 q.2).2 ht) _ _ h
    refine ⟨canonical_wrBytes _ _ _ _ h1.1, ?_, rising_filter _ _ h1.2.2.1, h1.2.2.2⟩
    refine foldl_keeps Rising _ (fun m u hm => ?_) _ _ h1.2.1
    split
    · exact rising_foldl_sadd _ _ hm
    · split
      · exact rising_filter _ _ hm
      · exact hm

theorem cvClearN_wf (s : State) (die n a : Nat) (h : Memory.wf s.mem) : Memory.wf (s.cvClearN die n a).mem := by
  induction n generalizing s a with
  | zero => exact h
  | succ n ih =>
    unfold State.cvClearN
    split
    · exact h
    · split
      · exact ih _ _ (writeMem_wf _ _ _ _ h)
      · exact h
/-- Clearing check values keeps memory's form. -/
theorem cvClear_wf (s : State) (die a n : Nat) (h : Memory.wf s.mem) : Memory.wf (s.cvClear die a n).mem := by
  unfold State.cvClear
  split
  · exact h
  · exact foldl_keeps (fun t => Memory.wf t.mem) _ (fun t i ht => cvClearN_wf t die _ _ ht) _ _ h
/-- Writing a check value keeps memory's form. -/
theorem cvSet_wf (s : State) (die a c : Nat) (h : Memory.wf s.mem) : Memory.wf (s.cvSet die a c).mem := by
  unfold State.cvSet
  split
  · exact h
  · exact cvClearN_wf _ _ _ _ (writeMem_wf _ _ _ _ h)
/-- A write that carries no check value keeps memory's form. -/
theorem storeMem_wf (s : State) (die a : Nat) (l : List PB) (h : Memory.wf s.mem) : Memory.wf (storeMem s die a l).mem :=
  cvClear_wf _ _ _ _ (writeMem_wf _ _ _ _ h)

/-! ### The other operations that change memory -/

/-- Zeroing keeps the form. -/
theorem zero_wf (m : Mem) (f : Nat → Bool) (h : Memory.wf m) : Memory.wf (m.zero f) :=
  ⟨canonical_filter _ _ _ h.1, rising_filter _ _ h.2.1, rising_filter _ _ h.2.2.1, h.2.2.2⟩
/-- Clearing a partition keeps the form (Table 12.5). -/
theorem clearPart_wf (s : State) (p : Nat) (h : Memory.wf s.mem) : Memory.wf (s.clearPart p).mem := by
  unfold State.clearPart; simp only []
  refine foldl_keeps (fun t : State => Memory.wf t.mem) (fun (s : State) c => s.setCluster c (s.cluster c).wiped) (fun t c ht => ht) _ _ ?_
  exact zero_wf _ _ h
/-- Placing a MONITOR copy keeps the form. -/
theorem placeMonitor_wf (s : State) (h : Memory.wf s.mem) : Memory.wf s.placeMonitor.mem :=
  ⟨canonical_wrBytes _ _ _ _ h.1, h.2⟩
theorem stageMonitor_wf (s : State) (l : List Byte) (x : SecInfo) (h : Memory.wf s.mem) : Memory.wf (s.stageMonitor l x).mem :=
  ⟨canonical_wrBytes _ _ _ _ h.1, h.2⟩
/-- Poisoning a word keeps the form. -/
theorem poisonWord_wf (s : State) (w : Nat) (h : Memory.wf s.mem) : Memory.wf (s.poisonWord w).mem := by
  unfold State.poisonWord; split
  · exact h
  · exact ⟨h.1, rising_foldl_sadd _ _ h.2.1, h.2.2⟩
/-- A copy to good storage keeps the form. -/
theorem copied_wf (s : State) (f : Nat → Bool) (h : Memory.wf s.mem) : Memory.wf (s.copied f).mem := by
  unfold State.copied; simp only []
  have h1 := foldl_keeps (fun t : State => Memory.wf t.mem) (fun s (q : Nat × StoreErr) => s.poisonWord q.1)
    (fun t q ht => poisonWord_wf t q.1 ht)
  exact ⟨(h1 _ _ h).1, (h1 _ _ h).2.1, rising_filter _ _ (h1 _ _ h).2.2.1, (h1 _ _ h).2.2.2⟩
/-- The write-back of a corrected value keeps the form. -/
theorem writeBack_wf (s : State) (w : Nat) (h : Memory.wf s.mem) : Memory.wf (s.writeBack w).mem := by
  have h1 : Memory.wf { s.mem with writeback := sdel s.mem.writeback w } := ⟨h.1, h.2.1, rising_filter _ _ h.2.2.1, h.2.2.2⟩
  unfold State.writeBack; simp only []; split
  · simpa using h1
  · exact h1
  · exact h1
/-- A device reset leaves the form. -/
theorem deviceReset_wf (s : State) : Memory.wf s.deviceReset.mem := by
  simp [State.deviceReset, State.reset, Memory.wf, Canonical]

/-- Memory after reset has the canonical form. -/
theorem reset_mem_wf : Memory.wf State.reset.mem := by simp [State.reset, Memory.wf, Canonical]

end Sys2Proof.Machine
end

