-- ==== Sys2Proof/WellFormed.lean ====
section
/-! DEFINITION. Which commands can be sent: every number within the range that the spec gives what it names. A command that is
not well-formed reaches no contact of the device and comes from no unit of it (log entry 42). -/

namespace Sys2Proof

/-- A host port, a VF of its 15, a core of 2,048 (R24, R381). -/
def Agent.wf : Agent → Bool
  | .pf p => decide (p < 4)
  | .vf p n => decide (p < 4) && decide (1 ≤ n) && decide (n < 16)
  | .core d => decide (d < 2048)

/-- An aligned 8-byte word (R238): at a 48-bit address below control space (Table 8.1), or in a core's 64 KiB of local memory
(R163). -/
def StoreRef.wf : StoreRef → Bool
  | .dev a => decide (a < 0x700000000000) && a % 8 == 0
  | .lm d off => decide (d < 2048) && decide (off < 0x10000) && off % 8 == 0

/-- A bank of 896, or of a logical cluster (Table 8.8). -/
def BankRef.wf : BankRef → Bool
  | .base b => decide (b < 896)
  | .staging c b => decide (c < 256) && decide (b < 16)
  | .compute c b => decide (c < 256) && decide (b < 112)

/-- A row of an LPDDR6 channel (R230, R376). -/
def DdrRow.wf (r : DdrRow) : Bool :=
  decide (r.chan < 80) && decide (r.bank < 256) && decide (r.row < 65536) && decide (r.addr < 0x700000000000)

/-- A configuration request of a function's 4 KiB (R381). -/
def ConfigReq.wf (q : ConfigReq) : Bool := decide (q.fn < 256) && decide (q.off < 4096)

/-- An SPDM request: a one-byte code and slot (DSP0274). -/
def SpdmReq.wf (q : SpdmReq) : Bool := decide (q.code < 256) && decide (q.slot < 256)

/-- An instrument access within the device. -/
def InstrumentReq.wf (q : InstrumentReq) : Bool :=
  match q.target with
  | .cluster c => decide (c < 256)
  | .core d => decide (d < 2048)
  | .memory a => decide (a < 2 ^ 48)
  | .device => true

/-- A frame whose fields fit their widths (Tables 10.1, 10.5). -/
def Frame.wf (f : Frame) : Bool :=
  decide (f.dstNode < 65536) && decide (f.srcNode < 65536) && decide (f.dstMac < 2 ^ 48) && decide (f.srcMac < 2 ^ 48)
    && decide (f.dstIp < 2 ^ 128) && decide (f.srcIp < 2 ^ 128) && decide (f.udpPort < 65536)
    && (match f.vid with
      | none => true
      | some v => decide (v < 4096))
    && decide (f.an < 4) && decide (f.pn < 2 ^ 64) && decide (f.type < 16) && decide (f.ver < 16) && decide (f.flags < 256)
    && decide (f.op < 256) && decide (f.code < 256) && decide (f.psn < 2 ^ 32) && decide (f.ackPsn < 2 ^ 32)
    && decide (f.ctx < 65536) && decide (f.window < 256) && decide (f.step < 256) && decide (f.epoch < 65536)
    && decide (f.aux < 65536) && decide (f.offset < 2 ^ 48) && decide (f.len < 65536) && decide (f.payload.length ≤ 8192)

/-- Every number of the command is within its range. -/
def Instr.wf : Instr → Bool
  | .lit d _ => decide (d < 2048)
  | .ext d _ => decide (d < 2048)
  | .dup d => decide (d < 2048)
  | .drop d => decide (d < 2048)
  | .swap d => decide (d < 2048)
  | .over d => decide (d < 2048)
  | .rot d => decide (d < 2048)
  | .nip d => decide (d < 2048)
  | .tuck d => decide (d < 2048)
  | .pick d => decide (d < 2048)
  | .tor d => decide (d < 2048)
  | .fromr d => decide (d < 2048)
  | .rfetch d => decide (d < 2048)
  | .depth d => decide (d < 2048)
  | .add d => decide (d < 2048)
  | .sub d => decide (d < 2048)
  | .mul d => decide (d < 2048)
  | .mulhs d => decide (d < 2048)
  | .mulhu d => decide (d < 2048)
  | .divs d => decide (d < 2048)
  | .divu d => decide (d < 2048)
  | .rems d => decide (d < 2048)
  | .remu d => decide (d < 2048)
  | .neg d => decide (d < 2048)
  | .band d => decide (d < 2048)
  | .bor d => decide (d < 2048)
  | .bxor d => decide (d < 2048)
  | .bnot d => decide (d < 2048)
  | .shl d => decide (d < 2048)
  | .shr d => decide (d < 2048)
  | .sar d => decide (d < 2048)
  | .eq d => decide (d < 2048)
  | .ne d => decide (d < 2048)
  | .lts d => decide (d < 2048)
  | .ltu d => decide (d < 2048)
  | .les d => decide (d < 2048)
  | .leu d => decide (d < 2048)
  | .eqz d => decide (d < 2048)
  | .sel d => decide (d < 2048)
  | .fadd d => decide (d < 2048)
  | .fsub d => decide (d < 2048)
  | .fmul d => decide (d < 2048)
  | .fdiv d => decide (d < 2048)
  | .fmax d => decide (d < 2048)
  | .fmin d => decide (d < 2048)
  | .fsqrt d => decide (d < 2048)
  | .flt d => decide (d < 2048)
  | .fle d => decide (d < 2048)
  | .feq d => decide (d < 2048)
  | .cvtif d => decide (d < 2048)
  | .cvtfi d => decide (d < 2048)
  | .ld8u d => decide (d < 2048)
  | .ld8s d => decide (d < 2048)
  | .ld16u d => decide (d < 2048)
  | .ld16s d => decide (d < 2048)
  | .ld32u d => decide (d < 2048)
  | .ld32s d => decide (d < 2048)
  | .ld64 d => decide (d < 2048)
  | .st8 d => decide (d < 2048)
  | .st16 d => decide (d < 2048)
  | .st32 d => decide (d < 2048)
  | .st64 d => decide (d < 2048)
  | .lld8u d => decide (d < 2048)
  | .lld8s d => decide (d < 2048)
  | .lld16u d => decide (d < 2048)
  | .lld16s d => decide (d < 2048)
  | .lld32u d => decide (d < 2048)
  | .lld32s d => decide (d < 2048)
  | .lld64 d => decide (d < 2048)
  | .lst8 d => decide (d < 2048)
  | .lst16 d => decide (d < 2048)
  | .lst32 d => decide (d < 2048)
  | .lst64 d => decide (d < 2048)
  | .lldi d _ => decide (d < 2048)
  | .lsti d _ => decide (d < 2048)
  | .brz d _ => decide (d < 2048)
  | .call d _ => decide (d < 2048)
  | .loop d _ => decide (d < 2048)
  | .mxq d => decide (d < 2048)
  | .seqEnq d => decide (d < 2048)
  | .qwait d => decide (d < 2048)
  | .qtest d => decide (d < 2048)
  | .ret d => decide (d < 2048)
  | .rte d => decide (d < 2048)
  | .jmpi d => decide (d < 2048)
  | .calli d => decide (d < 2048)
  | .lexit d => decide (d < 2048)
  | .lcnt d => decide (d < 2048)
  | .moder d => decide (d < 2048)
  | .modew d => decide (d < 2048)
  | .dcinv d => decide (d < 2048)
  | .dcinvl d => decide (d < 2048)
  | .icinv d => decide (d < 2048)
  | .fence d => decide (d < 2048)
  | .atw d => decide (d < 2048)
  | .atwc d => decide (d < 2048)
  | .ecall d => decide (d < 2048)
  | .wfi d => decide (d < 2048)
  | .kend d => decide (d < 2048)
  | .nop d => decide (d < 2048)
  | .illegalInstr d _ => decide (d < 2048)
  | .vadd d => decide (d < 2048)
  | .vsub d => decide (d < 2048)
  | .vmul d => decide (d < 2048)
  | .vdiv d => decide (d < 2048)
  | .vmax d => decide (d < 2048)
  | .vmin d => decide (d < 2048)
  | .vfma d => decide (d < 2048)
  | .vadds d => decide (d < 2048)
  | .vmuls d => decide (d < 2048)
  | .vmaxs d => decide (d < 2048)
  | .vmins d => decide (d < 2048)
  | .vabs d => decide (d < 2048)
  | .vneg d => decide (d < 2048)
  | .vsqrt d => decide (d < 2048)
  | .vrsqrt d => decide (d < 2048)
  | .vexp d => decide (d < 2048)
  | .vlog d => decide (d < 2048)
  | .vtanh d => decide (d < 2048)
  | .vsig d => decide (d < 2048)
  | .vcmpEq d => decide (d < 2048)
  | .vcmpNe d => decide (d < 2048)
  | .vcmpLt d => decide (d < 2048)
  | .vcmpLe d => decide (d < 2048)
  | .vcmpGt d => decide (d < 2048)
  | .vcmpGe d => decide (d < 2048)
  | .vmand d => decide (d < 2048)
  | .vmor d => decide (d < 2048)
  | .vmxor d => decide (d < 2048)
  | .vmandn d => decide (d < 2048)
  | .vmset d => decide (d < 2048)
  | .vcvt d => decide (d < 2048)
  | .vqmx d => decide (d < 2048)
  | .vsetvl d => decide (d < 2048)
  | .vgetvl d => decide (d < 2048)
  | .vchain d => decide (d < 2048)
  | .vld d => decide (d < 2048)
  | .vst d => decide (d < 2048)
  | .vlds d => decide (d < 2048)
  | .vsts d => decide (d < 2048)
  | .vgather d => decide (d < 2048)
  | .vscatter d => decide (d < 2048)
  | .vldff d => decide (d < 2048)
  | .vgatherff d => decide (d < 2048)
  | .vocld d => decide (d < 2048)
  | .vocst d => decide (d < 2048)
  | .ocfill d => decide (d < 2048)
  | .ocbind d => decide (d < 2048)
  | .ocwb d => decide (d < 2048)
  | .ocevict d => decide (d < 2048)
  | .ocsync d => decide (d < 2048)
  | .vfold d => decide (d < 2048)
  | .vswadd d => decide (d < 2048)
  | .vswrd d => decide (d < 2048)
  | .vswrdc d => decide (d < 2048)
  | .vrsum d => decide (d < 2048)
  | .vrprod d => decide (d < 2048)
  | .vrmax d => decide (d < 2048)
  | .vrmin d => decide (d < 2048)
  | .vcount d => decide (d < 2048)
  | .vany d => decide (d < 2048)
  | .vall d => decide (d < 2048)
  | .vfirst d => decide (d < 2048)
  | .vrsw d => decide (d < 2048)
  | .resultFill d => decide (d < 2048)
  | .reductionResult d => decide (d < 2048)
  | .stackRefill d _ => decide (d < 2048)
  | .dcacheFill d line => decide (d < 2048) && decide (line < 2 ^ 48) && line % 64 == 0
  | .icacheFill d line => decide (d < 2048) && decide (line < 2 ^ 48) && line % 64 == 0
  | .controlLoadReturn d => decide (d < 2048)
  | .storeAck d => decide (d < 2048)
  | .vectorLoadArrive d => decide (d < 2048)
  | .ocFillDone d line => decide (d < 2048) && decide (line < 2048)
  | .ocWritebackAck d line => decide (d < 2048) && decide (line < 2048)
  | .exceptionEntry d => decide (d < 2048)
  | .atomicWindowExpire d => decide (d < 2048)
  | .wfiWake d => decide (d < 2048)
  | .abortTimeout d => decide (d < 2048)
  | .softPost d _ => decide (d < 2048)
  | .ticketEnqueue d t => decide (d < 2048) && decide (t < 8)
  | .ticketComplete d t => decide (d < 2048) && decide (t < 8)
  | .mxMatmul c => decide (c < 256)
  | .mxExtAlone c => decide (c < 256)
  | .mxRowEnter c => decide (c < 256)
  | .mxPassBoundary c => decide (c < 256)
  | .windrowCompare c col _ _ => decide (c < 256) && decide (col < 512)
  | .windrowVote c col1 _ col2 _ _ => decide (c < 256) && decide (col1 < 512) && decide (col2 < 512)
  | .mxTileDrainDone c => decide (c < 256)
  | .mxCommandEnd c => decide (c < 256)
  | .fadd32 p a _ _ _ => decide (p < 4) && decide (a < 2 ^ 48)
  | .fadd64 p a _ _ _ => decide (p < 4) && decide (a < 2 ^ 48)
  | .iadd64 p a _ _ _ => decide (p < 4) && decide (a < 2 ^ 48)
  | .swaddF64 p a buf _ _ => decide (p < 4) && decide (a < 2 ^ 48) && decide (buf < 64)
  | .swaddF32 p a buf _ _ => decide (p < 4) && decide (a < 2 ^ 48) && decide (buf < 64)
  | .swaddBf16 p a buf _ _ => decide (p < 4) && decide (a < 2 ^ 48) && decide (buf < 64)
  | .swaddCell p a buf _ _ _ => decide (p < 4) && decide (a < 2 ^ 48) && decide (buf < 64)
  | .swrd p a buf => decide (p < 4) && decide (a < 2 ^ 48) && decide (buf < 64)
  | .swrdClr p a buf => decide (p < 4) && decide (a < 2 ^ 48) && decide (buf < 64)
  | .registerWrite ag a size _ => ag.wf && decide (a < 2 ^ 48) && [1, 2, 4, 8].contains size && a % size == 0
  | .rgnArm p n _ => decide (p < 4) && decide (n < 256)
  | .rgnArmDone p n => decide (p < 4) && decide (n < 256)
  | .rgnDisarm p n => decide (p < 4) && decide (n < 256)
  | .rgnDisarmDone p n => decide (p < 4) && decide (n < 256)
  | .sbArm p n _ => decide (p < 4) && decide (n < 64)
  | .sbArmDone p n => decide (p < 4) && decide (n < 64)
  | .sbDisarm p n => decide (p < 4) && decide (n < 64)
  | .winArm p w _ => decide (p < 4) && decide (w < 64)
  | .winArmDone p w => decide (p < 4) && decide (w < 64)
  | .winDisarm p w => decide (p < 4) && decide (w < 64)
  | .b2WinArm p n _ => decide (p < 4) && decide (n < 16)
  | .b2WinArmDone p n => decide (p < 4) && decide (n < 16)
  | .b2WinDisarm p n => decide (p < 4) && decide (n < 16)
  | .scrubRead r => r.wf
  | .correctedWriteback r => r.wf
  | .spareCopyDone b row => b.wf && decide (row < 65536)
  | .granuleCopyDone g => decide (g < 2 ^ 23)
  | .pprDone r => r.wf
  | .pprTimeout r => r.wf
  | .ddrGranuleCopyDone g => decide (g < 2 ^ 23)
  | .repairRecordWrite => true
  | .beatReplay c a _ => decide (c < 256) && decide (a < 2 ^ 48)
  | .bondErased c grp => decide (c < 256) && decide (grp < 288)
  | .d2dLaneRepaired grp _ => decide (grp < 65536)
  | .ddrRefresh k bank => decide (k < 80) && decide (bank < 256)
  | .ddrTempRead pkg degC => decide (pkg < 20) && decide (degC < 256)
  | .ddrRetrainStep k => decide (k < 80)
  | .channelScan => true
  | .channelAbortDone ch => decide (ch < 4096)
  | .commandRecordCopy ch => decide (ch < 4096)
  | .commandDispatch ch => decide (ch < 4096)
  | .kernelAccept _ => true
  | .kernelStart _ => true
  | .kernelComplete _ => true
  | .seList c => decide (c < 256)
  | .barArm _ => true
  | .nopCommand _ => true
  | .commandCompletion _ => true
  | .progressWatchdogExpire ch => decide (ch < 4096)
  | .descriptorFetch c => decide (c < 256)
  | .slotGrant c => decide (c < 256)
  | .streamCopy c => decide (c < 256)
  | .streamFill c => decide (c < 256)
  | .streamFold c => decide (c < 256)
  | .streamBcast c => decide (c < 256)
  | .streamSwread c => decide (c < 256)
  | .cvReread c => decide (c < 256)
  | .descriptorDone c => decide (c < 256)
  | .movedNack c => decide (c < 256)
  | .staleNack c => decide (c < 256)
  | .hostReadFail _ a => decide (a < 2 ^ 64)
  | .lkXfer _ => true
  | .lkColl _ => true
  | .lkMcast _ => true
  | .lkVote _ => true
  | .lkExpel _ => true
  | .linkContextGrant die => decide (die < 2)
  | .remoteWriteFrame k f => decide (k < 8) && f.wf
  | .remoteFoldFrame k f => decide (k < 8) && f.wf
  | .readRequest k f => decide (k < 8) && f.wf
  | .readResponse k f => decide (k < 8) && f.wf
  | .collectiveFrame k f => decide (k < 8) && f.wf
  | .voteFrame k f => decide (k < 8) && f.wf
  | .ackFrame k f => decide (k < 8) && f.wf
  | .nackFrame k f => decide (k < 8) && f.wf
  | .noticeFrame k f => decide (k < 8) && f.wf
  | .abortFrame k f => decide (k < 8) && f.wf
  | .keepaliveFrame k f => decide (k < 8) && f.wf
  | .helloExchange k node part => decide (k < 8) && decide (node < 65536) && decide (part < 65536)
  | .ackTimer ref => decide (ref < 65536)
  | .retransmissionTimeout ref => decide (ref < 65536)
  | .keepaliveSend ref => decide (ref < 65536)
  | .peerSilence ref => decide (ref < 65536)
  | .lagLimitExpire _ m => decide (m < 64)
  | .noticeSend => true
  | .pfcFrame k prio _ => decide (k < 8) && decide (prio < 8)
  | .pfcWatchdog k prio => decide (k < 8) && decide (prio < 8)
  | .linkDrops k => decide (k < 8)
  | .partnerEntryWrite p ref => decide (p < 4) && decide (ref < 65536)
  | .partnerEntryRead p ref => decide (p < 4) && decide (ref < 65536)
  | .expelPartner p ref => decide (p < 4) && decide (ref < 65536)
  | .keyLoad p _ => decide (p < 4)
  | .portEnable k => decide (k < 8)
  | .equaliserTrained k => decide (k < 8)
  | .laneDeskewDone k => decide (k < 8)
  | .trainingTimeout k => decide (k < 8)
  | .helloRetry k => decide (k < 8)
  | .autoNegotiation k _ => decide (k < 8)
  | .laneRecalTrigger k lane => decide (k < 8) && decide (lane < 4)
  | .degradeFlit k => decide (k < 8)
  | .laneRecalDone k _ => decide (k < 8)
  | .perstAssert p => decide (p < 4)
  | .perstDeassert p => decide (p < 4)
  | .hotReset p => decide (p < 4)
  | .dataLinkDown p => decide (p < 4)
  | .functionLevelReset p => decide (p < 4)
  | .vfFunctionLevelReset p n => decide (p < 4) && decide (1 ≤ n) && decide (n < 16)
  | .presetIdle p => decide (p < 4)
  | .presetCleared p => decide (p < 4)
  | .presetEraseDone p => decide (p < 4)
  | .partitionResetFail p => decide (p < 4)
  | .configRequest p q => decide (p < 4) && q.wf
  | .d3hotEntry p n => decide (p < 4) && decide (n < 16)
  | .d0Return p n => decide (p < 4) && decide (n < 16)
  | .bar2Read p o len => decide (p < 4) && decide (o < 2 ^ 41) && decide (0 < len) && decide (len ≤ 4096)
  | .bar2Write p o data _ => decide (p < 4) && decide (o < 2 ^ 41) && decide (0 < data.length) && decide (data.length ≤ 4096)
  | .ideKm p st => decide (p < 4) && decide (st < 9)
  | .ideInsecure p st => decide (p < 4) && decide (st < 9)
  | .spdmRequest p q => decide (p < 4) && q.wf
  | .getId p => decide (p < 4)
  | .attest p => decide (p < 4)
  | .imageBegin p => decide (p < 4)
  | .imageWrite p => decide (p < 4)
  | .imageCommit p => decide (p < 4)
  | .imageApply p => decide (p < 4)
  | .policyQuiesceApply => true
  | .monitorInPlace c => decide (c < 256)
  | .plannedSwitchover => true
  | .applyComplete => true
  | .mailboxResponse p => decide (p < 4)
  | .tokenDebug p => decide (p < 4)
  | .tokenRelease p => decide (p < 4)
  | .tokenVendorReturn p => decide (p < 4)
  | .tokenProvision p => decide (p < 4)
  | .tokenScrap p => decide (p < 4)
  | .tokenSvn p => decide (p < 4)
  | .tokenRevoke p => decide (p < 4)
  | .retArmExpire => true
  | .debugExpire => true
  | .debugHaltRequest d => decide (d < 2048)
  | .lifecycleReset => true
  | .entdaa _ => true
  | .setdasa _ _ => true
  | .mctpControl cmd eid => decide (cmd < 256) && decide (eid < 256)
  | .getTid => true
  | .getPldmVersion => true
  | .getPldmTypes => true
  | .getPldmCommands => true
  | .getPdrRepositoryInfo => true
  | .getPdr h => decide (h < 2 ^ 32)
  | .getSensorReading id => decide (id < 65536)
  | .getStateSensorReadings id => decide (id < 65536)
  | .sensorRefresh rd => rd.length == 6
  | .mgmtStatus => true
  | .mgmtLogRead sq n => decide (sq < 2 ^ 32) && decide (n < 65536)
  | .mgmtLogAck sq => decide (sq < 2 ^ 32)
  | .rotSuspend => true
  | .rotResume => true
  | .pvAck p _ => decide (p < 4)
  | .lockstepMismatch _ => true
  | .standbyTakeover => true
  | .clockFault clk => decide (clk < 6)
  | .supplyFault rail => decide (rail < 9)
  | .recoveryActionStart => true
  | .clusterDue c => decide (c < 256)
  | .clusterBorrowed c => decide (c < 256)
  | .migrationStart c => decide (c < 256)
  | .migrationDone c => decide (c < 256)
  | .migrationHoldRelease c => decide (c < 256)
  | .migrationRetry c => decide (c < 256)
  | .testKernelDone ph _ _ => decide (ph < 288)
  | .clusterReplace c => decide (c < 256)
  | .rotationRecordWrite ph => decide (ph < 288)
  | .powerSample watts => decide (watts < 65536)
  | .dividerSwitch => true
  | .admissionResume => true
  | .thermalSample degC => decide (degC < 256)
  | .thermalStopEnd => true
  | .enRise => true
  | .enFall => true
  | .vinOutOfRange dv => decide (dv < 65536)
  | .powerUpRestart => true
  | .powerGood _ => true
  | .sysRstNAssert => true
  | .sysRstNDeassert => true
  | .bootRom _ _ => true
  | .bootImage => true
  | .bootInit => true
  | .bootMemory ms => decide (ms < 2 ^ 32)
  | .psecWrite => true
  | .jtagBypass => true
  | .jtagIdcode => true
  | .jtagSamplePreload => true
  | .jtagExtest => true
  | .jtagClamp => true
  | .portConfigReady p => decide (p < 4)
  | .pcieLinkUp p speed width => decide (p < 4) && decide (1 ≤ speed) && decide (speed ≤ 7) && [1, 2, 4, 8].contains width
  | .vin48InRange => true
  | .instrumentAccess q => q.wf

/-- What a command's place numbers name: cores (R24), logical clusters (R17), host ports (R381), link ports (R312). -/
inductive Site where
  | core | cluster | hostPort | linkPort
  deriving DecidableEq, Repr

/-- How many of them the device has. -/
def Site.count : Site → Nat
  | .core => 2048
  | .cluster => 256
  | .hostPort => 4
  | .linkPort => 8

/-- The places that a command names. -/
def Instr.sites : Instr → List (Site × Nat)
  | .lit d _ => [(.core, d)]
  | .ext d _ => [(.core, d)]
  | .dup d => [(.core, d)]
  | .drop d => [(.core, d)]
  | .swap d => [(.core, d)]
  | .over d => [(.core, d)]
  | .rot d => [(.core, d)]
  | .nip d => [(.core, d)]
  | .tuck d => [(.core, d)]
  | .pick d => [(.core, d)]
  | .tor d => [(.core, d)]
  | .fromr d => [(.core, d)]
  | .rfetch d => [(.core, d)]
  | .depth d => [(.core, d)]
  | .add d => [(.core, d)]
  | .sub d => [(.core, d)]
  | .mul d => [(.core, d)]
  | .mulhs d => [(.core, d)]
  | .mulhu d => [(.core, d)]
  | .divs d => [(.core, d)]
  | .divu d => [(.core, d)]
  | .rems d => [(.core, d)]
  | .remu d => [(.core, d)]
  | .neg d => [(.core, d)]
  | .band d => [(.core, d)]
  | .bor d => [(.core, d)]
  | .bxor d => [(.core, d)]
  | .bnot d => [(.core, d)]
  | .shl d => [(.core, d)]
  | .shr d => [(.core, d)]
  | .sar d => [(.core, d)]
  | .eq d => [(.core, d)]
  | .ne d => [(.core, d)]
  | .lts d => [(.core, d)]
  | .ltu d => [(.core, d)]
  | .les d => [(.core, d)]
  | .leu d => [(.core, d)]
  | .eqz d => [(.core, d)]
  | .sel d => [(.core, d)]
  | .fadd d => [(.core, d)]
  | .fsub d => [(.core, d)]
  | .fmul d => [(.core, d)]
  | .fdiv d => [(.core, d)]
  | .fmax d => [(.core, d)]
  | .fmin d => [(.core, d)]
  | .fsqrt d => [(.core, d)]
  | .flt d => [(.core, d)]
  | .fle d => [(.core, d)]
  | .feq d => [(.core, d)]
  | .cvtif d => [(.core, d)]
  | .cvtfi d => [(.core, d)]
  | .ld8u d => [(.core, d)]
  | .ld8s d => [(.core, d)]
  | .ld16u d => [(.core, d)]
  | .ld16s d => [(.core, d)]
  | .ld32u d => [(.core, d)]
  | .ld32s d => [(.core, d)]
  | .ld64 d => [(.core, d)]
  | .st8 d => [(.core, d)]
  | .st16 d => [(.core, d)]
  | .st32 d => [(.core, d)]
  | .st64 d => [(.core, d)]
  | .lld8u d => [(.core, d)]
  | .lld8s d => [(.core, d)]
  | .lld16u d => [(.core, d)]
  | .lld16s d => [(.core, d)]
  | .lld32u d => [(.core, d)]
  | .lld32s d => [(.core, d)]
  | .lld64 d => [(.core, d)]
  | .lst8 d => [(.core, d)]
  | .lst16 d => [(.core, d)]
  | .lst32 d => [(.core, d)]
  | .lst64 d => [(.core, d)]
  | .lldi d _ => [(.core, d)]
  | .lsti d _ => [(.core, d)]
  | .brz d _ => [(.core, d)]
  | .call d _ => [(.core, d)]
  | .loop d _ => [(.core, d)]
  | .mxq d => [(.core, d)]
  | .seqEnq d => [(.core, d)]
  | .qwait d => [(.core, d)]
  | .qtest d => [(.core, d)]
  | .ret d => [(.core, d)]
  | .rte d => [(.core, d)]
  | .jmpi d => [(.core, d)]
  | .calli d => [(.core, d)]
  | .lexit d => [(.core, d)]
  | .lcnt d => [(.core, d)]
  | .moder d => [(.core, d)]
  | .modew d => [(.core, d)]
  | .dcinv d => [(.core, d)]
  | .dcinvl d => [(.core, d)]
  | .icinv d => [(.core, d)]
  | .fence d => [(.core, d)]
  | .atw d => [(.core, d)]
  | .atwc d => [(.core, d)]
  | .ecall d => [(.core, d)]
  | .wfi d => [(.core, d)]
  | .kend d => [(.core, d)]
  | .nop d => [(.core, d)]
  | .illegalInstr d _ => [(.core, d)]
  | .vadd d => [(.core, d)]
  | .vsub d => [(.core, d)]
  | .vmul d => [(.core, d)]
  | .vdiv d => [(.core, d)]
  | .vmax d => [(.core, d)]
  | .vmin d => [(.core, d)]
  | .vfma d => [(.core, d)]
  | .vadds d => [(.core, d)]
  | .vmuls d => [(.core, d)]
  | .vmaxs d => [(.core, d)]
  | .vmins d => [(.core, d)]
  | .vabs d => [(.core, d)]
  | .vneg d => [(.core, d)]
  | .vsqrt d => [(.core, d)]
  | .vrsqrt d => [(.core, d)]
  | .vexp d => [(.core, d)]
  | .vlog d => [(.core, d)]
  | .vtanh d => [(.core, d)]
  | .vsig d => [(.core, d)]
  | .vcmpEq d => [(.core, d)]
  | .vcmpNe d => [(.core, d)]
  | .vcmpLt d => [(.core, d)]
  | .vcmpLe d => [(.core, d)]
  | .vcmpGt d => [(.core, d)]
  | .vcmpGe d => [(.core, d)]
  | .vmand d => [(.core, d)]
  | .vmor d => [(.core, d)]
  | .vmxor d => [(.core, d)]
  | .vmandn d => [(.core, d)]
  | .vmset d => [(.core, d)]
  | .vcvt d => [(.core, d)]
  | .vqmx d => [(.core, d)]
  | .vsetvl d => [(.core, d)]
  | .vgetvl d => [(.core, d)]
  | .vchain d => [(.core, d)]
  | .vld d => [(.core, d)]
  | .vst d => [(.core, d)]
  | .vlds d => [(.core, d)]
  | .vsts d => [(.core, d)]
  | .vgather d => [(.core, d)]
  | .vscatter d => [(.core, d)]
  | .vldff d => [(.core, d)]
  | .vgatherff d => [(.core, d)]
  | .vocld d => [(.core, d)]
  | .vocst d => [(.core, d)]
  | .ocfill d => [(.core, d)]
  | .ocbind d => [(.core, d)]
  | .ocwb d => [(.core, d)]
  | .ocevict d => [(.core, d)]
  | .ocsync d => [(.core, d)]
  | .vfold d => [(.core, d)]
  | .vswadd d => [(.core, d)]
  | .vswrd d => [(.core, d)]
  | .vswrdc d => [(.core, d)]
  | .vrsum d => [(.core, d)]
  | .vrprod d => [(.core, d)]
  | .vrmax d => [(.core, d)]
  | .vrmin d => [(.core, d)]
  | .vcount d => [(.core, d)]
  | .vany d => [(.core, d)]
  | .vall d => [(.core, d)]
  | .vfirst d => [(.core, d)]
  | .vrsw d => [(.core, d)]
  | .resultFill d => [(.core, d)]
  | .reductionResult d => [(.core, d)]
  | .stackRefill d _ => [(.core, d)]
  | .dcacheFill d _ => [(.core, d)]
  | .icacheFill d _ => [(.core, d)]
  | .controlLoadReturn d => [(.core, d)]
  | .storeAck d => [(.core, d)]
  | .vectorLoadArrive d => [(.core, d)]
  | .ocFillDone d _ => [(.core, d)]
  | .ocWritebackAck d _ => [(.core, d)]
  | .exceptionEntry d => [(.core, d)]
  | .atomicWindowExpire d => [(.core, d)]
  | .wfiWake d => [(.core, d)]
  | .abortTimeout d => [(.core, d)]
  | .softPost d _ => [(.core, d)]
  | .ticketEnqueue d _ => [(.core, d)]
  | .ticketComplete d _ => [(.core, d)]
  | .mxMatmul c => [(.cluster, c)]
  | .mxExtAlone c => [(.cluster, c)]
  | .mxRowEnter c => [(.cluster, c)]
  | .mxPassBoundary c => [(.cluster, c)]
  | .windrowCompare c _ _ _ => [(.cluster, c)]
  | .windrowVote c _ _ _ _ _ => [(.cluster, c)]
  | .mxTileDrainDone c => [(.cluster, c)]
  | .mxCommandEnd c => [(.cluster, c)]
  | .fadd32 p _ _ _ _ => [(.hostPort, p)]
  | .fadd64 p _ _ _ _ => [(.hostPort, p)]
  | .iadd64 p _ _ _ _ => [(.hostPort, p)]
  | .swaddF64 p _ _ _ _ => [(.hostPort, p)]
  | .swaddF32 p _ _ _ _ => [(.hostPort, p)]
  | .swaddBf16 p _ _ _ _ => [(.hostPort, p)]
  | .swaddCell p _ _ _ _ _ => [(.hostPort, p)]
  | .swrd p _ _ => [(.hostPort, p)]
  | .swrdClr p _ _ => [(.hostPort, p)]
  | .registerWrite _ _ _ _ => []
  | .rgnArm p _ _ => [(.hostPort, p)]
  | .rgnArmDone p _ => [(.hostPort, p)]
  | .rgnDisarm p _ => [(.hostPort, p)]
  | .rgnDisarmDone p _ => [(.hostPort, p)]
  | .sbArm p _ _ => [(.hostPort, p)]
  | .sbArmDone p _ => [(.hostPort, p)]
  | .sbDisarm p _ => [(.hostPort, p)]
  | .winArm p _ _ => [(.hostPort, p)]
  | .winArmDone p _ => [(.hostPort, p)]
  | .winDisarm p _ => [(.hostPort, p)]
  | .b2WinArm p _ _ => [(.hostPort, p)]
  | .b2WinArmDone p _ => [(.hostPort, p)]
  | .b2WinDisarm p _ => [(.hostPort, p)]
  | .scrubRead _ => []
  | .correctedWriteback _ => []
  | .spareCopyDone _ _ => []
  | .granuleCopyDone _ => []
  | .pprDone _ => []
  | .pprTimeout _ => []
  | .ddrGranuleCopyDone _ => []
  | .repairRecordWrite => []
  | .beatReplay c _ _ => [(.cluster, c)]
  | .bondErased c _ => [(.cluster, c)]
  | .d2dLaneRepaired _ _ => []
  | .ddrRefresh _ _ => []
  | .ddrTempRead _ _ => []
  | .ddrRetrainStep _ => []
  | .channelScan => []
  | .channelAbortDone _ => []
  | .commandRecordCopy _ => []
  | .commandDispatch _ => []
  | .kernelAccept _ => []
  | .kernelStart _ => []
  | .kernelComplete _ => []
  | .seList c => [(.cluster, c)]
  | .barArm _ => []
  | .nopCommand _ => []
  | .commandCompletion _ => []
  | .progressWatchdogExpire _ => []
  | .descriptorFetch c => [(.cluster, c)]
  | .slotGrant c => [(.cluster, c)]
  | .streamCopy c => [(.cluster, c)]
  | .streamFill c => [(.cluster, c)]
  | .streamFold c => [(.cluster, c)]
  | .streamBcast c => [(.cluster, c)]
  | .streamSwread c => [(.cluster, c)]
  | .cvReread c => [(.cluster, c)]
  | .descriptorDone c => [(.cluster, c)]
  | .movedNack c => [(.cluster, c)]
  | .staleNack c => [(.cluster, c)]
  | .hostReadFail _ _ => []
  | .lkXfer _ => []
  | .lkColl _ => []
  | .lkMcast _ => []
  | .lkVote _ => []
  | .lkExpel _ => []
  | .linkContextGrant _ => []
  | .remoteWriteFrame k _ => [(.linkPort, k)]
  | .remoteFoldFrame k _ => [(.linkPort, k)]
  | .readRequest k _ => [(.linkPort, k)]
  | .readResponse k _ => [(.linkPort, k)]
  | .collectiveFrame k _ => [(.linkPort, k)]
  | .voteFrame k _ => [(.linkPort, k)]
  | .ackFrame k _ => [(.linkPort, k)]
  | .nackFrame k _ => [(.linkPort, k)]
  | .noticeFrame k _ => [(.linkPort, k)]
  | .abortFrame k _ => [(.linkPort, k)]
  | .keepaliveFrame k _ => [(.linkPort, k)]
  | .helloExchange k _ _ => [(.linkPort, k)]
  | .ackTimer _ => []
  | .retransmissionTimeout _ => []
  | .keepaliveSend _ => []
  | .peerSilence _ => []
  | .lagLimitExpire _ _ => []
  | .noticeSend => []
  | .pfcFrame k _ _ => [(.linkPort, k)]
  | .pfcWatchdog k _ => [(.linkPort, k)]
  | .linkDrops k => [(.linkPort, k)]
  | .partnerEntryWrite p _ => [(.hostPort, p)]
  | .partnerEntryRead p _ => [(.hostPort, p)]
  | .expelPartner p _ => [(.hostPort, p)]
  | .keyLoad p _ => [(.hostPort, p)]
  | .portEnable k => [(.linkPort, k)]
  | .equaliserTrained k => [(.linkPort, k)]
  | .laneDeskewDone k => [(.linkPort, k)]
  | .trainingTimeout k => [(.linkPort, k)]
  | .helloRetry k => [(.linkPort, k)]
  | .autoNegotiation k _ => [(.linkPort, k)]
  | .laneRecalTrigger k _ => [(.linkPort, k)]
  | .degradeFlit k => [(.linkPort, k)]
  | .laneRecalDone k _ => [(.linkPort, k)]
  | .perstAssert p => [(.hostPort, p)]
  | .perstDeassert p => [(.hostPort, p)]
  | .hotReset p => [(.hostPort, p)]
  | .dataLinkDown p => [(.hostPort, p)]
  | .functionLevelReset p => [(.hostPort, p)]
  | .vfFunctionLevelReset p _ => [(.hostPort, p)]
  | .presetIdle p => [(.hostPort, p)]
  | .presetCleared p => [(.hostPort, p)]
  | .presetEraseDone p => [(.hostPort, p)]
  | .partitionResetFail p => [(.hostPort, p)]
  | .configRequest p _ => [(.hostPort, p)]
  | .d3hotEntry p _ => [(.hostPort, p)]
  | .d0Return p _ => [(.hostPort, p)]
  | .bar2Read p _ _ => [(.hostPort, p)]
  | .bar2Write p _ _ _ => [(.hostPort, p)]
  | .ideKm p _ => [(.hostPort, p)]
  | .ideInsecure p _ => [(.hostPort, p)]
  | .spdmRequest p _ => [(.hostPort, p)]
  | .getId p => [(.hostPort, p)]
  | .attest p => [(.hostPort, p)]
  | .imageBegin p => [(.hostPort, p)]
  | .imageWrite p => [(.hostPort, p)]
  | .imageCommit p => [(.hostPort, p)]
  | .imageApply p => [(.hostPort, p)]
  | .policyQuiesceApply => []
  | .monitorInPlace c => [(.cluster, c)]
  | .plannedSwitchover => []
  | .applyComplete => []
  | .mailboxResponse p => [(.hostPort, p)]
  | .tokenDebug p => [(.hostPort, p)]
  | .tokenRelease p => [(.hostPort, p)]
  | .tokenVendorReturn p => [(.hostPort, p)]
  | .tokenProvision p => [(.hostPort, p)]
  | .tokenScrap p => [(.hostPort, p)]
  | .tokenSvn p => [(.hostPort, p)]
  | .tokenRevoke p => [(.hostPort, p)]
  | .retArmExpire => []
  | .debugExpire => []
  | .debugHaltRequest d => [(.core, d)]
  | .lifecycleReset => []
  | .entdaa _ => []
  | .setdasa _ _ => []
  | .mctpControl _ _ => []
  | .getTid => []
  | .getPldmVersion => []
  | .getPldmTypes => []
  | .getPldmCommands => []
  | .getPdrRepositoryInfo => []
  | .getPdr _ => []
  | .getSensorReading _ => []
  | .getStateSensorReadings _ => []
  | .sensorRefresh _ => []
  | .mgmtStatus => []
  | .mgmtLogRead _ _ => []
  | .mgmtLogAck _ => []
  | .rotSuspend => []
  | .rotResume => []
  | .pvAck p _ => [(.hostPort, p)]
  | .lockstepMismatch _ => []
  | .standbyTakeover => []
  | .clockFault _ => []
  | .supplyFault _ => []
  | .recoveryActionStart => []
  | .clusterDue c => [(.cluster, c)]
  | .clusterBorrowed c => [(.cluster, c)]
  | .migrationStart c => [(.cluster, c)]
  | .migrationDone c => [(.cluster, c)]
  | .migrationHoldRelease c => [(.cluster, c)]
  | .migrationRetry c => [(.cluster, c)]
  | .testKernelDone _ _ _ => []
  | .clusterReplace c => [(.cluster, c)]
  | .rotationRecordWrite _ => []
  | .powerSample _ => []
  | .dividerSwitch => []
  | .admissionResume => []
  | .thermalSample _ => []
  | .thermalStopEnd => []
  | .enRise => []
  | .enFall => []
  | .vinOutOfRange _ => []
  | .powerUpRestart => []
  | .powerGood _ => []
  | .sysRstNAssert => []
  | .sysRstNDeassert => []
  | .bootRom _ _ => []
  | .bootImage => []
  | .bootInit => []
  | .bootMemory _ => []
  | .psecWrite => []
  | .jtagBypass => []
  | .jtagIdcode => []
  | .jtagSamplePreload => []
  | .jtagExtest => []
  | .jtagClamp => []
  | .portConfigReady p => [(.hostPort, p)]
  | .pcieLinkUp p _ _ => [(.hostPort, p)]
  | .vin48InRange => []
  | .instrumentAccess _ => []

end Sys2Proof
end

