-- ==== Sys2Proof/Laws/PerInstr.lean ====
section
/-! SUPPORT. Laws of each command as syntax: the places that a well-formed command names exist. -/



namespace Sys2Proof.Laws

set_option Elab.async false
set_option linter.unusedSimpArgs false

/-- Every place of a well-formed command is one that the device has. -/
def Sites.Statement (i : Instr) : Prop := i.wf = true → ∀ q ∈ i.sites, q.2 < q.1.count

theorem Sites.lit (d : Nat) (imm : BitVec 12) : Sites.Statement (.lit d imm) := by
  intro h q hq; simp_all [Instr.wf, Instr.sites, Site.count]
theorem Sites.ext (d : Nat) (imm : BitVec 12) : Sites.Statement (.ext d imm) := by
  intro h q hq; simp_all [Instr.wf, Instr.sites, Site.count]
theorem Sites.dup (d : Nat) : Sites.Statement (.dup d) := by
  intro h q hq; simp_all [Instr.wf, Instr.sites, Site.count]
theorem Sites.drop (d : Nat) : Sites.Statement (.drop d) := by
  intro h q hq; simp_all [Instr.wf, Instr.sites, Site.count]
theorem Sites.swap (d : Nat) : Sites.Statement (.swap d) := by
  intro h q hq; simp_all [Instr.wf, Instr.sites, Site.count]
theorem Sites.over (d : Nat) : Sites.Statement (.over d) := by
  intro h q hq; simp_all [Instr.wf, Instr.sites, Site.count]
theorem Sites.rot (d : Nat) : Sites.Statement (.rot d) := by
  intro h q hq; simp_all [Instr.wf, Instr.sites, Site.count]
theorem Sites.nip (d : Nat) : Sites.Statement (.nip d) := by
  intro h q hq; simp_all [Instr.wf, Instr.sites, Site.count]
theorem Sites.tuck (d : Nat) : Sites.Statement (.tuck d) := by
  intro h q hq; simp_all [Instr.wf, Instr.sites, Site.count]
theorem Sites.pick (d : Nat) : Sites.Statement (.pick d) := by
  intro h q hq; simp_all [Instr.wf, Instr.sites, Site.count]
theorem Sites.tor (d : Nat) : Sites.Statement (.tor d) := by
  intro h q hq; simp_all [Instr.wf, Instr.sites, Site.count]
theorem Sites.fromr (d : Nat) : Sites.Statement (.fromr d) := by
  intro h q hq; simp_all [Instr.wf, Instr.sites, Site.count]
theorem Sites.rfetch (d : Nat) : Sites.Statement (.rfetch d) := by
  intro h q hq; simp_all [Instr.wf, Instr.sites, Site.count]
theorem Sites.depth (d : Nat) : Sites.Statement (.depth d) := by
  intro h q hq; simp_all [Instr.wf, Instr.sites, Site.count]
theorem Sites.add (d : Nat) : Sites.Statement (.add d) := by
  intro h q hq; simp_all [Instr.wf, Instr.sites, Site.count]
theorem Sites.sub (d : Nat) : Sites.Statement (.sub d) := by
  intro h q hq; simp_all [Instr.wf, Instr.sites, Site.count]
theorem Sites.mul (d : Nat) : Sites.Statement (.mul d) := by
  intro h q hq; simp_all [Instr.wf, Instr.sites, Site.count]
theorem Sites.mulhs (d : Nat) : Sites.Statement (.mulhs d) := by
  intro h q hq; simp_all [Instr.wf, Instr.sites, Site.count]
theorem Sites.mulhu (d : Nat) : Sites.Statement (.mulhu d) := by
  intro h q hq; simp_all [Instr.wf, Instr.sites, Site.count]
theorem Sites.divs (d : Nat) : Sites.Statement (.divs d) := by
  intro h q hq; simp_all [Instr.wf, Instr.sites, Site.count]
theorem Sites.divu (d : Nat) : Sites.Statement (.divu d) := by
  intro h q hq; simp_all [Instr.wf, Instr.sites, Site.count]
theorem Sites.rems (d : Nat) : Sites.Statement (.rems d) := by
  intro h q hq; simp_all [Instr.wf, Instr.sites, Site.count]
theorem Sites.remu (d : Nat) : Sites.Statement (.remu d) := by
  intro h q hq; simp_all [Instr.wf, Instr.sites, Site.count]
theorem Sites.neg (d : Nat) : Sites.Statement (.neg d) := by
  intro h q hq; simp_all [Instr.wf, Instr.sites, Site.count]
theorem Sites.band (d : Nat) : Sites.Statement (.band d) := by
  intro h q hq; simp_all [Instr.wf, Instr.sites, Site.count]
theorem Sites.bor (d : Nat) : Sites.Statement (.bor d) := by
  intro h q hq; simp_all [Instr.wf, Instr.sites, Site.count]
theorem Sites.bxor (d : Nat) : Sites.Statement (.bxor d) := by
  intro h q hq; simp_all [Instr.wf, Instr.sites, Site.count]
theorem Sites.bnot (d : Nat) : Sites.Statement (.bnot d) := by
  intro h q hq; simp_all [Instr.wf, Instr.sites, Site.count]
theorem Sites.shl (d : Nat) : Sites.Statement (.shl d) := by
  intro h q hq; simp_all [Instr.wf, Instr.sites, Site.count]
theorem Sites.shr (d : Nat) : Sites.Statement (.shr d) := by
  intro h q hq; simp_all [Instr.wf, Instr.sites, Site.count]
theorem Sites.sar (d : Nat) : Sites.Statement (.sar d) := by
  intro h q hq; simp_all [Instr.wf, Instr.sites, Site.count]
theorem Sites.eq (d : Nat) : Sites.Statement (.eq d) := by
  intro h q hq; simp_all [Instr.wf, Instr.sites, Site.count]
theorem Sites.ne (d : Nat) : Sites.Statement (.ne d) := by
  intro h q hq; simp_all [Instr.wf, Instr.sites, Site.count]
theorem Sites.lts (d : Nat) : Sites.Statement (.lts d) := by
  intro h q hq; simp_all [Instr.wf, Instr.sites, Site.count]
theorem Sites.ltu (d : Nat) : Sites.Statement (.ltu d) := by
  intro h q hq; simp_all [Instr.wf, Instr.sites, Site.count]
theorem Sites.les (d : Nat) : Sites.Statement (.les d) := by
  intro h q hq; simp_all [Instr.wf, Instr.sites, Site.count]
theorem Sites.leu (d : Nat) : Sites.Statement (.leu d) := by
  intro h q hq; simp_all [Instr.wf, Instr.sites, Site.count]
theorem Sites.eqz (d : Nat) : Sites.Statement (.eqz d) := by
  intro h q hq; simp_all [Instr.wf, Instr.sites, Site.count]
theorem Sites.sel (d : Nat) : Sites.Statement (.sel d) := by
  intro h q hq; simp_all [Instr.wf, Instr.sites, Site.count]
theorem Sites.fadd (d : Nat) : Sites.Statement (.fadd d) := by
  intro h q hq; simp_all [Instr.wf, Instr.sites, Site.count]
theorem Sites.fsub (d : Nat) : Sites.Statement (.fsub d) := by
  intro h q hq; simp_all [Instr.wf, Instr.sites, Site.count]
theorem Sites.fmul (d : Nat) : Sites.Statement (.fmul d) := by
  intro h q hq; simp_all [Instr.wf, Instr.sites, Site.count]
theorem Sites.fdiv (d : Nat) : Sites.Statement (.fdiv d) := by
  intro h q hq; simp_all [Instr.wf, Instr.sites, Site.count]
theorem Sites.fmax (d : Nat) : Sites.Statement (.fmax d) := by
  intro h q hq; simp_all [Instr.wf, Instr.sites, Site.count]
theorem Sites.fmin (d : Nat) : Sites.Statement (.fmin d) := by
  intro h q hq; simp_all [Instr.wf, Instr.sites, Site.count]
theorem Sites.fsqrt (d : Nat) : Sites.Statement (.fsqrt d) := by
  intro h q hq; simp_all [Instr.wf, Instr.sites, Site.count]
theorem Sites.flt (d : Nat) : Sites.Statement (.flt d) := by
  intro h q hq; simp_all [Instr.wf, Instr.sites, Site.count]
theorem Sites.fle (d : Nat) : Sites.Statement (.fle d) := by
  intro h q hq; simp_all [Instr.wf, Instr.sites, Site.count]
theorem Sites.feq (d : Nat) : Sites.Statement (.feq d) := by
  intro h q hq; simp_all [Instr.wf, Instr.sites, Site.count]
theorem Sites.cvtif (d : Nat) : Sites.Statement (.cvtif d) := by
  intro h q hq; simp_all [Instr.wf, Instr.sites, Site.count]
theorem Sites.cvtfi (d : Nat) : Sites.Statement (.cvtfi d) := by
  intro h q hq; simp_all [Instr.wf, Instr.sites, Site.count]
theorem Sites.ld8u (d : Nat) : Sites.Statement (.ld8u d) := by
  intro h q hq; simp_all [Instr.wf, Instr.sites, Site.count]
theorem Sites.ld8s (d : Nat) : Sites.Statement (.ld8s d) := by
  intro h q hq; simp_all [Instr.wf, Instr.sites, Site.count]
theorem Sites.ld16u (d : Nat) : Sites.Statement (.ld16u d) := by
  intro h q hq; simp_all [Instr.wf, Instr.sites, Site.count]
theorem Sites.ld16s (d : Nat) : Sites.Statement (.ld16s d) := by
  intro h q hq; simp_all [Instr.wf, Instr.sites, Site.count]
theorem Sites.ld32u (d : Nat) : Sites.Statement (.ld32u d) := by
  intro h q hq; simp_all [Instr.wf, Instr.sites, Site.count]
theorem Sites.ld32s (d : Nat) : Sites.Statement (.ld32s d) := by
  intro h q hq; simp_all [Instr.wf, Instr.sites, Site.count]
theorem Sites.ld64 (d : Nat) : Sites.Statement (.ld64 d) := by
  intro h q hq; simp_all [Instr.wf, Instr.sites, Site.count]
theorem Sites.st8 (d : Nat) : Sites.Statement (.st8 d) := by
  intro h q hq; simp_all [Instr.wf, Instr.sites, Site.count]
theorem Sites.st16 (d : Nat) : Sites.Statement (.st16 d) := by
  intro h q hq; simp_all [Instr.wf, Instr.sites, Site.count]
theorem Sites.st32 (d : Nat) : Sites.Statement (.st32 d) := by
  intro h q hq; simp_all [Instr.wf, Instr.sites, Site.count]
theorem Sites.st64 (d : Nat) : Sites.Statement (.st64 d) := by
  intro h q hq; simp_all [Instr.wf, Instr.sites, Site.count]
theorem Sites.lld8u (d : Nat) : Sites.Statement (.lld8u d) := by
  intro h q hq; simp_all [Instr.wf, Instr.sites, Site.count]
theorem Sites.lld8s (d : Nat) : Sites.Statement (.lld8s d) := by
  intro h q hq; simp_all [Instr.wf, Instr.sites, Site.count]
theorem Sites.lld16u (d : Nat) : Sites.Statement (.lld16u d) := by
  intro h q hq; simp_all [Instr.wf, Instr.sites, Site.count]
theorem Sites.lld16s (d : Nat) : Sites.Statement (.lld16s d) := by
  intro h q hq; simp_all [Instr.wf, Instr.sites, Site.count]
theorem Sites.lld32u (d : Nat) : Sites.Statement (.lld32u d) := by
  intro h q hq; simp_all [Instr.wf, Instr.sites, Site.count]
theorem Sites.lld32s (d : Nat) : Sites.Statement (.lld32s d) := by
  intro h q hq; simp_all [Instr.wf, Instr.sites, Site.count]
theorem Sites.lld64 (d : Nat) : Sites.Statement (.lld64 d) := by
  intro h q hq; simp_all [Instr.wf, Instr.sites, Site.count]
theorem Sites.lst8 (d : Nat) : Sites.Statement (.lst8 d) := by
  intro h q hq; simp_all [Instr.wf, Instr.sites, Site.count]
theorem Sites.lst16 (d : Nat) : Sites.Statement (.lst16 d) := by
  intro h q hq; simp_all [Instr.wf, Instr.sites, Site.count]
theorem Sites.lst32 (d : Nat) : Sites.Statement (.lst32 d) := by
  intro h q hq; simp_all [Instr.wf, Instr.sites, Site.count]
theorem Sites.lst64 (d : Nat) : Sites.Statement (.lst64 d) := by
  intro h q hq; simp_all [Instr.wf, Instr.sites, Site.count]
theorem Sites.lldi (d : Nat) (imm : BitVec 10) : Sites.Statement (.lldi d imm) := by
  intro h q hq; simp_all [Instr.wf, Instr.sites, Site.count]
theorem Sites.lsti (d : Nat) (imm : BitVec 10) : Sites.Statement (.lsti d imm) := by
  intro h q hq; simp_all [Instr.wf, Instr.sites, Site.count]
theorem Sites.brz (d : Nat) (imm : BitVec 12) : Sites.Statement (.brz d imm) := by
  intro h q hq; simp_all [Instr.wf, Instr.sites, Site.count]
theorem Sites.call (d : Nat) (imm : BitVec 12) : Sites.Statement (.call d imm) := by
  intro h q hq; simp_all [Instr.wf, Instr.sites, Site.count]
theorem Sites.loop (d : Nat) (imm : BitVec 12) : Sites.Statement (.loop d imm) := by
  intro h q hq; simp_all [Instr.wf, Instr.sites, Site.count]
theorem Sites.mxq (d : Nat) : Sites.Statement (.mxq d) := by
  intro h q hq; simp_all [Instr.wf, Instr.sites, Site.count]
theorem Sites.seqEnq (d : Nat) : Sites.Statement (.seqEnq d) := by
  intro h q hq; simp_all [Instr.wf, Instr.sites, Site.count]
theorem Sites.qwait (d : Nat) : Sites.Statement (.qwait d) := by
  intro h q hq; simp_all [Instr.wf, Instr.sites, Site.count]
theorem Sites.qtest (d : Nat) : Sites.Statement (.qtest d) := by
  intro h q hq; simp_all [Instr.wf, Instr.sites, Site.count]
theorem Sites.ret (d : Nat) : Sites.Statement (.ret d) := by
  intro h q hq; simp_all [Instr.wf, Instr.sites, Site.count]
theorem Sites.rte (d : Nat) : Sites.Statement (.rte d) := by
  intro h q hq; simp_all [Instr.wf, Instr.sites, Site.count]
theorem Sites.jmpi (d : Nat) : Sites.Statement (.jmpi d) := by
  intro h q hq; simp_all [Instr.wf, Instr.sites, Site.count]
theorem Sites.calli (d : Nat) : Sites.Statement (.calli d) := by
  intro h q hq; simp_all [Instr.wf, Instr.sites, Site.count]
theorem Sites.lexit (d : Nat) : Sites.Statement (.lexit d) := by
  intro h q hq; simp_all [Instr.wf, Instr.sites, Site.count]
theorem Sites.lcnt (d : Nat) : Sites.Statement (.lcnt d) := by
  intro h q hq; simp_all [Instr.wf, Instr.sites, Site.count]
theorem Sites.moder (d : Nat) : Sites.Statement (.moder d) := by
  intro h q hq; simp_all [Instr.wf, Instr.sites, Site.count]
theorem Sites.modew (d : Nat) : Sites.Statement (.modew d) := by
  intro h q hq; simp_all [Instr.wf, Instr.sites, Site.count]
theorem Sites.dcinv (d : Nat) : Sites.Statement (.dcinv d) := by
  intro h q hq; simp_all [Instr.wf, Instr.sites, Site.count]
theorem Sites.dcinvl (d : Nat) : Sites.Statement (.dcinvl d) := by
  intro h q hq; simp_all [Instr.wf, Instr.sites, Site.count]
theorem Sites.icinv (d : Nat) : Sites.Statement (.icinv d) := by
  intro h q hq; simp_all [Instr.wf, Instr.sites, Site.count]
theorem Sites.fence (d : Nat) : Sites.Statement (.fence d) := by
  intro h q hq; simp_all [Instr.wf, Instr.sites, Site.count]
theorem Sites.atw (d : Nat) : Sites.Statement (.atw d) := by
  intro h q hq; simp_all [Instr.wf, Instr.sites, Site.count]
theorem Sites.atwc (d : Nat) : Sites.Statement (.atwc d) := by
  intro h q hq; simp_all [Instr.wf, Instr.sites, Site.count]
theorem Sites.ecall (d : Nat) : Sites.Statement (.ecall d) := by
  intro h q hq; simp_all [Instr.wf, Instr.sites, Site.count]
theorem Sites.wfi (d : Nat) : Sites.Statement (.wfi d) := by
  intro h q hq; simp_all [Instr.wf, Instr.sites, Site.count]
theorem Sites.kend (d : Nat) : Sites.Statement (.kend d) := by
  intro h q hq; simp_all [Instr.wf, Instr.sites, Site.count]
theorem Sites.nop (d : Nat) : Sites.Statement (.nop d) := by
  intro h q hq; simp_all [Instr.wf, Instr.sites, Site.count]
theorem Sites.illegalInstr (d : Nat) (imm : BitVec 16) : Sites.Statement (.illegalInstr d imm) := by
  intro h q hq; simp_all [Instr.wf, Instr.sites, Site.count]
theorem Sites.vadd (d : Nat) : Sites.Statement (.vadd d) := by
  intro h q hq; simp_all [Instr.wf, Instr.sites, Site.count]
theorem Sites.vsub (d : Nat) : Sites.Statement (.vsub d) := by
  intro h q hq; simp_all [Instr.wf, Instr.sites, Site.count]
theorem Sites.vmul (d : Nat) : Sites.Statement (.vmul d) := by
  intro h q hq; simp_all [Instr.wf, Instr.sites, Site.count]
theorem Sites.vdiv (d : Nat) : Sites.Statement (.vdiv d) := by
  intro h q hq; simp_all [Instr.wf, Instr.sites, Site.count]
theorem Sites.vmax (d : Nat) : Sites.Statement (.vmax d) := by
  intro h q hq; simp_all [Instr.wf, Instr.sites, Site.count]
theorem Sites.vmin (d : Nat) : Sites.Statement (.vmin d) := by
  intro h q hq; simp_all [Instr.wf, Instr.sites, Site.count]
theorem Sites.vfma (d : Nat) : Sites.Statement (.vfma d) := by
  intro h q hq; simp_all [Instr.wf, Instr.sites, Site.count]
theorem Sites.vadds (d : Nat) : Sites.Statement (.vadds d) := by
  intro h q hq; simp_all [Instr.wf, Instr.sites, Site.count]
theorem Sites.vmuls (d : Nat) : Sites.Statement (.vmuls d) := by
  intro h q hq; simp_all [Instr.wf, Instr.sites, Site.count]
theorem Sites.vmaxs (d : Nat) : Sites.Statement (.vmaxs d) := by
  intro h q hq; simp_all [Instr.wf, Instr.sites, Site.count]
theorem Sites.vmins (d : Nat) : Sites.Statement (.vmins d) := by
  intro h q hq; simp_all [Instr.wf, Instr.sites, Site.count]
theorem Sites.vabs (d : Nat) : Sites.Statement (.vabs d) := by
  intro h q hq; simp_all [Instr.wf, Instr.sites, Site.count]
theorem Sites.vneg (d : Nat) : Sites.Statement (.vneg d) := by
  intro h q hq; simp_all [Instr.wf, Instr.sites, Site.count]
theorem Sites.vsqrt (d : Nat) : Sites.Statement (.vsqrt d) := by
  intro h q hq; simp_all [Instr.wf, Instr.sites, Site.count]
theorem Sites.vrsqrt (d : Nat) : Sites.Statement (.vrsqrt d) := by
  intro h q hq; simp_all [Instr.wf, Instr.sites, Site.count]
theorem Sites.vexp (d : Nat) : Sites.Statement (.vexp d) := by
  intro h q hq; simp_all [Instr.wf, Instr.sites, Site.count]
theorem Sites.vlog (d : Nat) : Sites.Statement (.vlog d) := by
  intro h q hq; simp_all [Instr.wf, Instr.sites, Site.count]
theorem Sites.vtanh (d : Nat) : Sites.Statement (.vtanh d) := by
  intro h q hq; simp_all [Instr.wf, Instr.sites, Site.count]
theorem Sites.vsig (d : Nat) : Sites.Statement (.vsig d) := by
  intro h q hq; simp_all [Instr.wf, Instr.sites, Site.count]
theorem Sites.vcmpEq (d : Nat) : Sites.Statement (.vcmpEq d) := by
  intro h q hq; simp_all [Instr.wf, Instr.sites, Site.count]
theorem Sites.vcmpNe (d : Nat) : Sites.Statement (.vcmpNe d) := by
  intro h q hq; simp_all [Instr.wf, Instr.sites, Site.count]
theorem Sites.vcmpLt (d : Nat) : Sites.Statement (.vcmpLt d) := by
  intro h q hq; simp_all [Instr.wf, Instr.sites, Site.count]
theorem Sites.vcmpLe (d : Nat) : Sites.Statement (.vcmpLe d) := by
  intro h q hq; simp_all [Instr.wf, Instr.sites, Site.count]
theorem Sites.vcmpGt (d : Nat) : Sites.Statement (.vcmpGt d) := by
  intro h q hq; simp_all [Instr.wf, Instr.sites, Site.count]
theorem Sites.vcmpGe (d : Nat) : Sites.Statement (.vcmpGe d) := by
  intro h q hq; simp_all [Instr.wf, Instr.sites, Site.count]
theorem Sites.vmand (d : Nat) : Sites.Statement (.vmand d) := by
  intro h q hq; simp_all [Instr.wf, Instr.sites, Site.count]
theorem Sites.vmor (d : Nat) : Sites.Statement (.vmor d) := by
  intro h q hq; simp_all [Instr.wf, Instr.sites, Site.count]
theorem Sites.vmxor (d : Nat) : Sites.Statement (.vmxor d) := by
  intro h q hq; simp_all [Instr.wf, Instr.sites, Site.count]
theorem Sites.vmandn (d : Nat) : Sites.Statement (.vmandn d) := by
  intro h q hq; simp_all [Instr.wf, Instr.sites, Site.count]
theorem Sites.vmset (d : Nat) : Sites.Statement (.vmset d) := by
  intro h q hq; simp_all [Instr.wf, Instr.sites, Site.count]
theorem Sites.vcvt (d : Nat) : Sites.Statement (.vcvt d) := by
  intro h q hq; simp_all [Instr.wf, Instr.sites, Site.count]
theorem Sites.vqmx (d : Nat) : Sites.Statement (.vqmx d) := by
  intro h q hq; simp_all [Instr.wf, Instr.sites, Site.count]
theorem Sites.vsetvl (d : Nat) : Sites.Statement (.vsetvl d) := by
  intro h q hq; simp_all [Instr.wf, Instr.sites, Site.count]
theorem Sites.vgetvl (d : Nat) : Sites.Statement (.vgetvl d) := by
  intro h q hq; simp_all [Instr.wf, Instr.sites, Site.count]
theorem Sites.vchain (d : Nat) : Sites.Statement (.vchain d) := by
  intro h q hq; simp_all [Instr.wf, Instr.sites, Site.count]
theorem Sites.vld (d : Nat) : Sites.Statement (.vld d) := by
  intro h q hq; simp_all [Instr.wf, Instr.sites, Site.count]
theorem Sites.vst (d : Nat) : Sites.Statement (.vst d) := by
  intro h q hq; simp_all [Instr.wf, Instr.sites, Site.count]
theorem Sites.vlds (d : Nat) : Sites.Statement (.vlds d) := by
  intro h q hq; simp_all [Instr.wf, Instr.sites, Site.count]
theorem Sites.vsts (d : Nat) : Sites.Statement (.vsts d) := by
  intro h q hq; simp_all [Instr.wf, Instr.sites, Site.count]
theorem Sites.vgather (d : Nat) : Sites.Statement (.vgather d) := by
  intro h q hq; simp_all [Instr.wf, Instr.sites, Site.count]
theorem Sites.vscatter (d : Nat) : Sites.Statement (.vscatter d) := by
  intro h q hq; simp_all [Instr.wf, Instr.sites, Site.count]
theorem Sites.vldff (d : Nat) : Sites.Statement (.vldff d) := by
  intro h q hq; simp_all [Instr.wf, Instr.sites, Site.count]
theorem Sites.vgatherff (d : Nat) : Sites.Statement (.vgatherff d) := by
  intro h q hq; simp_all [Instr.wf, Instr.sites, Site.count]
theorem Sites.vocld (d : Nat) : Sites.Statement (.vocld d) := by
  intro h q hq; simp_all [Instr.wf, Instr.sites, Site.count]
theorem Sites.vocst (d : Nat) : Sites.Statement (.vocst d) := by
  intro h q hq; simp_all [Instr.wf, Instr.sites, Site.count]
theorem Sites.ocfill (d : Nat) : Sites.Statement (.ocfill d) := by
  intro h q hq; simp_all [Instr.wf, Instr.sites, Site.count]
theorem Sites.ocbind (d : Nat) : Sites.Statement (.ocbind d) := by
  intro h q hq; simp_all [Instr.wf, Instr.sites, Site.count]
theorem Sites.ocwb (d : Nat) : Sites.Statement (.ocwb d) := by
  intro h q hq; simp_all [Instr.wf, Instr.sites, Site.count]
theorem Sites.ocevict (d : Nat) : Sites.Statement (.ocevict d) := by
  intro h q hq; simp_all [Instr.wf, Instr.sites, Site.count]
theorem Sites.ocsync (d : Nat) : Sites.Statement (.ocsync d) := by
  intro h q hq; simp_all [Instr.wf, Instr.sites, Site.count]
theorem Sites.vfold (d : Nat) : Sites.Statement (.vfold d) := by
  intro h q hq; simp_all [Instr.wf, Instr.sites, Site.count]
theorem Sites.vswadd (d : Nat) : Sites.Statement (.vswadd d) := by
  intro h q hq; simp_all [Instr.wf, Instr.sites, Site.count]
theorem Sites.vswrd (d : Nat) : Sites.Statement (.vswrd d) := by
  intro h q hq; simp_all [Instr.wf, Instr.sites, Site.count]
theorem Sites.vswrdc (d : Nat) : Sites.Statement (.vswrdc d) := by
  intro h q hq; simp_all [Instr.wf, Instr.sites, Site.count]
theorem Sites.vrsum (d : Nat) : Sites.Statement (.vrsum d) := by
  intro h q hq; simp_all [Instr.wf, Instr.sites, Site.count]
theorem Sites.vrprod (d : Nat) : Sites.Statement (.vrprod d) := by
  intro h q hq; simp_all [Instr.wf, Instr.sites, Site.count]
theorem Sites.vrmax (d : Nat) : Sites.Statement (.vrmax d) := by
  intro h q hq; simp_all [Instr.wf, Instr.sites, Site.count]
theorem Sites.vrmin (d : Nat) : Sites.Statement (.vrmin d) := by
  intro h q hq; simp_all [Instr.wf, Instr.sites, Site.count]
theorem Sites.vcount (d : Nat) : Sites.Statement (.vcount d) := by
  intro h q hq; simp_all [Instr.wf, Instr.sites, Site.count]
theorem Sites.vany (d : Nat) : Sites.Statement (.vany d) := by
  intro h q hq; simp_all [Instr.wf, Instr.sites, Site.count]
theorem Sites.vall (d : Nat) : Sites.Statement (.vall d) := by
  intro h q hq; simp_all [Instr.wf, Instr.sites, Site.count]
theorem Sites.vfirst (d : Nat) : Sites.Statement (.vfirst d) := by
  intro h q hq; simp_all [Instr.wf, Instr.sites, Site.count]
theorem Sites.vrsw (d : Nat) : Sites.Statement (.vrsw d) := by
  intro h q hq; simp_all [Instr.wf, Instr.sites, Site.count]
theorem Sites.resultFill (d : Nat) : Sites.Statement (.resultFill d) := by
  intro h q hq; simp_all [Instr.wf, Instr.sites, Site.count]
theorem Sites.reductionResult (d : Nat) : Sites.Statement (.reductionResult d) := by
  intro h q hq; simp_all [Instr.wf, Instr.sites, Site.count]
theorem Sites.stackRefill (d : Nat) (ret : Bool) : Sites.Statement (.stackRefill d ret) := by
  intro h q hq; simp_all [Instr.wf, Instr.sites, Site.count]
theorem Sites.dcacheFill (d : Nat) (line : Nat) : Sites.Statement (.dcacheFill d line) := by
  intro h q hq; simp_all [Instr.wf, Instr.sites, Site.count]
theorem Sites.icacheFill (d : Nat) (line : Nat) : Sites.Statement (.icacheFill d line) := by
  intro h q hq; simp_all [Instr.wf, Instr.sites, Site.count]
theorem Sites.controlLoadReturn (d : Nat) : Sites.Statement (.controlLoadReturn d) := by
  intro h q hq; simp_all [Instr.wf, Instr.sites, Site.count]
theorem Sites.storeAck (d : Nat) : Sites.Statement (.storeAck d) := by
  intro h q hq; simp_all [Instr.wf, Instr.sites, Site.count]
theorem Sites.vectorLoadArrive (d : Nat) : Sites.Statement (.vectorLoadArrive d) := by
  intro h q hq; simp_all [Instr.wf, Instr.sites, Site.count]
theorem Sites.ocFillDone (d : Nat) (line : Nat) : Sites.Statement (.ocFillDone d line) := by
  intro h q hq; simp_all [Instr.wf, Instr.sites, Site.count]
theorem Sites.ocWritebackAck (d : Nat) (line : Nat) : Sites.Statement (.ocWritebackAck d line) := by
  intro h q hq; simp_all [Instr.wf, Instr.sites, Site.count]
theorem Sites.exceptionEntry (d : Nat) : Sites.Statement (.exceptionEntry d) := by
  intro h q hq; simp_all [Instr.wf, Instr.sites, Site.count]
theorem Sites.atomicWindowExpire (d : Nat) : Sites.Statement (.atomicWindowExpire d) := by
  intro h q hq; simp_all [Instr.wf, Instr.sites, Site.count]
theorem Sites.wfiWake (d : Nat) : Sites.Statement (.wfiWake d) := by
  intro h q hq; simp_all [Instr.wf, Instr.sites, Site.count]
theorem Sites.abortTimeout (d : Nat) : Sites.Statement (.abortTimeout d) := by
  intro h q hq; simp_all [Instr.wf, Instr.sites, Site.count]
theorem Sites.softPost (d : Nat) (v : BitVec 32) : Sites.Statement (.softPost d v) := by
  intro h q hq; simp_all [Instr.wf, Instr.sites, Site.count]
theorem Sites.ticketEnqueue (d : Nat) (t : Nat) : Sites.Statement (.ticketEnqueue d t) := by
  intro h q hq; simp_all [Instr.wf, Instr.sites, Site.count]
theorem Sites.ticketComplete (d : Nat) (t : Nat) : Sites.Statement (.ticketComplete d t) := by
  intro h q hq; simp_all [Instr.wf, Instr.sites, Site.count]
theorem Sites.mxMatmul (c : Nat) : Sites.Statement (.mxMatmul c) := by
  intro h q hq; simp_all [Instr.wf, Instr.sites, Site.count]
theorem Sites.mxExtAlone (c : Nat) : Sites.Statement (.mxExtAlone c) := by
  intro h q hq; simp_all [Instr.wf, Instr.sites, Site.count]
theorem Sites.mxRowEnter (c : Nat) : Sites.Statement (.mxRowEnter c) := by
  intro h q hq; simp_all [Instr.wf, Instr.sites, Site.count]
theorem Sites.mxPassBoundary (c : Nat) : Sites.Statement (.mxPassBoundary c) := by
  intro h q hq; simp_all [Instr.wf, Instr.sites, Site.count]
theorem Sites.windrowCompare (c : Nat) (col : Nat) (colErr : Dy) (chkErr : Dy) : Sites.Statement (.windrowCompare c col colErr chkErr) := by
  intro h q hq; simp_all [Instr.wf, Instr.sites, Site.count]
theorem Sites.windrowVote (c : Nat) (col1 : Nat) (err1 : Dy) (col2 : Nat) (err2 : Dy) (chkErr : Dy) : Sites.Statement (.windrowVote c col1 err1 col2 err2 chkErr) := by
  intro h q hq; simp_all [Instr.wf, Instr.sites, Site.count]
theorem Sites.mxTileDrainDone (c : Nat) : Sites.Statement (.mxTileDrainDone c) := by
  intro h q hq; simp_all [Instr.wf, Instr.sites, Site.count]
theorem Sites.mxCommandEnd (c : Nat) : Sites.Statement (.mxCommandEnd c) := by
  intro h q hq; simp_all [Instr.wf, Instr.sites, Site.count]
theorem Sites.fadd32 (p : Nat) (a : Nat) (x : BitVec 512) (en : BitVec 16) (psn : BitVec 16) : Sites.Statement (.fadd32 p a x en psn) := by
  intro h q hq; simp_all [Instr.wf, Instr.sites, Site.count]
theorem Sites.fadd64 (p : Nat) (a : Nat) (x : BitVec 512) (en : BitVec 8) (psn : BitVec 8) : Sites.Statement (.fadd64 p a x en psn) := by
  intro h q hq; simp_all [Instr.wf, Instr.sites, Site.count]
theorem Sites.iadd64 (p : Nat) (a : Nat) (x : BitVec 512) (en : BitVec 8) (psn : BitVec 8) : Sites.Statement (.iadd64 p a x en psn) := by
  intro h q hq; simp_all [Instr.wf, Instr.sites, Site.count]
theorem Sites.swaddF64 (p : Nat) (a : Nat) (buf : Nat) (x : BitVec 64) (psn : Bool) : Sites.Statement (.swaddF64 p a buf x psn) := by
  intro h q hq; simp_all [Instr.wf, Instr.sites, Site.count]
theorem Sites.swaddF32 (p : Nat) (a : Nat) (buf : Nat) (x : BitVec 32) (psn : Bool) : Sites.Statement (.swaddF32 p a buf x psn) := by
  intro h q hq; simp_all [Instr.wf, Instr.sites, Site.count]
theorem Sites.swaddBf16 (p : Nat) (a : Nat) (buf : Nat) (x : BitVec 16) (psn : Bool) : Sites.Statement (.swaddBf16 p a buf x psn) := by
  intro h q hq; simp_all [Instr.wf, Instr.sites, Site.count]
theorem Sites.swaddCell (p : Nat) (a : Nat) (buf : Nat) (x : BitVec 512) (anchor : BitVec 16) (psn : Bool) : Sites.Statement (.swaddCell p a buf x anchor psn) := by
  intro h q hq; simp_all [Instr.wf, Instr.sites, Site.count]
theorem Sites.swrd (p : Nat) (a : Nat) (buf : Nat) : Sites.Statement (.swrd p a buf) := by
  intro h q hq; simp_all [Instr.wf, Instr.sites, Site.count]
theorem Sites.swrdClr (p : Nat) (a : Nat) (buf : Nat) : Sites.Statement (.swrdClr p a buf) := by
  intro h q hq; simp_all [Instr.wf, Instr.sites, Site.count]
theorem Sites.registerWrite (ag : Agent) (a : Nat) (size : Nat) (v : BitVec 64) : Sites.Statement (.registerWrite ag a size v) := by
  intro h q hq; simp_all [Instr.wf, Instr.sites, Site.count]
theorem Sites.rgnArm (p : Nat) (n : Nat) (v : BitVec 64) : Sites.Statement (.rgnArm p n v) := by
  intro h q hq; simp_all [Instr.wf, Instr.sites, Site.count]
theorem Sites.rgnArmDone (p : Nat) (n : Nat) : Sites.Statement (.rgnArmDone p n) := by
  intro h q hq; simp_all [Instr.wf, Instr.sites, Site.count]
theorem Sites.rgnDisarm (p : Nat) (n : Nat) : Sites.Statement (.rgnDisarm p n) := by
  intro h q hq; simp_all [Instr.wf, Instr.sites, Site.count]
theorem Sites.rgnDisarmDone (p : Nat) (n : Nat) : Sites.Statement (.rgnDisarmDone p n) := by
  intro h q hq; simp_all [Instr.wf, Instr.sites, Site.count]
theorem Sites.sbArm (p : Nat) (n : Nat) (v : BitVec 64) : Sites.Statement (.sbArm p n v) := by
  intro h q hq; simp_all [Instr.wf, Instr.sites, Site.count]
theorem Sites.sbArmDone (p : Nat) (n : Nat) : Sites.Statement (.sbArmDone p n) := by
  intro h q hq; simp_all [Instr.wf, Instr.sites, Site.count]
theorem Sites.sbDisarm (p : Nat) (n : Nat) : Sites.Statement (.sbDisarm p n) := by
  intro h q hq; simp_all [Instr.wf, Instr.sites, Site.count]
theorem Sites.winArm (p : Nat) (w : Nat) (v : BitVec 64) : Sites.Statement (.winArm p w v) := by
  intro h q hq; simp_all [Instr.wf, Instr.sites, Site.count]
theorem Sites.winArmDone (p : Nat) (w : Nat) : Sites.Statement (.winArmDone p w) := by
  intro h q hq; simp_all [Instr.wf, Instr.sites, Site.count]
theorem Sites.winDisarm (p : Nat) (w : Nat) : Sites.Statement (.winDisarm p w) := by
  intro h q hq; simp_all [Instr.wf, Instr.sites, Site.count]
theorem Sites.b2WinArm (p : Nat) (n : Nat) (v : BitVec 64) : Sites.Statement (.b2WinArm p n v) := by
  intro h q hq; simp_all [Instr.wf, Instr.sites, Site.count]
theorem Sites.b2WinArmDone (p : Nat) (n : Nat) : Sites.Statement (.b2WinArmDone p n) := by
  intro h q hq; simp_all [Instr.wf, Instr.sites, Site.count]
theorem Sites.b2WinDisarm (p : Nat) (n : Nat) : Sites.Statement (.b2WinDisarm p n) := by
  intro h q hq; simp_all [Instr.wf, Instr.sites, Site.count]
theorem Sites.scrubRead (r : StoreRef) : Sites.Statement (.scrubRead r) := by
  intro h q hq; simp_all [Instr.wf, Instr.sites, Site.count]
theorem Sites.correctedWriteback (r : StoreRef) : Sites.Statement (.correctedWriteback r) := by
  intro h q hq; simp_all [Instr.wf, Instr.sites, Site.count]
theorem Sites.spareCopyDone (b : BankRef) (row : Nat) : Sites.Statement (.spareCopyDone b row) := by
  intro h q hq; simp_all [Instr.wf, Instr.sites, Site.count]
theorem Sites.granuleCopyDone (g : Nat) : Sites.Statement (.granuleCopyDone g) := by
  intro h q hq; simp_all [Instr.wf, Instr.sites, Site.count]
theorem Sites.pprDone (r : DdrRow) : Sites.Statement (.pprDone r) := by
  intro h q hq; simp_all [Instr.wf, Instr.sites, Site.count]
theorem Sites.pprTimeout (r : DdrRow) : Sites.Statement (.pprTimeout r) := by
  intro h q hq; simp_all [Instr.wf, Instr.sites, Site.count]
theorem Sites.ddrGranuleCopyDone (g : Nat) : Sites.Statement (.ddrGranuleCopyDone g) := by
  intro h q hq; simp_all [Instr.wf, Instr.sites, Site.count]
theorem Sites.repairRecordWrite : Sites.Statement (.repairRecordWrite) := by
  intro h q hq; simp_all [Instr.wf, Instr.sites, Site.count]
theorem Sites.beatReplay (c : Nat) (a : Nat) (ok : Bool) : Sites.Statement (.beatReplay c a ok) := by
  intro h q hq; simp_all [Instr.wf, Instr.sites, Site.count]
theorem Sites.bondErased (c : Nat) (grp : Nat) : Sites.Statement (.bondErased c grp) := by
  intro h q hq; simp_all [Instr.wf, Instr.sites, Site.count]
theorem Sites.d2dLaneRepaired (grp : Nat) (ok : Bool) : Sites.Statement (.d2dLaneRepaired grp ok) := by
  intro h q hq; simp_all [Instr.wf, Instr.sites, Site.count]
theorem Sites.ddrRefresh (k : Nat) (bank : Nat) : Sites.Statement (.ddrRefresh k bank) := by
  intro h q hq; simp_all [Instr.wf, Instr.sites, Site.count]
theorem Sites.ddrTempRead (pkg : Nat) (degC : Nat) : Sites.Statement (.ddrTempRead pkg degC) := by
  intro h q hq; simp_all [Instr.wf, Instr.sites, Site.count]
theorem Sites.ddrRetrainStep (k : Nat) : Sites.Statement (.ddrRetrainStep k) := by
  intro h q hq; simp_all [Instr.wf, Instr.sites, Site.count]
theorem Sites.channelScan : Sites.Statement (.channelScan) := by
  intro h q hq; simp_all [Instr.wf, Instr.sites, Site.count]
theorem Sites.channelAbortDone (ch : Nat) : Sites.Statement (.channelAbortDone ch) := by
  intro h q hq; simp_all [Instr.wf, Instr.sites, Site.count]
theorem Sites.commandRecordCopy (ch : Nat) : Sites.Statement (.commandRecordCopy ch) := by
  intro h q hq; simp_all [Instr.wf, Instr.sites, Site.count]
theorem Sites.commandDispatch (ch : Nat) : Sites.Statement (.commandDispatch ch) := by
  intro h q hq; simp_all [Instr.wf, Instr.sites, Site.count]
theorem Sites.kernelAccept (id : Nat) : Sites.Statement (.kernelAccept id) := by
  intro h q hq; simp_all [Instr.wf, Instr.sites, Site.count]
theorem Sites.kernelStart (id : Nat) : Sites.Statement (.kernelStart id) := by
  intro h q hq; simp_all [Instr.wf, Instr.sites, Site.count]
theorem Sites.kernelComplete (id : Nat) : Sites.Statement (.kernelComplete id) := by
  intro h q hq; simp_all [Instr.wf, Instr.sites, Site.count]
theorem Sites.seList (c : Nat) : Sites.Statement (.seList c) := by
  intro h q hq; simp_all [Instr.wf, Instr.sites, Site.count]
theorem Sites.barArm (id : Nat) : Sites.Statement (.barArm id) := by
  intro h q hq; simp_all [Instr.wf, Instr.sites, Site.count]
theorem Sites.nopCommand (id : Nat) : Sites.Statement (.nopCommand id) := by
  intro h q hq; simp_all [Instr.wf, Instr.sites, Site.count]
theorem Sites.commandCompletion (id : Nat) : Sites.Statement (.commandCompletion id) := by
  intro h q hq; simp_all [Instr.wf, Instr.sites, Site.count]
theorem Sites.progressWatchdogExpire (ch : Nat) : Sites.Statement (.progressWatchdogExpire ch) := by
  intro h q hq; simp_all [Instr.wf, Instr.sites, Site.count]
theorem Sites.descriptorFetch (c : Nat) : Sites.Statement (.descriptorFetch c) := by
  intro h q hq; simp_all [Instr.wf, Instr.sites, Site.count]
theorem Sites.slotGrant (c : Nat) : Sites.Statement (.slotGrant c) := by
  intro h q hq; simp_all [Instr.wf, Instr.sites, Site.count]
theorem Sites.streamCopy (c : Nat) : Sites.Statement (.streamCopy c) := by
  intro h q hq; simp_all [Instr.wf, Instr.sites, Site.count]
theorem Sites.streamFill (c : Nat) : Sites.Statement (.streamFill c) := by
  intro h q hq; simp_all [Instr.wf, Instr.sites, Site.count]
theorem Sites.streamFold (c : Nat) : Sites.Statement (.streamFold c) := by
  intro h q hq; simp_all [Instr.wf, Instr.sites, Site.count]
theorem Sites.streamBcast (c : Nat) : Sites.Statement (.streamBcast c) := by
  intro h q hq; simp_all [Instr.wf, Instr.sites, Site.count]
theorem Sites.streamSwread (c : Nat) : Sites.Statement (.streamSwread c) := by
  intro h q hq; simp_all [Instr.wf, Instr.sites, Site.count]
theorem Sites.cvReread (c : Nat) : Sites.Statement (.cvReread c) := by
  intro h q hq; simp_all [Instr.wf, Instr.sites, Site.count]
theorem Sites.descriptorDone (c : Nat) : Sites.Statement (.descriptorDone c) := by
  intro h q hq; simp_all [Instr.wf, Instr.sites, Site.count]
theorem Sites.movedNack (c : Nat) : Sites.Statement (.movedNack c) := by
  intro h q hq; simp_all [Instr.wf, Instr.sites, Site.count]
theorem Sites.staleNack (c : Nat) : Sites.Statement (.staleNack c) := by
  intro h q hq; simp_all [Instr.wf, Instr.sites, Site.count]
theorem Sites.hostReadFail (id : Nat) (a : Nat) : Sites.Statement (.hostReadFail id a) := by
  intro h q hq; simp_all [Instr.wf, Instr.sites, Site.count]
theorem Sites.lkXfer (id : Nat) : Sites.Statement (.lkXfer id) := by
  intro h q hq; simp_all [Instr.wf, Instr.sites, Site.count]
theorem Sites.lkColl (id : Nat) : Sites.Statement (.lkColl id) := by
  intro h q hq; simp_all [Instr.wf, Instr.sites, Site.count]
theorem Sites.lkMcast (id : Nat) : Sites.Statement (.lkMcast id) := by
  intro h q hq; simp_all [Instr.wf, Instr.sites, Site.count]
theorem Sites.lkVote (id : Nat) : Sites.Statement (.lkVote id) := by
  intro h q hq; simp_all [Instr.wf, Instr.sites, Site.count]
theorem Sites.lkExpel (id : Nat) : Sites.Statement (.lkExpel id) := by
  intro h q hq; simp_all [Instr.wf, Instr.sites, Site.count]
theorem Sites.linkContextGrant (die : Nat) : Sites.Statement (.linkContextGrant die) := by
  intro h q hq; simp_all [Instr.wf, Instr.sites, Site.count]
theorem Sites.remoteWriteFrame (k : Nat) (f : Frame) : Sites.Statement (.remoteWriteFrame k f) := by
  intro h q hq; simp_all [Instr.wf, Instr.sites, Site.count]
theorem Sites.remoteFoldFrame (k : Nat) (f : Frame) : Sites.Statement (.remoteFoldFrame k f) := by
  intro h q hq; simp_all [Instr.wf, Instr.sites, Site.count]
theorem Sites.readRequest (k : Nat) (f : Frame) : Sites.Statement (.readRequest k f) := by
  intro h q hq; simp_all [Instr.wf, Instr.sites, Site.count]
theorem Sites.readResponse (k : Nat) (f : Frame) : Sites.Statement (.readResponse k f) := by
  intro h q hq; simp_all [Instr.wf, Instr.sites, Site.count]
theorem Sites.collectiveFrame (k : Nat) (f : Frame) : Sites.Statement (.collectiveFrame k f) := by
  intro h q hq; simp_all [Instr.wf, Instr.sites, Site.count]
theorem Sites.voteFrame (k : Nat) (f : Frame) : Sites.Statement (.voteFrame k f) := by
  intro h q hq; simp_all [Instr.wf, Instr.sites, Site.count]
theorem Sites.ackFrame (k : Nat) (f : Frame) : Sites.Statement (.ackFrame k f) := by
  intro h q hq; simp_all [Instr.wf, Instr.sites, Site.count]
theorem Sites.nackFrame (k : Nat) (f : Frame) : Sites.Statement (.nackFrame k f) := by
  intro h q hq; simp_all [Instr.wf, Instr.sites, Site.count]
theorem Sites.noticeFrame (k : Nat) (f : Frame) : Sites.Statement (.noticeFrame k f) := by
  intro h q hq; simp_all [Instr.wf, Instr.sites, Site.count]
theorem Sites.abortFrame (k : Nat) (f : Frame) : Sites.Statement (.abortFrame k f) := by
  intro h q hq; simp_all [Instr.wf, Instr.sites, Site.count]
theorem Sites.keepaliveFrame (k : Nat) (f : Frame) : Sites.Statement (.keepaliveFrame k f) := by
  intro h q hq; simp_all [Instr.wf, Instr.sites, Site.count]
theorem Sites.helloExchange (k : Nat) (node : Nat) (part : Nat) : Sites.Statement (.helloExchange k node part) := by
  intro h q hq; simp_all [Instr.wf, Instr.sites, Site.count]
theorem Sites.ackTimer (ref : Nat) : Sites.Statement (.ackTimer ref) := by
  intro h q hq; simp_all [Instr.wf, Instr.sites, Site.count]
theorem Sites.retransmissionTimeout (ref : Nat) : Sites.Statement (.retransmissionTimeout ref) := by
  intro h q hq; simp_all [Instr.wf, Instr.sites, Site.count]
theorem Sites.keepaliveSend (ref : Nat) : Sites.Statement (.keepaliveSend ref) := by
  intro h q hq; simp_all [Instr.wf, Instr.sites, Site.count]
theorem Sites.peerSilence (ref : Nat) : Sites.Statement (.peerSilence ref) := by
  intro h q hq; simp_all [Instr.wf, Instr.sites, Site.count]
theorem Sites.lagLimitExpire (id : Nat) (m : Nat) : Sites.Statement (.lagLimitExpire id m) := by
  intro h q hq; simp_all [Instr.wf, Instr.sites, Site.count]
theorem Sites.noticeSend : Sites.Statement (.noticeSend) := by
  intro h q hq; simp_all [Instr.wf, Instr.sites, Site.count]
theorem Sites.pfcFrame (k : Nat) (prio : Nat) (pause : Bool) : Sites.Statement (.pfcFrame k prio pause) := by
  intro h q hq; simp_all [Instr.wf, Instr.sites, Site.count]
theorem Sites.pfcWatchdog (k : Nat) (prio : Nat) : Sites.Statement (.pfcWatchdog k prio) := by
  intro h q hq; simp_all [Instr.wf, Instr.sites, Site.count]
theorem Sites.linkDrops (k : Nat) : Sites.Statement (.linkDrops k) := by
  intro h q hq; simp_all [Instr.wf, Instr.sites, Site.count]
theorem Sites.partnerEntryWrite (p : Nat) (ref : Nat) : Sites.Statement (.partnerEntryWrite p ref) := by
  intro h q hq; simp_all [Instr.wf, Instr.sites, Site.count]
theorem Sites.partnerEntryRead (p : Nat) (ref : Nat) : Sites.Statement (.partnerEntryRead p ref) := by
  intro h q hq; simp_all [Instr.wf, Instr.sites, Site.count]
theorem Sites.expelPartner (p : Nat) (ref : Nat) : Sites.Statement (.expelPartner p ref) := by
  intro h q hq; simp_all [Instr.wf, Instr.sites, Site.count]
theorem Sites.keyLoad (p : Nat) (v : BitVec 64) : Sites.Statement (.keyLoad p v) := by
  intro h q hq; simp_all [Instr.wf, Instr.sites, Site.count]
theorem Sites.portEnable (k : Nat) : Sites.Statement (.portEnable k) := by
  intro h q hq; simp_all [Instr.wf, Instr.sites, Site.count]
theorem Sites.equaliserTrained (k : Nat) : Sites.Statement (.equaliserTrained k) := by
  intro h q hq; simp_all [Instr.wf, Instr.sites, Site.count]
theorem Sites.laneDeskewDone (k : Nat) : Sites.Statement (.laneDeskewDone k) := by
  intro h q hq; simp_all [Instr.wf, Instr.sites, Site.count]
theorem Sites.trainingTimeout (k : Nat) : Sites.Statement (.trainingTimeout k) := by
  intro h q hq; simp_all [Instr.wf, Instr.sites, Site.count]
theorem Sites.helloRetry (k : Nat) : Sites.Statement (.helloRetry k) := by
  intro h q hq; simp_all [Instr.wf, Instr.sites, Site.count]
theorem Sites.autoNegotiation (k : Nat) (ok : Bool) : Sites.Statement (.autoNegotiation k ok) := by
  intro h q hq; simp_all [Instr.wf, Instr.sites, Site.count]
theorem Sites.laneRecalTrigger (k : Nat) (lane : Nat) : Sites.Statement (.laneRecalTrigger k lane) := by
  intro h q hq; simp_all [Instr.wf, Instr.sites, Site.count]
theorem Sites.degradeFlit (k : Nat) : Sites.Statement (.degradeFlit k) := by
  intro h q hq; simp_all [Instr.wf, Instr.sites, Site.count]
theorem Sites.laneRecalDone (k : Nat) (ok : Bool) : Sites.Statement (.laneRecalDone k ok) := by
  intro h q hq; simp_all [Instr.wf, Instr.sites, Site.count]
theorem Sites.perstAssert (p : Nat) : Sites.Statement (.perstAssert p) := by
  intro h q hq; simp_all [Instr.wf, Instr.sites, Site.count]
theorem Sites.perstDeassert (p : Nat) : Sites.Statement (.perstDeassert p) := by
  intro h q hq; simp_all [Instr.wf, Instr.sites, Site.count]
theorem Sites.hotReset (p : Nat) : Sites.Statement (.hotReset p) := by
  intro h q hq; simp_all [Instr.wf, Instr.sites, Site.count]
theorem Sites.dataLinkDown (p : Nat) : Sites.Statement (.dataLinkDown p) := by
  intro h q hq; simp_all [Instr.wf, Instr.sites, Site.count]
theorem Sites.functionLevelReset (p : Nat) : Sites.Statement (.functionLevelReset p) := by
  intro h q hq; simp_all [Instr.wf, Instr.sites, Site.count]
theorem Sites.vfFunctionLevelReset (p : Nat) (n : Nat) : Sites.Statement (.vfFunctionLevelReset p n) := by
  intro h q hq; simp_all [Instr.wf, Instr.sites, Site.count]
theorem Sites.presetIdle (p : Nat) : Sites.Statement (.presetIdle p) := by
  intro h q hq; simp_all [Instr.wf, Instr.sites, Site.count]
theorem Sites.presetCleared (p : Nat) : Sites.Statement (.presetCleared p) := by
  intro h q hq; simp_all [Instr.wf, Instr.sites, Site.count]
theorem Sites.presetEraseDone (p : Nat) : Sites.Statement (.presetEraseDone p) := by
  intro h q hq; simp_all [Instr.wf, Instr.sites, Site.count]
theorem Sites.partitionResetFail (p : Nat) : Sites.Statement (.partitionResetFail p) := by
  intro h q hq; simp_all [Instr.wf, Instr.sites, Site.count]
theorem Sites.configRequest (p : Nat) (q : ConfigReq) : Sites.Statement (.configRequest p q) := by
  intro h q hq; simp_all [Instr.wf, Instr.sites, Site.count]
theorem Sites.d3hotEntry (p : Nat) (n : Nat) : Sites.Statement (.d3hotEntry p n) := by
  intro h q hq; simp_all [Instr.wf, Instr.sites, Site.count]
theorem Sites.d0Return (p : Nat) (n : Nat) : Sites.Statement (.d0Return p n) := by
  intro h q hq; simp_all [Instr.wf, Instr.sites, Site.count]
theorem Sites.bar2Read (p : Nat) (o : Nat) (len : Nat) : Sites.Statement (.bar2Read p o len) := by
  intro h q hq; simp_all [Instr.wf, Instr.sites, Site.count]
theorem Sites.bar2Write (p : Nat) (o : Nat) (data : List (BitVec 8)) (ep : Bool) : Sites.Statement (.bar2Write p o data ep) := by
  intro h q hq; simp_all [Instr.wf, Instr.sites, Site.count]
theorem Sites.ideKm (p : Nat) (st : Nat) : Sites.Statement (.ideKm p st) := by
  intro h q hq; simp_all [Instr.wf, Instr.sites, Site.count]
theorem Sites.ideInsecure (p : Nat) (st : Nat) : Sites.Statement (.ideInsecure p st) := by
  intro h q hq; simp_all [Instr.wf, Instr.sites, Site.count]
theorem Sites.spdmRequest (p : Nat) (q : SpdmReq) : Sites.Statement (.spdmRequest p q) := by
  intro h q hq; simp_all [Instr.wf, Instr.sites, Site.count]
theorem Sites.getId (p : Nat) : Sites.Statement (.getId p) := by
  intro h q hq; simp_all [Instr.wf, Instr.sites, Site.count]
theorem Sites.attest (p : Nat) : Sites.Statement (.attest p) := by
  intro h q hq; simp_all [Instr.wf, Instr.sites, Site.count]
theorem Sites.imageBegin (p : Nat) : Sites.Statement (.imageBegin p) := by
  intro h q hq; simp_all [Instr.wf, Instr.sites, Site.count]
theorem Sites.imageWrite (p : Nat) : Sites.Statement (.imageWrite p) := by
  intro h q hq; simp_all [Instr.wf, Instr.sites, Site.count]
theorem Sites.imageCommit (p : Nat) : Sites.Statement (.imageCommit p) := by
  intro h q hq; simp_all [Instr.wf, Instr.sites, Site.count]
theorem Sites.imageApply (p : Nat) : Sites.Statement (.imageApply p) := by
  intro h q hq; simp_all [Instr.wf, Instr.sites, Site.count]
theorem Sites.policyQuiesceApply : Sites.Statement (.policyQuiesceApply) := by
  intro h q hq; simp_all [Instr.wf, Instr.sites, Site.count]
theorem Sites.monitorInPlace (c : Nat) : Sites.Statement (.monitorInPlace c) := by
  intro h q hq; simp_all [Instr.wf, Instr.sites, Site.count]
theorem Sites.plannedSwitchover : Sites.Statement (.plannedSwitchover) := by
  intro h q hq; simp_all [Instr.wf, Instr.sites, Site.count]
theorem Sites.applyComplete : Sites.Statement (.applyComplete) := by
  intro h q hq; simp_all [Instr.wf, Instr.sites, Site.count]
theorem Sites.mailboxResponse (p : Nat) : Sites.Statement (.mailboxResponse p) := by
  intro h q hq; simp_all [Instr.wf, Instr.sites, Site.count]
theorem Sites.tokenDebug (p : Nat) : Sites.Statement (.tokenDebug p) := by
  intro h q hq; simp_all [Instr.wf, Instr.sites, Site.count]
theorem Sites.tokenRelease (p : Nat) : Sites.Statement (.tokenRelease p) := by
  intro h q hq; simp_all [Instr.wf, Instr.sites, Site.count]
theorem Sites.tokenVendorReturn (p : Nat) : Sites.Statement (.tokenVendorReturn p) := by
  intro h q hq; simp_all [Instr.wf, Instr.sites, Site.count]
theorem Sites.tokenProvision (p : Nat) : Sites.Statement (.tokenProvision p) := by
  intro h q hq; simp_all [Instr.wf, Instr.sites, Site.count]
theorem Sites.tokenScrap (p : Nat) : Sites.Statement (.tokenScrap p) := by
  intro h q hq; simp_all [Instr.wf, Instr.sites, Site.count]
theorem Sites.tokenSvn (p : Nat) : Sites.Statement (.tokenSvn p) := by
  intro h q hq; simp_all [Instr.wf, Instr.sites, Site.count]
theorem Sites.tokenRevoke (p : Nat) : Sites.Statement (.tokenRevoke p) := by
  intro h q hq; simp_all [Instr.wf, Instr.sites, Site.count]
theorem Sites.retArmExpire : Sites.Statement (.retArmExpire) := by
  intro h q hq; simp_all [Instr.wf, Instr.sites, Site.count]
theorem Sites.debugExpire : Sites.Statement (.debugExpire) := by
  intro h q hq; simp_all [Instr.wf, Instr.sites, Site.count]
theorem Sites.debugHaltRequest (d : Nat) : Sites.Statement (.debugHaltRequest d) := by
  intro h q hq; simp_all [Instr.wf, Instr.sites, Site.count]
theorem Sites.lifecycleReset : Sites.Statement (.lifecycleReset) := by
  intro h q hq; simp_all [Instr.wf, Instr.sites, Site.count]
theorem Sites.entdaa (da : BitVec 7) : Sites.Statement (.entdaa da) := by
  intro h q hq; simp_all [Instr.wf, Instr.sites, Site.count]
theorem Sites.setdasa (sa : BitVec 7) (da : BitVec 7) : Sites.Statement (.setdasa sa da) := by
  intro h q hq; simp_all [Instr.wf, Instr.sites, Site.count]
theorem Sites.mctpControl (cmd : Nat) (eid : Nat) : Sites.Statement (.mctpControl cmd eid) := by
  intro h q hq; simp_all [Instr.wf, Instr.sites, Site.count]
theorem Sites.getTid : Sites.Statement (.getTid) := by
  intro h q hq; simp_all [Instr.wf, Instr.sites, Site.count]
theorem Sites.getPldmVersion : Sites.Statement (.getPldmVersion) := by
  intro h q hq; simp_all [Instr.wf, Instr.sites, Site.count]
theorem Sites.getPldmTypes : Sites.Statement (.getPldmTypes) := by
  intro h q hq; simp_all [Instr.wf, Instr.sites, Site.count]
theorem Sites.getPldmCommands : Sites.Statement (.getPldmCommands) := by
  intro h q hq; simp_all [Instr.wf, Instr.sites, Site.count]
theorem Sites.getPdrRepositoryInfo : Sites.Statement (.getPdrRepositoryInfo) := by
  intro h q hq; simp_all [Instr.wf, Instr.sites, Site.count]
theorem Sites.getPdr (h : Nat) : Sites.Statement (.getPdr h) := by
  intro h q hq; simp_all [Instr.wf, Instr.sites, Site.count]
theorem Sites.getSensorReading (id : Nat) : Sites.Statement (.getSensorReading id) := by
  intro h q hq; simp_all [Instr.wf, Instr.sites, Site.count]
theorem Sites.getStateSensorReadings (id : Nat) : Sites.Statement (.getStateSensorReadings id) := by
  intro h q hq; simp_all [Instr.wf, Instr.sites, Site.count]
theorem Sites.sensorRefresh (rd : List Nat) : Sites.Statement (.sensorRefresh rd) := by
  intro h q hq; simp_all [Instr.wf, Instr.sites, Site.count]
theorem Sites.mgmtStatus : Sites.Statement (.mgmtStatus) := by
  intro h q hq; simp_all [Instr.wf, Instr.sites, Site.count]
theorem Sites.mgmtLogRead (sq : Nat) (n : Nat) : Sites.Statement (.mgmtLogRead sq n) := by
  intro h q hq; simp_all [Instr.wf, Instr.sites, Site.count]
theorem Sites.mgmtLogAck (sq : Nat) : Sites.Statement (.mgmtLogAck sq) := by
  intro h q hq; simp_all [Instr.wf, Instr.sites, Site.count]
theorem Sites.rotSuspend : Sites.Statement (.rotSuspend) := by
  intro h q hq; simp_all [Instr.wf, Instr.sites, Site.count]
theorem Sites.rotResume : Sites.Statement (.rotResume) := by
  intro h q hq; simp_all [Instr.wf, Instr.sites, Site.count]
theorem Sites.pvAck (p : Nat) (v : BitVec 64) : Sites.Statement (.pvAck p v) := by
  intro h q hq; simp_all [Instr.wf, Instr.sites, Site.count]
theorem Sites.lockstepMismatch (active : Bool) : Sites.Statement (.lockstepMismatch active) := by
  intro h q hq; simp_all [Instr.wf, Instr.sites, Site.count]
theorem Sites.standbyTakeover : Sites.Statement (.standbyTakeover) := by
  intro h q hq; simp_all [Instr.wf, Instr.sites, Site.count]
theorem Sites.clockFault (clk : Nat) : Sites.Statement (.clockFault clk) := by
  intro h q hq; simp_all [Instr.wf, Instr.sites, Site.count]
theorem Sites.supplyFault (rail : Nat) : Sites.Statement (.supplyFault rail) := by
  intro h q hq; simp_all [Instr.wf, Instr.sites, Site.count]
theorem Sites.recoveryActionStart : Sites.Statement (.recoveryActionStart) := by
  intro h q hq; simp_all [Instr.wf, Instr.sites, Site.count]
theorem Sites.clusterDue (c : Nat) : Sites.Statement (.clusterDue c) := by
  intro h q hq; simp_all [Instr.wf, Instr.sites, Site.count]
theorem Sites.clusterBorrowed (c : Nat) : Sites.Statement (.clusterBorrowed c) := by
  intro h q hq; simp_all [Instr.wf, Instr.sites, Site.count]
theorem Sites.migrationStart (c : Nat) : Sites.Statement (.migrationStart c) := by
  intro h q hq; simp_all [Instr.wf, Instr.sites, Site.count]
theorem Sites.migrationDone (c : Nat) : Sites.Statement (.migrationDone c) := by
  intro h q hq; simp_all [Instr.wf, Instr.sites, Site.count]
theorem Sites.migrationHoldRelease (c : Nat) : Sites.Statement (.migrationHoldRelease c) := by
  intro h q hq; simp_all [Instr.wf, Instr.sites, Site.count]
theorem Sites.migrationRetry (c : Nat) : Sites.Statement (.migrationRetry c) := by
  intro h q hq; simp_all [Instr.wf, Instr.sites, Site.count]
theorem Sites.testKernelDone (ph : Nat) (agrees : Bool) (last : Bool) : Sites.Statement (.testKernelDone ph agrees last) := by
  intro h q hq; simp_all [Instr.wf, Instr.sites, Site.count]
theorem Sites.clusterReplace (c : Nat) : Sites.Statement (.clusterReplace c) := by
  intro h q hq; simp_all [Instr.wf, Instr.sites, Site.count]
theorem Sites.rotationRecordWrite (ph : Nat) : Sites.Statement (.rotationRecordWrite ph) := by
  intro h q hq; simp_all [Instr.wf, Instr.sites, Site.count]
theorem Sites.powerSample (watts : Nat) : Sites.Statement (.powerSample watts) := by
  intro h q hq; simp_all [Instr.wf, Instr.sites, Site.count]
theorem Sites.dividerSwitch : Sites.Statement (.dividerSwitch) := by
  intro h q hq; simp_all [Instr.wf, Instr.sites, Site.count]
theorem Sites.admissionResume : Sites.Statement (.admissionResume) := by
  intro h q hq; simp_all [Instr.wf, Instr.sites, Site.count]
theorem Sites.thermalSample (degC : Nat) : Sites.Statement (.thermalSample degC) := by
  intro h q hq; simp_all [Instr.wf, Instr.sites, Site.count]
theorem Sites.thermalStopEnd : Sites.Statement (.thermalStopEnd) := by
  intro h q hq; simp_all [Instr.wf, Instr.sites, Site.count]
theorem Sites.enRise : Sites.Statement (.enRise) := by
  intro h q hq; simp_all [Instr.wf, Instr.sites, Site.count]
theorem Sites.enFall : Sites.Statement (.enFall) := by
  intro h q hq; simp_all [Instr.wf, Instr.sites, Site.count]
theorem Sites.vinOutOfRange (dv : Nat) : Sites.Statement (.vinOutOfRange dv) := by
  intro h q hq; simp_all [Instr.wf, Instr.sites, Site.count]
theorem Sites.powerUpRestart : Sites.Statement (.powerUpRestart) := by
  intro h q hq; simp_all [Instr.wf, Instr.sites, Site.count]
theorem Sites.powerGood (straps : BitVec 3) : Sites.Statement (.powerGood straps) := by
  intro h q hq; simp_all [Instr.wf, Instr.sites, Site.count]
theorem Sites.sysRstNAssert : Sites.Statement (.sysRstNAssert) := by
  intro h q hq; simp_all [Instr.wf, Instr.sites, Site.count]
theorem Sites.sysRstNDeassert : Sites.Statement (.sysRstNDeassert) := by
  intro h q hq; simp_all [Instr.wf, Instr.sites, Site.count]
theorem Sites.bootRom (iaOk : Bool) (ibOk : Bool) : Sites.Statement (.bootRom iaOk ibOk) := by
  intro h q hq; simp_all [Instr.wf, Instr.sites, Site.count]
theorem Sites.bootImage : Sites.Statement (.bootImage) := by
  intro h q hq; simp_all [Instr.wf, Instr.sites, Site.count]
theorem Sites.bootInit : Sites.Statement (.bootInit) := by
  intro h q hq; simp_all [Instr.wf, Instr.sites, Site.count]
theorem Sites.bootMemory (ms : Nat) : Sites.Statement (.bootMemory ms) := by
  intro h q hq; simp_all [Instr.wf, Instr.sites, Site.count]
theorem Sites.psecWrite : Sites.Statement (.psecWrite) := by
  intro h q hq; simp_all [Instr.wf, Instr.sites, Site.count]
theorem Sites.jtagBypass : Sites.Statement (.jtagBypass) := by
  intro h q hq; simp_all [Instr.wf, Instr.sites, Site.count]
theorem Sites.jtagIdcode : Sites.Statement (.jtagIdcode) := by
  intro h q hq; simp_all [Instr.wf, Instr.sites, Site.count]
theorem Sites.jtagSamplePreload : Sites.Statement (.jtagSamplePreload) := by
  intro h q hq; simp_all [Instr.wf, Instr.sites, Site.count]
theorem Sites.jtagExtest : Sites.Statement (.jtagExtest) := by
  intro h q hq; simp_all [Instr.wf, Instr.sites, Site.count]
theorem Sites.jtagClamp : Sites.Statement (.jtagClamp) := by
  intro h q hq; simp_all [Instr.wf, Instr.sites, Site.count]
theorem Sites.portConfigReady (p : Nat) : Sites.Statement (.portConfigReady p) := by
  intro h q hq; simp_all [Instr.wf, Instr.sites, Site.count]
theorem Sites.pcieLinkUp (p : Nat) (speed : Nat) (width : Nat) : Sites.Statement (.pcieLinkUp p speed width) := by
  intro h q hq; simp_all [Instr.wf, Instr.sites, Site.count]
theorem Sites.vin48InRange : Sites.Statement (.vin48InRange) := by
  intro h q hq; simp_all [Instr.wf, Instr.sites, Site.count]
theorem Sites.instrumentAccess (q : InstrumentReq) : Sites.Statement (.instrumentAccess q) := by
  intro h q hq; simp_all [Instr.wf, Instr.sites, Site.count]

end Sys2Proof.Laws
end

