-- ==== Sys2Proof/Tests/Slice0.lean ====
section
/-! SUPPORT. Tests on small states: that the hypotheses of each statement can be met, that ill-formed commands are refused, and what
single steps do on values worked out from the spec's text. -/

namespace Sys2Proof.Tests

set_option Elab.async false

open Sys2Proof.Machine

/-! ### A core that issues, for the witnesses -/

/-- A core at level M that runs MONITOR code in a cached line, with entries on its data stack. -/
def tCore (ds : List Entry) : Core :=
  { Core.reset with run := .running, pc := 0x400000000000, ds, icache := [(0, [⟨0x400000000000, 0, 0, false⟩])] }
/-- A device whose core 0 is k, with a partition that holds cluster 0 and the first granule, and the MONITOR copy that k runs. -/
def tState (k : Core) : State :=
  { State.reset with
    cores := [(0, k)]
    policy := { Policy.none with parts := [{ PartPolicy.none with enabled := true, clusters := [0], grants := [(0, 1)], chanCount := 4 }] }
    boot := { State.reset.boot with stage := 5, monBase := 0x400000000000, monLen := 64 } }
/-- An unpoisoned entry, and a poisoned one. -/
def tE (n : Nat) : Entry := ⟨BitVec.ofNat 64 n, false⟩
def tP (n : Nat) : Entry := ⟨BitVec.ofNat 64 n, true⟩
/-- The core and the device whose core 0 has these entries, the top one first. -/
def tK (l : List Nat) : Core := tCore (l.map tE)
def tDs (l : List Nat) : State := tState (tK l)

/-! ### The hypotheses of the statements can be met: the queue, the control core -/

theorem test_meets_EmptyQueueTicks :
    State.reset.pending = [] ∧ State.reset.power.pwrGood = true ∧ State.reset.regs.Pairwise (fun x y => x.1 < y.1)
    ∧ ({ State.reset with power := { State.reset.power with pwrGood := false } } : State).power.pwrGood = false := by decide

theorem test_meets_StackInstructionResults :
    (Issues (tDs [7]) 0 .plain ∧ Pops (tDs [7]) 0 1 [tE 7] (tK []) ∧ ∃ k', (tK []).pushAll [tE 7, tE 7] = .ok k')
    ∧ (Issues (tDs [7, 9]) 0 .plain ∧ Pops (tDs [7, 9]) 0 2 [tE 9, tE 7] (tK [])
      ∧ ∃ k', (tK []).pushAll (bin (fun a b => a + b) [tE 9, tE 7]) = .ok k')
    ∧ (Issues (tDs [7, 8, 9]) 0 .plain ∧ Pops (tDs [7, 8, 9]) 0 3 [tE 9, tE 8, tE 7] (tK [])
      ∧ ∃ k', (tK []).pushAll [tE 8, tE 7, tE 9] = .ok k')
    ∧ (Issues (tDs []) 0 .plain ∧ ∃ k', (((tDs []).fetched 0).core 0).push ⟨(0xFFF : BitVec 12).signExtend 64, false⟩ = .ok k')
    ∧ (Issues (tDs [7]) 0 .plain ∧ Pops (tDs [7]) 0 1 [tE 7] (tK [])
      ∧ ∃ k', (tK []).push ⟨(tE 7).val <<< 12 ||| (0xFFF : BitVec 12).setWidth 64, false⟩ = .ok k') :=
  ⟨⟨by decide +kernel, by decide +kernel, _, rfl⟩, ⟨by decide +kernel, by decide +kernel, _, rfl⟩,
    ⟨by decide +kernel, by decide +kernel, _, rfl⟩, ⟨by decide +kernel, _, rfl⟩, ⟨by decide +kernel, by decide +kernel, _, rfl⟩⟩

theorem test_meets_ShiftAndSelectResults :
    (Issues (tDs [63, 9]) 0 .plain ∧ Pops (tDs [63, 9]) 0 2 [tE 9, tE 63] (tK [])
      ∧ ∃ k', (tK []).push ⟨(tE 9).val <<< ((tE 63).val.toNat % 64), false⟩ = .ok k')
    ∧ (Issues (tState (tCore [tP 1, tE 9])) 0 .plain ∧ Pops (tState (tCore [tP 1, tE 9])) 0 2 [tE 9, tP 1] (tK []))
    ∧ (Issues (tDs [0, 8, 9]) 0 .plain ∧ Pops (tDs [0, 8, 9]) 0 3 [tE 9, tE 8, tE 0] (tK []) ∧ ∃ k', (tK []).push (tE 8) = .ok k')
    ∧ (Issues (tState (tCore [tP 1, tE 8, tE 9])) 0 .plain
      ∧ Pops (tState (tCore [tP 1, tE 8, tE 9])) 0 3 [tE 9, tE 8, tP 1] (tK [])) :=
  ⟨⟨by decide +kernel, by decide +kernel, _, rfl⟩, ⟨by decide +kernel, by decide +kernel⟩,
    ⟨by decide +kernel, by decide +kernel, _, rfl⟩, ⟨by decide +kernel, by decide +kernel⟩⟩

/-- A core with one entry on its return stack. -/
def tRs (n : Nat) : Core := { tK [] with rs := [tE n] }

theorem test_meets_StackTransferResults :
    (Issues (tDs [1, 8, 9]) 0 .plain ∧ Pops (tDs [1, 8, 9]) 0 1 [tE 1] (tK [8, 9]) ∧ (tK [8, 9]).dsAt 1 = .ok (tE 9)
      ∧ ∃ k', (tK [8, 9]).push (tE 9) = .ok k')
    ∧ (Issues (tDs [8]) 0 .plain ∧ Pops (tDs [8]) 0 1 [tE 8] (tK []) ∧ ∃ k', (tK []).rsPush (tE 8) = .ok k')
    ∧ (Issues (tState (tRs 5)) 0 .plain ∧ (((tState (tRs 5)).fetched 0).core 0).rsNeed 1 = .ok { tK [] with rs := [tE 5] }
      ∧ (∃ k', (tK []).push (tE 5) = .ok k') ∧ ∃ k', (tRs 5).push (tE 5) = .ok k')
    ∧ (Issues (tDs [8]) 0 .plain ∧ ∃ k', (((tDs [8]).fetched 0).core 0).push (tE 1) = .ok k') :=
  ⟨⟨by decide +kernel, by decide +kernel, by decide +kernel, _, rfl⟩, ⟨by decide +kernel, by decide +kernel, _, rfl⟩,
    ⟨by decide +kernel, by decide +kernel, ⟨_, rfl⟩, _, rfl⟩, ⟨by decide +kernel, _, rfl⟩⟩

/-- A full hardware stack, and the same with no word of the spill region left. -/
def tFull : Core := tCore ((List.range 32).map tE)
def tSpent : Core := { tFull with dsSpill := 2048 }

theorem test_meets_StackSpillsAndFaults :
    (Issues (tDs [7]) 0 .plain ∧ (((tDs [7]).fetched 0).core 0).need 2 = .error 0)
    ∧ (tK [7]).ds.length < 32
    ∧ (32 ≤ tSpent.ds.length ∧ bndLimit tSpent.ccDsBnd ≤ bndBase tSpent.ccDsBnd + tSpent.dsSpill)
    ∧ (tFull.ds = (List.range 31).map tE ++ [tE 31] ∧ ((List.range 31).map tE).length = 31
      ∧ bndBase tFull.ccDsBnd + tFull.dsSpill < bndLimit tFull.ccDsBnd ∧ Canonical 0 tFull.lm)
    ∧ (tK [7]).dsDepth < 2 := by decide +kernel

theorem test_meets_FloatInstructionResults :
    (Issues (tDs [7, 9]) 0 .plain ∧ Pops (tDs [7, 9]) 0 2 [tE 9, tE 7] (tK [])
      ∧ ∃ k', ((tK []).raise (addV false 0 (decode 0 9) (decode 0 7)).2).claim.push
        ⟨BitVec.ofNat 64 (addV false 0 (decode 0 9) (decode 0 7)).1, false⟩ = .ok k')
    ∧ (Issues (tDs [7]) 0 .plain ∧ Pops (tDs [7]) 0 1 [tE 7] (tK [])
      ∧ ∃ k', ((tK []).raise (sqrtV false 0 (decode 0 7)).2).claim.push ⟨BitVec.ofNat 64 (sqrtV false 0 (decode 0 7)).1, false⟩ = .ok k') :=
  ⟨⟨by decide +kernel, by decide +kernel, _, rfl⟩, ⟨by decide +kernel, by decide +kernel, _, rfl⟩⟩

theorem test_meets_TransferResults :
    (Issues (tDs [0]) 0 .noEnd ∧ Pops (tDs [0]) 0 1 [tE 0] (tK []))
    ∧ (Issues (tDs [5]) 0 .noEnd ∧ Pops (tDs [5]) 0 1 [tE 5] (tK []) ∧ ∃ k', (tK []).rsPush (tE 0x400000000004) = .ok k')
    ∧ (Issues (tDs []) 0 .noEnd ∧ ∃ k', (((tDs []).fetched 0).core 0).rsPush (tE 0x400000000004) = .ok k')
    ∧ (Issues (tState (tRs 5)) 0 .noEnd ∧ (((tState (tRs 5)).fetched 0).core 0).rsNeed 1 = .ok { tK [] with rs := [tE 5] }) :=
  ⟨⟨by decide +kernel, by decide +kernel⟩, ⟨by decide +kernel, by decide +kernel, _, rfl⟩, ⟨by decide +kernel, _, rfl⟩,
    by decide +kernel, by decide +kernel⟩

/-- A core with loop levels open. -/
def tLoop (l : List LoopLevel) : Core := { tK [] with loops := l }

theorem test_meets_ControlPassesAtRetirement :
    ({ tK [] with slot := some 6 }).slot = some 6 ∧ (tK []).slot = none ∧ (tK []).loops = []
    ∧ ((tLoop [⟨2, 0, 1⟩]).loops = [] ++ [⟨2, 0, 1⟩] ∧ 2 + 2 * 0 ≠ (tK []).pc)
    ∧ ((tLoop [⟨0x400000000000, 0, 2⟩]).loops = [] ++ [⟨0x400000000000, 0, 2⟩] ∧ 0x400000000000 + 2 * 0 = (tK []).pc ∧ 1 < 2)
    ∧ ((tLoop [⟨0x400000000000, 0, 1⟩]).loops = [] ++ [⟨0x400000000000, 0, 1⟩] ∧ 1 ≤ 1) := by decide

theorem test_meets_LoopInstructionResults :
    (Issues (tDs [3]) 0 .noEnd ∧ (4095 : BitVec 12) ≠ 0 ∧ Pops (tDs [3]) 0 1 [tE 3] (tK []) ∧ (tK []).loops.length < 4)
    ∧ Issues (tDs []) 0 .noEnd
    ∧ (let k := { tK [] with loops := List.replicate 4 ⟨2, 0, 1⟩ }
      Issues (tState { k with ds := [tE 3] }) 0 .noEnd ∧ Pops (tState { k with ds := [tE 3] }) 0 1 [tE 3] k ∧ 4 ≤ k.loops.length)
    ∧ (Issues (tDs []) 0 .noSlot ∧ (((tDs []).fetched 0).core 0).loops = [])
    ∧ (Issues (tState (tLoop [⟨0x400000000000, 0, 2⟩])) 0 .noSlot
      ∧ (((tState (tLoop [⟨0x400000000000, 0, 2⟩])).fetched 0).core 0).loops = [] ++ [⟨0x400000000000, 0, 2⟩]
      ∧ 0x400000000000 + 2 * 0 = (tK []).pc)
    ∧ (Issues (tState (tLoop [⟨2, 0, 2⟩])) 0 .noSlot ∧ (((tState (tLoop [⟨2, 0, 2⟩])).fetched 0).core 0).loops = [] ++ [⟨2, 0, 2⟩]
      ∧ 2 + 2 * 0 ≠ (tK []).pc)
    ∧ (Issues (tDs [0]) 0 .plain ∧ Pops (tDs [0]) 0 1 [tE 0] (tK []) ∧ ∃ k', (tK []).push (tE 0) = .ok k') :=
  ⟨by decide +kernel, by decide +kernel, by decide +kernel, by decide +kernel, by decide +kernel, by decide +kernel,
    by decide +kernel, by decide +kernel, _, rfl⟩

/-- The core at another level; its instruction lies in a region that it may execute. -/
def tLow (lvl : Priv) (k : Core) : Core := { k with priv := lvl, pc := 0, icache := [(0, [⟨0, 0, 0, false⟩])] }
def tAt (lvl : Priv) (k : Core) : State := { tState (tLow lvl k) with regs := [(aRgnLo 0 0, 0x71), (aRgnHi 0 0, 1)] }
def tAtU (k : Core) : State := tAt .U k

theorem test_meets_ModeAndCacheResults :
    (Issues (tDs []) 0 .plain ∧ ∃ k', (((tDs []).fetched 0).core 0).push ⟨(((tDs []).fetched 0).core 0).mode, false⟩ = .ok k')
    ∧ (Issues (tDs [1]) 0 .noSlot ∧ Pops (tDs [1]) 0 1 [tE 1] (tK []) ∧ (tK []).priv ≠ .U)
    ∧ (Issues (tAtU (tK [1])) 0 .noSlot
      ∧ Pops (tAtU (tK [1])) 0 1 [tE 1] (tLow .U (tK []))
      ∧ (tE 1).val.getLsbD 0 ≠ (tK []).ie)
    ∧ (Issues (tDs [64]) 0 .plain ∧ Pops (tDs [64]) 0 1 [tE 64] (tK [])) :=
  ⟨⟨by decide +kernel, _, rfl⟩, by decide +kernel, by decide +kernel, by decide +kernel⟩

theorem test_meets_AtomicWindowResults :
    (Issues (tDs [1025]) 0 .plain ∧ Pops (tDs [1025]) 0 1 [tE 1025] (tK []) ∧ (tK []).priv ≠ .U)
    ∧ (Issues (tDs []) 0 .plain ∧ (((tDs []).fetched 0).core 0).priv ≠ .U)
    ∧ (Issues (tAtU (tK [])) 0 .plain ∧ (((tAtU (tK [])).fetched 0).core 0).priv = .U)
    ∧ ((tState { tK [] with winOpen := true, winRem := 1 }).core 0).winOpen = true := by decide +kernel

theorem test_meets_TrapWaitAndEndResults :
    (Issues (tDs [5]) 0 .plain ∧ Pops (tDs [5]) 0 1 [tE 5] (tK []))
    ∧ (Issues (tAt .S { tK [] with softPend := true }) 0 .plain ∧ Priv.S ≠ .U
      ∧ (((tAt .S { tK [] with softPend := true }).fetched 0).core 0).irqPending = true)
    ∧ (Issues (tDs []) 0 .plain ∧ (((tDs []).fetched 0).core 0).irqPending = false)
    ∧ (Issues (tAtU (tK [])) 0 .plain ∧ (((tAtU (tK [])).fetched 0).core 0).priv = .U)
    ∧ (let s := tState { tK [] with run := .waitIrq, softPend := true, priv := .S };
      (s.core 0).run = .waitIrq ∧ (s.core 0).irqPending = true ∧ s.power.holdIssue = false)
    ∧ (Issues (tDs []) 0 .noSlot ∧ (((tDs []).fetched 0).core 0).mFault = false)
    ∧ (let s := tState { tK [] with exLastCause := 0x304 };
      Issues s 0 .noSlot ∧ ((s.fetched 0).core 0).mFault = true) := by decide +kernel

theorem test_meets_InterruptAndExceptionEntry :
    (let s := tState { tK [] with ie := true, softPend := true, priv := .S };
      s.issuing 0 = true ∧ (s.core 0).slot = none ∧ ∃ x, (s.core 0).admitted = some x)
    ∧ (tState { tK [] with run := .idle }).issuing 0 = false
    ∧ ((tDs []).core 0).mfaActive = false
    ∧ ∃ k', ((tDs []).core 0).rsPushAll ((((tDs []).core 0).frame 0 0 0 (takenAt 0 ((tDs []).core 0).priv) 0
        ((tDs []).acCount + Config.acSkew 0)).reverse.map fun w => ⟨w, false⟩) = .ok k' :=
  ⟨⟨by decide +kernel, by decide +kernel, _, rfl⟩, by decide +kernel, by decide +kernel, _, rfl⟩

theorem test_meets_FrameRestoresContext :
    let k := { tLoop [⟨0x400000000000, 4095, 2 ^ 64 - 1⟩] with slot := some 4, winOpen := true, winRem := 1024 }
    k.pc < 2 ^ 48 ∧ (∀ t, k.slot = some t → t < 2 ^ 48) ∧ k.loops.length ≤ 4
    ∧ (∀ x ∈ k.loops, x.start < 2 ^ 48 ∧ x.lenM1 < 4096 ∧ x.count < 2 ^ 64) ∧ k.winRem ≤ 1024 ∧ (k.winOpen = false → k.winRem = 0)
    ∧ 0x3F < 0x40 ∧ 1 < 2 := by
  refine ⟨by decide, fun t h => ?_, by decide, by decide, by decide, by decide, by decide, by decide⟩
  cases h; decide

/-- A frame on the return stack whose E2 names a level. -/
def tFrame (lvl : Nat) (psn : Bool) : List Entry := [tE 0, tE 0, ⟨BitVec.ofNat 64 lvl, psn⟩] ++ List.replicate 13 (tE 0)

theorem test_meets_ExceptionReturnResults :
    (let s := fun lvl psn => tState { tK [] with rs := tFrame lvl psn };
      (∀ lvl psn, ((lvl, psn) ∈ [(0, false), (2, false), (1, true)]) → Issues (s lvl psn) 0 .noEnd
        ∧ (((s lvl psn).fetched 0).core 0).mfaActive = false
        ∧ (((s lvl psn).fetched 0).core 0).rsNeed 16 = .ok { tK [] with rs := tFrame lvl psn ++ [] }
        ∧ (tFrame lvl psn).length = 16)
      ∧ Priv.ofCode (fld ((tFrame 0 false).getD 2 ⟨0, false⟩).val 1 0) = some .U ∧ Priv.U.code ≤ Priv.M.code
      ∧ (tFrame 0 false).any (·.psn) = false ∧ (tFrame 1 true).any (·.psn) = true
      ∧ Priv.ofCode (fld ((tFrame 2 false).getD 2 ⟨0, false⟩).val 1 0) = none)
    ∧ (let s := { tAtU { tK [] with rs := tFrame 1 false } with boot := State.reset.boot };
      Issues s 0 .noEnd ∧ ((s.fetched 0).core 0).mfaActive = false
        ∧ Priv.ofCode (fld ((tFrame 1 false).getD 2 ⟨0, false⟩).val 1 0) = some .S ∧ ((s.fetched 0).core 0).priv.code < Priv.S.code)
    ∧ (let s := tState { tK [] with mfaActive := true, mfaFrames := 1 };
      Issues s 0 .noEnd ∧ ((s.fetched 0).core 0).mfaActive = true
        ∧ Priv.ofCode (fld ((((s.fetched 0).core 0).mfaTop).getD 2 ⟨0, false⟩).val 1 0) = some .U
        ∧ (((s.fetched 0).core 0).mfaTop).any (·.psn) = false)
    ∧ (let s := tState { tK [] with mfaActive := true, mfaFrames := 1, lm := [(0xF8E8, 2)] };
      Issues s 0 .noEnd ∧ ((s.fetched 0).core 0).mfaActive = true
        ∧ Priv.ofCode (fld ((((s.fetched 0).core 0).mfaTop).getD 2 ⟨0, false⟩).val 1 0) = none)
    ∧ (let s := { tAtU { tK [] with mfaActive := true, mfaFrames := 1, lm := [(0xF8E8, 1)] } with boot := State.reset.boot };
      Issues s 0 .noEnd ∧ ((s.fetched 0).core 0).mfaActive = true ∧ ((s.fetched 0).core 0).priv.code < Priv.S.code
        ∧ Priv.ofCode (fld ((((s.fetched 0).core 0).mfaTop).getD 2 ⟨0, false⟩).val 1 0) = some .S)
    ∧ (Issues (tDs []) 0 .noEnd ∧ (((tDs []).fetched 0).core 0).rsNeed 16 = .error 2)
    ∧ (let s := tState { tK [] with ie := true, softPend := true, priv := .S };
      s.issuing 0 = true ∧ (s.core 0).slot = none ∧ ∃ x, (s.core 0).admitted = some x) := by
  refine ⟨⟨?_, by decide +kernel, by decide, by decide +kernel, by decide +kernel, by decide +kernel⟩, by decide +kernel,
    by decide +kernel, by decide +kernel, by decide +kernel, by decide +kernel, by decide +kernel, by decide +kernel, _, rfl⟩
  intro lvl psn h
  simp only [List.mem_cons, List.not_mem_nil, or_false, Prod.mk.injEq] at h
  rcases h with ⟨rfl, rfl⟩ | ⟨rfl, rfl⟩ | ⟨rfl, rfl⟩ <;> decide +kernel

/-! ### Scalar memory, local memory, events and tickets -/

theorem test_meets_ScalarLoadResults :
    (Issues (tState (tCore [tP 8])) 0 .plain ∧ Pops (tState (tCore [tP 8])) 0 1 [tP 8] (tK []))
    ∧ (Issues (tDs [9]) 0 .plain ∧ Pops (tDs [9]) 0 1 [tE 9] (tK []) ∧ 9 % 8 ≠ 0)
    ∧ (Issues (tDs [0x400000000038]) 0 .plain ∧ Pops (tDs [0x400000000038]) 0 1 [tE 0x400000000038] (tK [])
      ∧ isControl 0x400000000038 = false ∧ (tK []).priv = .M ∧ ((tDs [0x400000000038]).fetched 0).inMonitor 0x400000000038 8 = true
      ∧ ∃ k', (((dcLoad (((tDs [0x400000000038]).fetched 0).setCore 0 (tK [])) 0 0x400000000038 8).1.core 0).claim.push
        (loadVal false 8 (dcLoad (((tDs [0x400000000038]).fetched 0).setCore 0 (tK [])) 0 0x400000000038 8).2)) = .ok k')
    ∧ (Issues (tAtU (tK [0x1FFFF8])) 0 .plain ∧ Pops (tAtU (tK [0x1FFFF8])) 0 1 [tE 0x1FFFF8] (tLow .U (tK []))
      ∧ (((tAtU (tK [0x1FFFF8])).fetched 0).chk 0 [pR] 0x1FFFF8 8).isOk = true)
    ∧ (Issues (tAtU (tK [0x200000])) 0 .plain ∧ Pops (tAtU (tK [0x200000])) 0 1 [tE 0x200000] (tLow .U (tK []))
      ∧ (((tAtU (tK [0x200000])).fetched 0).chk 0 [pR] 0x200000 8).isOk = false)
    ∧ (Issues (tDs [0x700001000000]) 0 .plain ∧ Pops (tDs [0x700001000000]) 0 1 [tE 0x700001000000] (tK [])
      ∧ isControl 0x700001000000 = true ∧ ctlReach (tDs [0x700001000000]) 0 0x700001000000 = true)
    ∧ (Issues (tDs [0x700001008000]) 0 .plain ∧ Pops (tDs [0x700001008000]) 0 1 [tE 0x700001008000] (tK [])
      ∧ isControl 0x700001008000 = true ∧ ctlReach (tDs [0x700001008000]) 0 0x700001008000 = false) :=
  ⟨by decide +kernel, by decide +kernel,
    ⟨by decide +kernel, by decide +kernel, by decide +kernel, by decide +kernel, by decide +kernel, _, rfl⟩,
    by decide +kernel, by decide +kernel, by decide +kernel, by decide +kernel⟩

theorem test_meets_ScalarStoreResults :
    (Issues (tAtU (tK [0x700001000100, 5])) 0 .plain
      ∧ Pops (tAtU (tK [0x700001000100, 5])) 0 2 [tE 5, tE 0x700001000100] (tLow .U (tK [])) ∧ ownCcEx 0 0x700001000100 = true)
    ∧ (Issues (tState (tCore [tP 8, tE 5])) 0 .plain ∧ Pops (tState (tCore [tP 8, tE 5])) 0 2 [tE 5, tP 8] (tK [])
      ∧ (tK []).priv ≠ .U)
    ∧ (Issues (tDs [9, 5]) 0 .plain ∧ Pops (tDs [9, 5]) 0 2 [tE 5, tE 9] (tK []) ∧ 9 % 8 ≠ 0)
    ∧ (Issues (tAtU (tK [0x1FFFF8, 5])) 0 .plain ∧ Pops (tAtU (tK [0x1FFFF8, 5])) 0 2 [tE 5, tE 0x1FFFF8] (tLow .U (tK []))
      ∧ ownCcEx 0 0x1FFFF8 = false ∧ (((tAtU (tK [0x1FFFF8, 5])).fetched 0).chk 0 [pW] 0x1FFFF8 8).isOk = true)
    ∧ (Issues (tAtU (tK [0x200000, 5])) 0 .plain ∧ Pops (tAtU (tK [0x200000, 5])) 0 2 [tE 5, tE 0x200000] (tLow .U (tK []))
      ∧ (((tAtU (tK [0x200000, 5])).fetched 0).chk 0 [pW] 0x200000 8).isOk = false)
    ∧ (Issues (tDs [0x700001000008, 5]) 0 .plain ∧ Pops (tDs [0x700001000008, 5]) 0 2 [tE 5, tE 0x700001000008] (tK [])
      ∧ ctlReach (tDs [0x700001000008, 5]) 0 0x700001000008 = true)
    ∧ (Issues (tDs [0x700001008000, 5]) 0 .plain ∧ Pops (tDs [0x700001008000, 5]) 0 2 [tE 5, tE 0x700001008000] (tK [])
      ∧ ctlReach (tDs [0x700001008000, 5]) 0 0x700001008000 = false) := by
  refine ⟨?_, ?_, ?_, ?_, ?_, ?_, ?_⟩ <;> decide +kernel

theorem test_meets_MemoryWritesItsBytes :
    (7 < 8 ∨ 8 + [((5 : Byte), false)].length ≤ 7)
    ∧ (State.reset.mem.latent = [] ∧ ∀ x e, State.reset.cvEntry x = some e → 9 < e ∨ e + 8 ≤ 9)
    ∧ (Memory.wf State.reset.mem ∧ State.reset.repair.absent = [] ∧ State.reset.mem.psn = []
      ∧ ∀ x ∈ [((5 : Byte), false)], x.2 = false) :=
  ⟨by decide, ⟨rfl, fun x e h => by cases (show (none : Option Nat) = some e from h)⟩, by decide +kernel⟩

theorem test_meets_LocalMemoryResults :
    (Issues (tDs [0xFFF8]) 0 .plain ∧ Pops (tDs [0xFFF8]) 0 1 [tE 0xFFF8] (tK []) ∧ (tK []).lmOk .M 0xFFF8 8 = true
      ∧ ∃ k', (tK []).claim.push (loadVal false 8 ((tK []).lmRead 0xFFF8 8)) = .ok k')
    ∧ (Issues (tDs [1]) 0 .plain ∧ Pops (tDs [1]) 0 1 [tE 1] (tK []) ∧ 1 % 8 ≠ 0)
    ∧ (Issues (tDs [0x10000]) 0 .plain ∧ Pops (tDs [0x10000]) 0 1 [tE 0x10000] (tK []) ∧ (tK []).lmOk .M 0x10000 8 = false)
    ∧ (Issues (tDs [0xFFF8, 5]) 0 .plain ∧ Pops (tDs [0xFFF8, 5]) 0 2 [tE 5, tE 0xFFF8] (tK []))
    ∧ (Issues (tDs [1, 5]) 0 .plain ∧ Pops (tDs [1, 5]) 0 2 [tE 5, tE 1] (tK []))
    ∧ (Issues (tDs [0x10000, 5]) 0 .plain ∧ Pops (tDs [0x10000, 5]) 0 2 [tE 5, tE 0x10000] (tK []))
    ∧ (Issues (tDs []) 0 .plain ∧ (((tDs []).fetched 0).core 0).lmOk .M (8 * 1023) 8 = true
      ∧ ∃ k', (((tDs []).fetched 0).core 0).claim.push ((((tDs []).fetched 0).core 0).lmEntry 1023) = .ok k')
    ∧ (Issues (tDs [5]) 0 .plain ∧ Pops (tDs [5]) 0 1 [tE 5] (tK []) ∧ (tK []).lmOk .M (8 * 1023) 8 = true) :=
  ⟨⟨by decide +kernel, by decide +kernel, by decide, _, rfl⟩, by decide +kernel, by decide +kernel, by decide +kernel,
    by decide +kernel, by decide +kernel, ⟨by decide +kernel, by decide +kernel, _, rfl⟩, by decide +kernel⟩

theorem test_meets_LocalMemoryFrameAndRights :
    (0xFFFF < 0x10000 ∨ 0x10000 + [((5 : Byte), false)].length ≤ 0xFFFF) ∧ Canonical 0 (tK []).lm := by decide

theorem test_meets_DataCacheAnswers :
    ((tState { tK [] with dce := false }).core 0).dce = false
    ∧ (let k := { tK [] with dcache := [(0, [⟨0, 0, 0, false⟩])] };
      ((tState k).core 0).dce = true ∧ cacheFind ((tState k).core 0).dcache 63 = some ⟨0, 0, 0, false⟩) := by decide +kernel

theorem test_meets_CoreEventResults :
    (let k := { tK [] with dsSpill := 1, rsSpill := 1 };
      k.ds.length < 24 ∧ 0 < k.dsSpill ∧ bndBase k.ccDsBnd + (k.dsSpill - 1) < bndLimit k.ccDsBnd
      ∧ k.rs.length < 12 ∧ 0 < k.rsSpill ∧ k.mfaActive = false ∧ bndBase k.ccRsBnd + (k.rsSpill - 1) < bndLimit k.ccRsBnd)
    ∧ (let m : Miss := ⟨⟨64, 0, 0, false⟩, 1⟩;
      ([m].find? fun m => m.line.addr == 127 / 64 * 64) = some m)
    ∧ (let s := tState { tK [] with icache := [] };
      s.canFetch 0 (0x400000000000 / 64 * 64) = true ∧ cacheFind (s.core 0).icache 0x400000000000 = none)
    ∧ (∃ k', { tK [] with run := .running }.push (tE 5) = .ok k')
    ∧ ({ tK [] with oc := [(2047, ⟨.filling, 0, 0, false, false⟩)] }.ocLine 2047).st = .filling
    ∧ ({ tK [] with oc := [(2047, ⟨.dirty, 0, 0, false, true⟩)] }.ocLine 2047).wbPending = true
    ∧ (1 : BitVec 32) ≠ 0
    ∧ (let k := { tK [] with kernel := some 0, exAbort := 10 };
      k.kernel.isSome = true ∧ k.endStatus = none ∧ k.exAbort ≠ 0) :=
  ⟨by decide +kernel, by decide +kernel, by decide +kernel, ⟨_, rfl⟩, by decide +kernel, by decide +kernel, by decide,
    by decide +kernel⟩

/-- A record in local memory at 64 whose WAIT mask names barrier 0, and that barrier not yet satisfied. -/
def tWait : State := { tDs [64] with cores := [(0, { tK [64] with lm := [(66, 1)] })], regs := [(aCB 0 0, 0x100000000)] }

theorem test_meets_EnqueueResults :
    (Issues (tDs [32]) 0 .plain ∧ Pops (tDs [32]) 0 1 [tE 32] (tK []) ∧ 32 % 64 ≠ 0)
    ∧ (Issues (tDs [64]) 0 .plain ∧ Pops (tDs [64]) 0 1 [tE 64] (tK []) ∧ (tK []).lmOk .M 64 64 = true
      ∧ wantsExt (pbWords ((tK []).lmRead 64 64)) = false ∧ pbPsn ((tK []).lmRead 64 64) = false ∧ (tK []).freeTicket = some 0
      ∧ (tDs [64]).waitOk 0 0 0 0 ((pbWords ((tK []).lmRead 64 64)).getD 0 0) = true ∧ (tK []).waitsAhead .mx 0 = false
      ∧ (((tDs [64]).cluster 0).queue .mx).length < 4)
    ∧ (let k := { tK [] with tickets := (List.range 8).map fun i => (i, ⟨.mx, i, .queued⟩) };
      Issues (tState { k with ds := [tE 64] }) 0 .plain ∧ Pops (tState { k with ds := [tE 64] }) 0 1 [tE 64] k ∧ k.freeTicket = none)
    ∧ (let k := { tK [] with lm := [(66, 1)] };
      Issues tWait 0 .plain ∧ Pops tWait 0 1 [tE 64] k ∧ k.freeTicket = some 0
      ∧ tWait.waitOk 0 0 0 0 ((pbWords (k.lmRead 64 64)).getD 0 0) = false) := by decide +kernel

/-- A core with ticket 0 in a state, and the number 0 on its stack. -/
def tTick (st : TicketState) (l : List Nat) : Core := { tK l with tickets := [(0, ⟨.mx, 0, st⟩)] }

theorem test_meets_TicketResults :
    (Issues (tState (tTick (.done 3) [0])) 0 .plain ∧ Pops (tState (tTick (.done 3) [0])) 0 1 [tE 0] (tTick (.done 3) [])
      ∧ (tTick (.done 3) []).ticketAt (tE 0) = some ⟨.mx, 0, .done 3⟩
      ∧ (∃ k', { tTick (.done 3) [] with tickets := [] }.push ⟨3, false⟩ = .ok k')
      ∧ ∃ k', { tTick (.done 3) [] with tickets := [] }.pushAll [⟨3, false⟩, ⟨1, false⟩] = .ok k')
    ∧ (Issues (tState (tTick .queued [0])) 0 .plain ∧ Pops (tState (tTick .queued [0])) 0 1 [tE 0] (tTick .queued [])
      ∧ (tTick .queued []).ticketAt (tE 0) = some ⟨.mx, 0, .queued⟩ ∧ (∀ w, TicketState.queued ≠ .done w)
      ∧ ∃ k', (tTick .queued []).pushAll [⟨0, false⟩, ⟨0, false⟩] = .ok k')
    ∧ (Issues (tDs [8]) 0 .plain ∧ Pops (tDs [8]) 0 1 [tE 8] (tK []) ∧ (tK []).ticketAt (tE 8) = none)
    ∧ (let s := tState (tTick (.waiting [0x20] []) []);
      mfind (s.core 0).tickets 0 = some ⟨.mx, 0, .waiting [0x20] []⟩ ∧ s.waitOk 0 0 0 0 0x20 = true
      ∧ (s.core 0).waitsAhead .mx 0 = false ∧ ((s.cluster 0).queue .mx).length < 4 ∧ Engine.mx.takes (opOf [0x20]) = true)
    ∧ (mfind (tTick (.ended 3) []).tickets 0 = some ⟨.mx, 0, .ended 3⟩ ∧ (tTick (.ended 3) []).run ≠ .waitTicket 0
      ∧ { tTick (.ended 3) [0] with run := .waitTicket 0 }.run = .waitTicket 0) :=
  ⟨⟨by decide +kernel, by decide +kernel, by decide +kernel, ⟨_, rfl⟩, _, rfl⟩,
    ⟨by decide +kernel, by decide +kernel, by decide +kernel, fun _ => (by intro h; cases h), _, rfl⟩, by decide +kernel, by decide +kernel,
    by decide +kernel⟩

/-! ### The vector unit -/

/-- Whether a push answers a core. -/
def tIsOk (r : Except Nat Core) : Bool :=
  match r with
  | .ok _ => true
  | .error _ => false
theorem tOk {r : Except Nat Core} (h : tIsOk r = true) : ∃ k', r = .ok k' := by
  cases r with
  | ok k => exact ⟨k, rfl⟩
  | error e => cases h

/-- The descriptor of a group: first register, registers, format. -/
def tG (first len fmt : Nat) : Nat := first + (len - 1) * 2048 + fmt * 2 ^ 18
/-- A device as `tDs` whose partition's regions are the first granule, and the second of base SRAM for folds, where sward buffer 0
holds two cells and its status line follows them. -/
def tV (k : Core) : State :=
  { tState k with
    regs := [(aRgnLo 0 0, 0x71), (aRgnHi 0 0, 1), (aRgnLo 0 1, 0x400000200079), (aRgnHi 0 1, 1),
      (aSbBase 0 0, 0x400000200000), (aSbCfg 0 0, 0x8000000000020000), (aSbStat 0 0, 0x400000200080)] }
/-- Vector operands on the stack, the last on top. -/
def tVo (l : List Nat) : State := tV (tK l.reverse)

theorem test_meets_VectorElementResults :
    (VecIssues (tVo [tG 0 1 0, tG 1 1 0, tG 2047 1 0]) 0 3 (fun _ => true) [tE (tG 0 1 0), tE (tG 1 1 0), tE (tG 2047 1 0)] (tK [])
      ∧ (grp (tE (tG 2047 1 0)).val).ok = true ∧ (grp (tE (tG 0 1 0)).val).n = (grp (tE (tG 2047 1 0)).val).n)
    ∧ (VecIssues (tVo [tG 0 1 0, tG 1 1 0, tG 2047 2 0]) 0 3 (fun _ => true) [tE (tG 0 1 0), tE (tG 1 1 0), tE (tG 2047 2 0)] (tK [])
      ∧ (grp (tE (tG 2047 2 0)).val).ok = false)
    ∧ VecIssues (tVo [tG 0 1 0, tG 1 1 0, tG 2 1 0, tG 3 1 0]) 0 4 (fun _ => true)
        [tE (tG 0 1 0), tE (tG 1 1 0), tE (tG 2 1 0), tE (tG 3 1 0)] (tK [])
    ∧ VecIssues (tV (tCore [tE (tG 1 1 0), tP 5, tE (tG 0 1 0)])) 0 3 (fun i => i != 1) [tE (tG 0 1 0), tP 5, tE (tG 1 1 0)] (tK [])
    ∧ (VecIssues (tVo [tG 0 1 1, tG 1 1 1]) 0 2 (fun _ => true) [tE (tG 0 1 1), tE (tG 1 1 1)] (tK [])
      ∧ isArith (grp (tE (tG 1 1 1)).val).fmt = true ∧ isFloat (grp (tE (tG 1 1 1)).val).fmt = true) := by
  refine ⟨?_, ?_, ?_, ?_, ?_⟩ <;> decide +kernel

theorem test_meets_GroupWriteElements :
    Canonical 0 (tK []).vr ∧ (grp (tE (tG 2047 1 15)).val).fmt < 16 := by decide +kernel

theorem test_meets_VectorMaskResults :
    (VecIssues (tVo [tG 0 1 0, tG 1 1 0, 15]) 0 3 (fun _ => true) [tE (tG 0 1 0), tE (tG 1 1 0), tE 15] (tK [])
      ∧ (grp (tE (tG 0 1 0)).val).ok = true ∧ isArith 0 = true ∧ 15 < 16)
    ∧ VecIssues (tVo [0, 15, 1]) 0 3 (fun _ => true) [tE 0, tE 15, tE 1] (tK [])
    ∧ (VecIssues (tVo [2048, 15]) 0 2 (fun _ => true) [tE 2048, tE 15] (tK []) ∧ 2048 ≤ 2048)
    ∧ VecIssues (tVo [4096]) 0 1 (fun _ => true) [tE 4096] (tK [])
    ∧ VecIssues (tVo [4097]) 0 1 (fun _ => true) [tE 4097] (tK [])
    ∧ (Issues (tDs []) 0 .plain ∧ ∃ k', (((tDs []).fetched 0).core 0).push ⟨BitVec.ofNat 64 4096, false⟩ = .ok k')
    ∧ 2047 < 2048 ∧ Canonical 0 (tK []).mr :=
  ⟨by decide +kernel, by decide +kernel, by decide +kernel, by decide +kernel, by decide +kernel,
    ⟨by decide +kernel, _, rfl⟩, by decide, by decide⟩

theorem test_meets_VectorConversionResults :
    (VecIssues (tVo [tG 0 1 0, tG 1 1 0, 0]) 0 3 (fun _ => true) [tE (tG 0 1 0), tE (tG 1 1 0), tE 0] (tK [])
      ∧ (grp (tE (tG 0 1 0)).val).n = (grp (tE (tG 1 1 0)).val).n)
    ∧ (VecIssues (tVo [tG 0 8 1, tG 8 2 4, tG 10 1 15, 0]) 0 4 (fun _ => true)
        [tE (tG 0 8 1), tE (tG 8 2 4), tE (tG 10 1 15), tE 0] (tK [])
      ∧ (grp (tE (tG 0 8 1)).val).ok = true ∧ (grp (tE (tG 0 8 1)).val).n = 32 ∧ (grp (tE (tG 8 2 4)).val).n = 32
      ∧ (grp (tE (tG 0 8 1)).val).fmt ≤ 3 ∧ (grp (tE (tG 8 2 4)).val).fmt ∈ [4, 5, 6, 7, 8, 9]) := by
  refine ⟨?_, ?_⟩ <;> decide +kernel

theorem test_meets_ReductionResults :
    (VecIssues (tVo [tG 0 1 0]) 0 1 (fun _ => true) [tE (tG 0 1 0)] (tK []) ∧ (tK []).actives (grp (tE (tG 0 1 0)).val) = [0, 1]
      ∧ isFloat 0 = true ∧ ∃ k', { (tK []).rstat false false with redClaims := 1 }.push ⟨0, false⟩ = .ok k')
    ∧ (VecIssues (tVo [tG 0 1 14]) 0 1 (fun _ => true) [tE (tG 0 1 14)] (tK []) ∧ isArith 14 = true ∧ isFloat 14 = false)
    ∧ (VecIssues (tV { tK [tG 0 1 0 + 2 ^ 28] with vxVl := 0 }) 0 1 (fun _ => true) [tE (tG 0 1 0 + 2 ^ 28)] { tK [] with vxVl := 0 }
      ∧ { tK [] with vxVl := 0 }.actives (grp (tE (tG 0 1 0 + 2 ^ 28)).val) = [])
    ∧ (VecIssues (tVo [15, 2048]) 0 2 (fun _ => true) [tE 15, tE 2048] (tK [])
      ∧ ∃ k', { (tK []).rstat false false with redClaims := 1 }.push ⟨0, false⟩ = .ok k') :=
  ⟨⟨by decide +kernel, by decide +kernel, by decide +kernel, _, rfl⟩, by decide +kernel, by decide +kernel,
    ⟨by decide +kernel, _, rfl⟩⟩

theorem test_meets_VectorLoadResults :
    (let s := tVo [0x1FFFF0, tG 0 1 0];
      VecIssues s 0 2 (fun _ => true) [tE 0x1FFFF0, tE (tG 0 1 0)] (tK []) ∧ (grp (tE (tG 0 1 0)).val).ok = true
      ∧ firstFault (s.fetched 0) 0 pR true [(0, 0x1FFFF0, 8), (1, 0x1FFFF8, 8)] = none
      ∧ ((readRuns (s.fetched 0) 0 (runsOf [(0x1FFFF0, 8), (0x1FFFF8, 8)])).1.core 0).pairMiss = false)
    ∧ (let s := tVo [0x1FFFF8, tG 0 1 0];
      VecIssues s 0 2 (fun _ => true) [tE 0x1FFFF8, tE (tG 0 1 0)] (tK [])
      ∧ firstFault (s.fetched 0) 0 pR true [(0, 0x1FFFF8, 8), (1, 0x200000, 8)] = some (1, 2, 0, 0x200000)
      ∧ ((readRuns (s.fetched 0) 0 (runsOf [(0x1FFFF8, 8)])).1.core 0).pairMiss = false)
    ∧ firstFault ((tVo [0x200000, tG 0 1 0]).fetched 0) 0 pR true [(0, 0x200000, 8), (1, 0x200008, 8)] = some (0, 2, 0, 0x200000)
    ∧ (VecIssues (tVo [0, tG 2047 2 0]) 0 2 (fun _ => true) [tE 0, tE (tG 2047 2 0)] (tK []) ∧ (grp (tE (tG 2047 2 0)).val).ok = false)
    ∧ (VecIssues (tVo [0, 16, tG 0 1 0]) 0 3 (fun _ => true) [tE 0, tE 16, tE (tG 0 1 0)] (tK [])
      ∧ isPacked (grp (tE (tG 0 1 0)).val).fmt = false)
    ∧ (VecIssues (tVo [0, tG 1 1 14, tG 0 1 0]) 0 3 (fun _ => true) [tE 0, tE (tG 1 1 14), tE (tG 0 1 0)] (tK [])
      ∧ idxOk (grp (tE (tG 1 1 14)).val) 2 = true
      ∧ ((tK []).actives (grp (tE (tG 0 1 0)).val)).any ((tK []).elPsn (grp (tE (tG 1 1 14)).val)) = false)
    ∧ (VecIssues (tV { tK [tG 0 1 0, tG 1 1 14, 0] with vrPsn := [1] }) 0 3 (fun _ => true)
        [tE 0, tE (tG 1 1 14), tE (tG 0 1 0)] { tK [] with vrPsn := [1] }
      ∧ ({ tK [] with vrPsn := [1] }.actives (grp (tE (tG 0 1 0)).val)).any
          ({ tK [] with vrPsn := [1] }.elPsn (grp (tE (tG 1 1 14)).val)) = true) := by
  refine ⟨?_, ?_, ?_, ?_, ?_, ?_, ?_⟩ <;> decide +kernel

theorem test_meets_VectorStoreResults :
    (let s := tVo [tG 0 1 0, 0x1FFFF0];
      VecIssues s 0 2 (fun _ => true) [tE (tG 0 1 0), tE 0x1FFFF0] (tK []) ∧ isPacked (grp (tE (tG 0 1 0)).val).fmt = false
      ∧ firstFault (s.fetched 0) 0 pW true [(0, 0x1FFFF0, 8), (1, 0x1FFFF8, 8)] = none)
    ∧ firstFault ((tVo [tG 0 1 0, 0x1FFFF8]).fetched 0) 0 pW true [(0, 0x1FFFF8, 8), (1, 0x200000, 8)] = some (1, 2, 0, 0x200000)
    ∧ (VecIssues (tVo [tG 0 1 8, 0]) 0 2 (fun _ => true) [tE (tG 0 1 8), tE 0] (tK []) ∧ isPacked (grp (tE (tG 0 1 8)).val).fmt = true)
    ∧ (VecIssues (tVo [tG 2047 2 0, 0]) 0 2 (fun _ => true) [tE (tG 2047 2 0), tE 0] (tK []) ∧ (grp (tE (tG 2047 2 0)).val).ok = false)
    ∧ VecIssues (tVo [tG 0 1 0, 0, 16]) 0 3 (fun _ => true) [tE (tG 0 1 0), tE 0, tE 16] (tK [])
    ∧ (VecIssues (tVo [tG 0 1 0, 0, tG 1 1 14]) 0 3 (fun _ => true) [tE (tG 0 1 0), tE 0, tE (tG 1 1 14)] (tK [])
      ∧ idxOk (grp (tE (tG 1 1 14)).val) 2 = true) := by
  refine ⟨?_, ?_, ?_, ?_, ?_, ?_⟩ <;> decide +kernel

/-- A core whose operand cache lines 0 and 2047 are clean. -/
def tOc (l : List Nat) : Core := { tK l with oc := [(0, ⟨.clean, 0, 0, false, false⟩), (2047, ⟨.clean, 64, 0, false, false⟩)] }

theorem test_meets_OperandCacheResults :
    (VecIssues (tV (tOc [tG 0 1 0, 2047])) 0 2 (fun _ => true) [tE 2047, tE (tG 0 1 0)] (tOc [])
      ∧ (tOc []).ocUsable (ocLinesOf 0 2047 ((tOc []).actives (grp (tE (tG 0 1 0)).val))) = true)
    ∧ VecIssues (tV (tOc [2047, tG 0 1 0])) 0 2 (fun _ => true) [tE (tG 0 1 0), tE 2047] (tOc [])
    ∧ (VecIssues (tVo [0x1FFFC0, 2047, 1]) 0 3 (fun _ => true) [tE 0x1FFFC0, tE 2047, tE 1] (tK []) ∧ ocRange 2047 1 = true
      ∧ firstFault ((tVo [0x1FFFC0, 2047, 1]).fetched 0) 0 pW false [(0, 0x1FFFC0, 64)] = none
      ∧ firstFault ((tVo [0x1FFFC0, 2047, 1]).fetched 0) 0 pR false [(0, 0x1FFFC0, 64)] = none)
    ∧ (VecIssues (tVo [2047, 1]) 0 2 (fun _ => true) [tE 2047, tE 1] (tK []) ∧ ocRange 2047 1 = true
      ∧ firstFault ((tVo [2047, 1]).fetched 0) 0 pW false [] = none)
    ∧ (VecIssues (tVo [2047, 2]) 0 2 (fun _ => true) [tE 2047, tE 2] (tK []) ∧ ocRange 2047 2 = false)
    ∧ Issues (tVo []) 0 .plain := by
  refine ⟨?_, ?_, ?_, ?_, ?_, ?_⟩ <;> decide +kernel

/-- A chain descriptor at 0: one element, one FP64 source at line 0, one stage, result FP64 at line 0, FP64 throughout. -/
def tChain (l : List Nat) : Core := { tOc l with lm := [(0, 1), (2, 2), (4, 0x10)] }

theorem test_meets_ChainResults :
    (VecIssues (tV (tChain [0])) 0 1 (fun _ => true) [tE 0] (tChain []) ∧ (tChain []).lmOk .M 0 128 = true
      ∧ pbPsn ((tChain []).lmRead 0 128) = false ∧ chainOk (tChain []) (pbWords ((tChain []).lmRead 0 128)) = true)
    ∧ (VecIssues (tVo [0]) 0 1 (fun _ => true) [tE 0] (tK []) ∧ pbPsn ((tK []).lmRead 0 128) = false
      ∧ chainOk (tK []) (pbWords ((tK []).lmRead 0 128)) = false)
    ∧ Canonical OcLine.none (tChain []).oc ∧ 1 ∉ chainTouched (pbWords ((tChain []).lmRead 0 128)) := by
  refine ⟨?_, ?_, ?_, ?_⟩ <;> decide +kernel

theorem test_meets_VectorFoldResults :
    (let s := tVo [tG 0 1 0, 0x4000002000C0, 1];
      VecIssues s 0 3 (fun _ => true) [tE (tG 0 1 0), tE 0x4000002000C0, tE 1] (tK [])
      ∧ (s.fetched 0).foldTarget 0 0x4000002000C0 = none)
    ∧ (let s := tVo [tG 0 1 0, 0, 0];
      VecIssues s 0 3 (fun _ => true) [tE (tG 0 1 0), tE 0, tE 0] (tK [])
      ∧ swardFault (s.fetched 0) 0 0 0 ((tK []).actives (grp (tE (tG 0 1 0)).val)) = none)
    ∧ (let s := tVo [0, 0, tG 0 1 0];
      VecIssues s 0 3 (fun _ => true) [tE 0, tE 0, tE (tG 0 1 0)] (tK [])
      ∧ swardFault (s.fetched 0) 0 0 0 ((tK []).actives (grp (tE (tG 0 1 0)).val)) = none)
    ∧ (let s := tVo [tG 0 1 0, 0, 1];
      VecIssues s 0 3 (fun _ => true) [tE (tG 0 1 0), tE 0, tE 1] (tK []) ∧ swardFault (s.fetched 0) 0 0 1 [0] = none
      ∧ ∃ k', (let r := localCell ((s.fetched 0).anchor 0 0) (((tK []).actives (grp (tE (tG 0 1 0)).val)).map fun e =>
            (decode 0 ((tK []).el (grp (tE (tG 0 1 0)).val) e), false));
          let f := foldSeen (swardAdd ((s.fetched 0).setCore 0 (tK [])) 0 0 ((s.fetched 0).sbBase 0 0 + 64 * 1) (r.2 / 8 % 2 == 1)
            (some (sx 512 (r.1 % (2 ^ 512 : Nat)).toNat), r.2)) 0;
          { f.core 0 with redClaims := (f.core 0).redClaims + 1 }.push ⟨BitVec.ofNat 64 r.2, false⟩) = .ok k') :=
  ⟨by decide +kernel, by decide +kernel, by decide +kernel, by decide +kernel, by decide +kernel, tOk (by decide +kernel)⟩

theorem test_meets_FoldUnitResults :
    ((tVo []).foldTarget 0 0x1FFFC0).isSome = true ∧ (tVo []).foldTarget 0 0x4000003FFFC0 = none
    ∧ ((tVo []).swardTarget 0 0 0x400000200080).isSome = true ∧ (tVo []).swardTarget 0 0 0x400000200040 = none := by decide +kernel

/-! ### Registers as commands -/

/-- The device with registers and an arming in progress. -/
def tArm (regs : SMap W64) (arming : List (Nat × Nat × Nat)) : State := { tDs [] with regs, arming }

theorem test_meets_ArmingResults :
    ((tArm [] []).isArming kRgn 3 255 = false ∧ bitW ((tArm [] []).reg (aRgnLo 3 255)) 0 = false)
    ∧ (bitW ((tArm [(aRgnLo 3 255, 1)] []).reg (aRgnLo 3 255)) 0 = true ∧ (3, 255) ∉ (tArm [] []).disarming)
    ∧ (tArm [] []).armTurn kRgn 0 0 = false
    ∧ ((tArm [] [(kRgn, 0, 255)]).armTurn kRgn 0 255 = true ∧ fld ((tArm [] []).reg (aRgnHi 0 255)) 19 0 = 0)
    ∧ (let s := tArm [(aRgnLo 0 255, 0x200002), (aRgnHi 0 255, 1)] [(kRgn, 0, 255)];
      s.armTurn kRgn 0 255 = true ∧ fld (s.reg (aRgnHi 0 255)) 19 0 ≠ 0 ∧ bitW (s.reg (aRgnLo 0 255)) 1 = true
      ∧ fld (s.reg (aRgnLo 0 255)) 29 21 ≠ 0 ∧ rgnCheck s 0 255 ≠ 0)
    ∧ (let s := tArm [(aRgnLo 0 255, 0x70), (aRgnHi 0 255, 1)] [(kRgn, 0, 255)];
      s.armTurn kRgn 0 255 = true ∧ rgnCheck s 0 255 = 0) := by
  refine ⟨?_, ?_, ?_, ?_, ?_, ?_⟩ <;> decide +kernel

/-- Regions as in `tV`, sward buffer 0 not yet valid, its cells and status line as given. -/
def tSb (cfg stat : W64) : State :=
  tArm [(aRgnLo 0 0, 0x71), (aRgnHi 0 0, 1), (aRgnLo 0 1, 0x400000200079), (aRgnHi 0 1, 1),
    (aSbBase 0 0, 0x400000200000), (aSbCfg 0 0, cfg), (aSbStat 0 0, stat)] [(kSb, 0, 0)]

theorem test_meets_ArmingResults_sward :
    ((tArm [] []).isArming kSb 3 63 = false ∧ (tArm [] []).sbValid 3 63 = false ∧ (tArm [] []).armTurn kSb 0 0 = false)
    ∧ (tV (tK [])).sbValid 0 0 = true
    ∧ ((tSb 0 0).armTurn kSb 0 0 = true ∧ (tSb 0 0).sbCells 0 0 * 64 = 0)
    ∧ ((tSb 0x20000 0).sbCells 0 0 * 64 ≠ 0 ∧ ((tSb 0x20000 0).chk 0 [pFold] 0 64).isOk = false)
    ∧ (let s := tSb 0x20000 0x400000200040;
      ((s.chk 0 [pFold] (s.sbBase 0 0) 128).isOk && (s.chk 0 [pFold] (s.sbStat 0 0) 64).isOk) = true
      ∧ s.sbBase 0 0 ≤ s.sbStat 0 0 ∧ s.sbStat 0 0 < s.sbBase 0 0 + 128)
    ∧ (let s := tSb 0x20000 0x400000200080;
      ((s.chk 0 [pFold] (s.sbBase 0 0) 128).isOk && (s.chk 0 [pFold] (s.sbStat 0 0) 64).isOk) = true
      ∧ ¬ (s.sbBase 0 0 ≤ s.sbStat 0 0 ∧ s.sbStat 0 0 < s.sbBase 0 0 + 128)) := by
  refine ⟨?_, ?_, ?_, ?_, ?_, ?_⟩ <;> decide +kernel

/-- Remote window 63 over one line of the fold region, or of nothing. -/
def tWin (base len : W64) : State :=
  tArm [(aRgnLo 0 1, 0x400000200079), (aRgnHi 0 1, 1), (aWinLo 0 63, base), (aWinHi 0 63, len)] [(kWin, 0, 63)]
/-- BAR2 window 15 at an offset, of a length, onto a device address. -/
def tB2 (lo hi : W64) : State := tArm [(aB2Lo 0 15, lo), (aB2Hi 0 15, hi)] [(kB2, 0, 15)]

theorem test_meets_ArmingResults_windows :
    ((tArm [] []).isArming kWin 3 63 = false ∧ (tArm [] []).winValid 3 63 = false ∧ (tArm [] []).armTurn kWin 0 0 = false)
    ∧ (tWin 0 0x100000001).winValid 0 63 = true
    ∧ ((tWin 0x400000200000 1).armTurn kWin 0 63 = true ∧ winCheck (tWin 0x400000200000 1) 0 63 = 0)
    ∧ winCheck (tWin 0 1) 0 63 ≠ 0
    ∧ ((tArm [] []).isArming kB2 3 15 = false ∧ (tArm [] []).b2Valid 3 15 = false ∧ (tArm [] []).armTurn kB2 0 0 = false)
    ∧ (tB2 1 0).b2Valid 0 15 = true
    ∧ ((tB2 0 0).armTurn kB2 0 15 = true ∧ (tB2 0 0).b2Len 0 15 = 0)
    ∧ ((tB2 0 (0x1FFFFE00000 + 1)).b2Len 0 15 ≠ 0
      ∧ 2 ^ (tB2 0 0).bar2Log2 0 < (tB2 0 (0x1FFFFE00000 + 1)).b2Off 0 15 + (tB2 0 (0x1FFFFE00000 + 1)).b2Len 0 15)
    ∧ ((tB2 0 1).b2Off 0 15 + (tB2 0 1).b2Len 0 15 ≤ 2 ^ (tB2 0 1).bar2Log2 0
      ∧ ((List.range 16).any fun m => m != 15 && (tB2 0 1).b2Valid 0 m && overlap 0 1 ((tB2 0 1).b2Off 0 m) ((tB2 0 1).b2Len 0 m)) = false
      ∧ (tB2 0 1).inGrants 0 ((tB2 0 1).b2Dev 0 15) ((tB2 0 1).b2Len 0 15) = true
      ∧ (tB2 0x200000 1).inGrants 0 ((tB2 0x200000 1).b2Dev 0 15) ((tB2 0x200000 1).b2Len 0 15) = false)
    ∧ (let s := tArm [(aB2Lo 0 0, 1), (aB2Hi 0 0, 1), (aB2Hi 0 15, 1)] [(kB2, 0, 15)];
      ((List.range 16).any fun m => m != 15 && s.b2Valid 0 m && overlap (s.b2Off 0 15) (s.b2Len 0 15) (s.b2Off 0 m) (s.b2Len 0 m)) = true) := by
  refine ⟨?_, ?_, ?_, ?_, ?_, ?_, ?_, ?_, ?_, ?_⟩ <;> decide +kernel

theorem test_meets_RegisterWriteResults :
    (let s := tDs [];
      s.hw.fatal = false ∧ (s.host 0).fatal = false ∧ s.power.pwrGood = true ∧ s.power.sysRstN = true ∧ s.boot.stage = 5
      ∧ s.ideOk 0 = true ∧ (s.host 0).preset = .none
      ∧ s.bar0Pf 0 0x10 = .reg (aPart 0 + 0x10) ∧ (regLanes (aPart 0 + 0x10) 8).isSome = true ∧ regLanes (aPart 0 + 0x10) 1 = none
      ∧ s.bar0Pf 0 0x2000FF = .chan 3 0x3F ∧ s.bar0Pf 0 0x200100 = .reserved ∧ s.bar0Pf 0 0x4080FF = .pba)
    ∧ (tArm [(aHP 0 + 0x200 + 8 * 15, 0x1003)] []).bar0Vf 0 15 0x3F = .chan 3 0x3F
    ∧ ({ tDs [] with power := { State.reset.power with sysRstN := false } } : State).power.sysRstN = false
    ∧ (isControl 0 = false ∧ isControl (aCoreWin 0) = true ∧ ctlReach (tDs []) ((tDs []).corePart 0) (aCoreWin 0) = true
      ∧ ctlReach (tDs []) ((tDs []).corePart 0) (aCoreWin 8) = false)
    ∧ (((tAtU (tK [])).core 0).priv = .U ∧ aCoreWin 0 + 0x100 ≤ aCoreWin 0 + 0x2FF ∧ aCoreWin 0 + 0x2FF < aCoreWin 0 + 0x300)
    ∧ (((tDs []).core 0).priv ≠ .U ∧ (regLanes (aCoreWin 0 + 0xFF8) 8).isSome = true ∧ aCoreWin 0 + 0xFF8 < aCoreWin (0 + 1)
      ∧ ¬ (aCoreWin 0 ≤ aHW ∧ aHW < aCoreWin (0 + 1)) ∧ regLanes (aCoreWin 0) 2 = none)
    ∧ Priv.S ≠ .M := by
  refine ⟨?_, ?_, ?_, ?_, ?_, ?_, ?_⟩ <;> decide +kernel

/-- The device whose link port 7 belongs to partition 0, with a port state. -/
def tPort (x : LinkPort) : State :=
  { tDs [] with ports := [(7, x)], policy := { (tDs []).policy with portOwner := List.replicate 8 (some 0), portEth := List.replicate 8 false } }

theorem test_meets_LinkRegisterResults :
    ((tPort LinkPort.reset).portPart (refPort (7 * 8192 + 5)) = some 0 ∧ refEntry (7 * 8192 + 5) ≠ 0 ∧ refEntry (7 * 8192) = 0)
    ∧ (tDs []).portPart (refPort 0) ≠ some 0
    ∧ (tPort LinkPort.reset).portPart (fld 0x1C000 16 14) = some 0
    ∧ (bitW ((tPort LinkPort.reset).reg (aPortCfg 0 7)) 2 = false
      ∧ (let s := tPort LinkPort.reset;
        bitW ((s.setReg (aPortCfg 0 7) (setFld (s.reg (aPortCfg 0 7)) 2 2 1)).reg (aPortCfg 0 7)) 2 = true))
    ∧ mget 0 (tDs []).hw.viewAt 0 ≠ fld 0 31 0 + 1
    ∧ (let s := { tDs [] with hw := { State.reset.hw with viewAt := [(0, 1)] } };
      mget 0 s.hw.viewAt (2 * 0) = fld 0 31 0 + 1) := by
  refine ⟨?_, ?_, ?_, ?_, ?_, ?_⟩ <;> decide +kernel

/-! ### Repair -/

/-- The device with errors not yet found, and words that await their write-back. -/
def tMem (latent : SMap StoreErr) (writeback : List Nat) : State :=
  { tDs [] with mem := { State.reset.mem with latent, writeback }, policy := { (tDs []).policy with scrub := true } }
def tRep (r : Repair) : State := { tDs [] with repair := r }
def tRec (n : Nat) : RepairRec := ⟨1, n % 18, 0, n, n, 0, 0, n, true⟩

theorem test_meets_RepairResults :
    ((tDs []).policy.scrub = false ∧ mfind (tDs []).mem.latent (lmWord 2047 0xFFF8) = none ∧ isMemory 0x400000000000 = true
      ∧ isMemory 0x3FFFFFFFFFFF = false)
    ∧ ((tMem [(lmWord 2047 0xFFF8, .uncorrectable)] []).policy.scrub = true
      ∧ mfind (tMem [(lmWord 2047 0xFFF8, .uncorrectable)] []).mem.latent (lmWord 2047 0xFFF8) = some .uncorrectable)
    ∧ (let s := tMem [(unitOf 0x400000000000, .correctable true)] [unitOf 0x400000000000];
      s.isDetect 0x400000000000 = false ∧ s.isAbsent 0x400000000000 = false
      ∧ mfind s.mem.latent (unitOf 0x400000000000) = some (.correctable true) ∧ unitOf 0x400000000000 ∈ s.mem.writeback)
    ∧ mfind (tMem [(8, .correctable false)] [8]).mem.latent (unitOf 64) = some (.correctable false)
    ∧ (8 ∈ (tMem [] [8]).mem.writeback ∧ mfind (tMem [] [8]).mem.latent 8 = none ∧ 8 ∉ (tMem [] []).mem.writeback)
    ∧ ((tDs []).bank 895).copying = none
    ∧ ((tRep { (tDs []).repair with banks := [(895, { Bank.reset with copying := some (4095, 63) })] }).bank
        ((tDs []).bankNo (.base 895))).copying = some (4095, 63)
    ∧ (mfind (tDs []).repair.copying 3583 = none ∧ mfind (tRep { (tDs []).repair with copying := [(3583, 127)] }).repair.copying 3583 = some 127)
    ∧ (mfind (tDs []).repair.ddrCopying 0 = none ∧ mfind (tRep { (tDs []).repair with ddrCopying := [(0, 5)] }).repair.ddrCopying 0 = some 5)
    ∧ ((tDs []).pprOn ⟨79, 255, 65535, 0⟩ = false
      ∧ (tRep { (tDs []).repair with rows := [⟨79, 255, 65535, 0, true⟩] }).pprOn ⟨79, 255, 65535, 0⟩ = true)
    ∧ ((tDs []).repair.pending = [] ∧ (tRep { (tDs []).repair with pending := [tRec 0] }).repair.pending = tRec 0 :: []
      ∧ ((tDs []).repair.recs ++ [tRec 0]).length ≤ 16384) := by
  refine ⟨?_, ?_, ?_, ?_, ?_, ?_, ?_, ?_, ?_, ?_, ?_⟩ <;> decide +kernel

/-- A journal whose every record governs: none may be dropped. -/
theorem test_meets_RepairResults_full :
    let all := (List.replicate 16384 (tRec 0)) ++ [tRec 1]
    16384 < (if all.length ≤ 16384 then all else all.filter fun x => !all.any fun y => y.over x).length := by
  intro all
  have hl : all.length = 16385 := by
    show (List.replicate 16384 (tRec 0) ++ [tRec 1]).length = 16385
    rw [List.length_append, List.length_replicate]; rfl
  have ht : ∀ y ∈ all, y.type = 1 := by
    intro y hy
    rcases List.mem_append.1 hy with h | h
    · rw [(List.mem_replicate.1 h).2]; rfl
    · rw [List.mem_singleton.1 h]; rfl
  have hf : (all.filter fun x => !all.any fun y => y.over x) = all := by
    refine List.filter_eq_self.2 fun x _ => ?_
    rw [Bool.not_eq_true', List.any_eq_false]
    intro y hy
    rw [RepairRec.over, ht y hy]
    simp
  rw [if_neg (by rw [hl]; decide), hf, hl]
  decide

theorem test_meets_RepairResults_transfer :
    (isMemory (0x4000000000FF / 256 * 256) = true ∧ (tDs []).isAbsent (0x4000000000FF / 256 * 256) = false)
    ∧ ((tDs []).physOfRole 255 = some 283 ∧ 287 < 288 ∧ 287 ∉ ((tDs []).physOf 283).erased
      ∧ (((tDs []).physOf 283).erased.filter fun g => g % 8 == 287 % 8).length < 2)
    ∧ (let s := (tDs []).setPhys 283 { (tDs []).physOf 283 with erased := [7, 15] };
      s.physOfRole 255 = some 283 ∧ 15 ∈ (s.physOf 283).erased ∧ 287 ∉ (s.physOf 283).erased
      ∧ 2 ≤ ((s.physOf 283).erased.filter fun g => g % 8 == 287 % 8).length)
    ∧ ((tDs []).repair.d2dRetired.contains 5 = false
      ∧ (tRep { (tDs []).repair with d2dRetired := [5] }).repair.d2dRetired.contains 5 = true) := by
  refine ⟨?_, ?_, ?_, ?_⟩ <;> decide +kernel

/-! ### The engines -/

/-- An FP32 product of one row, one column and one K index: A in LPDDR6, B in base SRAM, C in LPDDR6. -/
def tMm : List W64 := [0x20, 0x11000000000000, 0x400000200000, 0x1000, 0, 0x100000000, 1]
/-- The device of `tV` with a cluster 0. -/
def tClu (k : Cluster) : State := { tV (tK []) with clusters := [(0, k)] }
def tQ (w : List W64) : EngCmd := ⟨.cmd 0, w, none, 0⟩

/-- A row of one column whose result is 0, and its check column's. -/
def tRow (skip : Bool) (chk : Dy) (mis : Option (Nat × Dy)) : RowPend :=
  ⟨0, [⟨.fin false 0 0, none, false, false, false, false⟩], chk, none, skip, mis⟩
/-- A running matrix command of one block and one pass. -/
def tMx : MxRun :=
  { src := .cmd 0, part := 0, cmd := mxParse tMm none, hdr := 0x20, sameFmt := false, cls := 3, block := 0, pass := 0, row := 0,
    active := some ⟨0, [[⟨.fin false 0 0, false⟩]], [⟨.fin false 0 0, false⟩]⟩, shadow := none, retained := none,
    tile := ⟨false, 0, [[⟨0, false⟩]]⟩, drain := [], pend := none, flags := 0, wrotePsn := false, viol := none, cover := [],
    failed := false, stop := none }
def tRun (m : MxRun) : State := tClu { Cluster.reset with mx := some m }

theorem test_meets_MatrixCommandResults :
    (let s := tClu { Cluster.reset with mxQ := [tQ tMm] };
      (s.cluster 0).mx = none ∧ (s.cluster 0).mxQ = tQ tMm :: [] ∧ opOf tMm = 0x20
      ∧ s.mxCheck 0 0 (bitW (s.reg (aMX 0)) 0) (mxParse tMm none) none = none)
    ∧ (tClu Cluster.reset).mxCheck 0 0 false (mxParse [0x20] none) none = some .illegalCommand
    ∧ opOf (tQ [0x21]).words = 0x21
    ∧ (((tRun tMx).cluster 0).mx = some tMx ∧ tMx.pend = none ∧ tMx.failed = false ∧ (tRun tMx).power.holdIssue = false
      ∧ tMx.block < tMx.cmd.blocks ∧ tMx.row < tMx.cmd.rows tMx.block ∧ ∀ t ∈ tMx.drain, t.isB ≠ tMx.tile.isB)
    ∧ (let m := { tMx with row := 1 };
      m.cmd.rows m.block ≤ m.row ∧ m.cmd.nPass ≤ m.pass + 1 ∧ m.cmd.blocks ≤ m.block + 1)
    ∧ (let m := { tMx with row := 1, cmd := { tMx.cmd with k := 33 } };
      m.block < m.cmd.blocks ∧ m.cmd.rows m.block ≤ m.row ∧ m.pass + 1 < m.cmd.nPass)
    ∧ (let m := { tMx with row := 1, cmd := { tMx.cmd with m := 2, rowBlock := 1 } };
      m.block < m.cmd.blocks ∧ m.cmd.rows m.block ≤ m.row ∧ m.cmd.nPass ≤ m.pass + 1 ∧ m.block + 1 < m.cmd.blocks ∧ m.stop = none)
    ∧ (let m := { tMx with drain := [tMx.tile] };
      ((tRun m).cluster 0).mx = some m ∧ m.drain = tMx.tile :: [] ∧ m.cmd.range = false)
    ∧ (let m := { tMx with block := 1 };
      ((tRun m).cluster 0).mx = some m ∧ m.drain = [] ∧ m.pend = none ∧ m.cmd.blocks ≤ m.block ∧ m.stop.getD .ok ≠ .rangeCheck)
    ∧ (let m := { tMx with block := 1, viol := some 5 };
      m.cmd.blocks ≤ m.block ∧ Status.worse (if m.viol.isSome then .rangeCheck else .ok) (m.stop.getD .ok) = .rangeCheck) := by
  refine ⟨?_, ?_, ?_, ?_, ?_, ?_, ?_, ?_, ?_, ?_⟩ <;> decide +kernel

/-- The same with INTEGRITY on, so that the windrow is checked. -/
def tChk (m : MxRun) : State := { tRun m with policy := { (tRun m).policy with integrity := true } }

theorem test_meets_WindrowCheckResults :
    (let m := { tMx with pend := some (tRow false Dy.zero none) };
      ((tRun m).cluster 0).mx = some m ∧ (tRun m).windrowOff 0 = true ∧ (tChk m).windrowOff 0 = false
      ∧ comparePasses m.cmd (colsErr (tRow false Dy.zero none).cols 0 Dy.zero) (dyAdd Dy.zero Dy.zero) none = true
      ∧ comparePasses m.cmd (colsErr (tRow false Dy.zero none).cols 0 ⟨1, 0⟩) (dyAdd Dy.zero Dy.zero) none = false)
    ∧ (let m := { tMx with pend := some (tRow true Dy.zero none) };
      ((tChk m).cluster 0).mx = some m ∧ (tRow true Dy.zero none).skip = true)
    ∧ (let p := tRow false Dy.zero (some (0, ⟨1, 0⟩));
      ((tChk { tMx with pend := some p }).cluster 0).mx = some { tMx with pend := some p } ∧ p.mismatch = some (0, ⟨1, 0⟩)
      ∧ sameCols (colsErr p.cols 0 ⟨1, 0⟩) (colsErr p.cols 0 ⟨1, 0⟩) = true
      ∧ sameCols (colsErr p.cols 0 Dy.zero) (colsErr p.cols 0 ⟨1, 0⟩) = false
      ∧ comparePasses tMx.cmd (colsErr p.cols 0 Dy.zero) (dyAdd p.chk Dy.zero) p.chkE = true
      ∧ comparePasses tMx.cmd (colsErr p.cols 0 ⟨2, 0⟩) (dyAdd p.chk Dy.zero) p.chkE = false)
    ∧ (tMx.cmd.acc ≠ 13 ∧ 0 < tMx.tile.els.length
      ∧ (tMx.tile.els.getD 0 []).length ≤ (tRow false Dy.zero none).cols.length) := by
  refine ⟨?_, ?_, ?_, ?_⟩ <;> decide +kernel

/-- A COPY of one row of eight bytes from LPDDR6 to LPDDR6. -/
def tDw (op : Nat) : List W64 := [0, 0x1000, 0x100000008, 0, BitVec.ofNat 64 op]
def tDesc (ph : DescPhase) (op : Nat) : Desc := ⟨0, tDw op, ph, 64, [0], 0, [], []⟩
def tSe (cur : Option Desc) (retries : Nat) : SeRun :=
  ⟨.cmd 0, 0, 0x30, 0, 1, 0, [], none, cur, 0, none, none, none, none, retries, [], [], []⟩
def tStream (x : SeRun) : State := tClu { Cluster.reset with se := some x }
/-- A descriptor whose source is host memory. -/
def tHostDesc : Desc := ⟨0, [0, 0x1000, 0x100000008, 0, 0x100], .granted, 64, [0], 0, [], []⟩

theorem test_meets_StreamCommandResults :
    (let s := tClu { Cluster.reset with seQ := [tQ [0x30, 0x1FFFC0, 65536]] };
      (s.cluster 0).se = none ∧ (s.cluster 0).seQ = tQ [0x30, 0x1FFFC0, 65536] :: [] ∧ opOf (tQ [0x30, 0x1FFFC0, 65536]).words = 0x30
      ∧ fld 65536 16 0 ≤ 65536 ∧ fld 0x1FFFC0 47 0 % 64 = 0)
    ∧ (fld (0 : W64) 16 0 = 0 ∧ 65536 < fld 65537 16 0)
    ∧ (let x := tSe none 0;
      ((tStream x).cluster 0).se = some x ∧ x.fetched.length ≤ 8 ∧ x.bad = none ∧ x.next < x.count)
    ∧ (let x := { tSe none 0 with list := 0x200000 };
      (tStream x).extBad x.part [pR] (x.list + 64 * x.next) 64 = some 0x200000)
    ∧ (let x := tSe (some (tDesc .waitSlots 0)) 0;
      ((tStream x).cluster 0).se = some x ∧ (∀ e ∈ [0], 64 ≤ ((tStream x).cluster e).slotsFree)
      ∧ ∀ e ∈ (tStream x).passes (tDesc .waitSlots 0), ((tStream x).cluster e).passedOver < 16)
    ∧ (∀ op ∈ [0, 1, 2, 3, 4], dOp (tDesc .granted op).words = op ∧ (tDesc .granted op).phase = .granted
      ∧ (readsRows (tDesc .granted op).words && dSrcHost (tDesc .granted op).words) = false)
    ∧ (tStream (tSe (some (tDesc .granted 0)) 0)).firstMismatch 0 (tDesc .granted 0) = none
    ∧ (let s := tStream (tSe (some tHostDesc) 0);
      (readsRows tHostDesc.words && dSrcHost tHostDesc.words) = true ∧ s.hostWay 0 (s.seFn (tSe (some tHostDesc) 0)) = .denied
      ∧ ({ s with hosts := [(0, { HostPort.reset with bme := [0], d3hot := [0] })] } : State).hostWay 0 0 = .held
      ∧ ({ s with hosts := [(0, { HostPort.reset with bme := [0] })] } : State).hostWay 0 0 = .open) := by
  refine ⟨?_, ?_, ?_, ?_, ?_, ?_, ?_, ?_⟩ <;> decide +kernel

/-- A block of 4 KiB with a check value, and a transfer fault that makes its comparison mismatch. -/
def tBlk : State :=
  let x := tSe (some ⟨0, [0x1000, 0x2000, 0x100001000, 0, 0], .granted, 64, [0], 0, [], []⟩) 0
  { tStream x with
    clusters := [(0, { Cluster.reset with se := some x, xferFault := 1 })]
    regs := [(aRgnLo 0 0, 0x71), (aRgnHi 0 0, 1), (aCvt 0 0, 0x100001)]
    mem := { State.reset.mem with bytes := [(0x10000C, 1)] } }

theorem test_meets_StreamCommandResults_mismatch :
    tBlk.firstMismatch 0 ⟨0, [0x1000, 0x2000, 0x100001000, 0, 0], .granted, 64, [0], 0, [], []⟩ = some 0x1000
    ∧ (tDesc (.reread 0x1000) 0).phase = .reread 0x1000 ∧ (tDesc .moved 0).phase = .moved := by
  refine ⟨?_, ?_, ?_⟩ <;> decide +kernel

/-- A dispatched command of channel 0. -/
def tCmd (words : List W64) (started : Bool) (st : Option Status) : Cmd :=
  ⟨0, 0, 0, 0, words, none, started, st, 0, 0, false⟩

theorem test_meets_StreamCommandResults_ends :
    (((tStream (tSe none 2)).cluster 0).se = some (tSe none 2) ∧ (tSe none 2).retries < 3 ∧ 3 ≤ (tSe none 3).retries)
    ∧ (let s := { tStream (tSe (some (tDesc .granted 0)) 0) with cmds := [tCmd [0x30] true none] };
      s.cmd 0 = some (tCmd [0x30] true none) ∧ (s.cluster 0).se = some (tSe (some (tDesc .granted 0)) 0)
      ∧ (tSe (some (tDesc .granted 0)) 0).src.is 0 = true ∧ (tDesc .granted 0).phase ≠ .waitSlots)
    ∧ (let s := { tDs [] with cmds := [tCmd [0x20] false none] };
      s.cmd 0 = some (tCmd [0x20] false none) ∧ (s.cluster 0).se = none ∧ (tCmd [0x20] false none).started = false
      ∧ (tCmd [0x20] true none).started = true ∧ (s.linkOps.any fun o => o.id == 0) = false)
    ∧ (let s := { tV (tK []) with disarming := [(0, 0)] };
      (0, 0) ∈ s.disarming ∧ (0, 0) ∉ (tV (tK [])).disarming
      ∧ ((s.heldRanges 0).any fun r => overlap r.1 r.2 0 0x200000) = false)
    ∧ (((tStream (tSe (some (tDesc .granted 0)) 0)).heldRanges 0).any fun r => overlap r.1 r.2 0 0x200000) = true := by
  refine ⟨?_, ?_, ?_, ?_, ?_⟩ <;> decide +kernel

/-! ### Channels and kernels -/

/-- The device whose partition has cluster 0 in its cluster set 0, channel table entries, and what the dispatcher holds of channel 3. -/
def tCh (tab : SMap W64) (k : Chan) (bars : SMap W64) : State :=
  { tDs [] with
    regs := [(aRgnLo 0 0, 0x71), (aRgnHi 0 0, 1), (aCSet 0 0 0, 1)] ++ bars
    chanTab := tab
    chans := [(3, k)] }
/-- Rings of 16 records at 0 and at 0x1000; channel 3 armed with generation 1, and the cache's copy of it. -/
def tTab (pi : W64) : SMap W64 := [(24, 0x11), (25, 4), (26, 0x1004), (27, pi)]
def tChan (w6 : W64) (l : List (List W64 × Bool)) : Chan := ⟨some 1, true, true, 0x11, 4, 0x1004, w6, l, 0⟩
def tHead (w : List W64) (psn : Bool) : Head := ⟨w, psn, none, []⟩

theorem test_meets_ChannelResults :
    (let s := tCh [(24, 0x11)] Chan.reset [];
      s.dispatchOn 0 = true ∧ fld (s.chW 3 0) 1 0 = 1 ∧ (s.chan 3).gen ≠ some (fld (s.chW 3 0) 7 4) ∧ s.armOk 0 3 = false
      ∧ (s.haltChan 3 .illegalCommand 0).armed 3 = false)
    ∧ (let s := tCh (tTab 16) Chan.reset [];
      (s.chan 3).gen ≠ some (fld (s.chW 3 0) 7 4) ∧ s.armOk 0 3 = true
      ∧ (s.loadChan 0 3).chWaiting 3 ≤ 2 ^ fld ((s.loadChan 0 3).chan 3).w1 5 0)
    ∧ (∀ n ∈ ([0, 2, 3] : List Nat), fld ((tCh [(24, BitVec.ofNat 64 n)] Chan.reset []).chW 3 0) 1 0 = n)
    ∧ (let s := tCh (tTab 1) { tChan 0 [([0x41], false)] with live := false } [];
      s.chanPart 3 = some 0 ∧ s.dispatchOn 0 = true ∧ fld (s.chW 3 0) 1 0 = 1 ∧ (s.chan 3).gen = some (fld (s.chW 3 0) 7 4)
      ∧ (s.chan 3).live = false)
    ∧ (let s := tCh [(24, 3)] Chan.reset [];
      fld (s.chW 3 0) 1 0 = 3 ∧ s.cmdsOf 3 = [] ∧ (s.chan 3).fetched = [] ∧ (tCh [(24, 3)] (tChan 0 [([0x41], false)]) []).chan 3 ≠ s.chan 3)
    ∧ (∀ n ∈ ([16, 17] : List Nat), let s := tCh (tTab (BitVec.ofNat 64 n)) (tChan 0 []) [];
      s.chanPart 3 = some 0 ∧ s.dispatchOn 0 = true ∧ s.serves 3 = true ∧ s.chWaiting 3 = n ∧ (s.chan 3).cached = true
      ∧ (s.chan 3).gen = some (fld (s.chW 3 0) 7 4) ∧ 2 ^ fld (s.chan 3).w1 5 0 = 16 ∧ bitW (s.chan 3).w0 12 = false)
    ∧ (let s := tCh (tTab 1) (tChan 0 [([0x41], true)]) [];
      s.serves 3 = true ∧ headOf (s.chan 3).fetched = some (tHead [0x41] true) ∧ s.cplRoom 3 = true)
    ∧ (∀ n ∈ ([0x41, 0x30] : List Nat), let w := BitVec.ofNat 64 n;
      let s := tCh (tTab 1) (tChan 0 [([w], false)]) [];
      s.chanPart 3 = some 0 ∧ s.dispatchOn 0 = true ∧ s.serves 3 = true ∧ (s.chan 3).cached = true
      ∧ headOf (s.chan 3).fetched = some (tHead [w] false) ∧ s.cplRoom 3 = true ∧ opKnown (opOf [w]) = true
      ∧ s.target 0 (s.chan 3).w0 w = some 0 ∧ s.headReady 0 3 0 (tHead [w] false) = true ∧ (s.cluster 0).chans.length < 4
      ∧ (s.cluster 0).room (opOf [w]) = true ∧ s.outranked 0 3 0 (opOf [w]) = false
      ∧ fld (s.chan 3).w6 31 16 = fld (s.reg (aEpoch 0)) 15 0)
    ∧ (let s := tCh (tTab 1) (tChan 0x10000 [([0x41], false)]) [];
      s.headReady 0 3 0 (tHead [0x41] false) = true ∧ fld (s.chan 3).w6 31 16 ≠ fld (s.reg (aEpoch 0)) 15 0)
    ∧ (let s := tCh (tTab 1) (tChan 0 [([0x10041], false)]) [(aCB 0 0, 0x100000000)];
      s.target 0 (s.chan 3).w0 0x10041 = some 0 ∧ s.headReady 0 3 0 (tHead [0x10041] false) = false)
    ∧ (let s := { tDs [] with cmds := [tCmd [0x41] false none, { tCmd [0x40] false none with id := 1 }] };
      s.waitingCmd 0 0x41 = some (tCmd [0x41] false none) ∧ (s.waitingCmd 1 0x40).isSome = true)
    ∧ (let s := tCh (tTab 1) (tChan 0 [([0x41], false)]) [];
      s.chanPart 3 = some 0 ∧ (s.chan 3).fetched ≠ [] ∧ sadd ((s.chans.map (·.1)).filter fun x => s.chanPart x == some 0) 3 = [3]
      ∧ s.cmdsOf 2 = [] ∧ (s.chan 2).fetched = []) := by
  refine ⟨?_, ?_, ?_, ?_, ?_, ?_, ?_, ?_, ?_, ?_, ?_, ?_⟩ <;> decide +kernel

/-- The device with one dispatched command of channel 0. -/
def tOne (c : Cmd) (w0 : W64) : State := { tDs [] with cmds := [c], chans := [(0, { tChan 0 [] with w0 })] }

theorem test_meets_CommandCompletionResults :
    (let c := { tCmd [0x41] true (some .aborted) with silent := true };
      (tOne c 0).cmd 0 = some c ∧ c.status = some .aborted ∧ c.silent = true)
    ∧ (let c := tCmd [0x41] true (some .ok);
      let s := { tOne c 0x2000 with hosts := [(0, { HostPort.reset with bme := [0], d3hot := [0] })] };
      s.cmd 0 = some c ∧ c.silent = false ∧ bitW (s.chan c.ch).w0 13 = true ∧ s.hostWay c.part (s.chanFn c.ch) = .held)
    ∧ (∀ st ∈ [Status.ok, .checkFail], let c := tCmd [0x41] true (some st);
      let s := tOne c 1;
      let s1 := s.signalMask c.cluster c.part 0 0 0x41 st;
      let r := s1.putRecord c st;
      let s2 := r.1.setChW c.ch 4 (setFld (r.1.chW c.ch 4) 63 32 (r.1.cplPi c.ch + 1));
      s.cmd 0 = some c ∧ c.status = some st ∧ bitW (s.chan 0).w0 13 = false ∧ bitW (s1.chan 0).w0 13 = false
      ∧ st.halts 1 = (st == .checkFail) ∧ fld (s2.chW 0 0) 1 0 < 2 ∧ fld ((msixDue s2 0 0 0).chW 0 0) 1 0 < 2) := by
  refine ⟨?_, ?_, ?_⟩ <;> decide +kernel

/-- A KERNEL of cluster 1 whose cores stand as given. -/
def tKern (started : Bool) (abort : Option Status) (k : Core) : State :=
  { tDs [] with
    cores := (List.range 8).map fun i => (8 + i, k)
    cmds := [{ tCmd [0x10, 0xFF000000000000] started none with cluster := 1 }]
    kernels := if started ∨ abort.isSome then [⟨0, 1, List.range 8, 0, [], false, started, abort⟩]
      else [⟨0, 1, List.range 8, 0, [], false, false, none⟩] }

theorem test_meets_KernelResults :
    (({ tKern false none Core.reset with kernels := [] } : State).waitingCmd 0 0x10).isSome = true
    ∧ (let s := tKern false none Core.reset;
      let x : Kernel := ⟨0, 1, List.range 8, 0, [], false, false, none⟩;
      (s.kernels.find? fun k => k.id == 0) = some x ∧ (s.cmd 0).isSome = true ∧ s.power.holdIssue = false
      ∧ (∀ i ∈ x.cores, (s.core (x.cluster * 8 + i)).kernel = none ∧ (s.core (x.cluster * 8 + i)).run = .idle)
      ∧ ((s.kernels.takeWhile fun k => k.id != 0).any fun k =>
        k.cluster == x.cluster && !k.started && k.cores.any fun i => x.cores.contains i) = false)
    ∧ (let s := tKern false (some .aborted) Core.reset;
      (s.kernels.find? fun k => k.id == 0) = some ⟨0, 1, List.range 8, 0, [], false, false, some .aborted⟩ ∧ Status.aborted ≠ .noProgress)
    ∧ (let s := tKern true none { Core.reset with kernel := some 0, run := .running };
      (s.kernels.find? fun k => k.id == 0) = some ⟨0, 1, List.range 8, 0, [], false, true, none⟩
      ∧ (((List.range 8).map fun i => s.core (1 * 8 + i)).all Core.kernelEnded) = false)
    ∧ (let s := tKern true none { Core.reset with kernel := some 0, endStatus := some .ok };
      (((List.range 8).map fun i => s.core (1 * 8 + i)).all Core.kernelEnded) = true
      ∧ Status.worst (((List.range 8).map fun i => s.core (1 * 8 + i)).map Core.kernelStatus) ≠ .noProgress) := by
  refine ⟨?_, ?_, ?_, ?_, ?_⟩ <;> decide +kernel

/-! ### Links -/

/-- Link port 7 up, its own entry, partner 57345 (valid, ADMITTED, SCI 5) with a receive key whose next packet number is 1,024; the
partition's window 0 over one line; a member list at 0: the
port itself and 57345 twice. -/
def tRef : Nat := 57345
def tLink (st : W64) (x : LinkPort) (ops : List LinkOp) (cmds : List Cmd) : State :=
  { tPort x with
    regs := [(aRgnLo 0 0, 0x71), (aRgnHi 0 0, 1), (aWinHi 0 0, 0x700000001)]
    mem := { State.reset.mem with bytes := [(0, 0xFF), (1, 0xFF), (4, 1), (5, 0xE0), (8, 1), (9, 0xE0), (64, 1), (65, 0xE0)] }
    partners := [(57344 * 8, 0x10001), (tRef * 8, 0x20001 ||| st), (tRef * 8 + 4, 5), (tRef * 8 + 5, 0x10000), (tRef * 8 + 7, 1)]
    keys := [(7 * 16384 + 1, ⟨0, 0, 0, 0, 1024⟩)]
    policy := { (tPort x).policy with
      parts := [{ PartPolicy.none with enabled := true, clusters := [0], grants := [(0, 1)], chanCount := 4, lkCtxB := 1 }] }
    linkOps := ops
    cmds }
def tUp : LinkPort := { LinkPort.reset with phase := .up, lanes := 0xF }
def tOp (kind : LinkKind) (held : Bool) : LinkOp :=
  { LinkOp.empty (tCmd [0x50] true none) kind with ctxHeld := held, die := 1, members := [(tRef, 0)], len := 1 }
/-- An LK_XFER of one byte; LK_COLL (broadcast), LK_MCAST and LK_VOTE of a byte and of a digest. -/
def tXfer : List W64 := [0x50, 0, 0xE001, 0, 1]
def tColl : List W64 := [0x51, 0x1000000000000, 0x300, 0, 1]
def tMcast : List W64 := [0x52, 0, 64, 0, 1]
def tVote : List W64 := [0x53, 0, 0x2000000000000, 0]

theorem test_meets_LinkCommandResults :
    (∀ row ∈ [(0x50, planXfer, tXfer), (0x51, planColl, tColl), (0x52, planMcast, tMcast), (0x53, planVote, tVote)],
      let c := tCmd row.2.2 false none;
      let s := tLink 0 tUp [] [c];
      s.waitingCmd 0 row.1 = some c ∧ (row.2.1 s c).fails = [] ∧ (row.2.1 s c).op.die = 1
      ∧ ((row.2.1 s c).s.updCmd 0 fun c => { c with started := true }).ctxFree 0 1 = true
      ∧ (let t := tLink 2 tUp [] [c]; t.waitingCmd 0 row.1 = some c ∧ (row.2.1 t c).fails ≠ [])
      ∧ (let t := tLink 0 tUp [{ tOp .xfer true with id := 9 }] [c];
        (row.2.1 t c).fails = [] ∧ ((row.2.1 t c).s.updCmd 0 fun c => { c with started := true }).ctxFree 0 1 = false)
      ∧ (tDs []).waitingCmd 0 row.1 = none)
    ∧ (let c := tCmd [0x54, 0xE001] false none;
      let s := tLink 0 tUp [] [c];
      s.waitingCmd 0 0x54 = some c ∧ s.portPart (refPort (fld (c.words.getD 1 0) 15 0)) = some c.part
      ∧ refEntry (fld (c.words.getD 1 0) 15 0) ≠ 0 ∧ (tDs []).portPart 7 ≠ some c.part)
    ∧ (∀ st ∈ [0, 2], let s := tLink (BitVec.ofNat 64 st) tUp [tOp .xfer false] [tCmd tXfer true none];
      (s.linkOps.find? fun o => !o.ctxHeld && o.die == 1 && s.ctxFree o.part 1) = some (tOp .xfer false)
      ∧ (let s1 := { s with linkOps := s.linkOps.filter fun x => x.id != (tOp .xfer false).id };
        s1.cmd 0 = some (tCmd tXfer true none) ∧ (planXfer s1 (tCmd tXfer true none)).fails.isEmpty = (st == 0))
      ∧ (s.linkOps.find? fun o => !o.ctxHeld && o.die == 0 && s.ctxFree o.part 0) = none)
    ∧ ((tLink 0 tUp [] []).refValid tRef = true ∧ (tLink 0 tUp [] []).refValid (tRef + 1) = false
      ∧ (tLink 0 tUp [] []).ptState tRef = 0 ∧ (tLink 2 tUp [] []).ptState tRef = 1 ∧ (tLink 4 tUp [] []).ptState tRef = 2) := by
  refine ⟨?_, ?_, ?_, ?_⟩
  · intro row h
    simp only [List.mem_cons, List.not_mem_nil, or_false] at h
    rcases h with rfl | rfl | rfl | rfl <;> decide +kernel
  all_goals decide +kernel

/-- A frame from partner 57345. -/
def tFr (type op pn len : Nat) : Frame :=
  { dstNode := 1, srcNode := 2, dstMac := 0, srcMac := 0, dstIp := 0, srcIp := 0, udpPort := 0, vid := none, wellFramed := true, sci := 5
    an := 0, pn, icvOk := true, type, ver := 1, flags := 0, op, code := 0, psn := 0, ackPsn := 0, sack := 0, ctx := 0, window := 0
    step := 0, epoch := 0, aux := 0, offset := 0, len, payload := List.replicate (if op = 2 then 0 else len) 7, coll := (0, 0, 0) }

theorem test_meets_LinkFrameResults :
    (let s := tLink 0 tUp [] [];
      (∀ op ∈ [0, 1, 2, 3, 4, 5], (s.takeIn 7 (tFr 1 op 0 64)).2 = some tRef)
      ∧ (∀ ty ∈ [2, 3, 4, 5, 6], (s.takeIn 7 (tFr ty 0 0 0)).2 = some tRef) ∧ s.portPart 7 = some 0
      ∧ (s.takeIn 7 (tFr 1 6 0 0)).2 = none ∧ (s.takeIn 7 (tFr 7 0 0 0)).2 = none
      ∧ (s.port 7).phase = .up ∧ s.ptValid (7 * 8192) = true ∧ s.portEth 7 = false
      ∧ s.framed 7 (tFr 1 0 0 64) = true ∧ s.framed 7 { tFr 1 0 0 64 with wellFramed := false } = false
      ∧ (s.macsec 7 (tFr 1 0 0 64)).isSome = true ∧ s.macsec 7 { tFr 1 0 0 64 with sci := 6 } = none
      ∧ (∀ q ∈ s.macsec 7 (tFr 1 0 0 64), q.1.ethMatch 7 q.2 (tFr 1 0 0 64) = true ∧ q.1.ptState q.2 ≠ 2
        ∧ (q.1.bucketTake q.2 (tFr 1 0 0 64)).isSome = true)
      ∧ frameHeaderOk (tFr 1 0 0 64) = true ∧ frameHeaderOk { tFr 1 0 0 64 with ver := 2 } = false)
    ∧ (∀ q ∈ (tLink 4 tUp [] []).macsec 7 (tFr 1 0 0 64), q.1.ptState q.2 = 2)
    ∧ ((tLink 0 LinkPort.reset [] []).port 7).phase ≠ .up
    ∧ (let s := tLink 0 tUp [] [];
      s.refOfSci 7 5 = some tRef ∧ s.refOfSci 7 6 = none ∧ s.rxKey tRef 0 = some (7 * 16384 + 1, ⟨0, 0, 0, 0, 1024⟩)
      ∧ 1024 ≤ 0 + fld (s.reg (aPortCfg 0 7)) 50 35)
    ∧ (let s := tLink 0 tUp [{ tOp .coll true with members := [(0xFFFF, 0), (tRef, 0)], rank := 0, direct := true }] [];
      (s.groupOp .coll tRef 0).isSome = true ∧ (s.groupOp .coll tRef 1).isNone = true
      ∧ (tFr 5 0 0 0).code ≠ Status.thermal.code ∧ { tFr 5 0 0 0 with code := Status.thermal.code }.code = Status.thermal.code)
    ∧ (let s := tLink 0 tUp [] [];
      s.winRefuses 0 tRef { tFr 1 0 0 64 with window := 1 } true false 64 = some .denied ∧ (tFr 1 0 0 64).len = (tFr 1 0 0 64).payload.length) := by
  refine ⟨?_, ?_, ?_, ?_, ?_, ?_⟩ <;> decide +kernel

theorem test_meets_LinkFrameResults_write :
    (tLink 0 tUp [] []).winRefuses 0 tRef (tFr 1 0 0 64) true false 64 = none ∧ (tFr 1 0 0 64).len = (tFr 1 0 0 64).payload.length := by
  decide +kernel

/-- A frame sent and not yet acknowledged. -/
def tTx : TxFrame := ⟨0, none, 0, 0, 0, 0, 0, 0, 1, 0, 0, 0, 0, (0, 0, 0), false, false, false⟩

theorem test_meets_LinkPortResults :
    (let s := { tLink 0 tUp [tOp .xfer true] [] with transports := [(tRef, { Transport.reset with sinceAck := 1, unacked := [tTx] })] };
      (s.transport tRef).sinceAck ≠ 0 ∧ (s.transport tRef).unacked ≠ [] ∧ s.ptState tRef = 0 ∧ s.activeWith tRef = true
      ∧ s.ptValid tRef = true ∧ refEntry tRef ≠ 0 ∧ s.activeWith (tRef + 1) = false ∧ s.ptValid (tRef + 1) = false
      ∧ (s.transport (tRef + 1)).sinceAck = 0 ∧ (s.transport (tRef + 1)).unacked = [])
    ∧ (∀ kind ∈ [LinkKind.xfer, .coll, .mcast, .vote], ∀ m ∈ [1],
      let o := { tOp kind true with members := [(0xFFFF, 0), (tRef, 0)], rank := 0, direct := true, ckind := 1, len := 128 };
      ((tLink 0 tUp [o] []).linkOps.find? fun o => o.id == 0 && o.ctxHeld) = some o ∧ m < o.n ∧ o.usesMember m = true
      ∧ (kind = .coll → o.fromMember m < o.inTotal m) ∧ (kind = .mcast → o.sentTo m < o.outTotal m)
      ∧ (o.digests.any fun d => d.1 == m) = false)
    ∧ ((tDs []).pkgHot = false ∧ ({ tDs [] with power := { State.reset.power with pkgTemp := [(19, 106)] } } : State).pkgHot = true)
    ∧ (let s := tPort { tUp with paused := [3], dropped := true };
      let e := { s with policy := { s.policy with portEth := List.replicate 8 true } };
      s.portEth 7 = false ∧ e.portEth 7 = true ∧ (e.port 7).phase = .up ∧ s.portPart 7 = some 0 ∧ 3 ∈ (s.port 7).paused
      ∧ 3 ∉ (s.port 7).ignored ∧ (s.port 7).dropped = true ∧ (tUp.dropped = false))
    ∧ (∀ ph ∈ [LinkPhase.equalise, .deskew, .hello], let s := tLink 0 { LinkPort.reset with phase := ph } [] [];
      s.portEth 7 = false ∧ (s.port 7).phase = ph ∧ (s.port 7).helloRefused = false ∧ 2 ≠ fld (s.partner (7 * 8192) 0) 31 16
      ∧ 1 = fld (s.partner (7 * 8192) 0) 31 16)
    ∧ (let s := tPort { tUp with recal := some 3, degraded := true };
      (s.port 7).recal = some 3 ∧ (s.port 7).degraded = true ∧ (s.port 7).lanes.getLsbD 3 = true ∧ s.unitRetired uLane (4 * 7 + 3) = false
      ∧ (let t := { s with hw := { s.hw with units := [⟨uLane, 31, true⟩] } }; t.unitRetired uLane (4 * 7 + 3) = true)
      ∧ tUp.phase = .up ∧ tUp.recal = none ∧ tUp.degraded = false) := by
  refine ⟨?_, ?_, ?_, ?_, ?_, ?_⟩ <;> decide +kernel

/-! ### Power, boot, Hayward -/

def tPow (w : Power) : State := { tDs [] with power := w }
def tP0 : Power := State.reset.power

theorem test_meets_PowerAndResetResults :
    (650 < 651 ∧ 620 < 650 ∧ 380 ≤ 620 ∧ 379 < 380)
    ∧ (let w := { tP0 with en := true, held := true };
      w.en = true ∧ w.held = true ∧ tP0.held = false ∧ tP0.pwrGood = true ∧ tP0.sysRstN = true)
    ∧ (let w := { tP0 with sysRstN := false, pwrGood := false };
      w.sysRstN = false ∧ w.pwrGood = false ∧ w.en = true ∧ w.vinOk = true ∧ w.rails = true) := by decide

theorem test_meets_DividerAndThermalResults :
    (let w := { tP0 with divPending := some 12, holdIssue := true, thermStop := true, coolFrom := some 0 };
      tP0.divPending = none ∧ w.divPending = some 12 ∧ w.thermStop = true ∧ heldFor 333333334 w.coolFrom oneSec = true
      ∧ heldFor 333333333 w.coolFrom oneSec = false ∧ tP0.thermStop = false ∧ { tP0 with holdIssue := true }.holdIssue = true)
    ∧ (let w := { tP0 with thermDiv := 12, sinceUp := 10 };
      max w.pwrDiv w.thermDiv = 12 ∧ w.div < 12 ∧ 10 ≤ w.sinceUp ∧ { w with sinceUp := 9 }.sinceUp < 10)
    ∧ (let w := { tP0 with div := 12, sinceDown := 1000 };
      max w.pwrDiv w.thermDiv = 8 ∧ 8 < w.div ∧ 1000 ≤ w.sinceDown)
    ∧ (let s := tPow { tP0 with samples := List.replicate 999 4095 };
      let t := s.takeSample 4095;
      t.powerHigh = true ∧ t.power.divPending = none ∧ 10 ≤ t.power.sinceUp ∧ t.power.div < 12)
    ∧ (let s := tPow { tP0 with samples := List.replicate 999 100, div := 10, pwrDiv := 10, lowFor := 999 };
      let t := s.takeSample 100;
      t.powerLow = true ∧ t.powerHigh = false ∧ 1000 ≤ min 1000 (t.power.lowFor + 1) ∧ 1000 ≤ t.power.sinceDown
      ∧ t.power.div = t.power.pwrDiv ∧ 8 < t.power.div ∧ t.power.thermDiv ≤ divDown t.power.div)
    ∧ (((tDs []).takeSample 100).powerHigh = false ∧ ((tDs []).takeSample 100).powerLow = false)
    ∧ (tP0.hold10 = false ∧ tP0.thermDiv ≠ 12 ∧ 19 < 20) := by
  refine ⟨?_, ?_, ?_, ?_, ?_, ?_, ?_⟩ <;> decide +kernel

/-- Bytes as cells from an address on. -/
def tCells (a : Nat) : List Byte → List Host.Cell
  | [] => []
  | b :: t => (a, b) :: tCells (a + 1) t

theorem tCells_get (d : Byte) (m : List Host.Cell) : ∀ (l : List Byte) (a i : Nat),
    mget d (tCells a l ++ m) (a + i) = if i < l.length then l.getD i d else mget d m (a + i)
  | [], a, i => by simp [tCells]
  | b :: t, a, 0 => by simp [tCells, mget]
  | b :: t, a, i + 1 => by
    rw [tCells, List.cons_append, mget, if_neg (by omega), show a + (i + 1) = (a + 1) + i by omega, tCells_get d m t (a + 1) i]
    simp

theorem tCells_read (d : Byte) (m : List Host.Cell) (l : List Byte) (a : Nat) : ∀ (n i : Nat), i + n ≤ l.length →
    rdBytes d (tCells a l ++ m) (a + i) n = (l.drop i).take n
  | 0, i, _ => by simp [rdBytes]
  | n + 1, i, h => by
    have hi : i < l.length := by omega
    rw [rdBytes, tCells_get, if_pos hi, Nat.add_assoc, tCells_read d m l a n (i + 1) (by omega), List.drop_eq_getElem_cons hi,
      List.take_succ_cons, List.getD_eq_getElem _ _ hi]

theorem tCells_skip (d : Byte) (m : List Host.Cell) (l : List Byte) (a : Nat) : ∀ (n i : Nat), l.length ≤ i →
    rdBytes d (tCells a l ++ m) (a + i) n = rdBytes d m (a + i) n
  | 0, _, _ => rfl
  | n + 1, i, h => by
    rw [rdBytes, tCells_get, if_neg (by omega), Nat.add_assoc, tCells_skip d m l a n (i + 1) (by omega)]; rfl

/-- A device in a boot stage; one whose flash holds an image of six sections without content, but for KEYS of two records. -/
def tStage (n : Nat) : State := { tDs [] with boot := { (tDs []).boot with stage := n } }
def tEntry (t off len : Nat) : List Byte := leBytes 8 t ++ leBytes 4 off ++ leBytes 4 len ++ List.replicate 176 0
def tHeader : List Byte :=
  [0x48, 0x4F, 0x4C, 0x41, 1, 0, 6, 0] ++ List.replicate 8 0 ++ tEntry 1 0 0 ++ tEntry 2 0 0 ++ tEntry 3 0 0 ++ tEntry 4 0 0
    ++ tEntry 5 0 0 ++ tEntry 6 4096 256
def tKeys : List Byte := 1 :: List.replicate 127 0 ++ 2 :: List.replicate 127 0
def tImage : Boot := { (tStage 2).boot with flash := tCells 0 tHeader ++ (tCells 4096 tKeys ++ []) }
def tLife : Life := { State.reset.life with vendorDig := [0] }

theorem test_image_header (o n : Nat) (h : o + n ≤ 1168) : tImage.slotBytes false o n = (tHeader.drop o).take n := by
  have hl : tHeader.length = 1168 := by decide +kernel
  have := tCells_read 0xFF (tCells 4096 tKeys ++ []) tHeader 0 n o (by omega)
  rw [Nat.zero_add] at this
  rw [Boot.slotBytes, slotBase, if_neg (by decide), Nat.zero_add]; exact this
theorem test_image_keys : tImage.slotBytes false 4096 256 = tKeys := by
  have hl : tHeader.length = 1168 := by decide +kernel
  have hk : tKeys.length = 256 := by decide +kernel
  have h1 := tCells_skip 0xFF (tCells 4096 tKeys ++ []) tHeader 0 256 4096 (by omega)
  have h2 := tCells_read 0xFF [] tKeys 4096 256 0 (by omega)
  rw [Nat.zero_add] at h1
  rw [Nat.add_zero, List.drop_zero, ← hk, List.take_length, hk] at h2
  rw [Boot.slotBytes, slotBase, if_neg (by decide), Nat.zero_add]
  exact h1.trans h2

/-- The six entries as the flash gives them. -/
def tEntries : List SecEntry := (upTo 6).map fun i =>
  let l := (tHeader.drop (16 + 192 * i)).take 192
  { type := leNat (cut l 0 0), zeros := allZero (cut l 1 3) && allZero (cut l 160 191), svn := leNat (cut l 4 7)
    off := leNat (cut l 8 11), len := leNat (cut l 12 15), digest := cut l 16 63, signed := cut l 0 63, sig := cut l 64 159 }
theorem test_image_entries : tImage.entries false = tEntries := by
  refine List.map_congr_left fun i hi => ?_
  have : i < 6 := by simpa [upTo] using hi
  rw [Boot.entry, test_image_header _ _ (by omega)]

theorem test_image_parts :
    tImage.headerOk false = true ∧ rangesOk tEntries = true
    ∧ (∀ e ∈ tEntries, digNat e.digest = 0) ∧ entryOf tEntries 6 ∈ tEntries
    ∧ (∀ e ∈ tEntries, decide (tLife.svnMin.getD (e.type - 1) 0 ≤ e.svn) = true)
    ∧ tImage.section false (entryOf tEntries 6) = tKeys ∧ keysWell tKeys = true ∧ leNat (cut (keyRecord tKeys 0) 2 2) = 0 := by
  refine ⟨?_, ?_, ?_, ?_, ?_, ?_, ?_, ?_⟩
  · rw [Boot.headerOk, test_image_entries, test_image_header _ _ (by omega)]; decide +kernel
  · decide +kernel
  · decide +kernel
  · decide +kernel
  · decide +kernel
  · rw [Boot.section, (by decide +kernel : (entryOf tEntries 6).off = 4096), (by decide +kernel : (entryOf tEntries 6).len = 256)]
    exact test_image_keys
  · decide +kernel
  · decide +kernel

/-- Slot A holds a valid image, where the free values allow one: digests that are zero, signatures that verify, a POLICY that is
complete and grants nothing. -/
theorem test_image_valid (hs : ∀ l, Config.sha384 l = 0) (hv : ∀ k m g, Config.ecdsaVerifies k m g = true)
    (hp : ∀ l, Config.policyComplete l = true) (hf : ∀ l n, Config.policyField l n = 0) :
    ∀ commit, ∃ im, tImage.check tLife false commit = .ok im := by
  intro commit
  obtain ⟨h1, h2, h3, h4, h5, h6, h7, h8⟩ := test_image_parts
  have hd : ∀ e ∈ tEntries, tImage.digestOk false e = true := by
    intro e he
    rw [Boot.digestOk, h3 e he, hs, beq_self_eq_true]
  have ho : tLife.vendorOk (keyRecord tKeys 0) = true := by
    simp only [Life.vendorOk, h8, hs]; decide
  have hk : tImage.keysOk tLife false commit (entryOf tEntries 6) = true := by
    have he : ∀ l, tLife.ownerExpected l commit = 0 := by
      intro l
      simp only [Life.ownerExpected, hs]
      cases commit <;> rfl
    simp only [Boot.keysOk, h6, h7, ho, SecEntry.signedBy, hv, hs, he, Bool.and_true]; rfl
  have hb : ∀ l, policyOk l = true := by
    intro l
    have hg : ∀ p, (decodePart l p).grants = [] := by
      intro p
      simp only [decodePart, hf]; decide +kernel
    have hm : ((upTo 4).map (decodePart l)).flatMap (fun x => x.grants) = [] := by
      rw [List.flatMap_eq_nil_iff]
      intro x hx
      obtain ⟨p, -, rfl⟩ := List.mem_map.1 hx
      exact hg p
    simp only [policyOk, hp, decodePolicy, Policy.baseUngranted, hm]; rfl
  have ha : tEntries.all (fun e => tImage.digestOk false e) = true := List.all_eq_true.2 hd
  have hg : tEntries.all (fun e => decide (tLife.svnMin.getD (e.type - 1) 0 ≤ e.svn)) = true := List.all_eq_true.2 h5
  have hn : tEntries.all (fun _ => true) = true := List.all_eq_true.2 fun _ _ => rfl
  simp only [Boot.check, test_image_entries, h1, h2, hd _ h4, hk, ha, hg, hb, hn, SecEntry.signedBy, hv, Bool.not_true,
    Bool.false_eq_true, if_false]
  exact ⟨_, rfl⟩

theorem tEntry_flash (f g : Boot) (h : f.flash = g.flash) (b : Bool) (i : Nat) : f.entry b i = g.entry b i := by
  rw [Boot.entry, Boot.entry, Boot.slotBytes, Boot.slotBytes, h]
/-- What an image is depends on the flash alone. -/
theorem tCheck_flash (f g : Boot) (h : f.flash = g.flash) (l : Life) (b c : Bool) : f.check l b c = g.check l b c := by
  have he : f.entries b = g.entries b := List.map_congr_left fun i _ => tEntry_flash f g h b i
  have hb : ∀ o n, f.slotBytes b o n = g.slotBytes b o n := fun o n => by rw [Boot.slotBytes, Boot.slotBytes, h]
  have hs : ∀ e, f.section b e = g.section b e := fun e => hb _ _
  simp only [Boot.check, Boot.headerOk, Boot.digestOk, Boot.keysOk, he, hb, hs]
  congr!

/-- The device that boots from that image, and the device that runs the other slot and has it committed and being applied. -/
def tBoots : State := { tDs [] with boot := tImage, life := tLife }
def tApplies (secs : List Nat) (live : Bool) : State :=
  { tBoots with boot := { tImage with stage := 5, slotB := true, applying := true, pendingSecs := secs, bootLive := live } }

theorem test_meets_BootAndLiveChangeResults :
    ((tStage 1).live = true ∧ (tStage 1).boot.stage = 1 ∧ (tStage 1).hw.fatal = false ∧ (tStage 1).life.readFuses.lc ≠ 3
      ∧ { (tStage 1).life with scrapped := true }.readFuses.lc = 3 ∧ (true : Bool) ≠ false)
    ∧ (tPow { tP0 with sysRstN := false }).live = false
    ∧ (let s := tStage 2;
      s.live = true ∧ s.boot.stage = 2 ∧ s.boot.order.1.headD false = false ∧ s.boot.order.1.getD 1 true = true
      ∧ (s.boot.check s.life false false).toOption = none ∧ (s.boot.check s.life true false).toOption = none)
    ∧ (let s := { tStage 3 with boot := { (tStage 3).boot with newPolicy := some Policy.none } };
      s.live = true ∧ s.boot.stage = 3 ∧ s.boot.newPolicy = some Policy.none)
    ∧ ((tStage 4).live = true ∧ (tStage 4).boot.stage = 4)
    ∧ ((tStage 5).policyDue = none
      ∧ (let s := { tStage 5 with boot := { (tStage 5).boot with applying := true, newPolicy := some Policy.none } };
        s.policyDue = some Policy.none))
    ∧ (let s := tApplies [2] false;
      255 < 256 ∧ s.boot.applying = true ∧ 2 ∈ s.boot.pendingSecs ∧ (s.cluster 255).newMon = false ∧ s.atBoundary 255 = true
      ∧ (tDs []).boot.applying = false)
    ∧ (let s := tApplies [1] true;
      s.boot.applying = true ∧ s.boot.bootLive = true ∧ 1 ∈ s.boot.pendingSecs ∧ s.hw.takeover = false ∧ s.hw.standby = true
      ∧ s.targetB = false ∧ { s.hw with standby := false }.standby = false)
    ∧ ((tApplies [] false).applyDone = true ∧ (tApplies [] false).targetB = false ∧ (tDs []).applyDone = false) := by
  refine ⟨?_, ?_, ?_, ?_, ?_, ?_, ?_, ?_, ?_⟩ <;> decide +kernel

/-- The images that those states look at are valid, where the free values allow one. -/
theorem test_meets_BootAndLiveChangeResults_image (hs : ∀ l, Config.sha384 l = 0) (hv : ∀ k m g, Config.ecdsaVerifies k m g = true)
    (hp : ∀ l, Config.policyComplete l = true) (hf : ∀ l n, Config.policyField l n = 0) :
    (∃ im, tBoots.boot.check tBoots.life (tBoots.boot.order.1.headD false) false = .ok im)
    ∧ (∃ im, (tApplies [1] true).boot.check (tApplies [1] true).life (tApplies [1] true).targetB true = .ok im)
    ∧ ∃ im, (tApplies [] false).boot.check (tApplies [] false).life (tApplies [] false).targetB true = .ok im := by
  have h := test_image_valid hs hv hp hf
  have ha : ∀ secs live, ∃ im, (tApplies secs live).boot.check tLife false true = .ok im := fun secs live => by
    rw [tCheck_flash (tApplies secs live).boot tImage rfl]; exact h true
  have h1 : tBoots.boot.order.1.headD false = false := by decide +kernel
  have h2 : (tApplies [1] true).targetB = false := by decide +kernel
  have h3 : (tApplies [] false).targetB = false := by decide +kernel
  rw [h1, h2, h3, tCheck_flash tBoots.boot tImage rfl]
  exact ⟨h false, ha _ _, ha _ _⟩

/-- The device with one physical cluster as given, and powered seconds. -/
def tPhys (ph : Nat) (x : Phys) (sec : Nat) : State := { tDs [] with phys := [(ph, x)], psec := sec }

theorem test_meets_RotationResults :
    (let s := tPhys 0 { Phys.reset 0 with lastPass := some 0 } 20400;
      s.physOfRole 0 = some 0 ∧ (s.ownerOf 0).isSome = true ∧ (s.physOf 0).due = false ∧ s.unitRetired uCluster 0 = false
      ∧ s.dueAt 0 ≤ s.psec ∧ (s.ownerOf 1).isNone = true ∧ (s.setPhys 0 { s.physOf 0 with due := true }).refreshHolds.hasTarget 0 = false)
    ∧ (let s := { tPhys 0 { Phys.reset 0 with lastPass := some 0 } 20400 with
        phys := [(0, { Phys.reset 0 with lastPass := some 0 }), (32, { Phys.reset 32 with cond := .passed })]
        policy := { (tDs []).policy with integrity := true } };
      (s.setPhys 0 { s.physOf 0 with due := true }).refreshHolds.hasTarget 0 = true ∧ s.policy.integrity = true
      ∧ s.hw.suspended = false ∧ (s.physOf 0).flagged = none)
    ∧ (let s := tPhys 0 { Phys.reset 0 with lastPass := some 0, due := true } 42000;
      (s.physOf 0).due = true ∧ (s.physOf 0).borrow = false ∧ s.dueAt 0 + 21600 ≤ s.psec ∧ s.hasTarget 0 = false
      ∧ (s.setPhys 0 { s.physOf 0 with borrow := true }).refreshHolds.hasTarget 0 = false)
    ∧ (let s := { tPhys 0 { Phys.reset 0 with lastPass := some 0, due := true } 42000 with
        phys := [(0, { Phys.reset 0 with lastPass := some 0, due := true }), (68, { Phys.reset 68 with cond := .passed })]
        policy := { (tDs []).policy with integrity := true } };
      s.hasTarget 0 = false ∧ (s.setPhys 0 { s.physOf 0 with borrow := true }).refreshHolds.hasTarget 0 = true)
    ∧ (let s := { tPhys 36 { Phys.reset 36 with due := true, lastPass := some 0 } 42000 with
        clusters := [(32, { Cluster.reset with hold := true })] };
      s.physOfRole 32 = some 36 ∧ (s.cluster 32).hold = true ∧ (s.cluster 32).moving = none ∧ s.atBoundary 32 = true
      ∧ s.hw.takeover = false ∧ (s.hw.queued.any fun a => a.kind == uCluster && a.num == 36) = false ∧ s.psec ≤ s.dueAt 36 + 21600
      ∧ (let t := { s with cores := [(256, { Core.reset with kernel := some 0 })] }; t.atBoundary 32 = false)
      ∧ { Cluster.reset with moving := some 68 }.moving = some 68 ∧ { Cluster.reset with retry := true }.retry = true)
    ∧ (let s := { tPhys 0 { Phys.reset 0 with flagged := some 0 } 0 with
        phys := [(0, { Phys.reset 0 with flagged := some 0 }), (32, { Phys.reset 32 with cond := .passed })]
        policy := { (tDs []).policy with integrity := true } };
      (s.targets.find? fun q => q.1 == 0) = some (0, 32))
    ∧ (let s := { tDs [] with hw := { State.reset.hw with units := [⟨uCluster, 36, true⟩] } };
      s.physOfRole 32 = some 36 ∧ s.unitRetired uCluster 36 = true ∧ s.atBoundary 32 = true ∧ s.choose (36 / 36) ≠ none)
    ∧ (let s := { tPhys 287 { Phys.reset 287 with cond := .testing, recDirty := true } 0 with phys := [(287, { Phys.reset 287 with cond := .testing, recDirty := true })] };
      287 < 288 ∧ (s.physOf 287).cond = .testing ∧ (s.physOf 287).retried = false ∧ (s.physOf 287).recDirty = true
      ∧ { Phys.reset 287 with retried := true }.retried = true ∧ (Phys.reset 287).recDirty = false)
    ∧ (let h := State.reset.hw;
      h.fatal = false ∧ h.takeover = false ∧ h.standby = true ∧ h.queued = [] ∧ { h with takeover := true }.takeover = true
      ∧ (let s := { tDs [] with hw := { h with queued := [⟨uCluster, 0, 0, 0, 0⟩] } };
        s.hw.queued = ⟨uCluster, 0, 0, 0, 0⟩ :: [] ∧ s.actionFree = true)
      ∧ (let s := { tDs [] with hw := { h with takeover := true } }; s.actionFree = false)) := by
  refine ⟨?_, ?_, ?_, ?_, ?_, ?_, ?_, ?_, ?_⟩ <;> decide +kernel

/-! ### Host ports, mailbox, tokens, management -/

def tHost (h : HostPort) : State := { tDs [] with hosts := [(0, h)] }
def tH0 : HostPort := HostPort.reset
def tSpdm (code slot : Nat) : SpdmReq := ⟨code, slot, []⟩
/-- The device whose BAR2 window 0 opens the first granule, which is a host-readable and -writable region. -/
def tBar : State :=
  { tDs [] with regs := [(aRgnLo 0 0, 0xF1), (aRgnHi 0 0, 1), (aB2Lo 0 0, 1), (aB2Hi 0 0, 1)] }

theorem test_meets_HostPortResults :
    ((tHost tH0).portLive 0 = true ∧ (tHost tH0).hw.fatal = false ∧ ((tHost tH0).part 0).enabled = true ∧ 3 < 4
      ∧ (tHost tH0).portLive 3 = false)
    ∧ (1 ≤ 15 ∧ 15 < 16 ∧ (tHost tH0).portLive 0 = true)
    ∧ (tH0.preset ≠ .stopping
      ∧ (let s := tHost { tH0 with preset := .stopping };
        (s.host 0).preset = .stopping ∧ ((s.part 0).clusters.any fun c => (s.cluster c).mx.isSome || (s.cluster c).se.isSome) = false)
      ∧ (let s := { tRun tMx with hosts := [(0, { tH0 with preset := .stopping })] };
        ((s.part 0).clusters.any fun c => (s.cluster c).mx.isSome || (s.cluster c).se.isSome) = true)
      ∧ ((tHost { tH0 with preset := .clearing }).host 0).preset = .clearing
      ∧ ((tHost { tH0 with preset := .erasing }).host 0).preset = .erasing)
    ∧ (tH0.perst = false ∧ 7 ≤ 7 ∧ 8 ∈ ([1, 2, 4, 8] : List Nat) ∧ tH0.fatal = false ∧ tH0.cfgReady = false
      ∧ { tH0 with cfgReady := true, vfEnable := true }.cfgReady = true ∧ 15 < 16 ∧ 4095 < 4096
      ∧ { tH0 with spdmSession := 2 }.spdmSession = 2 ∧ 8 ≤ 8)
    ∧ ((tHost tH0).life.noId = false ∧ spdmRefused (tSpdm 0xE6 0) = some 7 ∧ spdmRefused (tSpdm 0x82 1) = some 1
      ∧ spdmRefused (tSpdm 0x84 0) = none ∧ { tLife with noId := true }.noId = true)
    ∧ (0 ∈ { tH0 with ideSecure := [0] }.ideSecure ∧ 0 ∉ tH0.ideSecure)
    ∧ (tBar.portLive 0 = true ∧ (tBar.host 0).fatal = false ∧ tBar.ideOk 0 = true ∧ tBar.b2Admit 0 0x1FFFF8 8 pR = some 0x1FFFF8
      ∧ tBar.b2Admit 0 0x1FFFF8 8 pW = some 0x1FFFF8 ∧ (tHost tH0).b2Admit 0 0 8 pR = none) := by
  refine ⟨?_, ?_, ?_, ?_, ?_, ?_, ?_⟩ <;> decide +kernel

/-- A mailbox request of partition 0: its length and its first words. -/
def tMail (len : Nat) (w : List (Nat × W64)) (l : Life) (f : Boot) : State :=
  { tDs [] with
    regs := (aHP 0 + 0x10, BitVec.ofNat 64 len) :: (aHP 0 + 0x18, 1) :: w.map fun q => (aHP 0 + 0x1000 + 8 * q.1, q.2)
    life := l
    boot := f }
def tB5 : Boot := (tDs []).boot

theorem test_meets_MailboxAndTokenResults :
    (let s := tMail 4 [(0, 1)] tLife tB5;
      s.mbBusy 0 = true ∧ s.mbOp 0 = 1 ∧ s.mbLen 0 = 4 ∧ s.mbReq 0 2 2 = [0, 0] ∧ (tMail 5 [(0, 1)] tLife tB5).mbLen 0 ≠ 4)
    ∧ (let s := tMail 36 [(0, 2)] tLife tB5;
      s.mbBusy 0 = true ∧ s.mbOp 0 = 2 ∧ s.boot.stage = 5 ∧ s.mbLen 0 = 36 ∧ s.mbReq 0 2 2 = [0, 0]
      ∧ (tStage 4).boot.stage ≠ 5 ∧ (tStage 4).boot.stage ≠ 7)
    ∧ (∀ k ∈ [0, 1, 2, 3], let s := tMail 17 [(0, BitVec.ofNat 64 (3 + k * 2 ^ 32))] tLife tB5;
      s.mbBusy 0 = true ∧ s.mbOp 0 = 3 ∧ s.subOp 0 = k ∧ s.life.lc ≠ 3 ∧ s.mayStage 0 = true ∧ 16 ≤ s.mbLen 0
      ∧ s.stageZeros 0 = true ∧ s.boot.applying = false ∧ s.boot.stage = 5 ∧ s.boot.committed = false
      ∧ { s.boot with applying := true }.applying = true
      ∧ { s with policy := { s.policy with ownerPart := 1 } }.mayStage 0 = false)
    ∧ (let s := tMail 17 [(0, 0x100000003)] tLife tB5;
      leNat (s.mbReq 0 8 4) + (s.mbLen 0 - 16) ≤ slotSize ∧ (s.boot.slotBytes s.targetB 0 1).all (fun b => b == 0xFF) = true
      ∧ (let t := tMail 17 [(0, 0x100000003)] tLife { tB5 with flash := [(0x3000000, 0)] };
        (t.boot.slotBytes t.targetB 0 1).all (fun b => b == 0xFF) = false)
      ∧ (let t := tMail 17 [(0, 0x100000003), (1, 0x3000000)] tLife tB5;
        slotSize < leNat (t.mbReq 0 8 4) + (t.mbLen 0 - 16)))
    ∧ (let s := tMail 17 [(0, 0x200000003)] tLife tB5;
      (s.boot.check s.life s.targetB true).toOption = none ∧ s.boot.stage ≠ 6 ∧ { tB5 with stage := 6 }.stage = 6)
    ∧ (let s := tMail 212 [(0, 0x4E4B4F5400000004), (1, 0x000000000000FF01)] tLife tB5;
      s.mbBusy 0 = true ∧ s.mbOp 0 = 4 ∧ s.tokKind 0 = 1 ∧ { s with policy := { s.policy with ownerPart := 3 } }.tokCheck 0 = some (3, 0))
    ∧ ((tDs []).mbBusy 0 = false ∧ (tH0.mbAnswer = none)
      ∧ (let s := tMail 4 [(0, 9)] tLife tB5;
        s.mbBusy 0 = true ∧ (s.mbUnknown 0).isSome = true ∧ ∀ u ∈ s.mbUnknown 0, (u.host 0).mbAnswer = some (1, [])))
    ∧ (tLife.pending = false ∧ { tLife with pending := true }.pending = true ∧ (∀ p, p < 4 → ((tDs []).host p).mbAnswer = none)
      ∧ (tDs []).instOpen none = true ∧ (tDs []).power.pwrGood = true
      ∧ (let s := { tDs [] with life := { tLife with lc := 1 } }; s.instOpen none = false ∧ s.instOpen (some 3) = false)) := by
  refine ⟨?_, ?_, ?_, ?_, ?_, ?_, ?_, ?_⟩ <;> decide +kernel

/-- A token passes its checks, where the free values let a nonce, a DEVICE_ID and a signature be what it holds. -/
theorem test_token_passes (hs : ∀ l, Config.sha384 l = 0) (hv : ∀ k m g, Config.ecdsaVerifies k m g = true)
    (hn : ∀ n, Config.drbg n = 0) (s : State) (h0 : (s.life.lc = 3 || s.boot.stage == 6 || 0 != s.policy.ownerPart) = false)
    (h1 : (s.mbLen 0 != 212 || !allZero (s.mbReq 0 2 2) || leNat (s.tok 0 0 4) != 0x4E4B4F54
      || !(decide (1 ≤ s.tokKind 0) && decide (s.tokKind 0 ≤ 7)) || !allZero (s.tok 0 6 2)) = false)
    (h2 : s.tok 0 8 16 = leBytes 16 0) (h3 : s.tok 0 24 32 = leBytes 32 0) (h4 : s.tokAdmitted 0 = true) (h5 : s.tokParams 0 = true)
    (hi : s.life.noId = false) : s.tokCheck 0 = none := by
  have hd : s.deviceId.toNat = 0 := by
    rw [State.deviceId, hi, if_neg (by decide), hs]; decide +kernel
  have hz : s.life.nonce = leBytes 32 0 := by
    rw [Life.nonce, hn]; rfl
  simp only [State.tokCheck, h0, h1, h2, h3, h4, h5, hd, hz, hv, bne_self_eq_false, Bool.not_true, Bool.false_eq_true, if_false]

/-- For each kind: the state code, whether a return is armed, the signer and the two parameters. -/
def tToken (kind lc : Nat) (armed : Bool) (signer a b : Nat) : State :=
  tMail 212 [(0, 0x4E4B4F5400000004), (1, BitVec.ofNat 64 (kind + 256 * signer)), (7, BitVec.ofNat 64 (a * 2 ^ 32)), (8, BitVec.ofNat 64 b)]
    { tLife with lc, retArmed := armed, svnMin := [1] } { tB5 with keys := [1, 0, 4] }

theorem test_meets_MailboxAndTokenResults_tokens (hs : ∀ l, Config.sha384 l = 0)
    (hv : ∀ k m g, Config.ecdsaVerifies k m g = true) (hn : ∀ n, Config.drbg n = 0) :
    ∀ q ∈ [(1, tToken 1 1 false 0 1 86400), (2, tToken 2 1 false 0 0 0), (3, tToken 3 1 true 1 0 0), (4, tToken 4 0 false 1 0 0),
      (5, tToken 5 1 false 0 0 0), (6, tToken 6 0 false 1 1 1), (7, tToken 7 0 false 1 3 0)],
      q.2.mbBusy 0 = true ∧ q.2.mbOp 0 = 4 ∧ q.2.tokKind 0 = q.1 ∧ q.2.tokCheck 0 = none := by
  intro q h
  simp only [List.mem_cons, List.not_mem_nil, or_false] at h
  rcases h with rfl | rfl | rfl | rfl | rfl | rfl | rfl <;>
    refine ⟨by decide +kernel, by decide +kernel, by decide +kernel, test_token_passes hs hv hn _ ?_ ?_ ?_ ?_ ?_ ?_ ?_⟩ <;> decide +kernel

def tCommitted : Boot := { tImage with stage := 5, slotB := true, committed := true }
/-- The image that IMAGE_COMMIT and IMAGE_APPLY look at is valid, where the free values allow one. -/
theorem test_meets_MailboxAndTokenResults_image (hs : ∀ l, Config.sha384 l = 0) (hv : ∀ k m g, Config.ecdsaVerifies k m g = true)
    (hp : ∀ l, Config.policyComplete l = true) (hf : ∀ l n, Config.policyField l n = 0) :
    ∀ k ∈ ([2, 3] : List Nat), let s := tMail 16 [(0, BitVec.ofNat 64 (3 + k * 2 ^ 32))] tLife tCommitted;
      s.mbBusy 0 = true ∧ s.subOp 0 = k ∧ s.boot.committed = true ∧ ∃ im, s.boot.check s.life s.targetB true = .ok im := by
  have h := test_image_valid hs hv hp hf true
  intro k hk
  simp only [List.mem_cons, List.not_mem_nil, or_false] at hk
  have hc : ∃ im, tCommitted.check tLife false true = .ok im := by rw [tCheck_flash tCommitted tImage rfl]; exact h
  have ht : ∀ w, (tMail 16 w tLife tCommitted).targetB = false := fun w => rfl
  rcases hk with rfl | rfl <;>
    (refine ⟨by decide +kernel, by decide +kernel, rfl, ?_⟩
     rw [ht, show ∀ w, (tMail 16 w tLife tCommitted).boot = tCommitted from fun _ => rfl]; exact hc)

/-- The device whose sideband has an address. -/
def tMg (wr : Bool) : State :=
  { tDs [] with mgmt := { State.reset.mgmt with dynAddr := some 8 }, policy := { (tDs []).policy with mgmtWrite := wr } }

theorem test_meets_ManagementResults :
    ((tDs []).power.pwrGood = true ∧ (tDs []).mgmt.dynAddr = none ∧ (0x30 : BitVec 7).toNat = (tDs []).mgmt.staticAddr
      ∧ (0x31 : BitVec 7).toNat ≠ (tDs []).mgmt.staticAddr)
    ∧ ((tMg false).mgmtOn = true ∧ (tMg false).policy.mgmtWrite = false ∧ (tMg true).mgmtOn = true ∧ (tMg true).policy.mgmtWrite = true
      ∧ 27 ≤ 27 ∧ 27 < 28 ∧ 31 ≤ 31 ∧ 1 ≤ 4 ∧ 4 < 5 ∧ 8 ≤ 254)
    ∧ (tDs []).mgmtOn = false
    ∧ (Canonical 0 (tDs []).mgmt.sensors ∧ { tP0 with pwrGood := false }.pwrGood = false ∧ { tP0 with sysRstN := false }.sysRstN = false
      ∧ tP0.sysRstN = true) := by
  refine ⟨?_, ?_, ?_, ?_⟩ <;> decide +kernel
/-! ### The whole machine -/

theorem test_meets_StepRunsFrontCommand :
    ({ State.reset with pending := [.add 0, .add 1] } : State).pending = .add 0 :: [.add 1] := rfl

/-- A store of the monitor's: what the invariants are about, and a step that answers a next state. -/
def tStore : State := { tDs [0x4000000000F8, 5] with pending := [.st64 0], life := { tLife with ownerDig := [1], svnMin := [3] } }
theorem test_meets_StepKeepsMemoryCanonical : Memory.wf tStore.mem ∧ ∃ t, step tStore = .next t := ⟨by decide +kernel, _, rfl⟩
theorem test_meets_StepTakesOneCommand : ∃ t, step tStore = .next t ∧ tStore.pending.tail = [] := ⟨_, rfl, rfl⟩
theorem test_meets_StepKeepsBurntFuses : ∃ t, step tStore = .next t ∧ tStore.life.ownerDig = [1] := ⟨_, rfl, rfl⟩

/-! ### Well-formedness: an ill-formed term for each check -/

def tFrame0 : Frame := tFr 2 0 0 0

theorem test_ill_formed_2048 : ∀ f ∈ ([
    fun n => .lit n 0, fun n => .ext n 0, .dup, .drop, .swap, .over, .rot, .nip, .tuck, .pick, .tor, .fromr, .rfetch, .depth,
    .add, .sub, .mul, .mulhs, .mulhu, .divs, .divu, .rems, .remu, .neg, .band, .bor, .bxor, .bnot, .shl, .shr, .sar, .eq, .ne,
    .lts, .ltu, .les, .leu, .eqz, .sel, .fadd, .fsub, .fmul, .fdiv, .fmax, .fmin, .fsqrt, .flt, .fle, .feq, .cvtif, .cvtfi,
    .ld8u, .ld8s, .ld16u, .ld16s, .ld32u, .ld32s, .ld64, .st8, .st16, .st32, .st64, .lld8u, .lld8s, .lld16u, .lld16s, .lld32u,
    .lld32s, .lld64, .lst8] : List (Nat → Instr)),
    (f (2048)).wf = false := by decide +kernel

theorem test_ill_formed_2048_1 : ∀ f ∈ ([
    .lst16, .lst32, .lst64, fun n => .lldi n 0, fun n => .lsti n 0, fun n => .brz n 0, fun n => .call n 0, fun n => .loop n 0,
    .mxq, .seqEnq, .qwait, .qtest, .ret, .rte, .jmpi, .calli, .lexit, .lcnt, .moder, .modew, .dcinv, .dcinvl, .icinv, .fence,
    .atw, .atwc, .ecall, .wfi, .kend, .nop, fun n => .illegalInstr n 0, .vadd, .vsub, .vmul, .vdiv, .vmax, .vmin, .vfma,
    .vadds, .vmuls, .vmaxs, .vmins, .vabs, .vneg, .vsqrt, .vrsqrt, .vexp, .vlog, .vtanh, .vsig, .vcmpEq, .vcmpNe, .vcmpLt,
    .vcmpLe, .vcmpGt, .vcmpGe, .vmand, .vmor, .vmxor, .vmandn, .vmset, .vcvt, .vqmx, .vsetvl, .vgetvl, .vchain, .vld, .vst,
    .vlds, .vsts] : List (Nat → Instr)),
    (f (2048)).wf = false := by decide +kernel

theorem test_ill_formed_2048_2 : ∀ f ∈ ([
    .vgather, .vscatter, .vldff, .vgatherff, .vocld, .vocst, .ocfill, .ocbind, .ocwb, .ocevict, .ocsync, .vfold, .vswadd,
    .vswrd, .vswrdc, .vrsum, .vrprod, .vrmax, .vrmin, .vcount, .vany, .vall, .vfirst, .vrsw, .resultFill, .reductionResult,
    fun n => .stackRefill n false, fun n => .dcacheFill n 0, fun n => .icacheFill n 0, .controlLoadReturn, .storeAck,
    .vectorLoadArrive, fun n => .ocFillDone n 0, fun n => .ocFillDone 0 n, fun n => .ocWritebackAck n 0,
    fun n => .ocWritebackAck 0 n, .exceptionEntry, .atomicWindowExpire, .wfiWake, .abortTimeout, fun n => .softPost n 0,
    fun n => .ticketEnqueue n 0, fun n => .ticketComplete n 0, .debugHaltRequest] : List (Nat → Instr)),
    (f (2048)).wf = false := by decide +kernel

theorem test_ill_formed_2_48 : ∀ f ∈ ([
    fun n => .dcacheFill 0 n, fun n => .icacheFill 0 n, fun n => .fadd32 0 n 0 0 0, fun n => .fadd64 0 n 0 0 0,
    fun n => .iadd64 0 n 0 0 0, fun n => .swaddF64 0 n 0 0 false, fun n => .swaddF32 0 n 0 0 false,
    fun n => .swaddBf16 0 n 0 0 false, fun n => .swaddCell 0 n 0 0 0 false, fun n => .swrd 0 n 0, fun n => .swrdClr 0 n 0,
    fun n => .registerWrite (.pf 0) n 1 0, fun n => .beatReplay 0 n false] : List (Nat → Instr)),
    (f (2 ^ 48)).wf = false := by decide +kernel

theorem test_ill_formed_1 : ∀ f ∈ ([
    fun n => .dcacheFill 0 n, fun n => .icacheFill 0 n] : List (Nat → Instr)),
    (f (1)).wf = false := by decide +kernel

theorem test_ill_formed_8 : ∀ f ∈ ([
    fun n => .ticketEnqueue 0 n, fun n => .ticketComplete 0 n, fun n => .remoteWriteFrame n tFrame0,
    fun n => .remoteFoldFrame n tFrame0, fun n => .readRequest n tFrame0, fun n => .readResponse n tFrame0,
    fun n => .collectiveFrame n tFrame0, fun n => .voteFrame n tFrame0, fun n => .ackFrame n tFrame0,
    fun n => .nackFrame n tFrame0, fun n => .noticeFrame n tFrame0, fun n => .abortFrame n tFrame0,
    fun n => .keepaliveFrame n tFrame0, fun n => .helloExchange n 0 0, fun n => .pfcFrame n 0 false,
    fun n => .pfcFrame 0 n false, fun n => .pfcWatchdog n 0, fun n => .pfcWatchdog 0 n, .linkDrops, .portEnable,
    .equaliserTrained, .laneDeskewDone, .trainingTimeout, .helloRetry, fun n => .autoNegotiation n false,
    fun n => .laneRecalTrigger n 0, .degradeFlit, fun n => .laneRecalDone n false] : List (Nat → Instr)),
    (f (8)).wf = false := by decide +kernel

theorem test_ill_formed_256 : ∀ f ∈ ([
    .mxMatmul, .mxExtAlone, .mxRowEnter, .mxPassBoundary, fun n => .windrowCompare n 0 Dy.zero Dy.zero,
    fun n => .windrowVote n 0 Dy.zero 0 Dy.zero Dy.zero, .mxTileDrainDone, .mxCommandEnd, fun n => .rgnArm 0 n 0,
    fun n => .rgnArmDone 0 n, fun n => .rgnDisarm 0 n, fun n => .rgnDisarmDone 0 n, fun n => .beatReplay n 0 false,
    fun n => .bondErased n 0, fun n => .ddrRefresh 0 n, fun n => .ddrTempRead 0 n, .seList, .descriptorFetch, .slotGrant,
    .streamCopy, .streamFill, .streamFold, .streamBcast, .streamSwread, .cvReread, .descriptorDone, .movedNack, .staleNack,
    .monitorInPlace, fun n => .mctpControl n 0, fun n => .mctpControl 0 n, .clusterDue, .clusterBorrowed, .migrationStart,
    .migrationDone, .migrationHoldRelease, .migrationRetry, .clusterReplace, .thermalSample] : List (Nat → Instr)),
    (f (256)).wf = false := by decide +kernel

theorem test_ill_formed_512 : ∀ f ∈ ([
    fun n => .windrowCompare 0 n Dy.zero Dy.zero, fun n => .windrowVote 0 n Dy.zero 0 Dy.zero Dy.zero,
    fun n => .windrowVote 0 0 Dy.zero n Dy.zero Dy.zero] : List (Nat → Instr)),
    (f (512)).wf = false := by decide +kernel

theorem test_ill_formed_4 : ∀ f ∈ ([
    fun n => .fadd32 n 0 0 0 0, fun n => .fadd64 n 0 0 0 0, fun n => .iadd64 n 0 0 0 0, fun n => .swaddF64 n 0 0 0 false,
    fun n => .swaddF32 n 0 0 0 false, fun n => .swaddBf16 n 0 0 0 false, fun n => .swaddCell n 0 0 0 0 false,
    fun n => .swrd n 0 0, fun n => .swrdClr n 0 0, fun n => .rgnArm n 0 0, fun n => .rgnArmDone n 0, fun n => .rgnDisarm n 0,
    fun n => .rgnDisarmDone n 0, fun n => .sbArm n 0 0, fun n => .sbArmDone n 0, fun n => .sbDisarm n 0,
    fun n => .winArm n 0 0, fun n => .winArmDone n 0, fun n => .winDisarm n 0, fun n => .b2WinArm n 0 0,
    fun n => .b2WinArmDone n 0, fun n => .b2WinDisarm n 0, fun n => .partnerEntryWrite n 0, fun n => .partnerEntryRead n 0,
    fun n => .expelPartner n 0, fun n => .keyLoad n 0, fun n => .laneRecalTrigger 0 n, .perstAssert, .perstDeassert, .hotReset,
    .dataLinkDown, .functionLevelReset, fun n => .vfFunctionLevelReset n 1, .presetIdle, .presetCleared, .presetEraseDone,
    .partitionResetFail, fun n => .configRequest n ⟨0, 0, none⟩, fun n => .d3hotEntry n 0, fun n => .d0Return n 0,
    fun n => .bar2Read n 0 1, fun n => .bar2Write n 0 [0] false, fun n => .ideKm n 0, fun n => .ideInsecure n 0,
    fun n => .spdmRequest n ⟨0, 0, []⟩, .getId, .attest, .imageBegin, .imageWrite, .imageCommit, .imageApply, .mailboxResponse,
    .tokenDebug, .tokenRelease, .tokenVendorReturn, .tokenProvision, .tokenScrap, .tokenSvn, .tokenRevoke, fun n => .pvAck n 0,
    .portConfigReady, fun n => .pcieLinkUp n 1 1] : List (Nat → Instr)),
    (f (4)).wf = false := by decide +kernel

theorem test_ill_formed_64 : ∀ f ∈ ([
    fun n => .swaddF64 0 0 n 0 false, fun n => .swaddF32 0 0 n 0 false, fun n => .swaddBf16 0 0 n 0 false,
    fun n => .swaddCell 0 0 n 0 0 false, fun n => .swrd 0 0 n, fun n => .swrdClr 0 0 n, fun n => .sbArm 0 n 0,
    fun n => .sbArmDone 0 n, fun n => .sbDisarm 0 n, fun n => .winArm 0 n 0, fun n => .winArmDone 0 n, fun n => .winDisarm 0 n,
    fun n => .lagLimitExpire 0 n] : List (Nat → Instr)),
    (f (64)).wf = false := by decide +kernel

theorem test_ill_formed_16 : ∀ f ∈ ([
    fun n => .b2WinArm 0 n 0, fun n => .b2WinArmDone 0 n, fun n => .b2WinDisarm 0 n, fun n => .vfFunctionLevelReset 0 n,
    fun n => .d3hotEntry 0 n, fun n => .d0Return 0 n] : List (Nat → Instr)),
    (f (16)).wf = false := by decide +kernel

theorem test_ill_formed_65536 : ∀ f ∈ ([
    fun n => .spareCopyDone (.base 0) n, fun n => .d2dLaneRepaired n false, fun n => .helloExchange 0 n 0,
    fun n => .helloExchange 0 0 n, .ackTimer, .retransmissionTimeout, .keepaliveSend, .peerSilence,
    fun n => .partnerEntryWrite 0 n, fun n => .partnerEntryRead 0 n, fun n => .expelPartner 0 n, .getSensorReading,
    .getStateSensorReadings, fun n => .mgmtLogRead 0 n, .powerSample, .vinOutOfRange] : List (Nat → Instr)),
    (f (65536)).wf = false := by decide +kernel

theorem test_ill_formed_2_23 : ∀ f ∈ ([
    .granuleCopyDone, .ddrGranuleCopyDone] : List (Nat → Instr)),
    (f (2 ^ 23)).wf = false := by decide +kernel

theorem test_ill_formed_288 : ∀ f ∈ ([
    fun n => .bondErased 0 n, fun n => .testKernelDone n false false, .rotationRecordWrite] : List (Nat → Instr)),
    (f (288)).wf = false := by decide +kernel

theorem test_ill_formed_80 : ∀ f ∈ ([
    fun n => .ddrRefresh n 0, .ddrRetrainStep] : List (Nat → Instr)),
    (f (80)).wf = false := by decide +kernel

theorem test_ill_formed_20 : ∀ f ∈ ([
    fun n => .ddrTempRead n 0] : List (Nat → Instr)),
    (f (20)).wf = false := by decide +kernel

theorem test_ill_formed_4096 : ∀ f ∈ ([
    .channelAbortDone, .commandRecordCopy, .commandDispatch, .progressWatchdogExpire] : List (Nat → Instr)),
    (f (4096)).wf = false := by decide +kernel

theorem test_ill_formed_2_64 : ∀ f ∈ ([
    fun n => .hostReadFail 0 n] : List (Nat → Instr)),
    (f (2 ^ 64)).wf = false := by decide +kernel

theorem test_ill_formed_2 : ∀ f ∈ ([
    .linkContextGrant] : List (Nat → Instr)),
    (f (2)).wf = false := by decide +kernel

theorem test_ill_formed_0 : ∀ f ∈ ([
    fun n => .vfFunctionLevelReset 0 n, fun n => .bar2Read 0 0 n, fun n => .pcieLinkUp 0 n 1] : List (Nat → Instr)),
    (f (0)).wf = false := by decide +kernel

theorem test_ill_formed_2_41 : ∀ f ∈ ([
    fun n => .bar2Read 0 n 1, fun n => .bar2Write 0 n [0] false] : List (Nat → Instr)),
    (f (2 ^ 41)).wf = false := by decide +kernel

theorem test_ill_formed_4096_1 : ∀ f ∈ ([
    fun n => .bar2Read 0 0 n] : List (Nat → Instr)),
    (f ((4096 + 1))).wf = false := by decide +kernel

theorem test_ill_formed_9 : ∀ f ∈ ([
    fun n => .ideKm 0 n, fun n => .ideInsecure 0 n, .supplyFault] : List (Nat → Instr)),
    (f (9)).wf = false := by decide +kernel

theorem test_ill_formed_2_32 : ∀ f ∈ ([
    .getPdr, fun n => .mgmtLogRead n 0, .mgmtLogAck, .bootMemory] : List (Nat → Instr)),
    (f (2 ^ 32)).wf = false := by decide +kernel

theorem test_ill_formed_6 : ∀ f ∈ ([
    .clockFault] : List (Nat → Instr)),
    (f (6)).wf = false := by decide +kernel

theorem test_ill_formed_7_1 : ∀ f ∈ ([
    fun n => .pcieLinkUp 0 n 1] : List (Nat → Instr)),
    (f ((7 + 1))).wf = false := by decide +kernel

theorem test_well_formed_0 : ∀ i ∈ ([
    .lit 0 0, .ext 0 0, .dup 0, .drop 0, .swap 0, .over 0, .rot 0, .nip 0, .tuck 0, .pick 0, .tor 0, .fromr 0, .rfetch 0,
    .depth 0, .add 0, .sub 0, .mul 0, .mulhs 0, .mulhu 0, .divs 0, .divu 0, .rems 0, .remu 0, .neg 0, .band 0, .bor 0, .bxor 0,
    .bnot 0, .shl 0, .shr 0, .sar 0, .eq 0, .ne 0, .lts 0, .ltu 0, .les 0, .leu 0, .eqz 0, .sel 0, .fadd 0, .fsub 0, .fmul 0,
    .fdiv 0, .fmax 0, .fmin 0, .fsqrt 0, .flt 0, .fle 0, .feq 0, .cvtif 0, .cvtfi 0, .ld8u 0, .ld8s 0, .ld16u 0, .ld16s 0,
    .ld32u 0, .ld32s 0, .ld64 0, .st8 0, .st16 0, .st32 0, .st64 0, .lld8u 0, .lld8s 0, .lld16u 0, .lld16s 0, .lld32u 0,
    .lld32s 0, .lld64 0, .lst8 0, .lst16 0, .lst32 0, .lst64 0, .lldi 0 0, .lsti 0 0, .brz 0 0, .call 0 0, .loop 0 0, .mxq 0,
    .seqEnq 0, .qwait 0, .qtest 0, .ret 0, .rte 0, .jmpi 0, .calli 0, .lexit 0, .lcnt 0, .moder 0, .modew 0, .dcinv 0,
    .dcinvl 0, .icinv 0, .fence 0, .atw 0, .atwc 0, .ecall 0, .wfi 0, .kend 0, .nop 0] : List Instr),
    i.wf = true := by decide +kernel

theorem test_well_formed_1 : ∀ i ∈ ([
    .illegalInstr 0 0, .vadd 0, .vsub 0, .vmul 0, .vdiv 0, .vmax 0, .vmin 0, .vfma 0, .vadds 0, .vmuls 0, .vmaxs 0, .vmins 0,
    .vabs 0, .vneg 0, .vsqrt 0, .vrsqrt 0, .vexp 0, .vlog 0, .vtanh 0, .vsig 0, .vcmpEq 0, .vcmpNe 0, .vcmpLt 0, .vcmpLe 0,
    .vcmpGt 0, .vcmpGe 0, .vmand 0, .vmor 0, .vmxor 0, .vmandn 0, .vmset 0, .vcvt 0, .vqmx 0, .vsetvl 0, .vgetvl 0, .vchain 0,
    .vld 0, .vst 0, .vlds 0, .vsts 0, .vgather 0, .vscatter 0, .vldff 0, .vgatherff 0, .vocld 0, .vocst 0, .ocfill 0,
    .ocbind 0, .ocwb 0, .ocevict 0, .ocsync 0, .vfold 0, .vswadd 0, .vswrd 0, .vswrdc 0, .vrsum 0, .vrprod 0, .vrmax 0,
    .vrmin 0, .vcount 0, .vany 0, .vall 0, .vfirst 0, .vrsw 0, .resultFill 0, .reductionResult 0, .stackRefill 0 false,
    .dcacheFill 0 0, .icacheFill 0 0, .controlLoadReturn 0, .storeAck 0, .vectorLoadArrive 0, .ocFillDone 0 0,
    .ocWritebackAck 0 0, .exceptionEntry 0, .atomicWindowExpire 0, .wfiWake 0, .abortTimeout 0, .softPost 0 0,
    .ticketEnqueue 0 0, .ticketComplete 0 0, .mxMatmul 0, .mxExtAlone 0, .mxRowEnter 0, .mxPassBoundary 0,
    .windrowCompare 0 0 Dy.zero Dy.zero, .windrowVote 0 0 Dy.zero 0 Dy.zero Dy.zero, .mxTileDrainDone 0, .mxCommandEnd 0,
    .fadd32 0 0 0 0 0, .fadd64 0 0 0 0 0, .iadd64 0 0 0 0 0, .swaddF64 0 0 0 0 false, .swaddF32 0 0 0 0 false,
    .swaddBf16 0 0 0 0 false, .swaddCell 0 0 0 0 0 false, .swrd 0 0 0, .swrdClr 0 0 0, .registerWrite (.pf 0) 0 1 0,
    .rgnArm 0 0 0] : List Instr),
    i.wf = true := by decide +kernel

theorem test_well_formed_2 : ∀ i ∈ ([
    .rgnArmDone 0 0, .rgnDisarm 0 0, .rgnDisarmDone 0 0, .sbArm 0 0 0, .sbArmDone 0 0, .sbDisarm 0 0, .winArm 0 0 0,
    .winArmDone 0 0, .winDisarm 0 0, .b2WinArm 0 0 0, .b2WinArmDone 0 0, .b2WinDisarm 0 0, .scrubRead (.dev 0),
    .correctedWriteback (.dev 0), .spareCopyDone (.base 0) 0, .granuleCopyDone 0, .pprDone ⟨0, 0, 0, 0⟩,
    .pprTimeout ⟨0, 0, 0, 0⟩, .ddrGranuleCopyDone 0, .repairRecordWrite, .beatReplay 0 0 false, .bondErased 0 0,
    .d2dLaneRepaired 0 false, .ddrRefresh 0 0, .ddrTempRead 0 0, .ddrRetrainStep 0, .channelScan, .channelAbortDone 0,
    .commandRecordCopy 0, .commandDispatch 0, .kernelAccept 0, .kernelStart 0, .kernelComplete 0, .seList 0, .barArm 0,
    .nopCommand 0, .commandCompletion 0, .progressWatchdogExpire 0, .descriptorFetch 0, .slotGrant 0, .streamCopy 0,
    .streamFill 0, .streamFold 0, .streamBcast 0, .streamSwread 0, .cvReread 0, .descriptorDone 0, .movedNack 0, .staleNack 0,
    .hostReadFail 0 0, .lkXfer 0, .lkColl 0, .lkMcast 0, .lkVote 0, .lkExpel 0, .linkContextGrant 0,
    .remoteWriteFrame 0 tFrame0, .remoteFoldFrame 0 tFrame0, .readRequest 0 tFrame0, .readResponse 0 tFrame0,
    .collectiveFrame 0 tFrame0, .voteFrame 0 tFrame0, .ackFrame 0 tFrame0, .nackFrame 0 tFrame0, .noticeFrame 0 tFrame0,
    .abortFrame 0 tFrame0, .keepaliveFrame 0 tFrame0, .helloExchange 0 0 0, .ackTimer 0, .retransmissionTimeout 0,
    .keepaliveSend 0, .peerSilence 0, .lagLimitExpire 0 0, .noticeSend, .pfcFrame 0 0 false, .pfcWatchdog 0 0, .linkDrops 0,
    .partnerEntryWrite 0 0, .partnerEntryRead 0 0, .expelPartner 0 0, .keyLoad 0 0, .portEnable 0, .equaliserTrained 0,
    .laneDeskewDone 0, .trainingTimeout 0, .helloRetry 0, .autoNegotiation 0 false, .laneRecalTrigger 0 0, .degradeFlit 0,
    .laneRecalDone 0 false, .perstAssert 0, .perstDeassert 0, .hotReset 0, .dataLinkDown 0, .functionLevelReset 0,
    .vfFunctionLevelReset 0 1, .presetIdle 0, .presetCleared 0, .presetEraseDone 0, .partitionResetFail 0] : List Instr),
    i.wf = true := by decide +kernel

theorem test_well_formed_3 : ∀ i ∈ ([
    .configRequest 0 ⟨0, 0, none⟩, .d3hotEntry 0 0, .d0Return 0 0, .bar2Read 0 0 1, .bar2Write 0 0 [0] false, .ideKm 0 0,
    .ideInsecure 0 0, .spdmRequest 0 ⟨0, 0, []⟩, .getId 0, .attest 0, .imageBegin 0, .imageWrite 0, .imageCommit 0,
    .imageApply 0, .policyQuiesceApply, .monitorInPlace 0, .plannedSwitchover, .applyComplete, .mailboxResponse 0,
    .tokenDebug 0, .tokenRelease 0, .tokenVendorReturn 0, .tokenProvision 0, .tokenScrap 0, .tokenSvn 0, .tokenRevoke 0,
    .retArmExpire, .debugExpire, .debugHaltRequest 0, .lifecycleReset, .entdaa 0, .setdasa 0 0, .mctpControl 0 0, .getTid,
    .getPldmVersion, .getPldmTypes, .getPldmCommands, .getPdrRepositoryInfo, .getPdr 0, .getSensorReading 0,
    .getStateSensorReadings 0, .sensorRefresh [0, 0, 0, 0, 0, 0], .mgmtStatus, .mgmtLogRead 0 0, .mgmtLogAck 0, .rotSuspend,
    .rotResume, .pvAck 0 0, .lockstepMismatch false, .standbyTakeover, .clockFault 0, .supplyFault 0, .recoveryActionStart,
    .clusterDue 0, .clusterBorrowed 0, .migrationStart 0, .migrationDone 0, .migrationHoldRelease 0, .migrationRetry 0,
    .testKernelDone 0 false false, .clusterReplace 0, .rotationRecordWrite 0, .powerSample 0, .dividerSwitch, .admissionResume,
    .thermalSample 0, .thermalStopEnd, .enRise, .enFall, .vinOutOfRange 0, .powerUpRestart, .powerGood 0, .sysRstNAssert,
    .sysRstNDeassert, .bootRom false false, .bootImage, .bootInit, .bootMemory 0, .psecWrite, .jtagBypass, .jtagIdcode,
    .jtagSamplePreload, .jtagExtest, .jtagClamp, .portConfigReady 0, .pcieLinkUp 0 1 1, .vin48InRange,
    .instrumentAccess ⟨.device, none⟩] : List Instr),
    i.wf = true := by decide +kernel

/-- What the checks of an argument's own type refuse. -/
theorem test_ill_formed_agents : ∀ a ∈ ([.pf 4, .vf 4 1, .vf 0 0, .vf 0 16, .core 2048] : List Agent),
    (Instr.registerWrite a 0 1 0).wf = false := by decide +kernel
theorem test_ill_formed_writes : (Instr.registerWrite (.pf 0) 0 3 0).wf = false ∧ (Instr.registerWrite (.pf 0) 4 8 0).wf = false
    ∧ (Instr.registerWrite (.pf 0) (2 ^ 48) 8 0).wf = false := by decide +kernel
theorem test_ill_formed_stores : ∀ r ∈ ([.dev 0x700000000000, .dev 4, .lm 2048 0, .lm 0 0x10000, .lm 0 4] : List StoreRef),
    (Instr.scrubRead r).wf = false ∧ (Instr.correctedWriteback r).wf = false := by decide +kernel
theorem test_ill_formed_banks :
    ∀ b ∈ ([.base 896, .staging 256 0, .staging 0 16, .compute 256 0, .compute 0 112] : List BankRef),
    (Instr.spareCopyDone b 0).wf = false := by decide +kernel
theorem test_ill_formed_rows : ∀ r ∈ ([⟨80, 0, 0, 0⟩, ⟨0, 256, 0, 0⟩, ⟨0, 0, 65536, 0⟩, ⟨0, 0, 0, 0x700000000000⟩] : List DdrRow),
    (Instr.pprDone r).wf = false ∧ (Instr.pprTimeout r).wf = false := by decide +kernel
theorem test_ill_formed_requests :
    (∀ q ∈ ([⟨256, 0, none⟩, ⟨0, 4096, none⟩] : List ConfigReq), (Instr.configRequest 0 q).wf = false)
    ∧ (∀ q ∈ ([⟨256, 0, []⟩, ⟨0, 256, []⟩] : List SpdmReq), (Instr.spdmRequest 0 q).wf = false)
    ∧ (∀ q ∈ ([⟨.cluster 256, none⟩, ⟨.core 2048, none⟩, ⟨.memory (2 ^ 48), none⟩] : List InstrumentReq),
      (Instr.instrumentAccess q).wf = false)
    ∧ (Instr.bar2Write 0 0 [] false).wf = false ∧ (Instr.bar2Write 0 0 (List.replicate 4097 0) false).wf = false
    ∧ (Instr.sensorRefresh []).wf = false ∧ (Instr.pcieLinkUp 0 1 3).wf = false := by decide +kernel
theorem test_ill_formed_frames : ∀ c ∈ ([.remoteWriteFrame, .remoteFoldFrame, .readRequest, .readResponse, .collectiveFrame,
      .voteFrame, .ackFrame, .nackFrame, .noticeFrame, .abortFrame, .keepaliveFrame] : List (Nat → Frame → Instr)),
    ∀ f ∈ ([{ tFrame0 with dstNode := 65536 }, { tFrame0 with srcNode := 65536 }, { tFrame0 with dstMac := 2 ^ 48 },
      { tFrame0 with srcMac := 2 ^ 48 }, { tFrame0 with dstIp := 2 ^ 128 }, { tFrame0 with srcIp := 2 ^ 128 },
      { tFrame0 with udpPort := 65536 }, { tFrame0 with vid := some 4096 }, { tFrame0 with an := 4 }, { tFrame0 with pn := 2 ^ 64 },
      { tFrame0 with type := 16 }, { tFrame0 with ver := 16 }, { tFrame0 with flags := 256 }, { tFrame0 with op := 256 },
      { tFrame0 with code := 256 }, { tFrame0 with psn := 2 ^ 32 }, { tFrame0 with ackPsn := 2 ^ 32 }, { tFrame0 with ctx := 65536 },
      { tFrame0 with window := 256 }, { tFrame0 with step := 256 }, { tFrame0 with epoch := 65536 }, { tFrame0 with aux := 65536 },
      { tFrame0 with offset := 2 ^ 48 }, { tFrame0 with len := 65536 }, { tFrame0 with payload := List.replicate 8193 0 }] : List Frame),
    (c 0 f).wf = false := by decide +kernel

/-! ### Worked examples of the spec, and values worked out by hand: one step or one operation each -/

/-- The state that an outcome goes on to. -/
def tNext (o : Host.Outcome State Fault Refusal) : State :=
  match o with
  | .next t => t
  | _ => State.reset

/-- Integers of chapter 6: −5,000 is LIT 0xFFE, EXT 0xC78; addition is modulo 2^64, and (−1) · (−1) has a zero high half. -/
theorem test_lit_ext : ((tNext (exec (.lit 0 0xFFE) (tDs []))).core 0).ds = [⟨0 - 2, false⟩]
    ∧ ((tNext (exec (.ext 0 0xC78) (tDs [2 ^ 64 - 2]))).core 0).ds = [⟨0 - 5000, false⟩] := by
  refine ⟨?_, ?_⟩ <;> decide +kernel
theorem test_add_wraps : ((tNext (exec (.add 0) (tDs [1, 2 ^ 64 - 1]))).core 0).ds = [tE 0]
    ∧ ((tNext (exec (.mulhs 0) (tDs [2 ^ 64 - 1, 2 ^ 64 - 1]))).core 0).ds = [tE 0]
    ∧ ((tNext (exec (.mulhu 0) (tDs [2 ^ 64 - 1, 2 ^ 64 - 1]))).core 0).ds = [tE (2 ^ 64 - 2)] := by
  refine ⟨?_, ?_, ?_⟩ <;> decide +kernel
/-- The operand pushed last is subtracted. -/
theorem test_sub_order : ((tNext (exec (.sub 0) (tDs [3, 5]))).core 0).ds = [tE 2] := by decide +kernel
/-- 1.5 + 1.5 = 3 in FP64. -/
theorem test_fadd : ((tNext (exec (.fadd 0) (tDs [0x3FF8000000000000, 0x3FF8000000000000]))).core 0).ds = [tE 0x4008000000000000] := by
  decide +kernel

/-- Chapter 7's example: LSTI 6 in the slot at offset 48 under BOUND 0x30 faults at U; the frame's E0 to E5. -/
def tSlotFault : State :=
  { tAtU (tK []) with cores := [(0, { tLow .U (tK [7]) with pc := 0x54, slot := some 0x56, ccLmProt := 0x30, icache := [(1, [⟨64, 0, 0, false⟩])] })] }
theorem test_slot_fault :
    (((tNext (exec (.lsti 0 6) tSlotFault)).core 0).rs.take 6).map (·.val)
      = [0x1000000000054, 0x56, 0x200, 0x3C060106, 0x30, 1] := by decide +kernel

/-- Table 2.6, FP32 to E4M3 under RNE: 420, 432, 464, 465, −500, +infinity, 2^-10, 3 · 2^-11. -/
theorem test_convert_e4m3 :
    ([0x43D20000, 0x43D80000, 0x43E80000, 0x43E88000, 0xC3FA0000, 0x7F800000, 0x3A800000, 0x3AC00000].map fun b =>
      ((convert 4 ⟨none, true, false⟩ false (decode 1 b)).1, (convert 4 ⟨none, false, false⟩ false (decode 1 b)).1))
      = [(0x7D, 0x7D), (0x7E, 0x7E), (0x7E, 0x7E), (0x7E, 0x7F), (0xFE, 0x7F), (0x7E, 0x7F), (0, 0), (1, 1)] := by decide +kernel

/-- The line of the fold region whose first FP32 word is 2^24. -/
def tFoldAt : State :=
  { tV (tK []) with mem := { State.reset.mem with bytes := [(0x400000200002, 0x80), (0x400000200003, 0x4B)] } }
/-- Table 4.11: 2^24 + 1 ties to 2^24, 2^24 + 3 to 2^24 + 4. -/
theorem test_fold_ties :
    (tNext (exec (.fadd32 0 0x400000200000 0x3F800000 1 0) tFoldAt)).mem.bytes = tFoldAt.mem.bytes
    ∧ (tNext (exec (.fadd32 0 0x400000200000 0x40400000 1 0) tFoldAt)).mem.bytes = (0x400000200000, 2) :: tFoldAt.mem.bytes := by
  refine ⟨?_, ?_⟩ <;> decide +kernel
/-- 1.0 in an FP32 sward cell is 1 · 2^384: byte 48 of the cell. -/
theorem test_sward_cell :
    (tNext (exec (.swaddF32 0 0x400000200000 0 0x3F800000 false) (tV (tK [])))).mem.bytes = [(0x400000200030, 1)] := by decide +kernel

/-- Chapter 3's example of τ: BF16 into FP32, 512 columns with E = 4, E_ci = 13: 0.2578125 = 33/128. -/
theorem test_tau : dySame (tau { mxParse tMm none with aFmt := 3, bFmt := 3 }
    (List.replicate 512 ⟨.fin false 0 0, some 4, false, false, false, false⟩) (some 13)) ⟨33, -7⟩ = true := by decide +kernel
/-- Chapter 4's example: +2^40, −2^40 and 126 products of 1.0 sum to +0 on the grid 2^13. -/
theorem test_cancelling_row :
    (column 1 (some 27) (⟨.fin false 1 20, false⟩ :: ⟨.fin true 1 20, false⟩ :: List.replicate 126 ⟨.fin false 1 0, false⟩)
      (⟨.fin false 1 20, false⟩ :: ⟨.fin false 1 20, false⟩ :: List.replicate 126 ⟨.fin false 1 0, false⟩)).v.dy.m = 0 := by decide +kernel

/-- Chapter 8's example of a region: 32 granules of base SRAM from 0x4000_0000_0000. -/
theorem test_region : rgnBase 0x400000000031 = 0x400000000000 ∧ rgnLen 0x400000000031 0x20 = 64 * 2 ^ 20 := by decide
/-- Chapter 12's example of a BAR2 window: OFF 0x40_0000_0000, DEV 0x4000_0000, COUNT 512. -/
theorem test_bar2 :
    (let s := { tArm [(aB2Lo 0 0, 0x40000001), (aB2Hi 0 0, 0x4000000200)] [] with
        policy := { (tDs []).policy with parts := [{ PartPolicy.none with enabled := true, bar2Log2 := 41 }] } };
      s.b2Target 0 0x4000012340 8 = some 0x40012340) := by decide +kernel

/-- Chapter 13's example: at divider 9 under a 3,600 W cap, 3,300 W over 1 ms keeps the divider; 3,000 W for 1 ms lowers it. -/
def tLoad (watts : Nat) : State :=
  { tPow { tP0 with div := 9, pwrDiv := 9, samples := List.replicate 1000 watts, lowFor := 999 } with
    policy := { (tDs []).policy with powerCap := 3600 } }
theorem test_divider :
    (tNext (exec (.powerSample 3300) (tLoad 3300))).power.divPending = none
    ∧ (tNext (exec (.powerSample 3000) (tLoad 3000))).power.divPending = some 8 := by
  refine ⟨?_, ?_⟩ <;> decide +kernel

/-- A poisoned word written into LPDDR6 poisons its burst (R249). -/
theorem test_bar2_write :
    (tNext (exec (.bar2Write 0 0x1FFFF8 [1, 0, 0, 0, 0, 0, 0, 0] true) tBar)).mem.psn
      = [0x3FFFC, 0x3FFFD, 0x3FFFE, 0x3FFFF] := by decide +kernel
/-- BAR_ARM with MODE 1 sets EXPECT and clears COUNT (Table 9.10). -/
theorem test_bar_arm :
    ((tNext (exec (.barArm 0) { tDs [] with cmds := [tCmd [0x40, 1, 0, 0x100000003] false none], regs := [(aCB 0 0, 7)] })).reg
      (aCB 0 0)) = 0x300000000 := by decide +kernel
/-- EN low takes the power away (R464). -/
theorem test_power_off : (tNext (exec .enFall (tDs []))).power.pwrGood = false := by decide +kernel
/-- The MX command's row goes through the array: M = 1, so one row of one column waits for its verdict. -/
theorem test_row_enters :
    (((tNext (exec (.mxRowEnter 0) (tRun tMx))).cluster 0).mx.map fun m => (m.pend.map fun p => p.cols.length)) = some (some 1) := by
  decide +kernel

end Sys2Proof.Tests
end

section
/-! Proofs about the queue of commands: no command's meaning touches it, so a step takes one command off and puts none in. -/

namespace Sys2Proof.Machine

/-! ### What it means to leave the queue alone -/

/-- The state that a body carries: the one in which its instruction faults, retires, transfers, traps or stays. -/
def Body.state : Body → State
  | .fault s _ _ | .retire s | .transfer s _ | .trap s _ _ | .stay s => s

@[simp] theorem Body.fault_state (s : State) (c x : Nat) : (Body.fault s c x).state = s := rfl
@[simp] theorem Body.retire_state (s : State) : (Body.retire s).state = s := rfl
@[simp] theorem Body.transfer_state (s : State) (x : Nat) : (Body.transfer s x).state = s := rfl
@[simp] theorem Body.trap_state (s : State) (c x : Nat) : (Body.trap s c x).state = s := rfl
@[simp] theorem Body.stay_state (s : State) : (Body.stay s).state = s := rfl

/-- Where a command answers a next state, that state's queue is the one of s. -/
def KeepsQueue (s : State) (o : Host.Outcome State Fault Refusal) : Prop := ∀ t, o = .next t → t.pending = s.pending

@[simp] theorem keepsQueue_next {s t : State} : KeepsQueue s (.next t) ↔ t.pending = s.pending :=
  ⟨fun h => h t rfl, fun h u hu => by cases hu; exact h⟩
@[simp] theorem keepsQueue_fault {s : State} {f : Fault} :
    KeepsQueue s (.fault f) := fun _ h => by cases h

/-- One step of a fold whose accumulator carries a state leaves the queue. A definition of its own, so that `simp` can discharge
it by `foldKeepsQueue_iff` where it is the hypothesis of a rewrite. -/
def FoldKeepsQueue {σ α : Type} (st : σ → State) (f : σ → α → σ) : Prop := ∀ t a, (st (f t a)).pending = (st t).pending

@[simp] theorem foldKeepsQueue_iff {σ α : Type} (st : σ → State) (f : σ → α → σ) :
    FoldKeepsQueue st f ↔ ∀ t a, (st (f t a)).pending = (st t).pending := ⟨id, id⟩

/-- A fold whose every step leaves the queue leaves it. -/
theorem FoldKeepsQueue.foldl {σ α : Type} {st : σ → State} {f : σ → α → σ} (h : FoldKeepsQueue st f) (l : List α) (s : σ) :
    (st (l.foldl f s)).pending = (st s).pending :=
  foldl_keeps (fun t => (st t).pending = (st s).pending) f (fun t a ht => (h t a).trans ht) l s rfl

@[simp] theorem foldl_pending {α : Type} (f : State → α → State) (h : FoldKeepsQueue id f) (l : List α) (s : State) :
    (l.foldl f s).pending = s.pending := h.foldl l s
@[simp] theorem foldl_fst_pending {α β : Type} (f : State × β → α → State × β) (h : FoldKeepsQueue Prod.fst f) (l : List α)
    (r : State × β) : (l.foldl f r).1.pending = r.1.pending := h.foldl l r
@[simp] theorem foldl_mv_pending {α : Type} (f : Mv → α → Mv) (h : FoldKeepsQueue Mv.s f) (l : List α) (m : Mv) :
    (l.foldl f m).s.pending = m.s.pending := h.foldl l m

@[simp] theorem ite_pending (c : Prop) [Decidable c] (a b : State) :
    (if c then a else b).pending = if c then a.pending else b.pending := apply_ite State.pending c a b
@[simp] theorem ite_fst_pending {α : Type} (c : Prop) [Decidable c] (a b : State × α) :
    (if c then a else b).1.pending = if c then a.1.pending else b.1.pending := apply_ite (fun r => r.1.pending) c a b
@[simp] theorem ite_mv_pending (c : Prop) [Decidable c] (a b : Mv) :
    (if c then a else b).s.pending = if c then a.s.pending else b.s.pending := apply_ite (fun m => m.s.pending) c a b
@[simp] theorem ite_foldRes_pending (c : Prop) [Decidable c] (a b : FoldRes) :
    (if c then a else b).s.pending = if c then a.s.pending else b.s.pending := apply_ite (fun r => r.s.pending) c a b

/-! ### Messages and the log -/

@[simp] theorem State.msixPut_pending (s : State) (p fn v : Nat) :
    (s.msixPut p fn v).pending = s.pending := by simp [State.msixPut]
@[simp] theorem msixSend_pending (s : State) (p fn v : Nat) :
    (msixSend s p fn v).1.pending = s.pending := by simp [msixSend]
@[simp] theorem State.msixFlush_pending (s : State) (p : Nat) :
    (s.msixFlush p).pending = s.pending := by simp [State.msixFlush]
@[simp] theorem State.present_pending (s : State) (p : Nat) :
    (s.present p).pending = s.pending := by
  unfold State.present
  -- the fold is over any list: the kernel shall not unfold it over this one
  generalize upTo 8 = words
  split
  · rfl
  · split <;> simp
@[simp] theorem State.lose_pending (s : State) : s.lose.pending = s.pending := by simp [State.lose]
@[simp] theorem State.viewLost_pending (s : State) (v : LogEntry) :
    (s.viewLost v).pending = s.pending := by simp [State.viewLost]
@[simp] theorem putLog.add_pending (s : State) (e : LogEntry) :
    (putLog.add s e).1.pending = s.pending := by simp [putLog.add]
@[simp] theorem putLog.go_pending (s : State) (e : LogEntry) :
    (putLog.go s e).1.pending = s.pending := by
  unfold putLog.go; simp only []
  split
  · rw [putLog.add_pending]
  · split
    · rfl
    · split
      · rw [putLog.add_pending, State.viewLost_pending]; split <;> rfl
      · rfl
@[simp] theorem putLog_pending (s : State) (e : LogEntry) : (putLog s e).1.pending = s.pending := by
  unfold putLog
  split
  · split
    · rfl
    · exact putLog.go_pending _ _
  · exact putLog.go_pending _ _
@[simp] theorem logW_pending (n : Nat) (s : State) (e : LogEntry) :
    (logW n s e).pending = s.pending := by
  induction n generalizing s e with
  | zero => exact putLog_pending _ _
  | succ n ih =>
    refine (foldl_pending _ (fun t x => ?_) _ _).trans (putLog_pending _ _)
    simp only []; split <;> simp [ih]
@[simp] theorem logEv_pending (s : State) (die : Nat) (e : LogEntry) :
    (logEv s die e).pending = s.pending := by simp [logEv]
@[simp] theorem msixDue_pending (s : State) (p fn v : Nat) :
    (msixDue s p fn v).pending = s.pending := by simp [msixDue]
@[simp] theorem badAccess_pending (s : State) (die p a : Nat) :
    (badAccess s die p a).pending = s.pending := by simp [badAccess]

/-! ### Commands, channels and kernels: their ends -/

@[simp] theorem State.updCmd_pending (s : State) (id : Nat) (f : Cmd → Cmd) :
    (s.updCmd id f).pending = s.pending := by simp [State.updCmd]
@[simp] theorem State.finish_pending (s : State) (id : Nat) (st : Status) (flags : BitVec 8) (detail : W64) :
    (s.finish id st flags detail).pending = s.pending := by simp [State.finish]
@[simp] theorem State.restChan_pending (s : State) (ch : Nat) :
    (s.restChan ch).pending = s.pending := by simp [State.restChan]
@[simp] theorem State.haltChan_pending (s : State) (ch : Nat) (st : Status) (sq : Nat) :
    (s.haltChan ch st sq).pending = s.pending := by simp [State.haltChan]
@[simp] theorem State.abortCore_pending (s : State) (d : Nat) (st : Status) :
    (s.abortCore d st).pending = s.pending := by simp [State.abortCore]
@[simp] theorem State.abortKernel_pending (s : State) (id : Nat) (st : Status) :
    (s.abortKernel id st).pending = s.pending := by
  unfold State.abortKernel
  split <;> simp
@[simp] theorem State.abortCmd.drop_pending (id : Nat) (st : Status) (s : State) (c : Cmd) (k : Cluster) :
    (State.abortCmd.drop id st s c k).pending = s.pending := by simp [State.abortCmd.drop]
@[simp] theorem State.abortCmd_pending (s : State) (id : Nat) (st : Status) :
    (s.abortCmd id st).pending = s.pending := by
  unfold State.abortCmd; simp only []
  repeat' split
  all_goals simp
@[simp] theorem State.hayward_pending (s : State) (d n : Nat) :
    (s.hayward d n).pending = s.pending := by simp [State.hayward]
@[simp] theorem State.quarantine_pending (s : State) (c : Nat) :
    (s.quarantine c).pending = s.pending := by simp [State.quarantine]
@[simp] theorem State.stopAll_pending (s : State) :
    s.stopAll.pending = s.pending := by simp [State.stopAll]
@[simp] theorem State.deviceFatal_pending (s : State) (die : Nat) (e : LogEntry) :
    (s.deviceFatal die e).pending = s.pending := by simp [State.deviceFatal]
@[simp] theorem State.partFatal_pending (s : State) (p : Nat) :
    (s.partFatal p).pending = s.pending := by simp [State.partFatal]

/-! ### Units, recovery and sparing -/

@[simp] theorem State.retireUnit_pending (s : State) (kind num : Nat) :
    (s.retireUnit kind num).pending = s.pending := by simp [State.retireUnit]
@[simp] theorem State.endAction_pending (s : State) (kind num : Nat) :
    (s.endAction kind num).pending = s.pending := by simp [State.endAction]
@[simp] theorem State.record_pending (s : State) (type die unit row place target : Nat) :
    (s.record type die unit row place target).pending = s.pending := by simp [State.record]
@[simp] theorem State.makeAbsent_pending (s : State) (a : Nat) :
    (s.makeAbsent a).pending = s.pending := by
  simp only [State.makeAbsent]
  repeat' split
  all_goals simp
@[simp] theorem State.startMove_pending (s : State) (g : Nat) :
    (s.startMove g).pending = s.pending := by
  simp only [State.startMove]
  repeat' split
  all_goals simp
@[simp] theorem State.nextMove_pending (s : State) (b : Nat) (n : Nat) :
    (s.nextMove b n).pending = s.pending := by
  induction n generalizing s with
  | zero => rfl
  | succ n ih =>
    unfold State.nextMove
    split
    · rfl
    · simp [ih]
@[simp] theorem State.retireBank_pending (s : State) (b : Nat) :
    (s.retireBank b).pending = s.pending := by simp [State.retireBank]
@[simp] theorem State.startAction_pending (s : State) (kind num arg addr : Nat) :
    (s.startAction kind num arg addr).1.pending = s.pending := by simp [State.startAction]
@[simp] theorem State.refreshHolds_pending (s : State) : s.refreshHolds.pending = s.pending := by
  simp [State.refreshHolds]
@[simp] theorem State.flagOnly_pending (s : State) (ph : Nat) :
    (s.flagOnly ph).pending = s.pending := by simp [State.flagOnly]
@[simp] theorem State.retirePhys_pending (s : State) (ph : Nat) (quar : Bool) :
    (s.retirePhys ph quar).pending = s.pending := by
  unfold State.retirePhys
  repeat' split
  all_goals simp
@[simp] theorem State.retireCluster_pending (s : State) (ph cls : Nat) :
    (s.retireCluster ph cls).pending = s.pending := by simp [State.retireCluster]
@[simp] theorem State.escalated_pending (s : State) (o : LogEntry) (kind num : Nat) :
    (s.escalated o kind num).pending = s.pending := by simp [State.escalated]
@[simp] theorem State.flagCluster_pending (s : State) (ph cls : Nat) :
    (s.flagCluster ph cls).pending = s.pending := by simp [State.flagCluster]
@[simp] theorem State.flagFront_pending (s : State) (ph cls : Nat) :
    (s.flagFront ph cls).pending = s.pending := by simp [State.flagFront]
@[simp] theorem State.beginSpare_pending (s : State) (b row : Nat) :
    (s.beginSpare b row).pending = s.pending := by simp [State.beginSpare]
@[simp] theorem State.spareRow_pending (s : State) (b row : Nat) :
    (s.spareRow b row).pending = s.pending := by simp [State.spareRow]
@[simp] theorem State.unrepairable_pending (s : State) (chan arg addr : Nat) :
    (s.unrepairable chan arg addr).pending = s.pending := by simp [State.unrepairable]
@[simp] theorem State.beginPpr_pending (s : State) (chan arg addr : Nat) :
    (s.beginPpr chan arg addr).pending = s.pending := by simp [State.beginPpr]
@[simp] theorem State.pprRow_pending (s : State) (chan arg addr : Nat) :
    (s.pprRow chan arg addr).pending = s.pending := by simp [State.pprRow]
@[simp] theorem State.escalate_pending (s : State) (o : LogEntry) (kind num arg addr : Nat) :
    (s.escalate o kind num arg addr).pending = s.pending := by
  simp only [State.escalate]
  split <;> simp
@[simp] theorem State.countContained_pending (s : State) (o : LogEntry) (kind num arg addr : Nat) :
    (s.countContained o kind num arg addr).pending = s.pending := by simp [State.countContained]
@[simp] theorem State.countEvent_pending (s : State) (o : LogEntry) (kind num arg addr : Nat) :
    (s.countEvent o kind num arg addr).pending = s.pending := by
  simp only [State.countEvent]
  repeat' split
  all_goals simp
@[simp] theorem logUnit_pending (s : State) (die : Nat) (e : LogEntry) (arg : Nat) :
    (logUnit s die e arg).pending = s.pending := by simp [logUnit]
@[simp] theorem logCluster_pending (s : State) (c : Nat) (e : LogEntry) :
    (logCluster s c e).pending = s.pending := by simp [logCluster]

/-! ### Device memory and host memory -/

@[simp] theorem State.errCnt_pending (s : State) (a hi lo : Nat) :
    (s.errCnt a hi lo).pending = s.pending := by
  unfold State.errCnt
  split <;> simp
@[simp] theorem State.rowFails_pending (s : State) (a : Nat) :
    (s.rowFails a).pending = s.pending := by simp [State.rowFails]
@[simp] theorem State.corrected_pending (s : State) (die w : Nat) :
    (s.corrected die w).pending = s.pending := by simp [State.corrected]
@[simp] theorem State.uncorrected_pending (s : State) (die w : Nat) :
    (s.uncorrected die w).pending = s.pending := by
  unfold State.uncorrected
  split <;> simp
@[simp] theorem State.detectHit_pending (s : State) (die w : Nat) :
    (s.detectHit die w).pending = s.pending := by simp [State.detectHit]
@[simp] theorem readErr_pending (s : State) (die w : Nat) (x : StoreErr) :
    (readErr s die w x).1.pending = s.pending := by
  unfold readErr
  repeat' split
  all_goals simp
@[simp] theorem readMem_pending (s : State) (die a n : Nat) :
    (readMem s die a n).1.pending = s.pending := by simp [readMem]
@[simp] theorem writeMem_pending (s : State) (die a : Nat) (l : List PB) :
    (writeMem s die a l).pending = s.pending := by simp [writeMem]
@[simp] theorem State.cvClearN_pending (s : State) (die n a : Nat) :
    (s.cvClearN die n a).pending = s.pending := by
  induction n generalizing s a with
  | zero => rfl
  | succ n ih =>
    unfold State.cvClearN
    split
    · rfl
    · split
      · simp [ih]
      · rfl
@[simp] theorem State.cvClear_pending (s : State) (die a n : Nat) :
    (s.cvClear die a n).pending = s.pending := by simp [State.cvClear]
@[simp] theorem State.cvSet_pending (s : State) (die a : Nat) (crc : Nat) :
    (s.cvSet die a crc).pending = s.pending := by
  unfold State.cvSet
  split <;> simp
@[simp] theorem storeMem_pending (s : State) (die a : Nat) (l : List PB) :
    (storeMem s die a l).pending = s.pending := by simp [storeMem]
@[simp] theorem State.hostWrite_pending (s : State) (p fn a : Nat) (l : List PB) :
    (s.hostWrite p fn a l).pending = s.pending := by simp [State.hostWrite]

/-! ### Arming and disarming -/

@[simp] theorem State.armPut_pending (s : State) (k p n : Nat) :
    (s.armPut k p n).pending = s.pending := by simp [State.armPut]
@[simp] theorem State.armEnd_pending (s : State) (k p n : Nat) :
    (s.armEnd k p n).pending = s.pending := by simp [State.armEnd]
@[simp] theorem rgnArmWrite_pending (s : State) (p n : Nat) (v : W64) :
    (rgnArmWrite s p n v).pending = s.pending := by simp [rgnArmWrite]
@[simp] theorem rgnArmEnd_pending (s : State) (p n : Nat) :
    (rgnArmEnd s p n).pending = s.pending := by simp [rgnArmEnd]
@[simp] theorem rgnDisarmWrite_pending (s : State) (p n : Nat) (v : Option W64) :
    (rgnDisarmWrite s p n v).pending = s.pending := by
  unfold rgnDisarmWrite
  repeat' split
  all_goals simp
@[simp] theorem rgnHiWrite_pending (s : State) (p n : Nat) (v : W64) :
    (rgnHiWrite s p n v).pending = s.pending := by simp [rgnHiWrite]
@[simp] theorem sbArmWrite_pending (s : State) (p n : Nat) (v : W64) :
    (sbArmWrite s p n v).pending = s.pending := by simp [sbArmWrite]
@[simp] theorem sbArmEnd_pending (s : State) (p n : Nat) :
    (sbArmEnd s p n).pending = s.pending := by simp [sbArmEnd]
@[simp] theorem sbDisarmWrite_pending (s : State) (p n : Nat) (v : Option W64) :
    (sbDisarmWrite s p n v).pending = s.pending := by
  unfold sbDisarmWrite
  repeat' split
  all_goals simp
@[simp] theorem sbAddrWrite_pending (s : State) (p n a : Nat) (v : W64) :
    (sbAddrWrite s p n a v).pending = s.pending := by simp [sbAddrWrite]
@[simp] theorem winArmWrite_pending (s : State) (p w : Nat) (v : W64) :
    (winArmWrite s p w v).pending = s.pending := by simp [winArmWrite]
@[simp] theorem winArmEnd_pending (s : State) (p w : Nat) :
    (winArmEnd s p w).pending = s.pending := by simp [winArmEnd]
@[simp] theorem winDisarmWrite_pending (s : State) (p w : Nat) (v : Option W64) :
    (winDisarmWrite s p w v).pending = s.pending := by
  unfold winDisarmWrite
  repeat' split
  all_goals simp
@[simp] theorem winLoWrite_pending (s : State) (p w : Nat) (v : W64) :
    (winLoWrite s p w v).pending = s.pending := by simp [winLoWrite]
@[simp] theorem b2ArmWrite_pending (s : State) (p n : Nat) (v : W64) :
    (b2ArmWrite s p n v).pending = s.pending := by simp [b2ArmWrite]
@[simp] theorem b2ArmEnd_pending (s : State) (p n : Nat) :
    (b2ArmEnd s p n).pending = s.pending := by simp [b2ArmEnd]
@[simp] theorem b2DisarmWrite_pending (s : State) (p n : Nat) (v : Option W64) :
    (b2DisarmWrite s p n v).pending = s.pending := by
  unfold b2DisarmWrite
  repeat' split
  all_goals simp
@[simp] theorem b2HiWrite_pending (s : State) (p n : Nat) (v : W64) :
    (b2HiWrite s p n v).pending = s.pending := by simp [b2HiWrite]

/-! ### Partner tables, keys and ports -/

@[simp] theorem State.setPtState_pending (s : State) (r st : Nat) :
    (s.setPtState r st).pending = s.pending := by simp [State.setPtState]
@[simp] theorem State.endOpsWith_pending (s : State) (r : Nat) (st : Status) (except : Option Nat) :
    (s.endOpsWith r st except).pending = s.pending := by simp [State.endOpsWith]
@[simp] theorem State.expel_pending (s : State) (r : Nat) (except : Option Nat) :
    (s.expel r except).pending = s.pending := by simp [State.expel]
@[simp] theorem State.ptErr_pending (s : State) (p e : Nat) :
    (s.ptErr p e).pending = s.pending := by simp [State.ptErr]
@[simp] theorem ptWrite_pending (s : State) (p r : Nat) : (ptWrite s p r).pending = s.pending := by
  -- else the kernel unfolds the fold over the eight words to see that the two sides agree
  simp -implicitDefEqProofs [ptWrite]
@[simp] theorem ptRead_pending (s : State) (p r : Nat) : (ptRead s p r).pending = s.pending := by
  simp [ptRead]
@[simp] theorem ptExpel_pending (s : State) (p r : Nat) :
    (ptExpel s p r).pending = s.pending := by simp [ptExpel]
@[simp] theorem keyWrite_pending (s : State) (p : Nat) (v : W64) :
    (keyWrite s p v).pending = s.pending := by simp [keyWrite]
@[simp] theorem portEn_pending (s : State) (k : Nat) (en : Bool) :
    (portEn s k en).pending = s.pending := by simp [portEn]

/-! ### Register writes -/

@[simp] theorem pvAckWrite_pending (s : State) (p : Nat) (v : W64) :
    (pvAckWrite s p v).pending = s.pending := by
  simp [pvAckWrite]
@[simp] theorem mbWrite_pending (s : State) (p : Nat) (m v : W64) :
    (mbWrite s p m v).pending = s.pending := by simp [mbWrite]
@[simp] theorem partWrite_pending (s : State) (host : Bool) (p o : Nat) (m v : W64) :
    (partWrite s host p o m v).pending = s.pending := by simp [partWrite]
@[simp] theorem cluWrite_pending (s : State) (c o : Nat) (m v : W64) :
    (cluWrite s c o m v).pending = s.pending := by simp [cluWrite]
@[simp] theorem coreWriteOther_pending (s : State) (d o : Nat) (m v : W64) :
    (coreWriteOther s d o m v).pending = s.pending := by simp [coreWriteOther]
@[simp] theorem writeReg_pending (s : State) (host : Bool) (_p a : Nat) (m v : W64) :
    (writeReg s host _p a m v).pending = s.pending := by simp [writeReg]

/-! ### Exceptions and interrupts -/

@[simp] theorem takeException_pending (s : State) (d c detail : Nat) (instr : BitVec 16) :
    (takeException s d c detail instr).pending = s.pending := by
  simp only [takeException]
  repeat' split
  all_goals simp
@[simp] theorem takeInterrupt_pending (s : State) (d c detail : Nat) :
    (takeInterrupt s d c detail).pending = s.pending := by simp [takeInterrupt]
@[simp] theorem State.boundary_pending (s : State) (d : Nat) :
    (s.boundary d).pending = s.pending := by
  unfold State.boundary
  split <;> simp

/-! ### Issue -/

@[simp] theorem readLine_pending (s : State) (d a : Nat) :
    (readLine s d a).1.pending = s.pending := by simp [readLine]
@[simp] theorem parityError_pending (s : State) (d : Nat) (ic : Bool) (a : Nat) :
    (parityError s d ic a).pending = s.pending := by simp [parityError]
@[simp] theorem State.icFill_pending (s : State) (d a : Nat) :
    (s.icFill d a).1.pending = s.pending := by simp [State.icFill]
@[simp] theorem fetch_pending (s : State) (d : Nat) : (fetch s d).1.pending = s.pending := by
  simp only [fetch]
  split <;> simp
@[simp] theorem State.retire_pending (s : State) (d : Nat) :
    (s.retire d).pending = s.pending := by simp [State.retire]
@[simp] theorem Body.run_pending (b : Body) (d : Nat) (instr : BitVec 16) :
    (Body.run b d instr).pending = b.state.pending := by
  unfold Body.run
  split <;> simp
@[simp] theorem issue_pending (s : State) (d : Nat) (instr : BitVec 16) (pl : Place) (body : State → Body)
    (h : ∀ t, (body t).state.pending = t.pending) : (issue s d instr pl body).pending = s.pending := by
  simp only [issue]
  repeat' split
  all_goals simp [h]
/-- A core instruction whose body leaves the queue leaves it. -/
theorem issue_keepsQueue {s : State} {d : Nat} {instr : BitVec 16} {pl : Place} {body : State → Body}
    (h : ∀ t, (body t).state.pending = t.pending) : KeepsQueue s (.next (issue s d instr pl body)) :=
  keepsQueue_next.2 (issue_pending s d instr pl body h)
@[simp] theorem stackBody_pending (s : State) (d : Nat) (r : Except Nat Core) :
    (stackBody s d r).state.pending = s.pending := by
  unfold stackBody
  split <;> simp
@[simp] theorem aluOp_pending (d n : Nat) (f : List Entry → List Entry) (s : State) :
    (aluOp d n f s).state.pending = s.pending := by simp [aluOp]
@[simp] theorem slowOp_pending (d n : Nat) (f : List Entry → List Entry) (s : State) :
    (slowOp d n f s).state.pending = s.pending := by simp [slowOp]
@[simp] theorem fpOp_pending (d n : Nat) (f : Bool → List Nat → Nat × Fl) (s : State) :
    (fpOp d n f s).state.pending = s.pending := by
  unfold fpOp
  split <;> simp

/-! ### Literal, stack, integer and FP64 instructions -/

@[simp] theorem pickBody_pending (d : Nat) (s : State) :
    (pickBody d s).state.pending = s.pending := by
  simp only [pickBody]
  repeat' split
  all_goals simp
@[simp] theorem torBody_pending (d : Nat) (s : State) :
    (torBody d s).state.pending = s.pending := by
  unfold torBody
  split <;> simp
@[simp] theorem fromrBody_pending (pop : Bool) (d : Nat) (s : State) :
    (fromrBody pop d s).state.pending = s.pending := by
  unfold fromrBody
  split <;> simp
@[simp] theorem shiftBody_pending (d : Nat) (f : W64 → Nat → W64) (s : State) :
    (shiftBody d f s).state.pending = s.pending := by
  unfold shiftBody
  repeat' split
  all_goals simp
@[simp] theorem selBody_pending (d : Nat) (s : State) :
    (selBody d s).state.pending = s.pending := by
  unfold selBody
  repeat' split
  all_goals simp

/-! ### Device reset and power pins -/

@[simp] theorem State.deviceReset_pending (s : State) :
    s.deviceReset.pending = s.pending := by simp [State.deviceReset]
@[simp] theorem State.powerOff_pending (s : State) :
    s.powerOff.pending = s.pending := by simp [State.powerOff]
@[simp] theorem State.powerUp_pending (s : State) :
    s.powerUp.pending = s.pending := by simp [State.powerUp]
theorem execVinOutOfRange_keepsQueue (dv : Nat) (s : State) :
    KeepsQueue s (execVinOutOfRange dv s) := by
  unfold execVinOutOfRange
  repeat' split
  all_goals simp

/-! ### Scrubbing, write-backs and repair -/

@[simp] theorem State.poisonWord_pending (s : State) (w : Nat) :
    (s.poisonWord w).pending = s.pending := by simp [State.poisonWord]
@[simp] theorem State.lmFound_pending (s : State) (w : Nat) (x : StoreErr) :
    (s.lmFound w x).pending = s.pending := by
  unfold State.lmFound
  split <;> simp
@[simp] theorem State.writeBack_pending (s : State) (w : Nat) :
    (s.writeBack w).pending = s.pending := by
  unfold State.writeBack
  split <;> simp
theorem execScrubRead_keepsQueue (r : StoreRef) (s : State) : KeepsQueue s (execScrubRead r s) := by
  unfold execScrubRead
  repeat' split
  all_goals simp
theorem execCorrectedWriteback_keepsQueue (r : StoreRef) (s : State) :
    KeepsQueue s (execCorrectedWriteback r s) := by
  unfold execCorrectedWriteback
  split <;> simp
@[simp] theorem State.copied_pending (s : State) (here : Nat → Bool) :
    (s.copied here).pending = s.pending := by simp [State.copied]
theorem execSpareCopyDone_keepsQueue (b : BankRef) (row : Nat) (s : State) :
    KeepsQueue s (execSpareCopyDone b row s) := by
  simp only [execSpareCopyDone]
  repeat' split
  all_goals simp
theorem execGranuleCopyDone_keepsQueue (g : Nat) (s : State) :
    KeepsQueue s (execGranuleCopyDone g s) := by
  unfold execGranuleCopyDone
  split <;> simp
theorem execPprDone_keepsQueue (r : DdrRow) (s : State) : KeepsQueue s (execPprDone r s) := by
  unfold execPprDone
  split <;> simp
theorem execPprTimeout_keepsQueue (r : DdrRow) (s : State) : KeepsQueue s (execPprTimeout r s) := by
  unfold execPprTimeout
  split <;> simp
theorem execDdrGranuleCopyDone_keepsQueue (g : Nat) (s : State) :
    KeepsQueue s (execDdrGranuleCopyDone g s) := by
  unfold execDdrGranuleCopyDone
  split <;> simp
theorem execRepairRecordWrite_keepsQueue (s : State) : KeepsQueue s (execRepairRecordWrite s) := by
  simp only [execRepairRecordWrite]
  repeat' split
  all_goals simp
theorem execBeatReplay_keepsQueue (c a : Nat) (ok : Bool) (s : State) :
    KeepsQueue s (execBeatReplay c a ok s) := by
  unfold execBeatReplay
  split <;> simp
theorem execBondErased_keepsQueue (c grp : Nat) (s : State) :
    KeepsQueue s (execBondErased c grp s) := by
  simp only [execBondErased]
  repeat' split
  all_goals simp
@[simp] theorem State.d2dRetire_pending (s : State) (grp : Nat) :
    (s.d2dRetire grp).pending = s.pending := by simp [State.d2dRetire]
theorem execD2dLaneRepaired_keepsQueue (grp : Nat) (ok : Bool) (s : State) :
    KeepsQueue s (execD2dLaneRepaired grp ok s) := by
  unfold execD2dLaneRepaired
  repeat' split
  all_goals simp

/-! ### Fallow rotation -/

@[simp] theorem State.takeRole_pending (s : State) (c ph : Nat) :
    (s.takeRole c ph).pending = s.pending := by simp [State.takeRole]
@[simp] theorem State.freed_pending (s : State) (ph : Nat) (parts : BitVec 4) :
    (s.freed ph parts).pending = s.pending := by simp [State.freed]
theorem execClusterDue_keepsQueue (c : Nat) (s : State) : KeepsQueue s (execClusterDue c s) := by
  unfold execClusterDue
  repeat' split
  all_goals simp
theorem execClusterBorrowed_keepsQueue (c : Nat) (s : State) :
    KeepsQueue s (execClusterBorrowed c s) := by
  simp only [execClusterBorrowed]
  repeat' split
  all_goals simp
theorem execMigrationStart_keepsQueue (c : Nat) (s : State) :
    KeepsQueue s (execMigrationStart c s) := by
  unfold execMigrationStart
  repeat' split
  all_goals simp
theorem execMigrationDone_keepsQueue (c : Nat) (s : State) :
    KeepsQueue s (execMigrationDone c s) := by
  unfold execMigrationDone
  repeat' split
  all_goals simp
theorem execMigrationHoldRelease_keepsQueue (c : Nat) (s : State) :
    KeepsQueue s (execMigrationHoldRelease c s) := by
  unfold execMigrationHoldRelease
  split <;> simp
@[simp] theorem State.testPass_pending (s : State) (ph : Nat) :
    (s.testPass ph).pending = s.pending := by simp [State.testPass]
@[simp] theorem State.testBegin_pending (s : State) (ph : Nat) :
    (s.testBegin ph).pending = s.pending := by simp [State.testBegin]
theorem execTestKernelDone_keepsQueue (ph : Nat) (agrees last : Bool) (s : State) :
    KeepsQueue s (execTestKernelDone ph agrees last s) := by
  simp only [execTestKernelDone]
  repeat' split
  all_goals simp
@[simp] theorem State.replaceRole_pending (s : State) (c ph : Nat) (flag : Bool) :
    (s.replaceRole c ph flag).pending = s.pending := by simp [State.replaceRole]
@[simp] theorem State.roleAbsent_pending (s : State) (c : Nat) :
    (s.roleAbsent c).pending = s.pending := by
  unfold State.roleAbsent; simp only []
  split
  · rfl
  · -- else the kernel unfolds the fold over the sixteen sets to see that the two sides agree
    simp -implicitDefEqProofs
theorem execClusterReplace_keepsQueue (c : Nat) (s : State) :
    KeepsQueue s (execClusterReplace c s) := by
  simp only [execClusterReplace]
  repeat' split
  all_goals simp
@[simp] theorem State.flagPastDue_pending (s : State) :
    s.flagPastDue.pending = s.pending := by simp [State.flagPastDue]

/-! ### Boot -/

@[simp] theorem State.bootFrom_pending (s : State) (b : Bool) (im : ImageRead) (ck : W64) (trial : Option Bool) :
    (s.bootFrom b im ck trial).pending = s.pending := by simp [State.bootFrom]
@[simp] theorem State.eraseBad_pending (s : State) : s.eraseBad.pending = s.pending := by
  unfold State.eraseBad
  split
  · exact foldl_pending _ (fun t b => by split <;> rfl) _ _
  · rfl
theorem execBootImage_keepsQueue (s : State) : KeepsQueue s (execBootImage s) := by
  simp only [execBootImage]
  repeat' split
  all_goals simp
@[simp] theorem State.placeMonitor_pending (s : State) :
    s.placeMonitor.pending = s.pending := by simp [State.placeMonitor]
@[simp] theorem State.useSlot_pending (s : State) (a t : Nat) :
    (s.useSlot a t).pending = s.pending := by
  unfold State.useSlot
  split <;> simp
@[simp] theorem State.replay_pending (s : State) (r : RepairRec) :
    (s.replay r).pending = s.pending := by simp [State.replay]
@[simp] theorem State.replayAll_pending (s : State) :
    s.replayAll.pending = s.pending := by simp [State.replayAll]
@[simp] theorem State.bootPhys_pending (s : State) (ph : Nat) :
    (s.bootPhys ph).pending = s.pending := by simp [State.bootPhys]
@[simp] theorem State.placeRoles_pending (s : State) : s.placeRoles.pending = s.pending := by
  refine (foldl_pending _ (fun t c => ?_) _ _).trans (by simp)
  repeat' split
  all_goals simp
theorem execBootInit_keepsQueue (s : State) : KeepsQueue s (execBootInit s) := by
  unfold execBootInit
  repeat' split
  all_goals simp
@[simp] theorem State.softRepair_pending (s : State) (r : RepairRec) :
    (s.softRepair r).pending = s.pending := by simp [State.softRepair]
@[simp] theorem State.harden_pending (s : State) :
    s.harden.pending = s.pending := by simp [State.harden]

/-! ### Fresh check values -/

@[simp] theorem State.coverFresh_pending (s : State) (die : Nat) (m : SMap Nat) :
    (s.coverFresh die m).pending = s.pending := by
  refine foldl_pending _ (fun t q => ?_) _ _
  simp only [id_eq]
  repeat' split
  all_goals simp only [State.cvSet_pending]

/-! ### Scalar loads and stores -/

@[simp] theorem dcMiss_pending (s : State) (d a n : Nat) :
    (dcMiss s d a n).1.pending = s.pending := by
  simp only [dcMiss]
  split <;> simp
@[simp] theorem dcLoad_pending (s : State) (d a n : Nat) :
    (dcLoad s d a n).1.pending = s.pending := by
  simp only [dcLoad]
  repeat' split
  all_goals simp
@[simp] theorem coreWrite_pending (s : State) (d a : Nat) (b : List PB) :
    (coreWrite s d a b).pending = s.pending := by
  unfold coreWrite
  split <;> simp
@[simp] theorem ctlLoad_pending (s : State) (d a n : Nat) :
    (ctlLoad s d a n).1.pending = s.pending := by
  unfold ctlLoad
  split <;> simp
@[simp] theorem ldBody_pending (signed : Bool) (n d : Nat) (s : State) :
    (ldBody signed n d s).state.pending = s.pending := by
  simp only [ldBody]
  repeat' split
  all_goals simp
@[simp] theorem ctlStore_pending (s : State) (d a n : Nat) (v : W64) :
    (ctlStore s d a n v).pending = s.pending := by
  unfold ctlStore
  split <;> simp
@[simp] theorem stBody_pending (n d : Nat) (s : State) :
    (stBody n d s).state.pending = s.pending := by
  simp only [stBody]
  repeat' split
  all_goals simp
@[simp] theorem lldBody_pending (signed : Bool) (n d : Nat) (s : State) :
    (lldBody signed n d s).state.pending = s.pending := by
  simp only [lldBody]
  repeat' split
  all_goals simp
@[simp] theorem lstBody_pending (n d : Nat) (s : State) :
    (lstBody n d s).state.pending = s.pending := by
  simp only [lstBody]
  repeat' split
  all_goals simp

/-! ### Control flow, mode, windows and traps -/

@[simp] theorem brzBody_pending (d : Nat) (o : BitVec 12) (s : State) :
    (brzBody d o s).state.pending = s.pending := by
  simp only [brzBody]
  repeat' split
  all_goals simp
@[simp] theorem callTo_pending (d : Nat) (k : Core) (target : Nat) (s : State) :
    (callTo d k target s).state.pending = s.pending := by
  unfold callTo
  split <;> simp
@[simp] theorem retBody_pending (d : Nat) (s : State) :
    (retBody d s).state.pending = s.pending := by
  simp only [retBody]
  repeat' split
  all_goals simp
@[simp] theorem indirectBody_pending (call : Bool) (d : Nat) (s : State) :
    (indirectBody call d s).state.pending = s.pending := by
  simp only [indirectBody]
  repeat' split
  all_goals simp
@[simp] theorem loopBody_pending (d : Nat) (n : BitVec 12) (s : State) :
    (loopBody d n s).state.pending = s.pending := by
  simp only [loopBody]
  repeat' split
  all_goals simp
@[simp] theorem lexitBody_pending (d : Nat) (s : State) :
    (lexitBody d s).state.pending = s.pending := by simp [lexitBody]
@[simp] theorem lcntBody_pending (d : Nat) (s : State) :
    (lcntBody d s).state.pending = s.pending := by
  unfold lcntBody
  repeat' split
  all_goals simp
@[simp] theorem modewBody_pending (d : Nat) (s : State) :
    (modewBody d s).state.pending = s.pending := by
  simp only [modewBody]
  repeat' split
  all_goals simp
@[simp] theorem dcinvlBody_pending (d : Nat) (s : State) :
    (dcinvlBody d s).state.pending = s.pending := by
  simp only [dcinvlBody]
  repeat' split
  all_goals simp
@[simp] theorem atwBody_pending (d : Nat) (s : State) :
    (atwBody d s).state.pending = s.pending := by
  simp only [atwBody]
  repeat' split
  all_goals simp
@[simp] theorem ecallBody_pending (d : Nat) (s : State) :
    (ecallBody d s).state.pending = s.pending := by
  unfold ecallBody
  split <;> simp
@[simp] theorem wfiBody_pending (d : Nat) (s : State) :
    (wfiBody d s).state.pending = s.pending := by
  simp only [wfiBody]
  repeat' split
  all_goals simp
@[simp] theorem kendBody_pending (d : Nat) (s : State) :
    (kendBody d s).state.pending = s.pending := by simp [kendBody]
@[simp] theorem rteBody_pending (d : Nat) (s : State) :
    (rteBody d s).state.pending = s.pending := by
  simp only [rteBody]
  repeat' split
  all_goals simp

/-! ### Barriers, tickets and the enqueue of engine work -/

@[simp] theorem State.signalBar_pending (s : State) (a : Nat) :
    (s.signalBar a).pending = s.pending := by simp [State.signalBar]
@[simp] theorem State.signalMask_pending (s : State) (c p cb pb : Nat) (hdr : W64) (st : Status) :
    (s.signalMask c p cb pb hdr st).pending = s.pending := by simp [State.signalMask]
@[simp] theorem State.ticketEnter_pending (s : State) (d t : Nat) (e : Engine) (order : Nat) (words ext : List W64) :
    (s.ticketEnter d t e order words ext).pending = s.pending := by simp [State.ticketEnter]
@[simp] theorem enqBody_pending (e : Engine) (d : Nat) (s : State) :
    (enqBody e d s).state.pending = s.pending := by
  simp only [enqBody]
  repeat' split
  all_goals simp
@[simp] theorem qwaitBody_pending (d : Nat) (s : State) :
    (qwaitBody d s).state.pending = s.pending := by
  simp only [qwaitBody]
  repeat' split
  all_goals simp
@[simp] theorem qtestBody_pending (d : Nat) (s : State) :
    (qtestBody d s).state.pending = s.pending := by
  unfold qtestBody
  split
  · rfl
  · simp only []
    split
    · split
      · rename_i heq
        repeat' split at heq
        all_goals cases heq <;> rfl
      · rfl
    · repeat' split
      all_goals simp
theorem execTicketEnqueue_keepsQueue (d t : Nat) (s : State) :
    KeepsQueue s (execTicketEnqueue d t s) := by
  simp only [execTicketEnqueue]
  repeat' split
  all_goals simp
theorem execTicketComplete_keepsQueue (d t : Nat) (s : State) :
    KeepsQueue s (execTicketComplete d t s) := by
  simp only [execTicketComplete]
  repeat' split
  all_goals simp

/-! ### Channels and the dispatcher -/

@[simp] theorem State.evict_pending (s : State) (keep : Nat) :
    (s.evict keep).pending = s.pending := by
  simp only [State.evict]
  repeat' split
  all_goals simp
@[simp] theorem State.loadChan_pending (s : State) (p ch : Nat) :
    (s.loadChan p ch).pending = s.pending := by simp [State.loadChan]
@[simp] theorem State.armChan_pending (s : State) (p ch : Nat) :
    (s.armChan p ch).pending = s.pending := by simp [State.armChan]
@[simp] theorem State.addCmd_pending (s : State) (ch p c : Nat) (words : List W64) (ext : Option (List W64))
    (st : Option Status) (detail : W64) :
    (s.addCmd ch p c words ext st detail).pending = s.pending := by simp [State.addCmd]
@[simp] theorem State.endHeld_pending (s : State) (p ch : Nat) (st : Status) (detail : W64) (n : Nat) :
    (s.endHeld p ch st detail n).pending = s.pending := by
  induction n generalizing s with
  | zero => rfl
  | succ n ih =>
    unfold State.endHeld
    split
    · rfl
    · simp [ih]
@[simp] theorem State.abortChannel_pending (s : State) (p ch : Nat) (q r : Status) (detail : W64) :
    (s.abortChannel p ch q r detail).pending = s.pending := by simp [State.abortChannel]
@[simp] theorem State.scanOne_pending (s : State) (p ch : Nat) :
    (s.scanOne p ch).pending = s.pending := by simp [State.scanOne]
@[simp] theorem State.ringRecord_pending (s : State) (p ch i : Nat) :
    (s.ringRecord p ch i).1.pending = s.pending := by simp [State.ringRecord]
@[simp] theorem State.cachedChan_pending (s : State) (p ch : Nat) :
    (s.cachedChan p ch).pending = s.pending := by simp [State.cachedChan]
theorem execCommandRecordCopy_keepsQueue (ch : Nat) (s : State) :
    KeepsQueue s (execCommandRecordCopy ch s) := by
  simp only [execCommandRecordCopy]
  repeat' split
  all_goals simp
@[simp] theorem State.handOver_pending (s : State) (p ch c : Nat) (h : Head) :
    (s.handOver p ch c h).pending = s.pending := by
  simp only [State.handOver]
  split <;> simp
theorem execCommandDispatch_keepsQueue (ch : Nat) (s : State) :
    KeepsQueue s (execCommandDispatch ch s) := by
  simp only [execCommandDispatch]
  repeat' split
  all_goals simp
@[simp] theorem armBar_pending (s : State) (mode : Bool) (v a : Nat) :
    (armBar s mode v a).pending = s.pending := by simp [armBar]
theorem execBarArm_keepsQueue (id : Nat) (s : State) : KeepsQueue s (execBarArm id s) := by
  unfold execBarArm
  split <;> simp
theorem execNopCommand_keepsQueue (id : Nat) (s : State) : KeepsQueue s (execNopCommand id s) := by
  unfold execNopCommand
  split <;> simp
@[simp] theorem State.putRecord_pending (s : State) (c : Cmd) (st : Status) :
    (s.putRecord c st).1.pending = s.pending := by simp [State.putRecord]
@[simp] theorem State.dropCmd_pending (s : State) (c : Cmd) :
    (s.dropCmd c).pending = s.pending := by simp [State.dropCmd]
theorem execCommandCompletion_keepsQueue (id : Nat) (s : State) :
    KeepsQueue s (execCommandCompletion id s) := by
  simp only [execCommandCompletion]
  repeat' split
  all_goals simp
theorem execProgressWatchdogExpire_keepsQueue (ch : Nat) (s : State) :
    KeepsQueue s (execProgressWatchdogExpire ch s) := by
  unfold execProgressWatchdogExpire
  repeat' split
  all_goals simp

/-! ### Fold units -/

@[simp] theorem foldReject_pending (s : State) (p : Nat) (st : Status) :
    (foldReject s p st).s.pending = s.pending := by simp [foldReject]
@[simp] theorem foldStore_pending (s : State) (p a : Nat) (l : List PB) :
    (foldStore s p a l).1.pending = s.pending := by
  unfold foldStore
  split <;> simp
@[simp] theorem lineFold_pending (s : State) (p a z : Nat) (f : Nat → Nat → Nat) (x : Nat) (en psn : Nat → Bool) :
    (lineFold s p a z f x en psn).s.pending = s.pending := by
  unfold lineFold
  split <;> simp
@[simp] theorem raiseSward_pending (s : State) (p n die flags : Nat) :
    (raiseSward s p n die flags).pending = s.pending := by simp [raiseSward]
@[simp] theorem swardAdd_pending (s : State) (p n a : Nat) (psn : Bool) (c : Option Int × Nat) :
    (swardAdd s p n a psn c).s.pending = s.pending := by
  unfold swardAdd
  split
  · simp
  · simp only [raiseSward_pending]
    repeat' split
    all_goals simp only [foldStore_pending, readMem_pending]
@[simp] theorem swaddFloat_pending (s : State) (p a n f x : Nat) (psn : Bool) :
    (swaddFloat s p a n f x psn).s.pending = s.pending := by simp [swaddFloat]
@[simp] theorem swardRead_pending (s : State) (p a n : Nat) (clr : Bool) :
    (swardRead s p a n clr).s.pending = s.pending := by
  unfold swardRead
  split <;> simp

/-! ### The frame of a vector instruction -/

@[simp] theorem vecFault_pending (s : State) (d cause elem detail addr : Nat) :
    (vecFault s d cause elem detail addr).state.pending = s.pending := by simp [vecFault]
@[simp] theorem operandFault_pending (s : State) (d : Nat) :
    (operandFault s d).state.pending = s.pending := by simp [operandFault]
@[simp] theorem pairFault_pending (s : State) (d : Nat) :
    (pairFault s d).state.pending = s.pending := by simp [pairFault]
@[simp] theorem vecOp_pending (d n : Nat) (ctl : Nat → Bool) (f : Core → List Entry → State → Body)
    (h : ∀ k l t, (f k l t).state.pending = t.pending) (s : State) : (vecOp d n ctl f s).state.pending = s.pending := by
  unfold vecOp
  split
  · rfl
  · simp only []
    split
    · rfl
    · exact h _ _ _
@[simp] theorem vecDone_pending (s : State) (d : Nat) (k : Core) :
    (vecDone s d k).state.pending = s.pending := by
  unfold vecDone
  split <;> simp

/-! ### Element-wise vector instructions and reductions -/

@[simp] theorem mapGroup_pending (s : State) (d : Nat) (k : Core) (g : Grp) (f : Nat → Nat × Fl) (psn : Nat → Bool) :
    (mapGroup s d k g f psn).state.pending = s.pending := by simp [mapGroup]
@[simp] theorem vec2_pending (d : Nat) (fltOnly : Bool) (f : Nat → Bool → Nat → Nat → Nat × Fl) (s : State) :
    (vec2 d fltOnly f s).state.pending = s.pending :=
  vecOp_pending _ _ _ _ (fun k l t => by simp only []; split <;> simp) s
@[simp] theorem vec3_pending (d : Nat) (f : Nat → Bool → Nat → Nat → Nat → Nat × Fl) (s : State) :
    (vec3 d f s).state.pending = s.pending :=
  vecOp_pending _ _ _ _ (fun k l t => by simp only []; split <;> simp) s
@[simp] theorem vecS_pending (d : Nat) (f : Nat → Bool → Nat → Nat → Nat × Fl) (s : State) :
    (vecS d f s).state.pending = s.pending :=
  vecOp_pending _ _ _ _ (fun k l t => by simp only []; split <;> simp) s
@[simp] theorem vec1_pending (d : Nat) (fltOnly : Bool) (f : Nat → Bool → Nat → Nat × Fl) (s : State) :
    (vec1 d fltOnly f s).state.pending = s.pending :=
  vecOp_pending _ _ _ _ (fun k l t => by simp only []; split <;> simp) s
@[simp] theorem vcmp_pending (d : Nat) (f : Val → Val → Bool) (s : State) :
    (vcmp d f s).state.pending = s.pending :=
  vecOp_pending _ _ _ _ (fun k l t => by simp only []; split <;> simp) s
@[simp] theorem vmask_pending (d : Nat) (f : BitVec 2048 → BitVec 2048 → BitVec 2048) (s : State) :
    (vmask d f s).state.pending = s.pending :=
  vecOp_pending _ _ _ _ (fun k l t => by simp only []; split <;> simp) s
@[simp] theorem vcvtBody_pending (d : Nat) (s : State) : (vcvtBody d s).state.pending = s.pending :=
  vecOp_pending _ _ _ _ (fun k l t => by simp only []; split <;> simp) s
@[simp] theorem vqmxBody_pending (d : Nat) (s : State) : (vqmxBody d s).state.pending = s.pending :=
  vecOp_pending _ _ _ _ (fun k l t => by simp only []; split <;> simp) s
@[simp] theorem redPush_pending (s : State) (d : Nat) (k : Core) (v : W64) :
    (redPush s d k v).state.pending = s.pending := by
  unfold redPush
  split <;> simp
@[simp] theorem redSum_pending (d : Nat) (prod : Bool) (s : State) :
    (redSum d prod s).state.pending = s.pending := by
  refine vecOp_pending _ _ _ _ (fun k l t => ?_) s
  simp only []
  repeat' split
  all_goals simp
@[simp] theorem redMax_pending (d : Nat) (mx : Bool) (s : State) :
    (redMax d mx s).state.pending = s.pending := by
  refine vecOp_pending _ _ _ _ (fun k l t => ?_) s
  simp only []
  repeat' split
  all_goals simp
@[simp] theorem maskSum_pending (d : Nat) (f : List Nat → Nat → W64) (s : State) :
    (maskSum d f s).state.pending = s.pending :=
  vecOp_pending _ _ _ _ (fun k l t => by simp only []; split <;> simp) s

/-! ### Vector memory and the operand cache -/

@[simp] theorem readRuns_pending (s : State) (die : Nat) (l : List (Nat × Nat)) :
    (readRuns s die l).1.pending = s.pending := by simp [readRuns]
@[simp] theorem vecWrite_pending (s : State) (d : Nat) (l : List (Nat × List PB)) :
    (vecWrite s d l).pending = s.pending := by simp [vecWrite]
@[simp] theorem vecLoad_pending (s : State) (d : Nat) (k : Core) (g : Grp) (ff : Bool) (place : Nat → Nat × Nat)
    (bit : Nat → Nat) :
    (vecLoad s d k g ff place bit).state.pending = s.pending := by
  simp only [vecLoad]
  repeat' split
  all_goals simp
@[simp] theorem vldBody_pending (d : Nat) (ff : Bool) (s : State) :
    (vldBody d ff s).state.pending = s.pending :=
  vecOp_pending _ _ _ _ (fun k l t => by simp only []; split <;> simp) s
@[simp] theorem vldsBody_pending (d : Nat) (s : State) : (vldsBody d s).state.pending = s.pending :=
  vecOp_pending _ _ _ _ (fun k l t => by simp only []; split <;> simp) s
@[simp] theorem vgatherBody_pending (d : Nat) (ff : Bool) (s : State) :
    (vgatherBody d ff s).state.pending = s.pending := by
  refine vecOp_pending _ _ _ _ (fun k l t => ?_) s
  simp only []
  repeat' split
  all_goals simp
@[simp] theorem vecStore_pending (s : State) (d : Nat) (k : Core) (g : Grp) (place : Nat → Nat × Nat) (packed : Option Nat) :
    (vecStore s d k g place packed).state.pending = s.pending := by
  simp only [vecStore]
  repeat' split
  all_goals simp
@[simp] theorem vstBody_pending (d : Nat) (s : State) : (vstBody d s).state.pending = s.pending :=
  vecOp_pending _ _ _ _ (fun k l t => by simp only []; split <;> simp) s
@[simp] theorem vstsBody_pending (d : Nat) (s : State) : (vstsBody d s).state.pending = s.pending :=
  vecOp_pending _ _ _ _ (fun k l t => by simp only []; split <;> simp) s
@[simp] theorem vscatterBody_pending (d : Nat) (s : State) :
    (vscatterBody d s).state.pending = s.pending := by
  refine vecOp_pending _ _ _ _ (fun k l t => ?_) s
  simp only []
  repeat' split
  all_goals simp
@[simp] theorem vocldBody_pending (d : Nat) (s : State) :
    (vocldBody d s).state.pending = s.pending :=
  vecOp_pending _ _ _ _ (fun k l t => by simp only []; split <;> simp) s
@[simp] theorem vocstBody_pending (d : Nat) (s : State) :
    (vocstBody d s).state.pending = s.pending :=
  vecOp_pending _ _ _ _ (fun k l t => by simp only []; split <;> simp) s
@[simp] theorem ocBindBody_pending (d : Nat) (fill : Bool) (s : State) :
    (ocBindBody d fill s).state.pending = s.pending := by
  refine vecOp_pending _ _ _ _ (fun k l t => ?_) s
  simp only []
  repeat' split
  all_goals simp
@[simp] theorem ocwbBody_pending (d : Nat) (s : State) :
    (ocwbBody d s).state.pending = s.pending := by
  refine vecOp_pending _ _ _ _ (fun k l t => ?_) s
  simp only []
  repeat' split
  all_goals simp
@[simp] theorem ocevictBody_pending (d : Nat) (s : State) :
    (ocevictBody d s).state.pending = s.pending :=
  vecOp_pending _ _ _ _ (fun k l t => by simp only []; split <;> simp) s

/-! ### Vector folds and chains -/

@[simp] theorem foldSeen_pending (r : FoldRes) (d : Nat) :
    (foldSeen r d).pending = r.s.pending := by simp [foldSeen]
@[simp] theorem vfoldBody_pending (d : Nat) (s : State) :
    (vfoldBody d s).state.pending = s.pending := by
  refine vecOp_pending _ _ _ _ (fun k l t => ?_) s
  simp only []
  repeat' split
  all_goals simp
@[simp] theorem vswaddBody_pending (d : Nat) (s : State) :
    (vswaddBody d s).state.pending = s.pending := by
  refine vecOp_pending _ _ _ _ (fun k l t => ?_) s
  simp only []
  repeat' split
  all_goals simp
@[simp] theorem vswrdBody_pending (d : Nat) (clr : Bool) (s : State) :
    (vswrdBody d clr s).state.pending = s.pending := by
  refine vecOp_pending _ _ _ _ (fun k l t => ?_) s
  simp only []
  repeat' split
  all_goals simp
@[simp] theorem vrswBody_pending (d : Nat) (s : State) :
    (vrswBody d s).state.pending = s.pending := by
  refine vecOp_pending _ _ _ _ (fun k l t => ?_) s
  simp only []
  repeat' split
  all_goals simp only [vecFault_pending, pairFault_pending, operandFault_pending, stackBody_pending, foldSeen_pending,
    swardAdd_pending, State.setCore_pending]
@[simp] theorem vchainBody_pending (d : Nat) (s : State) :
    (vchainBody d s).state.pending = s.pending := by
  refine vecOp_pending _ _ _ _ (fun k l t => ?_) s
  simp only []
  repeat' split
  all_goals simp

/-! ### Events of a core -/

theorem execControlLoadReturn_keepsQueue (d : Nat) (s : State) :
    KeepsQueue s (execControlLoadReturn d s) := by
  unfold execControlLoadReturn
  repeat' split
  all_goals simp
@[simp] theorem enterPending_pending (s : State) (d : Nat) :
    (enterPending s d).pending = s.pending := by
  simp only [enterPending]
  repeat' split
  all_goals simp
theorem execAtomicWindowExpire_keepsQueue (d : Nat) (s : State) :
    KeepsQueue s (execAtomicWindowExpire d s) := by
  simp only [execAtomicWindowExpire]
  split <;> simp
theorem execWfiWake_keepsQueue (d : Nat) (s : State) : KeepsQueue s (execWfiWake d s) := by
  simp only [execWfiWake]
  split <;> simp
theorem execAbortTimeout_keepsQueue (d : Nat) (s : State) :
    KeepsQueue s (execAbortTimeout d s) := by
  simp only [execAbortTimeout]
  split <;> simp
theorem execSoftPost_keepsQueue (d : Nat) (v : BitVec 32) (s : State) :
    KeepsQueue s (execSoftPost d v s) := by
  unfold execSoftPost
  split <;> simp

/-! ### The sending side of the links -/

@[simp] theorem State.wire_pending (s : State) (r : Nat) (f : Frame) :
    (s.wire r f).pending = s.pending := by
  simp only [State.wire]
  split <;> simp
@[simp] theorem State.sendCtl_pending (s : State) (r type code psn ctx aux : Nat) :
    (s.sendCtl r type code psn ctx aux).pending = s.pending := by simp [State.sendCtl]
@[simp] theorem State.updOp_pending (s : State) (id : Nat) (f : LinkOp → LinkOp) :
    (s.updOp id f).pending = s.pending := by simp [State.updOp]
@[simp] theorem State.sendData_pending (s : State) (r : Nat) (x : TxFrame) (again : Bool) :
    (s.sendData r x again).pending = s.pending := by
  simp only [State.sendData]
  repeat' split
  all_goals simp
@[simp] theorem State.pumpN_pending (s : State) (r n : Nat) :
    (s.pumpN r n).pending = s.pending := by
  induction n generalizing s with
  | zero => rfl
  | succ n ih =>
    unfold State.pumpN; simp only []
    repeat' split
    all_goals simp [ih]
@[simp] theorem State.pump_pending (s : State) (r : Nat) :
    (s.pump r).pending = s.pending := by simp [State.pump]
@[simp] theorem State.pumpPort_pending (s : State) (k : Nat) :
    (s.pumpPort k).pending = s.pending := by simp [State.pumpPort]
@[simp] theorem State.pumpOp_pending (s : State) (o : LinkOp) :
    (s.pumpOp o).pending = s.pending := by simp [State.pumpOp]
@[simp] theorem State.endOp_pending (s : State) (o : LinkOp) (st : Status) (flags : BitVec 8) (detail : W64) :
    (s.endOp o st flags detail).pending = s.pending := by simp [State.endOp]
@[simp] theorem State.finishOp_pending (s : State) (o : LinkOp) :
    (s.finishOp o).pending = s.pending := by
  unfold State.finishOp
  split <;> simp
@[simp] theorem State.settle_pending (s : State) : s.settle.pending = s.pending := by
  refine foldl_pending _ (fun t id => ?_) _ _
  split <;> simp
@[simp] theorem State.ackFrom_pending (s : State) (r ackPsn : Nat) (sack : BitVec 32) :
    (s.ackFrom r ackPsn sack).pending = s.pending := by
  unfold State.ackFrom; simp only []
  split
  · exact foldl_pending _ (fun t x => State.sendData_pending t r x true) _ _
  · rfl

/-! ### Link commands -/

@[simp] theorem State.memberList_pending (s : State) (p die a n : Nat) :
    (s.memberList p die a n).1.pending = s.pending := by
  simp only [State.memberList]
  repeat' split
  all_goals simp
@[simp] theorem planXfer_pending (s : State) (c : Cmd) :
    (planXfer s c).s.pending = s.pending := by simp [planXfer]
@[simp] theorem planColl_pending (s : State) (c : Cmd) : (planColl s c).s.pending = s.pending := by
  simp only [planColl]
  split <;> simp
@[simp] theorem planMcast_pending (s : State) (c : Cmd) :
    (planMcast s c).s.pending = s.pending := by
  simp only [planMcast]
  split <;> simp
@[simp] theorem planVote_pending (s : State) (c : Cmd) : (planVote s c).s.pending = s.pending := by
  simp only [planVote]
  split <;> simp
@[simp] theorem State.startOp_pending (s : State) (o : LinkOp) :
    (s.startOp o).pending = s.pending := by simp [State.startOp]
@[simp] theorem admitLk_pending (id : Nat) (pl : LkPlan) :
    (admitLk id pl).pending = pl.s.pending := by simp [admitLk]
theorem execLkXfer_keepsQueue (id : Nat) (s : State) : KeepsQueue s (execLkXfer id s) := by
  unfold execLkXfer
  split <;> simp
theorem execLkColl_keepsQueue (id : Nat) (s : State) : KeepsQueue s (execLkColl id s) := by
  unfold execLkColl
  split <;> simp
theorem execLkMcast_keepsQueue (id : Nat) (s : State) : KeepsQueue s (execLkMcast id s) := by
  unfold execLkMcast
  split <;> simp
theorem execLkVote_keepsQueue (id : Nat) (s : State) : KeepsQueue s (execLkVote id s) := by
  unfold execLkVote
  split <;> simp
theorem execLkExpel_keepsQueue (id : Nat) (s : State) : KeepsQueue s (execLkExpel id s) := by
  unfold execLkExpel
  split <;> simp
theorem execLinkContextGrant_keepsQueue (die : Nat) (s : State) :
    KeepsQueue s (execLinkContextGrant die s) := by
  simp only [execLinkContextGrant]
  repeat' split
  all_goals simp

/-! ### Frames that arrive -/

@[simp] theorem State.drop_pending (s : State) (k hi lo : Nat) :
    (s.drop k hi lo).pending = s.pending := by
  unfold State.drop
  split <;> simp
@[simp] theorem State.dropMalformed_pending (s : State) (k : Nat) :
    (s.dropMalformed k).pending = s.pending := by simp [State.dropMalformed]
@[simp] theorem State.dropAuth_pending (s : State) (k : Nat) :
    (s.dropAuth k).pending = s.pending := by simp [State.dropAuth]
@[simp] theorem State.dropRate_pending (s : State) (k : Nat) :
    (s.dropRate k).pending = s.pending := by simp [State.dropRate]
@[simp] theorem State.dropExpelled_pending (s : State) (k : Nat) :
    (s.dropExpelled k).pending = s.pending := by simp [State.dropExpelled]
@[simp] theorem State.pfcCheck_pending (s : State) (k : Nat) :
    (s.pfcCheck k).pending = s.pending := by simp [State.pfcCheck]
theorem State.macsec_pending {s t : State} {k r : Nat} {f : Frame} (h : s.macsec k f = some (t, r)) :
    t.pending = s.pending := by
  unfold State.macsec at h
  repeat' split at h
  all_goals cases h <;> rfl
theorem State.bucketTake_pending {s t : State} {r : Nat} {f : Frame} (h : s.bucketTake r f = some t) :
    t.pending = s.pending := by
  unfold State.bucketTake at h; simp only [] at h
  repeat' split at h
  all_goals cases h <;> rfl
@[simp] theorem State.takeIn_pending (s : State) (k : Nat) (f : Frame) :
    (s.takeIn k f).1.pending = s.pending := by
  unfold State.takeIn
  split
  · rfl
  · split
    · simp only []; split <;> simp
    · split
      · simp
      · split
        · simp
        · next h =>
          have h1 := State.macsec_pending h
          split
          · simp [h1]
          · split
            · simp [h1]
            · split
              · simp [h1]
              · next h =>
                have h2 := State.bucketTake_pending h
                split <;> simp [h1, h2]
@[simp] theorem State.quotaTake_pending (s : State) (r n : Nat) :
    (s.quotaTake r n).pending = s.pending := by simp [State.quotaTake]
@[simp] theorem State.foldFrame_pending (s : State) (p : Nat) (f : Frame) :
    (s.foldFrame p f).1.pending = s.pending := by
  unfold State.foldFrame; simp only []
  split
  · rfl
  · refine foldl_fst_pending _ (fun q i => ?_) _ _
    repeat' split
    all_goals simp
@[simp] theorem State.notifyBar_pending (s : State) (p : Nat) (f : Frame) :
    (s.notifyBar p f).pending = s.pending := by simp [State.notifyBar]
@[simp] theorem State.applyWF_pending (s : State) (k p r : Nat) (f : Frame) (fold : Bool) :
    (s.applyWF k p r f fold).1.pending = s.pending := by
  simp only [State.applyWF]
  repeat' split
  all_goals simp
@[simp] theorem State.answerRead_pending (s : State) (k p r : Nat) (f : Frame) :
    (s.answerRead k p r f).1.pending = s.pending := by
  unfold State.answerRead
  split <;> simp
@[simp] theorem State.takeResponse_pending (s : State) (k r : Nat) (f : Frame) :
    (s.takeResponse k r f).1.pending = s.pending := by
  unfold State.takeResponse
  split <;> simp
@[simp] theorem State.takeColl_pending (s : State) (k p r : Nat) (f : Frame) :
    (s.takeColl k p r f).1.pending = s.pending := by
  simp only [State.takeColl]
  repeat' split
  all_goals simp
@[simp] theorem State.takeVote_pending (s : State) (r : Nat) (f : Frame) :
    (s.takeVote r f).1.pending = s.pending := by
  unfold State.takeVote
  split <;> simp
@[simp] theorem State.deliver_pending (s : State) (k p r : Nat) (f : Frame) :
    (s.deliver k p r f).1.pending = s.pending := by simp [State.deliver]
@[simp] theorem State.deliverRun_pending (s : State) (k p r n : Nat) (f : Frame) :
    (s.deliverRun k p r n f).pending = s.pending := by
  induction n generalizing s f with
  | zero => rfl
  | succ n ih =>
    unfold State.deliverRun; simp only []
    repeat' split
    all_goals simp [ih]
@[simp] theorem State.recvData_pending (s : State) (k p r : Nat) (f : Frame) :
    (s.recvData k p r f).pending = s.pending := by simp [State.recvData]
@[simp] theorem State.afterFrame_pending (s : State) (k r : Nat) (f : Frame) :
    (s.afterFrame k r f).pending = s.pending := by simp [State.afterFrame]
@[simp] theorem recvOp_pending (s : State) (k op : Nat) (f : Frame) :
    (recvOp s k op f).pending = s.pending := by
  unfold recvOp
  split
  · rfl
  · have h := State.takeIn_pending s k f
    split <;> simp_all
@[simp] theorem recvType_pending (s : State) (k type : Nat) (f : Frame) (act : State → Nat → Nat → State)
    (ha : ∀ t a b, (act t a b).pending = t.pending) : (recvType s k type f act).pending = s.pending := by
  unfold recvType
  split
  · rfl
  · have h := State.takeIn_pending s k f
    split <;> simp_all
@[simp] theorem State.takeNack_pending (s : State) (r : Nat) (f : Frame) :
    (s.takeNack r f).pending = s.pending := by
  simp only [State.takeNack]
  repeat' split
  all_goals simp
@[simp] theorem State.markDead_pending (s : State) (r : Nat) :
    (s.markDead r).pending = s.pending := by simp [State.markDead]
@[simp] theorem State.peerLost_pending (s : State) (r : Nat) (st : Nat) (detach : Bool) :
    (s.peerLost r st detach).pending = s.pending := by simp [State.peerLost]
theorem execAbortFrame_keepsQueue (k : Nat) (f : Frame) (s : State) :
    KeepsQueue s (execAbortFrame k f s) := by
  refine keepsQueue_next.2 (recvType_pending _ _ _ _ _ fun t p r => ?_)
  split
  · simp
  · split <;> simp

/-! ### Link timers and training -/

theorem execLagLimitExpire_keepsQueue (id m : Nat) (s : State) :
    KeepsQueue s (execLagLimitExpire id m s) := by
  unfold execLagLimitExpire
  repeat' split
  all_goals simp
theorem execPfcWatchdog_keepsQueue (k prio : Nat) (s : State) :
    KeepsQueue s (execPfcWatchdog k prio s) := by
  simp only [execPfcWatchdog]
  repeat' split
  all_goals simp
@[simp] theorem State.portUp_pending (s : State) (k : Nat) :
    (s.portUp k).pending = s.pending := by simp [State.portUp]
@[simp] theorem State.sendHello_pending (s : State) (k : Nat) :
    (s.sendHello k).pending = s.pending := by simp [State.sendHello]
theorem execDegradeFlit_keepsQueue (k : Nat) (s : State) : KeepsQueue s (execDegradeFlit k s) := by
  simp only [execDegradeFlit]
  split <;> simp
theorem execLaneRecalDone_keepsQueue (k : Nat) (ok : Bool) (s : State) :
    KeepsQueue s (execLaneRecalDone k ok s) := by
  simp only [execLaneRecalDone]
  split <;> simp

/-! ### Hayward -/

@[simp] theorem State.drainBuffers_pending (s : State) :
    s.drainBuffers.pending = s.pending := by simp [State.drainBuffers]
@[simp] theorem State.beginAction_pending (s : State) (a : Action) :
    (s.beginAction a).pending = s.pending := by simp [State.beginAction]
theorem execRecoveryActionStart_keepsQueue (s : State) :
    KeepsQueue s (execRecoveryActionStart s) := by
  unfold execRecoveryActionStart
  split <;> simp

/-! ### Registers as commands -/

@[simp] theorem chanWrite_pending (s : State) (ch b n : Nat) (v : W64) :
    (chanWrite s ch b n v).pending = s.pending := by simp [chanWrite]
@[simp] theorem msixWrite_pending (s : State) (p fn v w b n : Nat) (x : W64) :
    (msixWrite s p fn v w b n x).pending = s.pending := by simp [msixWrite]
@[simp] theorem bar0Write_pending (s : State) (p fn : Nat) (tgt : Bar0) (o size : Nat) (v : W64) :
    (bar0Write s p fn tgt o size v).pending = s.pending := by
  unfold bar0Write
  repeat' split
  all_goals simp
theorem execRegisterWrite_keepsQueue (ag : Agent) (a size : Nat) (v : BitVec 64) (s : State) :
    KeepsQueue s (execRegisterWrite ag a size v s) := by
  unfold execRegisterWrite
  repeat' split
  all_goals simp
@[simp] theorem ptCtl_pending (s : State) (p r cmd : Nat) :
    (ptCtl s p r cmd).pending = s.pending := by simp [ptCtl]
theorem execPortEnable_keepsQueue (k : Nat) (s : State) : KeepsQueue s (execPortEnable k s) := by
  unfold execPortEnable
  split <;> simp

/-! ### Host ports -/

@[simp] theorem State.linksAborted_pending (s : State) (p : Nat) :
    (s.linksAborted p).pending = s.pending := by simp [State.linksAborted]
@[simp] theorem State.resetFields_pending (s : State) (p : Nat) :
    (s.resetFields p).pending = s.pending := by
  unfold State.resetFields
  split <;> simp
@[simp] theorem State.stopEngines_pending (s : State) (p : Nat) :
    (s.stopEngines p).pending = s.pending := by simp [State.stopEngines]
@[simp] theorem State.startReset_pending (s : State) (p : Nat) (link : Bool) :
    (s.startReset p link).pending = s.pending := by simp [State.startReset]
@[simp] theorem State.trigger_pending (s : State) (p : Nat) (link : Bool) :
    (s.trigger p link).pending = s.pending := by simp [State.trigger]
theorem execVfFunctionLevelReset_keepsQueue (p n : Nat) (s : State) :
    KeepsQueue s (execVfFunctionLevelReset p n s) := by
  unfold execVfFunctionLevelReset
  split <;> simp
theorem execPresetIdle_keepsQueue (p : Nat) (s : State) : KeepsQueue s (execPresetIdle p s) := by
  unfold execPresetIdle
  repeat' split
  all_goals simp
@[simp] theorem State.clearPart_pending (s : State) (p : Nat) :
    (s.clearPart p).pending = s.pending := by simp [State.clearPart]
theorem execPresetCleared_keepsQueue (p : Nat) (s : State) :
    KeepsQueue s (execPresetCleared p s) := by
  unfold execPresetCleared
  split <;> simp
theorem execPresetEraseDone_keepsQueue (p : Nat) (s : State) :
    KeepsQueue s (execPresetEraseDone p s) := by
  unfold execPresetEraseDone
  split <;> simp
@[simp] theorem State.cfgWrite_pending (s : State) (p fn off : Nat) (v : BitVec 32) :
    (s.cfgWrite p fn off v).pending = s.pending := by simp [State.cfgWrite]
theorem execConfigRequest_keepsQueue (p : Nat) (q : ConfigReq) (s : State) :
    KeepsQueue s (execConfigRequest p q s) := by
  unfold execConfigRequest
  split <;> simp
theorem execBar2Read_keepsQueue (p o len : Nat) (s : State) :
    KeepsQueue s (execBar2Read p o len s) := by
  unfold execBar2Read
  repeat' split
  all_goals simp
theorem execBar2Write_keepsQueue (p o : Nat) (data : List (BitVec 8)) (ep : Bool) (s : State) :
    KeepsQueue s (execBar2Write p o data ep s) := by
  unfold execBar2Write
  repeat' split
  all_goals simp
theorem execSpdmRequest_keepsQueue (p : Nat) (q : SpdmReq) (s : State) :
    KeepsQueue s (execSpdmRequest p q s) := by
  unfold execSpdmRequest
  repeat' split
  all_goals simp

/-! ### Kernels -/

theorem execKernelAccept_keepsQueue (id : Nat) (s : State) :
    KeepsQueue s (execKernelAccept id s) := by
  unfold execKernelAccept
  split <;> simp
theorem execKernelStart_keepsQueue (id : Nat) (s : State) :
    KeepsQueue s (execKernelStart id s) := by
  simp only [execKernelStart]
  repeat' split
  all_goals simp
theorem execKernelComplete_keepsQueue (id : Nat) (s : State) :
    KeepsQueue s (execKernelComplete id s) := by
  simp only [execKernelComplete]
  repeat' split
  all_goals simp

/-! ### Live change -/

@[simp] theorem State.policyNow_pending (s : State) (n : Policy) :
    (s.policyNow n).pending = s.pending := by simp [State.policyNow]
@[simp] theorem State.applyClusters_pending (s : State) (n : Policy) :
    (s.applyClusters n).pending = s.pending := by
  unfold State.applyClusters; simp only []
  -- the fold is over any list: the kernel shall not unfold it over this one
  generalize upTo 288 = roles
  refine (foldl_pending _ (fun t p => ?_) _ _).trans ?_
  · simp
  · exact foldl_pending _ (fun t ph => by split <;> rfl) _ _
@[simp] theorem State.applyRanges_pending (s : State) (n : Policy) :
    (s.applyRanges n).pending = s.pending := by simp [State.applyRanges]
theorem execPolicyQuiesceApply_keepsQueue (s : State) :
    KeepsQueue s (execPolicyQuiesceApply s) := by
  unfold execPolicyQuiesceApply
  split <;> simp
@[simp] theorem State.stageMonitor_pending (s : State) (l : List Byte) (x : SecInfo) :
    (s.stageMonitor l x).pending = s.pending := by simp [State.stageMonitor]
theorem execMonitorInPlace_keepsQueue (c : Nat) (s : State) :
    KeepsQueue s (execMonitorInPlace c s) := by
  unfold execMonitorInPlace
  split <;> simp
theorem execPlannedSwitchover_keepsQueue (s : State) : KeepsQueue s (execPlannedSwitchover s) := by
  unfold execPlannedSwitchover
  repeat' split
  all_goals simp
@[simp] theorem State.startApply_pending (s : State) (im : ImageRead) :
    (s.startApply im).pending = s.pending := by simp [State.startApply]
theorem execApplyComplete_keepsQueue (s : State) : KeepsQueue s (execApplyComplete s) := by
  unfold execApplyComplete
  repeat' split
  all_goals simp

/-! ### The mailbox -/

@[simp] theorem State.answer_pending (s : State) (p result : Nat) (l : List Byte) :
    (s.answer p result l).pending = s.pending := by simp [State.answer]
@[simp] theorem State.answerD_pending (s : State) (p result detail : Nat) :
    (s.answerD p result detail).pending = s.pending := by simp [State.answerD]
@[simp] theorem stageOp_pending (s : State) (p sub : Nat) (f : State → State) (h : ∀ t, (f t).pending = t.pending) :
    (stageOp s p sub f).pending = s.pending := by
  simp only [stageOp]
  repeat' split
  all_goals simp [h]
theorem execImageCommit_keepsQueue (p : Nat) (s : State) : KeepsQueue s (execImageCommit p s) := by
  refine keepsQueue_next.2 (stageOp_pending _ _ _ _ fun t => ?_)
  simp only []
  split <;> simp
theorem execImageApply_keepsQueue (p : Nat) (s : State) : KeepsQueue s (execImageApply p s) := by
  refine keepsQueue_next.2 (stageOp_pending _ _ _ _ fun t => ?_)
  repeat' split
  all_goals simp

/-! ### Matrix engines -/

@[simp] theorem readEls_pending (s : State) (die base f i n : Nat) :
    (readEls s die base f i n).1.pending = s.pending := by simp [readEls]
@[simp] theorem readScales_pending (s : State) (die a n : Nat) :
    (readScales s die a n).1.pending = s.pending := by simp [readScales]
@[simp] theorem readAll_pending {α : Type} (rd : State → Nat → State × α) (s : State) (l : List Nat)
    (h : ∀ t i, (rd t i).1.pending = t.pending) :
    (readAll rd s l).1.pending = s.pending := by
  refine foldl_fst_pending _ (fun r i => ?_) _ _
  exact h _ _
@[simp] theorem loadPass_pending (s : State) (die : Nat) (x : MxCmd) (p : Nat) :
    (loadPass s die x p).1.pending = s.pending := by simp [loadPass]
@[simp] theorem readRow_pending (s : State) (die : Nat) (x : MxCmd) (p m : Nat) :
    (readRow s die x p m).1.pending = s.pending := by simp [readRow]
@[simp] theorem State.engineEnd_pending (s : State) (c p : Nat) (src : Src) (hdr : W64) (st : Status)
    (flags : BitVec 8) (detail : W64) :
    (s.engineEnd c p src hdr st flags detail).pending = s.pending := by
  simp only [State.engineEnd]
  repeat' split
  all_goals simp
@[simp] theorem loadShadow_pending (s : State) (die : Nat) (x : MxCmd) (x' : Option (Nat × Nat)) :
    (loadShadow s die x x').1.pending = s.pending := by
  unfold loadShadow
  split <;> simp
theorem execMxMatmul_keepsQueue (c : Nat) (s : State) : KeepsQueue s (execMxMatmul c s) := by
  simp only [execMxMatmul]
  repeat' split
  all_goals simp
theorem execMxExtAlone_keepsQueue (c : Nat) (s : State) : KeepsQueue s (execMxExtAlone c s) := by
  simp only [execMxExtAlone]
  repeat' split
  all_goals simp
theorem execMxRowEnter_keepsQueue (c : Nat) (s : State) : KeepsQueue s (execMxRowEnter c s) := by
  simp only [execMxRowEnter]
  repeat' split
  all_goals simp
theorem execMxPassBoundary_keepsQueue (c : Nat) (s : State) :
    KeepsQueue s (execMxPassBoundary c s) := by
  simp only [execMxPassBoundary]
  repeat' split
  all_goals simp
theorem execWindrowCompare_keepsQueue (c col : Nat) (colErr chkErr : Dy) (s : State) :
    KeepsQueue s (execWindrowCompare c col colErr chkErr s) := by
  simp only [execWindrowCompare]
  repeat' split
  all_goals simp
@[simp] theorem State.rerunStall_pending (s : State) (c : Nat) (sameFmt : Bool) :
    (s.rerunStall c sameFmt).pending = s.pending := by simp [State.rerunStall]
theorem execWindrowVote_keepsQueue (c col1 : Nat) (err1 : Dy) (col2 : Nat) (err2 chkErr : Dy) (s : State) :
    KeepsQueue s (execWindrowVote c col1 err1 col2 err2 chkErr s) := by
  simp only [execWindrowVote]
  repeat' split
  all_goals simp
theorem execMxTileDrainDone_keepsQueue (c : Nat) (s : State) :
    KeepsQueue s (execMxTileDrainDone c s) := by
  unfold execMxTileDrainDone
  repeat' split
  all_goals simp
theorem execMxCommandEnd_keepsQueue (c : Nat) (s : State) :
    KeepsQueue s (execMxCommandEnd c s) := by
  simp only [execMxCommandEnd]
  repeat' split
  all_goals simp

/-! ### The management sideband and the TAP -/

@[simp] theorem State.reply_pending (s : State) (status : Nat) (l : List Byte) :
    (s.reply status l).pending = s.pending := by simp [State.reply]
@[simp] theorem State.setDyn_pending (s : State) (da : BitVec 7) :
    (s.setDyn da).pending = s.pending := by simp [State.setDyn]
@[simp] theorem State.tapTo_pending (s : State) (n : Nat) (w : BitVec 32) :
    (s.tapTo n w).pending = s.pending := by simp [State.tapTo]

/-! ### Power and temperature -/

@[simp] theorem State.divRequest_pending (s : State) :
    s.divRequest.pending = s.pending := by simp [State.divRequest]
theorem execDividerSwitch_keepsQueue (s : State) : KeepsQueue s (execDividerSwitch s) := by
  unfold execDividerSwitch
  split <;> simp
@[simp] theorem State.throttled_pending (s : State) (c : Nat) :
    (s.throttled c).pending = s.pending := by simp [State.throttled]
@[simp] theorem State.takeSample_pending (s : State) (watts : Nat) :
    (s.takeSample watts).pending = s.pending := by simp [State.takeSample]
@[simp] theorem State.linksThermal_pending (s : State) :
    s.linksThermal.pending = s.pending := by simp [State.linksThermal]
@[simp] theorem State.thermalStop_pending (s : State) :
    s.thermalStop.pending = s.pending := by simp [State.thermalStop]
@[simp] theorem State.coolMark_pending (s : State) :
    s.coolMark.pending = s.pending := by simp [State.coolMark]
theorem execDdrTempRead_keepsQueue (pkg degC : Nat) (s : State) :
    KeepsQueue s (execDdrTempRead pkg degC s) := by
  unfold execDdrTempRead
  split <;> simp

/-! ### Stream engines -/

@[simp] theorem State.seEnd_pending (s : State) (c : Nat) (x : SeRun) :
    (s.seEnd c x).pending = s.pending := by
  simp only [State.seEnd, State.engineEnd_pending, State.setCluster_pending, State.coverFresh_pending]
@[simp] theorem State.seNext_pending (s : State) (c : Nat) (x : SeRun) :
    (s.seNext c x).pending = s.pending := by
  unfold State.seNext
  repeat' split
  all_goals simp
theorem execSeList_keepsQueue (c : Nat) (s : State) : KeepsQueue s (execSeList c s) := by
  simp only [execSeList]
  repeat' split
  all_goals simp
@[simp] theorem fetchDescs_pending (c n : Nat) (s : State) (x : SeRun) :
    (fetchDescs c n s x).1.pending = s.pending := by
  induction n generalizing s x with
  | zero => rfl
  | succ n ih =>
    unfold fetchDescs; simp only []
    repeat' split
    all_goals simp [ih]
theorem execDescriptorFetch_keepsQueue (c : Nat) (s : State) :
    KeepsQueue s (execDescriptorFetch c s) := by
  unfold execDescriptorFetch
  repeat' split
  all_goals simp
theorem execSlotGrant_keepsQueue (c : Nat) (s : State) : KeepsQueue s (execSlotGrant c s) := by
  simp only [execSlotGrant]
  repeat' split
  all_goals simp
@[simp] theorem readPiece_pending (m : Mv) (c : Nat) (d : Desc) (q : Nat × Nat) :
    (readPiece m c d q).1.s.pending = m.s.pending := by
  simp only [readPiece]
  repeat' split
  all_goals simp
@[simp] theorem putHost_pending (m : Mv) (a : Nat) (l : List PB) :
    (putHost m a l).s.pending = m.s.pending := by simp [putHost]
@[simp] theorem putDev_pending (m : Mv) (c a : Nat) (l : List PB) (v : Option Nat) (noVal : Bool) :
    (putDev m c a l v noVal).s.pending = m.s.pending := by
  refine foldl_mv_pending _ (fun t q => ?_) _ _
  simp only []
  split <;> simp
@[simp] theorem copyPiece_pending (m : Mv) (c : Nat) (d : Desc) (r : Nat) (q : Nat × Nat) :
    (copyPiece m c d r q).s.pending = m.s.pending := by simp [copyPiece]
@[simp] theorem fillRow_pending (m : Mv) (c : Nat) (d : Desc) (r : Nat) :
    (fillRow m c d r).s.pending = m.s.pending := by simp [fillRow]
@[simp] theorem noteFold_s (m : Mv) (r : FoldRes) (psnAt : Option Nat) :
    (noteFold m r psnAt).s = r.s := rfl
@[simp] theorem foldElem_pending (m : Mv) (_c : Nat) (d : Desc) (r : Nat) (row : List PB) (e : Nat) :
    (foldElem m _c d r row e).s.pending = m.s.pending := by simp [foldElem]
@[simp] theorem foldRow_pending (m : Mv) (c : Nat) (d : Desc) (r : Nat) :
    (foldRow m c d r).s.pending = m.s.pending := by
  refine (foldl_mv_pending _ (fun t e => ?_) _ _).trans ?_
  · simp
  · exact foldl_keeps (fun g : Mv × List PB => g.1.s.pending = m.s.pending) _ (fun g q h => by simpa using h) _ _ rfl
@[simp] theorem swreadRow_pending (m : Mv) (c : Nat) (d : Desc) (r : Nat) :
    (swreadRow m c d r).s.pending = m.s.pending := by
  refine foldl_mv_pending _ (fun t e => ?_) _ _
  simp only []
  repeat' split
  all_goals simp
@[simp] theorem putDigest_pending (m : Mv) (c : Nat) (w : List W64) :
    (putDigest m c w).s.pending = m.s.pending := by simp [putDigest]
@[simp] theorem runDesc_pending (s : State) (c op : Nat) (row : Mv → Nat → Desc → Nat → Mv)
    (h : ∀ m r d i, (row m r d i).s.pending = m.s.pending) :
    (runDesc s c op row).pending = s.pending := by
  unfold runDesc; simp only []
  repeat' split
  all_goals simp [h]
@[simp] theorem copyRow_pending (m : Mv) (c : Nat) (d : Desc) (r : Nat) :
    (copyRow m c d r).s.pending = m.s.pending := by simp [copyRow]
theorem execCvReread_keepsQueue (c : Nat) (s : State) : KeepsQueue s (execCvReread c s) := by
  unfold execCvReread
  repeat' split
  all_goals simp
theorem execDescriptorDone_keepsQueue (c : Nat) (s : State) :
    KeepsQueue s (execDescriptorDone c s) := by
  unfold execDescriptorDone
  repeat' split
  all_goals simp
theorem execMovedNack_keepsQueue (c : Nat) (s : State) : KeepsQueue s (execMovedNack c s) := by
  unfold execMovedNack
  repeat' split
  all_goals simp
theorem execStaleNack_keepsQueue (c : Nat) (s : State) : KeepsQueue s (execStaleNack c s) := by
  unfold execStaleNack
  split <;> simp
theorem execHostReadFail_keepsQueue (id a : Nat) (s : State) :
    KeepsQueue s (execHostReadFail id a s) := by
  simp only [execHostReadFail]
  repeat' split
  all_goals simp
theorem execRgnDisarmDone_keepsQueue (p n : Nat) (s : State) :
    KeepsQueue s (execRgnDisarmDone p n s) := by
  simp only [execRgnDisarmDone]
  repeat' split
  all_goals simp

/-! ### Tokens and the life cycle -/

@[simp] theorem State.redraw_pending (s : State) :
    s.redraw.pending = s.pending := by simp [State.redraw]
@[simp] theorem tokenOp_pending (s : State) (p k : Nat) (f : State → State) (h : ∀ t, (f t).pending = t.pending) :
    (tokenOp s p k f).pending = s.pending := by
  simp only [tokenOp]
  repeat' split
  all_goals simp [h]
@[simp] theorem State.stopForChange_pending (s : State) :
    s.stopForChange.pending = s.pending := by simp [State.stopForChange]
theorem State.mbUnknown_pending {s t : State} {p : Nat} (h : s.mbUnknown p = some t) :
    t.pending = s.pending := by
  simp only [State.mbUnknown] at h
  repeat' split at h
  all_goals cases h
  all_goals simp
@[simp] theorem State.mbFinish_pending (s : State) (p result : Nat) (l : List Byte) :
    (s.mbFinish p result l).pending = s.pending := by
  simp only [State.mbFinish]
  split <;> simp
theorem execMailboxResponse_keepsQueue (p : Nat) (s : State) :
    KeepsQueue s (execMailboxResponse p s) := by
  have h : ((s.mbUnknown p).getD s).pending = s.pending := by
    cases hu : s.mbUnknown p with
    | none => rfl
    | some t => exact State.mbUnknown_pending hu
  simp only [execMailboxResponse, keepsQueue_next]
  split <;> simp [h]
@[simp] theorem State.freeByte_pending (s : State) :
    s.freeByte.1.pending = s.pending := by simp [State.freeByte]
theorem execInstrumentAccess_keepsQueue (q : InstrumentReq) (s : State) :
    KeepsQueue s (execInstrumentAccess q s) := by
  unfold execInstrumentAccess
  repeat' split
  all_goals simp

/-! ### The clocks -/

@[simp] theorem State.idle_pending (s : State) : s.idle.pending = s.pending := by simp [State.idle]

/-! ### exec and step -/

/-- No command changes what waits behind it. -/
theorem exec_keepsQueue (c : Instr) (s : State) : KeepsQueue s (exec c s) := by
  cases c with
  | lit | ext | dup | drop | swap | rot | nip | tuck | add | sub | neg | band | bor | bxor | bnot | eq | ne |
  lts | ltu | les | leu | eqz => exact issue_keepsQueue (aluOp_pending _ _ _)
  | pick => exact issue_keepsQueue (pickBody_pending _)
  | tor => exact issue_keepsQueue (torBody_pending _)
  | fromr | rfetch => exact issue_keepsQueue (fromrBody_pending _ _)
  | mul | mulhs | mulhu | divs | divu | rems | remu => exact issue_keepsQueue (slowOp_pending _ _ _)
  | shl | shr | sar => exact issue_keepsQueue (shiftBody_pending _ _)
  | sel => exact issue_keepsQueue (selBody_pending _)
  | fadd | fsub | fmul | fdiv | fmax | fmin | fsqrt | flt | fle | feq | cvtif | cvtfi =>
    exact issue_keepsQueue (fpOp_pending _ _ _)
  | ld8u | ld8s | ld16u | ld16s | ld32u | ld32s | ld64 => exact issue_keepsQueue (ldBody_pending _ _ _)
  | st8 | st16 | st32 | st64 => exact issue_keepsQueue (stBody_pending _ _)
  | lld8u | lld8s | lld16u | lld16s | lld32u | lld32s | lld64 => exact issue_keepsQueue (lldBody_pending _ _ _)
  | lst8 | lst16 | lst32 | lst64 => exact issue_keepsQueue (lstBody_pending _ _)
  | brz => exact issue_keepsQueue (brzBody_pending _ _)
  | loop => exact issue_keepsQueue (loopBody_pending _ _)
  | mxq | seqEnq => exact issue_keepsQueue (enqBody_pending _ _)
  | qwait => exact issue_keepsQueue (qwaitBody_pending _)
  | qtest => exact issue_keepsQueue (qtestBody_pending _)
  | ret => exact issue_keepsQueue (retBody_pending _)
  | rte => exact issue_keepsQueue (rteBody_pending _)
  | jmpi | calli => exact issue_keepsQueue (indirectBody_pending _ _)
  | lcnt => exact issue_keepsQueue (lcntBody_pending _)
  | modew => exact issue_keepsQueue (modewBody_pending _)
  | dcinvl => exact issue_keepsQueue (dcinvlBody_pending _)
  | atw => exact issue_keepsQueue (atwBody_pending _)
  | ecall => exact issue_keepsQueue (ecallBody_pending _)
  | wfi => exact issue_keepsQueue (wfiBody_pending _)
  | kend => exact issue_keepsQueue (kendBody_pending _)
  | vadd | vsub | vmul | vdiv | vmax | vmin => exact issue_keepsQueue (vec2_pending _ _ _)
  | vfma => exact issue_keepsQueue (vec3_pending _ _)
  | vadds | vmuls | vmaxs | vmins => exact issue_keepsQueue (vecS_pending _ _)
  | vabs | vneg | vsqrt | vrsqrt | vexp | vlog | vtanh | vsig => exact issue_keepsQueue (vec1_pending _ _ _)
  | vcmpEq | vcmpNe | vcmpLt | vcmpLe | vcmpGt | vcmpGe => exact issue_keepsQueue (vcmp_pending _ _)
  | vmand | vmor | vmxor | vmandn => exact issue_keepsQueue (vmask_pending _ _)
  | vcvt => exact issue_keepsQueue (vcvtBody_pending _)
  | vqmx => exact issue_keepsQueue (vqmxBody_pending _)
  | vchain => exact issue_keepsQueue (vchainBody_pending _)
  | vld | vldff => exact issue_keepsQueue (vldBody_pending _ _)
  | vst => exact issue_keepsQueue (vstBody_pending _)
  | vlds => exact issue_keepsQueue (vldsBody_pending _)
  | vsts => exact issue_keepsQueue (vstsBody_pending _)
  | vgather | vgatherff => exact issue_keepsQueue (vgatherBody_pending _ _)
  | vscatter => exact issue_keepsQueue (vscatterBody_pending _)
  | vocld => exact issue_keepsQueue (vocldBody_pending _)
  | vocst => exact issue_keepsQueue (vocstBody_pending _)
  | ocfill | ocbind => exact issue_keepsQueue (ocBindBody_pending _ _)
  | ocwb => exact issue_keepsQueue (ocwbBody_pending _)
  | ocevict => exact issue_keepsQueue (ocevictBody_pending _)
  | vfold => exact issue_keepsQueue (vfoldBody_pending _)
  | vswadd => exact issue_keepsQueue (vswaddBody_pending _)
  | vswrd | vswrdc => exact issue_keepsQueue (vswrdBody_pending _ _)
  | vrsum | vrprod => exact issue_keepsQueue (redSum_pending _ _)
  | vrmax | vrmin => exact issue_keepsQueue (redMax_pending _ _)
  | vcount | vany | vall | vfirst => exact issue_keepsQueue (maskSum_pending _ _)
  | vrsw => exact issue_keepsQueue (vrswBody_pending _)
  | vmset => exact issue_keepsQueue (vecOp_pending _ _ _ _ fun k l t => by simp only []; split <;> simp)
  | vsetvl => exact issue_keepsQueue (vecOp_pending _ _ _ _ fun k l t => by split <;> simp)
  | depth | call | moder | dcinv | icinv | fence | nop | illegalInstr | vgetvl | ocsync =>
    exact issue_keepsQueue fun t => by simp
  | lldi | lsti | lexit | atwc => exact issue_keepsQueue fun t => by repeat' split <;> simp
  -- the commands that always answer a next state, made by the helpers above
  | resultFill | reductionResult | stackRefill | dcacheFill | icacheFill | storeAck | vectorLoadArrive | ocFillDone |
  ocWritebackAck | exceptionEntry | fadd32 | fadd64 | iadd64 | swaddF64 | swaddF32 | swaddBf16 | swaddCell | swrd |
  swrdClr | rgnArm | rgnArmDone | rgnDisarm | sbArm | sbArmDone | sbDisarm | winArm | winArmDone | winDisarm | b2WinArm
  | b2WinArmDone | b2WinDisarm | ddrRefresh | ddrRetrainStep | channelScan | channelAbortDone | streamCopy | streamFill
  | streamFold | streamBcast | streamSwread | remoteWriteFrame | remoteFoldFrame | readRequest | readResponse |
  collectiveFrame | voteFrame | ackFrame | nackFrame | noticeFrame | keepaliveFrame | helloExchange | ackTimer |
  retransmissionTimeout | keepaliveSend | peerSilence | noticeSend | pfcFrame | linkDrops | partnerEntryWrite |
  partnerEntryRead | expelPartner | keyLoad | equaliserTrained | laneDeskewDone | trainingTimeout | helloRetry |
  autoNegotiation | laneRecalTrigger | perstAssert | perstDeassert | hotReset | dataLinkDown | functionLevelReset |
  partitionResetFail | d3hotEntry | d0Return | ideKm | ideInsecure | getId | attest | imageBegin | imageWrite |
  tokenDebug | tokenRelease | tokenVendorReturn | tokenProvision | tokenScrap | tokenSvn | tokenRevoke | retArmExpire |
  debugExpire | debugHaltRequest | lifecycleReset | entdaa | setdasa | mctpControl | getTid | getPldmVersion |
  getPldmTypes | getPldmCommands | getPdrRepositoryInfo | getPdr | getSensorReading | getStateSensorReadings |
  sensorRefresh | mgmtStatus | mgmtLogRead | mgmtLogAck | rotSuspend | rotResume | pvAck | lockstepMismatch |
  standbyTakeover | clockFault | supplyFault | migrationRetry | rotationRecordWrite | powerSample | admissionResume |
  thermalSample | thermalStopEnd | enRise | enFall | powerUpRestart | powerGood | sysRstNAssert | sysRstNDeassert |
  bootRom | bootMemory | psecWrite | jtagBypass | jtagIdcode | jtagSamplePreload | jtagExtest | jtagClamp |
  portConfigReady | pcieLinkUp | vin48InRange =>
    exact keepsQueue_next.2 (by simp)
  -- the commands whose next states need a case split, made above
  | controlLoadReturn => exact execControlLoadReturn_keepsQueue _ _
  | atomicWindowExpire => exact execAtomicWindowExpire_keepsQueue _ _
  | wfiWake => exact execWfiWake_keepsQueue _ _
  | abortTimeout => exact execAbortTimeout_keepsQueue _ _
  | softPost => exact execSoftPost_keepsQueue _ _ _
  | ticketEnqueue => exact execTicketEnqueue_keepsQueue _ _ _
  | ticketComplete => exact execTicketComplete_keepsQueue _ _ _
  | mxMatmul => exact execMxMatmul_keepsQueue _ _
  | mxExtAlone => exact execMxExtAlone_keepsQueue _ _
  | mxRowEnter => exact execMxRowEnter_keepsQueue _ _
  | mxPassBoundary => exact execMxPassBoundary_keepsQueue _ _
  | windrowCompare => exact execWindrowCompare_keepsQueue _ _ _ _ _
  | windrowVote => exact execWindrowVote_keepsQueue _ _ _ _ _ _ _
  | mxTileDrainDone => exact execMxTileDrainDone_keepsQueue _ _
  | mxCommandEnd => exact execMxCommandEnd_keepsQueue _ _
  | registerWrite => exact execRegisterWrite_keepsQueue _ _ _ _ _
  | rgnDisarmDone => exact execRgnDisarmDone_keepsQueue _ _ _
  | scrubRead => exact execScrubRead_keepsQueue _ _
  | correctedWriteback => exact execCorrectedWriteback_keepsQueue _ _
  | spareCopyDone => exact execSpareCopyDone_keepsQueue _ _ _
  | granuleCopyDone => exact execGranuleCopyDone_keepsQueue _ _
  | pprDone => exact execPprDone_keepsQueue _ _
  | pprTimeout => exact execPprTimeout_keepsQueue _ _
  | ddrGranuleCopyDone => exact execDdrGranuleCopyDone_keepsQueue _ _
  | repairRecordWrite => exact execRepairRecordWrite_keepsQueue _
  | beatReplay => exact execBeatReplay_keepsQueue _ _ _ _
  | bondErased => exact execBondErased_keepsQueue _ _ _
  | d2dLaneRepaired => exact execD2dLaneRepaired_keepsQueue _ _ _
  | ddrTempRead => exact execDdrTempRead_keepsQueue _ _ _
  | commandRecordCopy => exact execCommandRecordCopy_keepsQueue _ _
  | commandDispatch => exact execCommandDispatch_keepsQueue _ _
  | kernelAccept => exact execKernelAccept_keepsQueue _ _
  | kernelStart => exact execKernelStart_keepsQueue _ _
  | kernelComplete => exact execKernelComplete_keepsQueue _ _
  | seList => exact execSeList_keepsQueue _ _
  | barArm => exact execBarArm_keepsQueue _ _
  | nopCommand => exact execNopCommand_keepsQueue _ _
  | commandCompletion => exact execCommandCompletion_keepsQueue _ _
  | progressWatchdogExpire => exact execProgressWatchdogExpire_keepsQueue _ _
  | descriptorFetch => exact execDescriptorFetch_keepsQueue _ _
  | slotGrant => exact execSlotGrant_keepsQueue _ _
  | cvReread => exact execCvReread_keepsQueue _ _
  | descriptorDone => exact execDescriptorDone_keepsQueue _ _
  | movedNack => exact execMovedNack_keepsQueue _ _
  | staleNack => exact execStaleNack_keepsQueue _ _
  | hostReadFail => exact execHostReadFail_keepsQueue _ _ _
  | lkXfer => exact execLkXfer_keepsQueue _ _
  | lkColl => exact execLkColl_keepsQueue _ _
  | lkMcast => exact execLkMcast_keepsQueue _ _
  | lkVote => exact execLkVote_keepsQueue _ _
  | lkExpel => exact execLkExpel_keepsQueue _ _
  | linkContextGrant => exact execLinkContextGrant_keepsQueue _ _
  | abortFrame => exact execAbortFrame_keepsQueue _ _ _
  | lagLimitExpire => exact execLagLimitExpire_keepsQueue _ _ _
  | pfcWatchdog => exact execPfcWatchdog_keepsQueue _ _ _
  | portEnable => exact execPortEnable_keepsQueue _ _
  | degradeFlit => exact execDegradeFlit_keepsQueue _ _
  | laneRecalDone => exact execLaneRecalDone_keepsQueue _ _ _
  | vfFunctionLevelReset => exact execVfFunctionLevelReset_keepsQueue _ _ _
  | presetIdle => exact execPresetIdle_keepsQueue _ _
  | presetCleared => exact execPresetCleared_keepsQueue _ _
  | presetEraseDone => exact execPresetEraseDone_keepsQueue _ _
  | configRequest => exact execConfigRequest_keepsQueue _ _ _
  | bar2Read => exact execBar2Read_keepsQueue _ _ _ _
  | bar2Write => exact execBar2Write_keepsQueue _ _ _ _ _
  | spdmRequest => exact execSpdmRequest_keepsQueue _ _ _
  | imageCommit => exact execImageCommit_keepsQueue _ _
  | imageApply => exact execImageApply_keepsQueue _ _
  | policyQuiesceApply => exact execPolicyQuiesceApply_keepsQueue _
  | monitorInPlace => exact execMonitorInPlace_keepsQueue _ _
  | plannedSwitchover => exact execPlannedSwitchover_keepsQueue _
  | applyComplete => exact execApplyComplete_keepsQueue _
  | mailboxResponse => exact execMailboxResponse_keepsQueue _ _
  | recoveryActionStart => exact execRecoveryActionStart_keepsQueue _
  | clusterDue => exact execClusterDue_keepsQueue _ _
  | clusterBorrowed => exact execClusterBorrowed_keepsQueue _ _
  | migrationStart => exact execMigrationStart_keepsQueue _ _
  | migrationDone => exact execMigrationDone_keepsQueue _ _
  | migrationHoldRelease => exact execMigrationHoldRelease_keepsQueue _ _
  | testKernelDone => exact execTestKernelDone_keepsQueue _ _ _ _
  | clusterReplace => exact execClusterReplace_keepsQueue _ _
  | dividerSwitch => exact execDividerSwitch_keepsQueue _
  | vinOutOfRange => exact execVinOutOfRange_keepsQueue _ _
  | bootImage => exact execBootImage_keepsQueue _
  | bootInit => exact execBootInit_keepsQueue _
  | instrumentAccess => exact execInstrumentAccess_keepsQueue _ _
  -- OVER, the one command left: its name is a token of Mathlib's and cannot label an alternative
  | _ => exact issue_keepsQueue (aluOp_pending _ _ _)

/-- A step with a command in front runs it on the state with the queue's rest. -/
theorem step_of_front {s : State} {c : Instr} {rest : List Instr} (h : s.pending = c :: rest) :
    step s = exec c { s with pending := rest } := by simp only [step, h]
/-- A step on an empty queue is one cycle of the service clock. -/
theorem step_of_empty {s : State} (h : s.pending = []) :
    step s = .next s.idle := by simp only [step, h]

/-- Settles O1: the front command is what `step` finds in the queue. -/
theorem stepRunsFrontCommand : Obligations.StepRunsFrontCommand := by
  unfold Obligations.StepRunsFrontCommand
  exact fun s c rest => step_of_front rfl

/-- Settles O58: the step takes the front command off, and neither its `exec` nor, on an empty queue, the clock touches the
rest. -/
theorem stepTakesOneCommand : Obligations.StepTakesOneCommand := by
  unfold Obligations.StepTakesOneCommand
  intro s t h
  cases hq : s.pending with
  | nil =>
    rw [step_of_empty hq] at h
    have ht : t.pending = s.pending := keepsQueue_next.2 (State.idle_pending s) t h
    rw [ht, hq, List.tail_nil]
  | cons c rest =>
    rw [step_of_front hq] at h
    exact exec_keepsQueue c _ t h

end Sys2Proof.Machine
end

section
/-! Proofs about one cycle of the service clock: what the clocks count while power is good, and what no cycle touches. -/

namespace Sys2Proof.Machine

/-! ### What a cycle is, with power and without -/

/-- Without power the clocks stand. -/
theorem State.idle_of_unpowered {s : State} (h : s.power.pwrGood = false) : s.idle = s := by
  simp [State.idle, h]

/-- With power every cycle is one update of the state: a second's end shows only in the seconds it adds to the powered ones and
takes from those that debug may last. -/
theorem State.idle_of_powered {s : State} (h : s.power.pwrGood = true) :
    s.idle = { s.setReg (aHW + 8) (w64 (s.sc + 1)) with
      acCount := s.acCount + s.acStep
      acRem := (s.acRem + 32) % max 1 s.power.div
      cores := s.cores.map fun q => (q.1, q.2.winTick s.acStep)
      psec := s.psec + if (s.sc + 1) % 333333333 = 0 then 1 else 0
      life := { s.life with dbgSecs := s.life.dbgSecs - if (s.sc + 1) % 333333333 = 0 then 1 else 0 } } := by
  by_cases hsec : (s.sc + 1) % 333333333 = 0
  · simp [State.idle, h, hsec]
  · simp [State.idle, h, hsec, State.setReg]

/-! ### What a cycle counts -/

theorem State.idle_acCount {s : State} (h : s.power.pwrGood = true) :
    s.idle.acCount = s.acCount + (s.acRem + 32) / max 1 s.power.div := by
  rw [State.idle_of_powered h, State.acStep]
theorem State.idle_acRem {s : State} (h : s.power.pwrGood = true) :
    s.idle.acRem = (s.acRem + 32) % max 1 s.power.div := by rw [State.idle_of_powered h]
theorem State.idle_psec {s : State} (h : s.power.pwrGood = true) :
    s.idle.psec = s.psec + (if (s.sc + 1) % 333333333 = 0 then 1 else 0) := by rw [State.idle_of_powered h]
/-- `HW.SC_COUNT` of a register file in canonical form reads one more after the cycle. -/
theorem State.idle_reg_scCount {s : State} (h : s.power.pwrGood = true) (hr : s.regs.Pairwise fun x y => x.1 < y.1) :
    s.idle.reg (aHW + 8) = w64 (s.sc + 1) := by
  rw [State.idle_of_powered h]
  exact State.setReg_reg_same s (aHW + 8) (w64 (s.sc + 1)) hr

/-! ### What no cycle touches -/

/-- What a powered cycle leaves as it was, every cycle does. -/
theorem State.idle_keeps {α : Type} {s : State} (f : State → α) (h : s.power.pwrGood = true → f s.idle = f s) : f s.idle = f s := by
  cases hp : s.power.pwrGood with
  | false => rw [State.idle_of_unpowered hp]
  | true => exact h hp
@[simp] theorem State.idle_mem (s : State) : s.idle.mem = s.mem :=
  State.idle_keeps State.mem fun h => by rw [State.idle_of_powered h, State.setReg_mem]
@[simp] theorem State.idle_clusters (s : State) : s.idle.clusters = s.clusters :=
  State.idle_keeps State.clusters fun h => by rw [State.idle_of_powered h, State.setReg_clusters]
@[simp] theorem State.idle_hw (s : State) : s.idle.hw = s.hw :=
  State.idle_keeps State.hw fun h => by rw [State.idle_of_powered h, State.setReg_hw]

/-- Settles O2: on an empty queue `step` is the clock's cycle, which without power is no change and with it one update. -/
theorem emptyQueueTicks : Obligations.EmptyQueueTicks := by
  unfold Obligations.EmptyQueueTicks
  intro s hq
  refine ⟨step_of_empty hq, State.idle_of_unpowered, fun hp => ?_⟩
  exact ⟨State.idle_reg_scCount hp, State.idle_acCount hp, State.idle_acRem hp, State.idle_psec hp,
    State.idle_mem s, State.idle_clusters s, State.idle_hw s, (State.idle_pending s).trans hq⟩

end Sys2Proof.Machine
end

section
/-! Proofs about vector instructions that issue: what VCVT and VQMX make of their groups. -/

namespace Sys2Proof.Machine

/-! ### The frame of a vector instruction -/

/-- A vector instruction that issues does its own work on its operands and the core without them. -/
theorem issue_vecOp {s : State} {d n : Nat} {ctl : Nat → Bool} {l : List Entry} {k : Core} (h : VecIssues s d n ctl l k)
    (instr : BitVec 16) (f : Core → List Entry → State → Body) :
    issue s d instr .plain (vecOp d n ctl f) = (f k l (s.fetched d)).run d instr := by
  obtain ⟨hissue, ⟨hneed, rfl⟩, hctl, -⟩ := h
  rw [issue_of_issues hissue, vecOp_of_need hneed hctl]

/-- The halves of a vector instruction that issues agree. -/
theorem VecIssues.calm {s : State} {d n : Nat} {ctl : Nat → Bool} {l : List Entry} {k : Core} (h : VecIssues s d n ctl l k) :
    ((s.fetched d).core d).pairMiss = false := h.2.2.2

/-- A vector instruction that issues, and whose own work is done with a core, completes with that core. -/
theorem issue_vecOp_done {s : State} {d n : Nat} {ctl : Nat → Bool} {l : List Entry} {k k' : Core}
    (h : VecIssues s d n ctl l k) (instr : BitVec 16) {f : Core → List Entry → State → Body}
    (hf : f k l (s.fetched d) = vecDone (s.fetched d) d k') :
    issue s d instr .plain (vecOp d n ctl f) = (s.fetched d).completes d k' := by
  rw [issue_vecOp h, hf]
  simp only [vecDone, h.calm, Bool.false_eq_true, if_false, Body.run, State.completes]

/-! ### Conversions (R149) -/

theorem exec_vcvt (d : Nat) (s : State) : exec (.vcvt d) s = .next (issue s d 0x7050 .plain (vcvtBody d)) := rfl
theorem exec_vqmx (d : Nat) (s : State) : exec (.vqmx d) s = .next (issue s d 0x7051 .plain (vqmxBody d)) := rfl

/-- Settles O29: past the frame of a vector instruction, the groups that the statement admits are those that pass the
instruction's own check. -/
theorem vectorConversionResults : Obligations.VectorConversionResults := by
  unfold Obligations.VectorConversionResults
  constructor
  · intro s d x y c k h a g ha hg hn r
    have hok : (a.ok && g.ok && a.n == g.n) = true := by simp [ha, hg, hn]
    exact congrArg Host.Outcome.next (issue_vecOp_done h _ (if_pos hok))
  · intro s d x y z c k h a g sc ctl blk ha hg hsc hfa hfg hfsc hn h32 hnsc hblk r k1
    have hwhole : ((upTo (g.n / 32)).all fun b =>
        (blk b).all (k.active g) || (blk b).all fun e => !k.active g e) = true := by
      simpa only [upTo, List.all_eq_true, List.mem_range, Bool.or_eq_true, Bool.not_eq_true'] using hblk
    have hok : (a.ok && g.ok && sc.ok && decide (a.fmt ≤ 3) && [4, 5, 6, 7, 8, 9].contains g.fmt && sc.fmt == 15
        && a.n == g.n && g.n % 32 == 0 && sc.n == g.n / 32 && (upTo (g.n / 32)).all fun b =>
          (blk b).all (k.active g) || (blk b).all fun e => !k.active g e) = true := by
      rw [hwhole]
      simpa [ha, hg, hsc, hfa, hfsc, hn, h32, hnsc] using hfg
    exact congrArg Host.Outcome.next (issue_vecOp_done h _ (if_pos hok))

end Sys2Proof.Machine
end

section
/-! Proofs about fused chains: which operand cache lines a chain can write, and that it changes little else of the core. -/

namespace Sys2Proof.Machine

/-! ### Cores that differ in operand cache lines alone -/

/-- The core k' is k but for the operand cache lines that L lists. -/
structure Core.OnlyLines (L : List Nat) (k k' : Core) : Prop where
  rest : { k' with oc := k.oc } = k
  lines : ∀ i ∉ L, k'.ocLine i = k.ocLine i

theorem Core.OnlyLines.refl (L : List Nat) (k : Core) : k.OnlyLines L k := ⟨rfl, fun _ _ => rfl⟩

theorem Core.OnlyLines.trans {L : List Nat} {k k' k'' : Core} (h : k.OnlyLines L k') (h' : k'.OnlyLines L k'') :
    k.OnlyLines L k'' where
  rest := by
    calc { k'' with oc := k.oc } = { { k'' with oc := k'.oc } with oc := k.oc } := rfl
      _ = k := by rw [h'.rest, h.rest]
  lines i hi := (h'.lines i hi).trans (h.lines i hi)

/-- What does not read the operand cache reads the same. -/
theorem Core.OnlyLines.keeps {α : Type} {L : List Nat} {k k' : Core} (h : k.OnlyLines L k') (f : Core → α)
    (hf : ∀ k oc, f { k with oc } = f k) : f k' = f k := by
  rw [← hf k' k.oc, h.rest]

theorem Core.setOc_onlyLines {L : List Nat} (k : Core) {i : Nat} (h : i ∈ L) (x : OcLine) : k.OnlyLines L (k.setOc i x) where
  rest := rfl
  lines _ hj := mget_mput_other _ _ _ _ _ _ fun hji => hj (hji ▸ h)

/-- Lines set one after another, each to what the core so far says. -/
theorem Core.foldl_setOc_onlyLines {L ls : List Nat} (k : Core) (h : ∀ i ∈ ls, i ∈ L) (x : Core → Nat → OcLine) :
    k.OnlyLines L (ls.foldl (fun k i => k.setOc i (x k i)) k) :=
  List.foldlRecOn ls _ (.refl L k) fun k' hk' i hi => hk'.trans (k'.setOc_onlyLines (h i hi) (x k' i))

theorem Core.ocSettle_onlyLines (L : List Nat) (k : Core) : k.OnlyLines L (k.ocSettle L) :=
  k.foldl_setOc_onlyLines (fun _ hi => hi) _

theorem Core.ocWrite_onlyLines {L : List Nat} (k : Core) (f line : Nat) (l : List (Nat × Nat × Bool))
    (h : ∀ i ∈ ocLinesOf f line (l.map (·.1)), i ∈ L) : k.OnlyLines L (k.ocWrite f line l) :=
  k.foldl_setOc_onlyLines h _

/-! ### The lines of a stream, and those that a chain touches -/

theorem fmtBits_pos (f : Nat) : 0 < fmtBits f := by
  unfold fmtBits
  split <;> decide

/-- An element of a stream touches the line of its first bit and that of its last. -/
theorem mem_ocLinesOf {f line i : Nat} {es : List Nat} (h : i ∈ ocLinesOf f line es) :
    ∃ e ∈ es, i = line + e * fmtBits f / 512 ∨ i = line + (e * fmtBits f + fmtBits f - 1) / 512 := by
  refine List.foldlRecOn es _ (motive := fun m => i ∈ m → _) (fun h => absurd h List.not_mem_nil)
    (fun m ih e he hi => ?_) h
  rcases (mem_sadd _ _ _).mp hi with hi | hi
  · exact ⟨e, he, .inr hi⟩
  · rcases (mem_sadd _ _ _).mp hi with hi | hi
    · exact ⟨e, he, .inl hi⟩
    · exact ih hi

/-- The lines of the first n elements of a stream. -/
theorem lt_of_mem_ocLinesOf {f line n i : Nat} {es : List Nat} (hes : ∀ e ∈ es, e < n) (h : i ∈ ocLinesOf f line es) :
    ∃ j < (n * fmtBits f + 511) / 512, line + j = i := by
  obtain ⟨e, he, hi⟩ := mem_ocLinesOf h
  have hw := fmtBits_pos f
  have hlast : e * fmtBits f + fmtBits f ≤ n * fmtBits f := by
    rw [← Nat.succ_mul]
    exact Nat.mul_le_mul_right _ (hes e he)
  rcases hi with rfl | rfl
  · exact ⟨_, by omega, rfl⟩
  · exact ⟨_, by omega, rfl⟩

/-- Members of a set grown by the images of a list. -/
theorem mem_foldl_sadd {α : Type} (f : α → Nat) (l : List α) (m : List Nat) (j : Nat) :
    j ∈ l.foldl (fun m a => sadd m (f a)) m ↔ j ∈ m ∨ ∃ a ∈ l, f a = j := by
  induction l generalizing m with
  | nil => simp
  | cons a t ih =>
    rw [List.foldl_cons, ih, mem_sadd, List.exists_mem_cons_iff, eq_comm (a := j)]
    tauto

/-- The lines that a chain touches are those of its streams. -/
theorem mem_chainTouched {w : List W64} {j : Nat} : j ∈ chainTouched w ↔
    ∃ q ∈ chainStreams (w.getD 0 0) (w.getD 1 0), ∃ i < (chainN (w.getD 0 0) * fmtBits q.2 + 511) / 512, q.1 + i = j := by
  have hgrow : ∀ (qs : List (Nat × Nat)) (m : List Nat),
      j ∈ qs.foldl (fun m q =>
        (upTo ((chainN (w.getD 0 0) * fmtBits q.2 + 511) / 512)).foldl (fun m i => sadd m (q.1 + i)) m) m
      ↔ j ∈ m ∨ ∃ q ∈ qs, ∃ i < (chainN (w.getD 0 0) * fmtBits q.2 + 511) / 512, q.1 + i = j := by
    intro qs
    induction qs with
    | nil => simp
    | cons q t ih =>
      intro m
      rw [List.foldl_cons, ih, mem_foldl_sadd, List.exists_mem_cons_iff, or_assoc]
      simp only [upTo, List.mem_range]
  rw [chainTouched, hgrow]
  simp

/-- The results of the elements of a chain lie in lines that it touches. -/
theorem mem_chainTouched_of_result {w : List W64} {es : List Nat} (hes : ∀ e ∈ es, e < chainN (w.getD 0 0)) {i : Nat}
    (h : i ∈ ocLinesOf (chainStream (w.getD 1 0) 3).2 (chainStream (w.getD 1 0) 3).1 es) : i ∈ chainTouched w :=
  mem_chainTouched.mpr ⟨_, List.mem_append_right _ (List.mem_singleton_self _), lt_of_mem_ocLinesOf hes h⟩

/-! ### What a chain keeps while it runs -/

/-- Results (element, pattern, poison) of elements of the chain. -/
def ChainResultsOf (w : List W64) (l : List (Nat × Nat × Bool)) : Prop := ∀ q ∈ l, q.1 < chainN (w.getD 0 0)

theorem ChainResultsOf.nil (w : List W64) : ChainResultsOf w [] := fun _ hq => absurd hq List.not_mem_nil

theorem ChainResultsOf.concat {w : List W64} {l : List (Nat × Nat × Bool)} (h : ChainResultsOf w l) {q : Nat × Nat × Bool}
    (hq : q.1 < chainN (w.getD 0 0)) : ChainResultsOf w (l ++ [q]) := by
  intro q' hq'
  rcases List.mem_append.mp hq' with hq' | hq'
  · exact h q' hq'
  · rw [List.mem_singleton.mp hq']
    exact hq

/-- Writing results of a chain reaches touched lines alone. -/
theorem ChainResultsOf.ocWrite_onlyLines {w : List W64} {l : List (Nat × Nat × Bool)} (h : ChainResultsOf w l) (k : Core) :
    k.OnlyLines (chainTouched w) (k.ocWrite (chainStream (w.getD 1 0) 3).2 (chainStream (w.getD 1 0) 3).1 l) :=
  k.ocWrite_onlyLines _ _ _ fun _ hi => mem_chainTouched_of_result (List.forall_mem_map.mpr h) hi

/-- A chain that began on core k0 has written touched lines alone, and so will the results that it still holds. -/
structure ChainRun.Framed (w : List W64) (k0 : Core) (c : ChainRun) : Prop where
  core : k0.OnlyLines (chainTouched w) c.k
  late : ∀ l ∈ c.late, ChainResultsOf w l

/-- What `chainGroup` gathers over its elements: their results, the generators, the flags. -/
abbrev ChainAcc := List (Nat × Nat × Bool) × List (BitVec 32) × Fl

/-- What a group of elements adds to the results held is results of the chain. -/
theorem chainGroup_late (w : List W64) (delay g : Nat) (c : ChainRun) (i : Nat) : ∃ l, ChainResultsOf w l ∧
    (chainGroup w delay g c i).late = (if delay ≤ c.late.length then c.late.drop 1 else c.late) ++ [l] := by
  refine ⟨_, ?_, rfl⟩
  refine List.foldlRecOn (motive := fun (r : ChainAcc) => ChainResultsOf w r.1) _ _ (ChainResultsOf.nil w) fun r hr e he => ?_
  have hlt : e < chainN (w.getD 0 0) := of_decide_eq_true (List.mem_filter.mp he).2
  refine iteInduction (motive := fun (r : ChainAcc) => ChainResultsOf w r.1) (fun _ => ?active) fun _ => ?inactive
  case active => exact hr.concat (q := (e, _, _)) hlt
  case inactive => exact iteInduction (fun _ => hr.concat (q := (e, _, _)) hlt) fun _ => hr

theorem chainGroup_k (w : List W64) (delay g : Nat) (c : ChainRun) (i : Nat) : (chainGroup w delay g c i).k =
    if delay ≤ c.late.length then c.k.ocWrite (chainStream (w.getD 1 0) 3).2 (chainStream (w.getD 1 0) 3).1 (c.late.headD [])
    else c.k := rfl

theorem ChainRun.Framed.chainGroup {w : List W64} {k0 : Core} {c : ChainRun} (h : c.Framed w k0) (delay g i : Nat) :
    (chainGroup w delay g c i).Framed w k0 where
  core := by
    rw [chainGroup_k]
    split
    · refine h.core.trans (ChainResultsOf.ocWrite_onlyLines ?_ c.k)
      cases hl : c.late with
      | nil => exact ChainResultsOf.nil w
      | cons l t => exact h.late l (hl ▸ List.mem_cons_self)
    · exact h.core
  late := by
    obtain ⟨l, hl, heq⟩ := chainGroup_late w delay g c i
    rw [heq]
    intro l' hl'
    rcases List.mem_append.mp hl' with hl' | hl'
    · refine h.late l' ?_
      split at hl'
      · exact List.mem_of_mem_drop hl'
      · exact hl'
    · rw [List.mem_singleton.mp hl']
      exact hl

/-- The results that a chain still holds at its end, written. -/
theorem ChainRun.Framed.writeLate {w : List W64} {k0 : Core} {c : ChainRun} (h : c.Framed w k0) :
    k0.OnlyLines (chainTouched w) (c.late.foldl
      (fun k l => k.ocWrite (chainStream (w.getD 1 0) 3).2 (chainStream (w.getD 1 0) 3).1 l) c.k) :=
  List.foldlRecOn _ _ h.core fun k hk l hl => hk.trans ((h.late l hl).ocWrite_onlyLines k)

/-- A range test changes `VX.RC_STAT` alone. -/
theorem Core.rangeTest_eq (k : Core) (l : List (Nat × Val)) : ∃ v, k.rangeTest l = { k with vxRcStat := v } := by
  unfold Core.rangeTest
  split
  · unfold Core.rangeHit
    split
    · exact ⟨_, rfl⟩
    · exact ⟨_, rfl⟩
  · exact ⟨_, rfl⟩

/-- A chain writes touched lines, `VX.STATUS`, `VX.RC_STAT` and the generator, and nothing else of the core. -/
theorem Core.chain_eq (k : Core) (w : List W64) : ∃ k1 st rc, k.OnlyLines (chainTouched w) k1 ∧
    k.chain w = { k1 with
      vxStatus := st, vxRcStat := rc
      vxSrState := (srSteps (chainDraws w * chainN (w.getD 0 0)) (k.vxSrState.setWidth 32)).setWidth 64 } := by
  have hrun : ∀ (delay g : Nat) (gens : List (BitVec 32)) (l : List Nat),
      (l.foldl (chainGroup w delay g) ⟨k.ocSettle (chainTouched w), [], gens, 0⟩).Framed w k := fun delay g gens l =>
    foldl_keeps _ _ (fun c i hc => hc.chainGroup delay g i) l _
      ⟨k.ocSettle_onlyLines _, fun _ hl => absurd hl List.not_mem_nil⟩
  unfold Core.chain
  dsimp only
  split
  · obtain ⟨rc, hrc⟩ := Core.rangeTest_eq _ _
    rw [hrc]
    exact ⟨_, _, rc, (hrun _ _ _ _).writeLate, rfl⟩
  · exact ⟨_, _, _, (hrun _ _ _ _).writeLate, rfl⟩

/-! ### VCHAIN -/

theorem exec_vchain (d : Nat) (s : State) : exec (.vchain d) s = .next (issue s d 0x7070 .plain (vchainBody d)) := rfl

/-- Settles O34: what VCHAIN checks, and the frame of the chain by `Core.chain_eq`. -/
theorem chainResults : Obligations.ChainResults := by
  unfold Obligations.ChainResults
  constructor
  · intro s d x k h ca w halign hlm hpsn
    -- the alignment, the access and the poison of the descriptor are as they should be
    have hpass : ∀ b1 b2 b3 : Body,
        (if ca % 8 ≠ 0 then b1 else if !k.lmOk k.priv ca 128 then b2 else if pbPsn (k.lmRead ca 128) then b3
          else if chainOk k w then vecDone (s.fetched d) d (k.chain w) else operandFault (s.fetched d) d)
        = if chainOk k w then vecDone (s.fetched d) d (k.chain w) else operandFault (s.fetched d) d := by
      simp [halign, hlm, hpsn]
    rw [exec_vchain]
    refine ⟨fun hok => congrArg _ (issue_vecOp_done h _ ((hpass _ _ _).trans (if_pos hok))), fun hok => congrArg _ ?_⟩
    rw [vchainBody, issue_vecOp h]
    exact congrArg (Body.run · d 0x7070) ((hpass _ _ _).trans (if_neg (Bool.not_eq_true _ ▸ hok)))
  · intro k w
    obtain ⟨k1, st, rc, hk1, hchain⟩ := k.chain_eq w
    rw [hchain]
    exact ⟨rfl, hk1.keeps Core.vr fun _ _ => rfl, hk1.keeps Core.vrPsn fun _ _ => rfl, hk1.keeps Core.mr fun _ _ => rfl,
      hk1.keeps Core.lm fun _ _ => rfl, hk1.keeps Core.ds fun _ _ => rfl, hk1.keeps Core.rs fun _ _ => rfl,
      fun _ i hi _ => hk1.lines i hi⟩

end Sys2Proof.Machine
end

section
/-! Proofs about the machine after reset: what its registers, its memory and its cores read. -/

namespace Sys2Proof.Machine

/-- An empty cell list reads its default everywhere. -/
theorem rdBytes_nil (b : Byte) (a n : Nat) : rdBytes b [] a n = List.replicate n b := by
  induction n generalizing a with
  | zero => rfl
  | succ n ih => rw [rdBytes, ih, List.replicate_succ, mget]

/-! ### Reset values of the registers of a partition block -/

theorem State.reset_reg (a : Nat) : State.reset.reg a = regReset a := rfl

/-- Tables 10.14, 10.19 and 11.16: the reset values go by the offset in the partition's block. -/
theorem regReset_aPart {p o : Nat} (hp : p < 4) (ho : o < 0x100000) : regReset (aPart p + o) =
    if o = 0x30000 then w64 (2000 + 10 * 2 ^ 20 + 1000 * 2 ^ 34)
    else if 0x30100 ≤ o ∧ o < 0x30200 ∧ o % 0x20 = 0 then w64 (3 * 2 ^ 16 + 50712 * 2 ^ 19 + 1024 * 2 ^ 35)
    else if o = 0x50008 then w64 (2 ^ 15) else 0 := by
  have hblock : ¬(aPart p + o < aPart 0 ∨ aPart 4 ≤ aPart p + o) := by
    simp only [aPart]
    omega
  have hoff : (aPart p + o - aPart 0) % 0x100000 = o := by
    simp only [aPart]
    omega
  rw [regReset, if_neg hblock, hoff]

theorem regReset_aLK {p : Nat} (hp : p < 4) : regReset (aLK p) = w64 (2000 + 10 * 2 ^ 20 + 1000 * 2 ^ 34) :=
  regReset_aPart hp (o := 0x30000) (by decide)
theorem regReset_aPortCfg {p k : Nat} (hp : p < 4) (hk : k < 8) :
    regReset (aPortCfg p k) = w64 (3 * 2 ^ 16 + 50712 * 2 ^ 19 + 1024 * 2 ^ 35) := by
  have haddr : aPortCfg p k = aPart p + (0x30100 + 0x20 * k) := by
    simp only [aPortCfg, aLK]
    omega
  rw [haddr, regReset_aPart hp (by omega), if_neg (by omega), if_pos (by omega)]
theorem regReset_pvCfg {p : Nat} (hp : p < 4) : regReset (aPV p + 8) = w64 (2 ^ 15) :=
  regReset_aPart hp (o := 0x50008) (by decide)

/-! ### The cores -/

/-- Every core is in the reset state of a core. -/
theorem State.reset_core (d : Nat) : State.reset.core d = Core.reset := rfl

/-- Settles O60: each register from its reset value, every core from `Core.reset`. -/
theorem resetState : Obligations.ResetState := by
  unfold Obligations.ResetState
  refine ⟨rfl, reset_mem_wf, rdBytes_nil 0, rfl, rfl, rfl, by decide, by decide, by decide, by decide, ?_, ?_⟩
  · intro p hp
    rw [State.reset_reg, State.reset_reg, regReset_aLK hp, regReset_pvCfg hp]
    refine ⟨by decide, by decide, by decide, by decide, by decide, fun k hk => ?_⟩
    rw [State.reset_reg, regReset_aPortCfg hp hk]
    decide
  · intro d
    rw [State.reset_core]
    decide

end Sys2Proof.Machine
end

section
/-! Proofs about the matrix engine: each of its commands by the case it is in, and the windrow check of a row. -/

namespace Sys2Proof.Machine

/-! ### A command starts -/

section
variable {s : State} {c : Nat} {q : EngCmd} {rest : List EngCmd}

/-- R80: an extension record at the head of an idle engine's queue completes by itself. -/
theorem exec_mxExtAlone (hidle : (s.cluster c).mx = none) (hq : (s.cluster c).mxQ = q :: rest) (hop : opOf q.words = 0x21) :
    exec (.mxExtAlone c) s = .next ((s.setCluster c { s.cluster c with mxQ := rest }).engineEnd c q.part q.src
      (q.words.getD 0 0) .illegalCommand 0 0) := by
  change execMxExtAlone c s = _
  simp only [execMxExtAlone, hidle, hq, hop, ne_eq, not_true_eq_false, if_false]

/-- R80: a command that fails a check completes with that check's status. -/
theorem exec_mxMatmul_refused {st : Status} (hidle : (s.cluster c).mx = none) (hq : (s.cluster c).mxQ = q :: rest)
    (hop : opOf q.words = 0x20)
    (hst : s.mxCheck c q.part (bitW (s.reg (aMX c)) 0) (mxParse q.words q.ext) q.ext = some st) :
    exec (.mxMatmul c) s = .next ((s.setCluster c { s.cluster c with mxQ := rest }).engineEnd c q.part q.src
      (q.words.getD 0 0) st 0 0) := by
  change execMxMatmul c s = _
  simp only [execMxMatmul, hidle, hq, hop, hst, ne_eq, not_true_eq_false, if_false]

/-- The run of a command that has passed its checks, with the weights of its first pass and those of the pass that follows. -/
def MxRun.start (s : State) (c : Nat) (q : EngCmd) (x : MxCmd) (w : PassW) (shadow : Option PassW) : MxRun where
  src := q.src
  part := q.part
  cmd := x
  hdr := q.words.getD 0 0
  sameFmt := bitW (s.reg (aMX c)) 0
  cls := x.cls
  block := 0
  pass := 0
  row := 0
  active := some w
  shadow
  retained := none
  tile := x.freshTile (!(s.cluster c).lastTileB) 0
  drain := []
  pend := none
  flags := BitVec.ofNat 8 (32 * b2n (s.windrowOff c) + 64 * b2n x.noBound)
  wrotePsn := false
  viol := none
  cover := []
  failed := false
  stop := none

/-- R67, R71: a command that passes its checks loads its first pass, and the next one into the shadow registers. -/
theorem exec_mxMatmul_starts (hidle : (s.cluster c).mx = none) (hq : (s.cluster c).mxQ = q :: rest)
    (hop : opOf q.words = 0x20)
    (hst : s.mxCheck c q.part (bitW (s.reg (aMX c)) 0) (mxParse q.words q.ext) q.ext = none) :
    let x := mxParse q.words q.ext
    let a := loadPass (s.setCluster c { s.cluster c with mxQ := rest }) (s.dieOf c) x 0
    let b := loadShadow a.1 (s.dieOf c) x (x.following 0 0)
    exec (.mxMatmul c) s =
      .next (b.1.setCluster c { b.1.cluster c with mx := some (.start s c q x a.2 b.2) }) := by
  change execMxMatmul c s = _
  simp only [execMxMatmul, hidle, hq, hop, hst, ne_eq, not_true_eq_false, if_false]
  rfl

end

/-! ### Rows, passes and blocks -/

section
variable {s : State} {c : Nat} {m : MxRun}

/-- R68, R70: a row enters once the row before it has its verdict and its tile is not waiting for the drain port. -/
theorem exec_mxRowEnter {w : PassW} (hmx : (s.cluster c).mx = some m) (hw : m.active = some w) (hpend : m.pend = none)
    (hfailed : m.failed = false) (hhold : s.power.holdIssue = false) (hblock : m.block < m.cmd.blocks)
    (hrow : m.row < m.cmd.rows m.block) (hfree : ∀ t ∈ m.drain, t.isB ≠ m.tile.isB) :
    let r := readRow s (s.dieOf c) m.cmd m.pass (m.tile.firstRow + m.row)
    let s1 := r.1.setReg (aMX c + 0x30) (r.1.reg (aMX c + 0x30) + 1)
    exec (.mxRowEnter c) s = .next (s1.setCluster c { s1.cluster c with mx := some { m with
      row := m.row + 1, pend := some (arrayRow m.cmd w r.2 m.row) } }) := by
  have hguard : (m.pend.isSome || m.failed || s.power.holdIssue || decide (m.cmd.blocks ≤ m.block)
      || decide (m.cmd.rows m.block ≤ m.row) || m.drain.any fun t => t.isB == m.tile.isB) = false := by
    simpa [hpend, hfailed, hhold, hblock, hrow] using hfree
  change execMxRowEnter c s = _
  simp only [execMxRowEnter, hmx, hw, hguard, Bool.false_eq_true, if_false]

/-- The last row of the current pass has entered and has its verdict. -/
structure State.PassOver (s : State) (c : Nat) (m : MxRun) : Prop where
  running : (s.cluster c).mx = some m
  settled : m.pend = none
  sound : m.failed = false
  inBlocks : m.block < m.cmd.blocks
  allRows : m.cmd.rows m.block ≤ m.row

/-- The weights move on by one register set (R67). -/
def MxRun.advance (m : MxRun) : MxRun := { m with retained := m.active, active := m.shadow, shadow := none, row := 0 }

theorem State.PassOver.guard (h : s.PassOver c m) : (m.pend.isSome || m.failed || decide (m.cmd.blocks ≤ m.block)
    || decide (m.row < m.cmd.rows m.block)) = false := by
  simpa [h.settled, h.sound, h.inBlocks] using h.allRows

/-- R67: a further pass of the block. -/
theorem exec_mxPassBoundary_pass (h : s.PassOver c m) (hpass : m.pass + 1 < m.cmd.nPass) :
    let b := loadShadow s (s.dieOf c) m.cmd (m.cmd.following m.block (m.pass + 1))
    exec (.mxPassBoundary c) s = .next (b.1.setCluster c { b.1.cluster c with mx := some { m.advance with
      pass := m.pass + 1, shadow := b.2 } }) := by
  change execMxPassBoundary c s = _
  simp only [execMxPassBoundary, h.running, h.guard, hpass, Bool.false_eq_true, if_false, if_true]
  rfl

/-- R71: a further block, in the other tile. -/
theorem exec_mxPassBoundary_block (h : s.PassOver c m) (hpass : m.cmd.nPass ≤ m.pass + 1)
    (hblock : m.block + 1 < m.cmd.blocks) (hstop : m.stop = none) :
    let b := loadShadow s (s.dieOf c) m.cmd (m.cmd.following (m.block + 1) 0)
    exec (.mxPassBoundary c) s = .next (b.1.setCluster c { b.1.cluster c with mx := some { m.advance with
      drain := m.drain ++ [m.tile], block := m.block + 1, pass := 0, shadow := b.2
      tile := m.cmd.freshTile (!m.tile.isB) (m.block + 1) } }) := by
  have hnext : m.block + 1 < m.cmd.blocks ∧ m.stop.isNone = true := ⟨hblock, Option.isNone_iff_eq_none.mpr hstop⟩
  change execMxPassBoundary c s = _
  simp only [execMxPassBoundary, h.running, h.guard, hpass.not_gt, hnext, and_self, Bool.false_eq_true, if_false, if_true]
  rfl

/-- R71, R282: the last block, or the one at which a stop ends the command. -/
theorem exec_mxPassBoundary_last (h : s.PassOver c m) (hpass : m.cmd.nPass ≤ m.pass + 1)
    (hlast : m.cmd.blocks ≤ m.block + 1 ∨ m.stop ≠ none) :
    exec (.mxPassBoundary c) s = .next (s.setCluster c { s.cluster c with lastTileB := m.tile.isB, mx := some { m.advance with
      drain := m.drain ++ [m.tile], block := m.cmd.blocks, active := none } }) := by
  have hend : ¬(m.block + 1 < m.cmd.blocks ∧ m.stop.isNone = true) := by
    rintro ⟨hblock, hstop⟩
    rcases hlast with hlast | hlast
    · exact hlast.not_gt hblock
    · exact hlast (Option.isNone_iff_eq_none.mp hstop)
  change execMxPassBoundary c s = _
  simp only [execMxPassBoundary, h.running, h.guard, hpass.not_gt, hend, Bool.false_eq_true, if_false]
  rfl

/-! ### Drains and the end -/

/-- Without a range window no element breaks it. -/
theorem MxCmd.firstBreak_of_not_range {x : MxCmd} (h : x.range = false) (t : Tile) : x.firstBreak t = none := by
  have hnone : ∀ e, x.breaks e = false := fun e => by simp [MxCmd.breaks, h]
  simp [MxCmd.firstBreak, hnone]

/-- R72, R83, R84: the oldest completed tile goes to C, and the lowest violating index so far is kept. -/
theorem exec_mxTileDrainDone {t : Tile} {rest : List Tile} (hmx : (s.cluster c).mx = some m) (hdrain : m.drain = t :: rest) :
    let x := m.cmd
    let s1 := t.els.zipIdx.foldl (fun u r => storeMem u (s.dieOf c) (x.cAddr + (t.firstRow + r.2) * x.cLd)
      (r.1.flatMap fun e => pbOf x.accB (e.bits.toNat % 2 ^ (8 * x.accB)) e.psn)) s
    exec (.mxTileDrainDone c) s = .next (s1.setCluster c { s1.cluster c with mx := some { m with
      drain := rest
      wrotePsn := m.wrotePsn || t.els.any fun r => r.any (·.psn)
      viol := Option.merge min m.viol (x.firstBreak t)
      cover := (List.range t.els.length).foldl
        (fun v i => coverAdd v (x.cAddr + (t.firstRow + i) * x.cLd) (x.n * x.accB)) m.cover } }) := by
  change execMxTileDrainDone c s = _
  simp only [execMxTileDrainDone, hmx, hdrain]
  cases m.viol <;> cases m.cmd.firstBreak t <;> rfl

/-- R82: the higher-ranked of the command's own status and that of a stop. -/
def MxRun.endStatus (m : MxRun) : Status := Status.worse
  (if m.failed then .checkFail else if m.wrotePsn then .poisoned else if m.viol.isSome then .rangeCheck else .ok)
  (m.stop.getD .ok)

/-- R70, R81, R82, R84: the end of a command, with the first violation in `MX.RC_STAT` where the status is RANGE_CHECK. -/
theorem exec_mxCommandEnd (hmx : (s.cluster c).mx = some m) (hdrain : m.drain = []) (hpend : m.pend = none)
    (hover : m.failed = true ∨ m.cmd.blocks ≤ m.block) :
    let s1 := (s.setCluster c { s.cluster c with mx := none }).coverFresh (s.dieOf c) m.cover
    exec (.mxCommandEnd c) s = .next ((if m.endStatus = .rangeCheck then s1.setReg (aMX c + 0x28)
      (BitVec.ofNat 64 (m.viol.getD 0 % 2 ^ 48 + m.cmd.seq % 2 ^ 16 * 2 ^ 48)) else s1).engineEnd c m.part m.src m.hdr
        m.endStatus m.flags 0) := by
  have hguard : (!m.drain.isEmpty || m.pend.isSome || (!m.failed && decide (m.block < m.cmd.blocks))) = false := by
    rw [hdrain, hpend]
    simpa [or_iff_not_imp_left] using hover
  change execMxCommandEnd c s = _
  simp only [execMxCommandEnd, hmx, hguard, Bool.false_eq_true, if_false]
  rfl

end

/-- Settles O41: a lemma for each case of each command. -/
theorem matrixCommandResults : Obligations.MatrixCommandResults := by
  unfold Obligations.MatrixCommandResults
  refine ⟨?starts, ?rowEnter, ?passBoundary, ?drain, ?commandEnd⟩
  case starts =>
    intro s c q rest k hidle hq
    exact ⟨exec_mxExtAlone hidle hq, fun hop => ⟨fun st => exec_mxMatmul_refused hidle hq hop, fun hst =>
      ⟨_, exec_mxMatmul_starts hidle hq hop hst,
        rfl, rfl, rfl, rfl, rfl, rfl, rfl, rfl, rfl, rfl, rfl, rfl, rfl, rfl, rfl, rfl⟩⟩⟩
  case rowEnter =>
    intro s c m w k
    exact exec_mxRowEnter
  case passBoundary =>
    intro s c m k hmx hpend hfailed hblock hrow
    have h : s.PassOver c m := ⟨hmx, hpend, hfailed, hblock, hrow⟩
    exact ⟨exec_mxPassBoundary_pass h, exec_mxPassBoundary_block h, exec_mxPassBoundary_last h⟩
  case drain =>
    intro s c m t rest k hmx hdrain
    refine ⟨_, exec_mxTileDrainDone hmx hdrain, rfl, rfl, rfl, fun hrange => ?_, rfl⟩
    change Option.merge min m.viol (m.cmd.firstBreak t) = m.viol
    rw [m.cmd.firstBreak_of_not_range hrange, Option.merge_none_right]
  case commandEnd =>
    intro s c m k hmx hdrain hpend hover
    have hrun := exec_mxCommandEnd hmx hdrain hpend hover
    constructor
    · intro (hst : m.endStatus ≠ .rangeCheck)
      rw [hrun, if_neg hst]
      rfl
    · intro (hst : m.endStatus = .rangeCheck)
      rw [hrun, if_pos hst]
      rfl

/-! ### The windrow check of a row -/

section
variable {s : State} {c col : Nat} {e1 e2 : Dy} {m : MxRun} {p : RowPend}

/-- A row of the engine's command awaits its verdict. -/
structure State.RowWaits (s : State) (c : Nat) (m : MxRun) (p : RowPend) : Prop where
  running : (s.cluster c).mx = some m
  row : m.pend = some p

/-- R91, R353: an engine that does not compare accumulates every row. -/
theorem exec_windrowCompare_off (h : s.RowWaits c m p) (hp : p.mismatch = none) (hoff : s.windrowOff c = true) :
    exec (.windrowCompare c col e1 e2) s =
      .next (s.setCluster c { s.cluster c with mx := some (m.accRow p.row (colsErr p.cols col e1)) }) := by
  change execWindrowCompare c col e1 e2 s = _
  simp only [execWindrowCompare, h.running, h.row, hp, hoff, Option.isSome_none, Bool.false_eq_true, if_false, if_true]

/-- R89: a skipped row is accumulated, flagged and counted. -/
theorem exec_windrowCompare_skip (h : s.RowWaits c m p) (hp : p.mismatch = none) (hon : s.windrowOff c = false)
    (hskip : p.skip = true) :
    let m1 := m.accRow p.row (colsErr p.cols col e1)
    exec (.windrowCompare c col e1 e2) s = .next ((s.setCluster c { s.cluster c with mx := some { m1 with
      flags := m1.flags ||| 0x80 } }).bump (aMX c + 0x20) 31 0 1) := by
  change execWindrowCompare c col e1 e2 s = _
  simp only [execWindrowCompare, h.running, h.row, hp, hon, hskip, Option.isSome_none, Bool.false_eq_true, if_false, if_true]

/-- R89: a row that agrees with its check column is accumulated. -/
theorem exec_windrowCompare_agree (h : s.RowWaits c m p) (hp : p.mismatch = none) (hon : s.windrowOff c = false)
    (hskip : p.skip = false)
    (hcmp : comparePasses m.cmd (colsErr p.cols col e1) (dyAdd p.chk e2) p.chkE = true) :
    exec (.windrowCompare c col e1 e2) s =
      .next (s.setCluster c { s.cluster c with mx := some (m.accRow p.row (colsErr p.cols col e1)) }) := by
  change execWindrowCompare c col e1 e2 s = _
  simp only [execWindrowCompare, h.running, h.row, hp, hon, hskip, hcmp, Option.isSome_none, Bool.false_eq_true, if_false,
    if_true]

/-- R91: a row that disagrees waits for its re-runs. -/
theorem exec_windrowCompare_mismatch (h : s.RowWaits c m p) (hp : p.mismatch = none) (hon : s.windrowOff c = false)
    (hskip : p.skip = false)
    (hcmp : comparePasses m.cmd (colsErr p.cols col e1) (dyAdd p.chk e2) p.chkE = false) :
    exec (.windrowCompare c col e1 e2) s = .next (s.setCluster c { s.cluster c with mx := some { m with
      pend := some { p with mismatch := some (col, e1) } } }) := by
  change execWindrowCompare c col e1 e2 s = _
  simp only [execWindrowCompare, h.running, h.row, hp, hon, hskip, hcmp, Option.isSome_none, Bool.false_eq_true, if_false]

/-! ### The vote -/

section
variable {o : Nat × Dy} {col1 col2 : Nat} {e3 : Dy}

/-- Table 3.11: three runs that agree leave the checker to blame. -/
theorem exec_windrowVote_checker (h : s.RowWaits c m p) (ho : p.mismatch = some o)
    (h12 : sameCols (colsErr p.cols col1 e1) (colsErr p.cols col2 e2) = true)
    (h10 : sameCols (colsErr p.cols col1 e1) (colsErr p.cols o.1 o.2) = true) :
    let u := s.rerunStall c m.sameFmt
    let m1 := m.accRow p.row (colsErr p.cols o.1 o.2)
    let s1 := u.setCluster c { s.cluster c with mx := some { m1 with flags := m1.flags ||| 0x20 } }
    let s2 := s1.setReg (aMX c + 0x18) (setFld (s1.reg (aMX c + 0x18)) 1 0 1)
    exec (.windrowVote c col1 e1 col2 e2 e3) s =
      .next ((logCluster s2 c (u.wrEvent m eWrChecker 0xFF)).flagCluster (s2.phOf c) 4) := by
  change execWindrowVote c col1 e1 col2 e2 e3 s = _
  simp only [execWindrowVote, h.running, h.row, ho, h12, h10, and_self, if_true]

/-- Table 3.11: two re-runs that agree with each other and pass the compare mask a transient error of the first run. -/
theorem exec_windrowVote_masked (h : s.RowWaits c m p) (ho : p.mismatch = some o)
    (h12 : sameCols (colsErr p.cols col1 e1) (colsErr p.cols col2 e2) = true)
    (h10 : sameCols (colsErr p.cols col1 e1) (colsErr p.cols o.1 o.2) = false)
    (hgood : comparePasses m.cmd (colsErr p.cols col1 e1) (dyAdd p.chk e3) p.chkE = true) :
    let u := s.rerunStall c m.sameFmt
    let m1 := m.accRow p.row (colsErr p.cols col1 e1)
    let s1 := u.setCluster c { s.cluster c with mx := some { m1 with flags := m1.flags ||| 0x10 } }
    exec (.windrowVote c col1 e1 col2 e2 e3) s =
      .next (logCluster (s1.bump (aMX c + 0x18) 31 16 1) c (u.wrEvent m eWrMasked 0xFF)) := by
  change execWindrowVote c col1 e1 col2 e2 e3 s = _
  simp only [execWindrowVote, h.running, h.row, ho, h12, h10, hgood, and_self, Bool.false_eq_true, and_false, if_false, if_true]

/-- Table 3.11: re-runs that disagree, or that agree on another result that fails the compare, retire the engine. -/
theorem exec_windrowVote_engine (h : s.RowWaits c m p) (ho : p.mismatch = some o)
    (hbad : sameCols (colsErr p.cols col1 e1) (colsErr p.cols col2 e2) = false ∨
      (sameCols (colsErr p.cols col1 e1) (colsErr p.cols o.1 o.2) = false ∧
        comparePasses m.cmd (colsErr p.cols col1 e1) (dyAdd p.chk e3) p.chkE = false)) :
    let u := s.rerunStall c m.sameFmt
    let s1 := u.setCluster c { s.cluster c with
      lastTileB := m.tile.isB, mx := some { m with pend := none, failed := true } }
    exec (.windrowVote c col1 e1 col2 e2 e3) s =
      .next ((logCluster s1 c (u.wrEvent m eWrEngine Status.checkFail.code)).retireCluster (s1.phOf c) 4) := by
  change execWindrowVote c col1 e1 col2 e2 e3 s = _
  rcases hbad with h12 | ⟨h10, hgood⟩
  · simp only [execWindrowVote, h.running, h.row, ho, h12, Bool.false_eq_true, false_and, if_false]
  · simp only [execWindrowVote, h.running, h.row, ho, h10, hgood, Bool.false_eq_true, and_false, if_false]

end

end

/-! ### Accumulation of a row -/

/-- R97: in a floating accumulator the element is the rounded sum. -/
theorem accumulate_of_float {acc : Nat} (h : acc ≠ 13) (t : TileEl) (c : ColRes) :
    (accumulate acc t c).1 = ⟨BitVec.ofNat 64 (addV false acc (decode acc t.bits.toNat) c.v.val).1, t.psn || c.psn⟩ := by
  rw [accumulate, if_neg h]
  rfl

/-- The row of the tile that a row's results enter. -/
theorem MxRun.accRow_row {m : MxRun} {row : Nat} (h : row < m.tile.els.length) (l : List ColRes) :
    (m.accRow row l).tile.els.getD row [] =
      ((m.tile.els.getD row []).zip l).map fun q => (accumulate m.cmd.acc q.1 q.2).1 := by
  simp [MxRun.accRow, List.getD_eq_getElem?_getD, h]

/-- The other rows of the tile stay. -/
theorem MxRun.accRow_other (m : MxRun) {row i : Nat} (h : i ≠ row) (l : List ColRes) :
    (m.accRow row l).tile.els.getD i [] = m.tile.els.getD i [] := by
  simp [MxRun.accRow, List.getD_eq_getElem?_getD, List.getElem?_set_ne h.symm]

/-- Settles O42: a lemma for each verdict of the compare and of the vote, and those of `MxRun.accRow`. -/
theorem windrowCheckResults : Obligations.WindrowCheckResults := by
  unfold Obligations.WindrowCheckResults
  refine ⟨?compare, ?vote, ?accumulates⟩
  case compare =>
    intro s c col e1 e2 m p k hmx hpend hp
    have h : s.RowWaits c m p := ⟨hmx, hpend⟩
    exact ⟨exec_windrowCompare_off h hp, fun hon => ⟨exec_windrowCompare_skip h hp hon, exec_windrowCompare_agree h hp hon,
      exec_windrowCompare_mismatch h hp hon⟩⟩
  case vote =>
    intro s c col1 col2 e1 e2 e3 m p o k hmx hpend ho
    have h : s.RowWaits c m p := ⟨hmx, hpend⟩
    exact ⟨exec_windrowVote_checker h ho, exec_windrowVote_masked h ho, exec_windrowVote_engine h ho⟩
  case accumulates =>
    intro m row l hacc hrow hlen
    refine ⟨rfl, ?_, fun i hi => m.accRow_other hi l, fun j c t hc ht => ?_⟩
    · rw [m.accRow_row hrow, List.length_map, List.length_zip, min_eq_left hlen]
    · have hzip : ((m.tile.els.getD row []).zip l)[j]? = some (t, c) := List.getElem?_zip_eq_some.mpr ⟨ht, hc⟩
      rw [m.accRow_row hrow, List.getElem?_map, hzip, Option.map_some, accumulate_of_float hacc]

end Sys2Proof.Machine
end

section
/-! Proofs about the fold units: what a bank makes of a request that it rejects, and of one that it accepts. -/

namespace Sys2Proof.Machine

/-! ### Folds into the lanes of a line -/

theorem lineFold_rejected {s : State} {p a : Nat} (h : (s.foldTarget p a).isSome = true) (z : Nat) (f : Nat → Nat → Nat)
    (x : Nat) (en psn : Nat → Bool) : (lineFold s p a z f x en psn).s = s.bump (aReject p) 31 0 1 := by
  obtain ⟨st, hst⟩ := Option.isSome_iff_exists.mp h
  simp only [lineFold, hst, foldReject]

theorem lineFold_accepted {s : State} {p a : Nat} (h : s.foldTarget p a = none) (z : Nat) (f : Nat → Nat → Nat) (x : Nat)
    (en psn : Nat → Bool) :
    let r := readMem s (foldDie a) (foldLine a) 64
    (lineFold s p a z f x en psn).s = (foldStore r.1 p (foldLine a) (laneWords z f r.2 x en psn)).1 := by
  simp only [lineFold, h]

theorem exec_fadd32 (p a : Nat) (x : BitVec 512) (en psn : BitVec 16) (s : State) : exec (.fadd32 p a x en psn) s =
    .next (lineFold s p a 4 (foldLaneOp 0).2 x.toNat (fun i => en.getLsbD i) fun i => psn.getLsbD i).s := rfl
theorem exec_fadd64 (p a : Nat) (x : BitVec 512) (en psn : BitVec 8) (s : State) : exec (.fadd64 p a x en psn) s =
    .next (lineFold s p a 8 (foldLaneOp 1).2 x.toNat (fun i => en.getLsbD i) fun i => psn.getLsbD i).s := rfl
theorem exec_iadd64 (p a : Nat) (x : BitVec 512) (en psn : BitVec 8) (s : State) : exec (.iadd64 p a x en psn) s =
    .next (lineFold s p a 8 (foldLaneOp 2).2 x.toNat (fun i => en.getLsbD i) fun i => psn.getLsbD i).s := rfl

/-! ### Additions to a cell -/

theorem swardAdd_rejected {s : State} {p n a : Nat} (h : (s.swardTarget p n a).isSome = true) (psn : Bool)
    (c : Option Int × Nat) : (swardAdd s p n a psn c).s = s.bump (aReject p) 31 0 1 := by
  obtain ⟨st, hst⟩ := Option.isSome_iff_exists.mp h
  simp only [swardAdd, hst, foldReject]

/-- R110: the line of a cell that read as l takes an addend; a poisoned cell, or a special or too large addend, leaves it as
it is. -/
def cellPlus (t : State) (p line : Nat) (l : List PB) (c : Option Int) : State :=
  match pbPsn l, c with
  | false, some v => (foldStore t p line (pbOf 64 ((cellInt l + v) % (2 ^ 512 : Nat)).toNat false)).1
  | _, _ => t

theorem swardAdd_accepted {s : State} {p n a : Nat} (h : s.swardTarget p n a = none) (c : Option Int × Nat) :
    let r := readMem s (foldDie a) (foldLine a) 64
    (swardAdd s p n a false c).s =
      raiseSward (cellPlus r.1 p (foldLine a) r.2 c.1) p n (granuleDie (granuleOf a)) c.2 := by
  obtain ⟨v, flags⟩ := c
  simp only [swardAdd, h, cellPlus, Bool.false_eq_true, if_false]
  cases pbPsn (readMem s (foldDie a) (foldLine a) 64).2 <;> cases v <;> rfl

/-- R108: a poisoned addend leaves the cell poisoned. -/
theorem swardAdd_poisoned {s : State} {p n a : Nat} (h : s.swardTarget p n a = none) (c : Option Int × Nat) :
    let r := readMem s (foldDie a) (foldLine a) 64
    (swardAdd s p n a true c).s = raiseSward (foldStore r.1 p (foldLine a) (r.2.map fun q => (q.1, true))).1 p n
      (granuleDie (granuleOf a)) 8 := by
  simp only [swardAdd, h, if_true]

theorem exec_swaddF64 (p a n : Nat) (x : BitVec 64) (psn : Bool) (s : State) : exec (.swaddF64 p a n x psn) s =
    .next (swardAdd s p n a psn (swContrib (s.anchor p n) (decode 0 x.toNat))).s := rfl
theorem exec_swaddF32 (p a n : Nat) (x : BitVec 32) (psn : Bool) (s : State) : exec (.swaddF32 p a n x psn) s =
    .next (swardAdd s p n a psn (swContrib (s.anchor p n) (decode 1 x.toNat))).s := rfl
theorem exec_swaddBf16 (p a n : Nat) (x : BitVec 16) (psn : Bool) (s : State) : exec (.swaddBf16 p a n x psn) s =
    .next (swardAdd s p n a psn (swContrib (s.anchor p n) (decode 3 x.toNat))).s := rfl
theorem exec_swaddCell (p a n : Nat) (x : BitVec 512) (anc : BitVec 16) (psn : Bool) (s : State) :
    exec (.swaddCell p a n x anc psn) s =
      .next (swardAdd s p n a psn (cellContrib (s.anchor p n) anc.toInt x.toInt)).s := rfl

/-! ### Read-outs of a cell -/

/-- What a read-out answers goes to the requester, unless the bank rejected it. -/
def FoldRes.answered (x : FoldRes) (p : Nat) : State := if x.rej.isNone then x.s.emit (.foldValue p x.val x.psn) else x.s

theorem swardRead_rejected {s : State} {p n a : Nat} (h : (s.swardTarget p n a).isSome = true) (clr : Bool) :
    (swardRead s p a n clr).answered p = s.bump (aReject p) 31 0 1 := by
  obtain ⟨st, hst⟩ := Option.isSome_iff_exists.mp h
  simp only [FoldRes.answered, swardRead, hst, foldReject, Option.isNone_some, Bool.false_eq_true, if_false]

/-- R112: the cell's value is answered, and SWRD_CLR leaves the cell zero. -/
theorem swardRead_accepted {s : State} {p n a : Nat} (h : s.swardTarget p n a = none) (clr : Bool) :
    let r := readMem s (foldDie a) (foldLine a) 64
    (swardRead s p a n clr).answered p = (if clr then (foldStore r.1 p (foldLine a) (pbOf 64 0 false)).1 else r.1).emit
      (.foldValue p (readOut (s.anchor p n) (cellInt r.2)) (pbPsn r.2)) := by
  simp only [FoldRes.answered, swardRead, h, Option.isNone_none, if_true]
  cases clr <;> rfl

theorem exec_swrd (p a n : Nat) (s : State) : exec (.swrd p a n) s = .next ((swardRead s p a n false).answered p) := rfl
theorem exec_swrdClr (p a n : Nat) (s : State) : exec (.swrdClr p a n) s = .next ((swardRead s p a n true).answered p) := rfl

/-- Settles O36: the requests are `lineFold`, `swardAdd` and `swardRead`, each by what its bank decides. -/
theorem foldUnitResults : Obligations.FoldUnitResults := by
  unfold Obligations.FoldUnitResults
  refine ⟨?lanes64, ?lanes32, ?rejected, ?accepted⟩
  case lanes64 =>
    intro row hrow s p a x en psn
    simp only [List.mem_cons, List.not_mem_nil, or_false] at hrow
    rcases hrow with rfl | rfl
    · simp only [exec_fadd64]
      exact ⟨fun h => congrArg _ (lineFold_rejected h ..), fun h => congrArg _ (lineFold_accepted h ..)⟩
    · simp only [exec_iadd64]
      exact ⟨fun h => congrArg _ (lineFold_rejected h ..), fun h => congrArg _ (lineFold_accepted h ..)⟩
  case lanes32 =>
    intro s p a x en psn
    simp only [exec_fadd32]
    exact ⟨fun h => congrArg _ (lineFold_rejected h ..), fun h => congrArg _ (lineFold_accepted h ..)⟩
  case rejected =>
    intro s p a b h
    simp only [exec_swaddF64, exec_swaddF32, exec_swaddBf16, exec_swaddCell, exec_swrd, exec_swrdClr]
    exact ⟨fun _ _ => congrArg _ (swardAdd_rejected h ..), fun _ _ => congrArg _ (swardAdd_rejected h ..),
      fun _ _ => congrArg _ (swardAdd_rejected h ..), fun _ _ _ => congrArg _ (swardAdd_rejected h ..),
      congrArg _ (swardRead_rejected h _), congrArg _ (swardRead_rejected h _)⟩
  case accepted =>
    intro s p a b h r add
    have hadd : ∀ c, (swardAdd s p b a false c).s = add c := swardAdd_accepted h
    simp only [exec_swaddF64, exec_swaddF32, exec_swaddBf16, exec_swaddCell, exec_swrd, exec_swrdClr]
    exact ⟨fun _ => congrArg _ (hadd _), fun _ => congrArg _ (hadd _), fun _ => congrArg _ (hadd _),
      fun _ _ => congrArg _ (hadd _), fun _ => congrArg _ (swardAdd_poisoned h _),
      congrArg _ (swardRead_accepted h _), congrArg _ (swardRead_accepted h _)⟩

end Sys2Proof.Machine
end

section
/-! Proofs about arming and disarming: the write that queues the checks, the checks of each table in their order, and the end. -/

namespace Sys2Proof.Machine

/-- A check that answers its code where P holds lets pass what is not P and passes the checks after it. -/
theorem check_eq_zero_iff {P : Prop} [Decidable P] {c k : Nat} [NeZero c] :
    (if P then c else k) = 0 ↔ ¬P ∧ k = 0 := by
  rw [ite_eq_iff, or_iff_right fun h => NeZero.ne c h.2]

/-! ### Region entries (R234, R235) -/

section
variable {s : State} {p n : Nat}

theorem exec_rgnArm_invalid (v : W64) (hn : n < 256) (hp : p < 4) (ha : s.isArming kRgn p n = false)
    (hv : bitW (s.reg (aRgnLo p n)) 0 = false) :
    exec (.rgnArm p n v) s = .next (((s.setReg (aRgnLo p n) (setFld v 0 0 1 &&& rgnLoMask)).setReg (aMM p + 0x1218)
      (BitVec.ofNat 64 n)).armPut kRgn p n) := by
  change execRgnArm p n v s = _
  simp only [execRgnArm, rgnArmWrite, w64, hn, hp, ha, hv, and_self, or_self, Bool.false_eq_true, if_false, if_true]

theorem exec_rgnArm_valid (v : W64) (hv : bitW (s.reg (aRgnLo p n)) 0 = true) : exec (.rgnArm p n v) s = .next s := by
  change execRgnArm p n v s = _
  simp only [execRgnArm, rgnArmWrite, hv, true_or, if_true, ite_self]

theorem exec_rgnDisarm_valid (hn : n < 256) (hp : p < 4) (ha : s.isArming kRgn p n = false)
    (hv : bitW (s.reg (aRgnLo p n)) 0 = true) (hd : (p, n) ∉ s.disarming) :
    exec (.rgnDisarm p n) s = .next { s with disarming := s.disarming ++ [(p, n)] } := by
  have hc : s.disarming.contains (p, n) = false := by simpa using hd
  change execRgnDisarm p n s = _
  simp only [execRgnDisarm, rgnDisarmWrite, hn, hp, ha, hv, hc, and_self, Bool.false_eq_true, if_false, if_true]

theorem exec_rgnArmDone_waits (ht : s.armTurn kRgn p n = false) : exec (.rgnArmDone p n) s = .next s := by
  change execRgnArmDone p n s = _
  simp only [execRgnArmDone, ht, Bool.false_eq_true, if_false]

theorem exec_rgnArmDone_passes (ht : s.armTurn kRgn p n = true) (hc : rgnCheck s p n = 0) :
    exec (.rgnArmDone p n) s =
      .next ((s.armEnd kRgn p n).setReg (aRgnLo p n) (setFld (s.reg (aRgnLo p n)) 0 0 1)) := by
  change execRgnArmDone p n s = _
  simp only [execRgnArmDone, rgnArmEnd, ht, hc, if_true]

theorem exec_rgnArmDone_fails {c : Nat} (ht : s.armTurn kRgn p n = true) (hc : rgnCheck s p n = c) (h0 : c ≠ 0) :
    exec (.rgnArmDone p n) s =
      .next ((s.armEnd kRgn p n).setReg (aMM p + 0x1218) (BitVec.ofNat 64 (n + c * 256))) := by
  change execRgnArmDone p n s = _
  simp only [execRgnArmDone, rgnArmEnd, w64, ht, hc, h0, if_false, if_true]

theorem rgnCheck_of_empty (h : fld (s.reg (aRgnHi p n)) 19 0 = 0) : rgnCheck s p n = 1 := by
  simp only [rgnCheck, h, if_true]

theorem rgnCheck_of_misaligned (hl : fld (s.reg (aRgnHi p n)) 19 0 ≠ 0) (hg : bitW (s.reg (aRgnLo p n)) 1 = true)
    (h : fld (s.reg (aRgnLo p n)) 29 21 ≠ 0) : rgnCheck s p n = 2 := by
  simp only [rgnCheck, hl, hg, h, ne_eq, not_false_eq_true, and_self, if_false, if_true]

/-- Table 8.3: what an entry that passes every check is. -/
theorem rgnCheck_eq_zero_iff :
    let lo := s.reg (aRgnLo p n)
    let hi := s.reg (aRgnHi p n)
    let b := rgnBase lo
    let l := rgnLen lo hi
    rgnCheck s p n = 0 ↔ fld hi 19 0 ≠ 0 ∧ (bitW lo 1 = true → fld lo 29 21 = 0) ∧ s.inGrants p b l = true
      ∧ s.isAbsent b = false ∧ ¬ s.nextAbsent b (b + l) < b + l
      ∧ (bitW lo 3 = true → isBase b = true ∧ isBase (b + l - 1) = true ∧ bitW lo 4 = true ∧ bitW lo 5 = true)
      ∧ ∀ r ∈ s.rgns p, r.1 ≠ n → bitW r.2.1 0 = true → overlap b l (rgnBase r.2.1) (rgnLen r.2.1 r.2.2) = false := by
  simp only [rgnCheck, check_eq_zero_iff, and_true]
  simp only [not_or, not_and, not_not, ne_eq, Bool.not_eq_true', Bool.not_eq_false, Bool.not_eq_true, Bool.and_eq_true,
    List.any_eq_false, bne_iff_ne, imp_and, and_assoc]

end

/-! ### Sward buffers (R114) -/

section
variable {s : State} {p n : Nat}

theorem exec_sbArm_invalid (v : W64) (hn : n < 64) (hp : p < 4) (ha : s.isArming kSb p n = false)
    (hv : s.sbValid p n = false) :
    exec (.sbArm p n v) s = .next ((s.setReg (aSbCfg p n) (setFld v 63 63 1 &&& maskW 43 0)).armPut kSb p n) := by
  change execSbArm p n v s = _
  simp only [execSbArm, sbArmWrite, hn, hp, ha, hv, and_self, or_self, Bool.false_eq_true, if_false, if_true]

theorem exec_sbDisarm_valid (hn : n < 64) (hp : p < 4) (ha : s.isArming kSb p n = false) (hv : s.sbValid p n = true) :
    exec (.sbDisarm p n) s = .next (s.setReg (aSbCfg p n) (setFld (s.reg (aSbCfg p n)) 63 63 0)) := by
  change execSbDisarm p n s = _
  simp only [execSbDisarm, sbDisarmWrite, hn, hp, ha, hv, and_self, Bool.false_eq_true, if_false, if_true]

theorem exec_sbArmDone_waits (ht : s.armTurn kSb p n = false) : exec (.sbArmDone p n) s = .next s := by
  change execSbArmDone p n s = _
  simp only [execSbArmDone, ht, Bool.false_eq_true, if_false]

/-- The status line takes the anchor and zeros, and every die's copy of the flags is zero. -/
theorem exec_sbArmDone_passes (ht : s.armTurn kSb p n = true) (hc : sbCheck s p n = 0) :
    let t := storeMem (s.armEnd kSb p n) 16 (s.sbStat p n)
      (pbOf 8 0 false ++ pbOf 2 (fld (s.reg (aSbCfg p n)) 15 0) false ++ pbOf 54 0 false)
    let fl := (List.range 8).foldl (fun m d => mput 0 m ((p * 64 + n) * 8 + d) 0) t.sbFlags
    exec (.sbArmDone p n) s =
      .next ({ t with sbFlags := fl }.setReg (aSbCfg p n) (setFld (s.reg (aSbCfg p n)) 63 63 1)) := by
  change execSbArmDone p n s = _
  simp only [execSbArmDone, sbArmEnd, upTo, ht, hc, if_true]

theorem exec_sbArmDone_fails {c : Nat} (ht : s.armTurn kSb p n = true) (hc : sbCheck s p n = c) (h0 : c ≠ 0) :
    exec (.sbArmDone p n) s =
      .next ((s.armEnd kSb p n).setReg (aSbCfg p n) (setFld (s.reg (aSbCfg p n)) 61 60 c)) := by
  change execSbArmDone p n s = _
  simp only [execSbArmDone, sbArmEnd, ht, hc, h0, if_false, if_true]

/-- The cells and the status line of a buffer lie in regions that admit folds. -/
def State.sbFolds (s : State) (p n : Nat) : Bool :=
  (s.chk p [pFold] (s.sbBase p n) (s.sbCells p n * 64)).isOk && (s.chk p [pFold] (s.sbStat p n) 64).isOk
/-- The status line of a buffer lies among its cells. -/
def State.sbStatInside (s : State) (p n : Nat) : Prop :=
  s.sbBase p n ≤ s.sbStat p n ∧ s.sbStat p n < s.sbBase p n + s.sbCells p n * 64

theorem sbCheck_of_empty (hl : s.sbCells p n * 64 = 0) : sbCheck s p n = 2 := by
  have hcells : s.sbCells p n = 0 := by omega
  simp only [sbCheck, hcells, if_true]

theorem sbCheck_of_not_folds (hl : s.sbCells p n * 64 ≠ 0) (hf : s.sbFolds p n = false) : sbCheck s p n = 1 := by
  have hcells : s.sbCells p n ≠ 0 := by omega
  rw [State.sbFolds] at hf
  simp only [sbCheck, hcells, hf, Bool.not_false, if_false, if_true]

theorem sbCheck_of_statInside (hl : s.sbCells p n * 64 ≠ 0) (hf : s.sbFolds p n = true) (hi : s.sbStatInside p n) :
    sbCheck s p n = 3 := by
  have hcells : s.sbCells p n ≠ 0 := by omega
  rw [State.sbFolds] at hf
  rw [State.sbStatInside] at hi
  simp only [sbCheck, hcells, hf, hi, and_self, Bool.not_true, Bool.false_eq_true, if_false, if_true]

theorem sbCheck_of_sound (hl : s.sbCells p n * 64 ≠ 0) (hf : s.sbFolds p n = true) (hi : ¬ s.sbStatInside p n) :
    sbCheck s p n = 0 := by
  have hcells : s.sbCells p n ≠ 0 := by omega
  rw [State.sbFolds] at hf
  rw [State.sbStatInside] at hi
  simp only [sbCheck, hcells, hf, hi, Bool.not_true, Bool.false_eq_true, if_false]

end

/-! ### Remote windows (R326) -/

section
variable {s : State} {p w : Nat}

theorem exec_winArm_invalid (v : W64) (hw : w < 64) (hp : p < 4) (ha : s.isArming kWin p w = false)
    (hv : s.winValid p w = false) :
    exec (.winArm p w v) s = .next ((s.setReg (aWinHi p w)
      (setFld v 32 32 1 &&& (maskW 31 0 ||| maskW 49 33))).armPut kWin p w) := by
  change execWinArm p w v s = _
  simp only [execWinArm, winArmWrite, hw, hp, ha, hv, and_self, or_self, Bool.false_eq_true, if_false, if_true]

theorem exec_winDisarm_valid (hw : w < 64) (hp : p < 4) (ha : s.isArming kWin p w = false) (hv : s.winValid p w = true) :
    exec (.winDisarm p w) s = .next (s.setReg (aWinHi p w) (setFld (s.reg (aWinHi p w)) 32 32 0)) := by
  change execWinDisarm p w s = _
  simp only [execWinDisarm, winDisarmWrite, hw, hp, ha, hv, and_self, Bool.false_eq_true, if_false, if_true]

theorem exec_winArmDone_waits (ht : s.armTurn kWin p w = false) : exec (.winArmDone p w) s = .next s := by
  change execWinArmDone p w s = _
  simp only [execWinArmDone, ht, Bool.false_eq_true, if_false]

theorem exec_winArmDone_passes (ht : s.armTurn kWin p w = true) (hc : winCheck s p w = 0) :
    exec (.winArmDone p w) s = .next (((s.armEnd kWin p w).setReg (aWinLo p w)
      (setFld (s.reg (aWinLo p w)) 63 48 (s.winEpoch p w + 1))).setReg (aWinHi p w)
      (setFld (s.reg (aWinHi p w)) 32 32 1)) := by
  change execWinArmDone p w s = _
  simp only [execWinArmDone, winArmEnd, ht, hc, if_true]

theorem exec_winArmDone_fails (ht : s.armTurn kWin p w = true) (hc : winCheck s p w ≠ 0) :
    exec (.winArmDone p w) s = .next ((s.armEnd kWin p w).setReg (aWinHi p w)
      (setFld (s.reg (aWinHi p w)) 51 50 (winCheck s p w))) := by
  change execWinArmDone p w s = _
  simp only [execWinArmDone, winArmEnd, ht, hc, if_false, if_true]

/-- R326: what a window that passes every check is. -/
theorem winCheck_eq_zero_iff :
    winCheck s p w = 0 ↔ (∃ r ∈ s.liveRgns p, bitW r.2.1 3 = true ∧ rgnBase r.2.1 ≤ s.winBase p w
        ∧ s.winBase p w + s.winLen p w ≤ rgnBase r.2.1 + rgnLen r.2.1 r.2.2) ∧ s.winLen p w ≠ 0
      ∧ (bitW (s.reg (aWinHi p w)) 36 = true → let n := fld (s.reg (aWinHi p w)) 42 37
        s.sbValid p n = true ∧ s.sbBase p n ≤ s.winBase p w
        ∧ s.winBase p w + s.winLen p w ≤ s.sbBase p n + s.sbCells p n * 64) := by
  simp only [winCheck, check_eq_zero_iff, ite_eq_right_iff, ite_eq_left_iff]
  simp only [ne_eq, Bool.not_eq_true', Bool.not_eq_false, List.any_eq_true, Bool.and_eq_true, decide_eq_true_eq, and_assoc,
    OfNat.ofNat_ne_zero, imp_false, not_not]

end

/-! ### BAR2 windows (R389, Table 12.3) -/

section
variable {s : State} {p n : Nat}

theorem aB2Hi_ne_aB2Lo (p n : Nat) : aB2Hi p n ≠ aB2Lo p n := by
  rw [aB2Hi, aB2Lo]
  omega

theorem exec_b2WinArm_invalid (v : W64) (hn : n < 16) (hp : p < 4) (ha : s.isArming kB2 p n = false)
    (hv : s.b2Valid p n = false) :
    let s1 := s.setReg (aB2Lo p n) (setFld v 0 0 1 &&& maskW 47 21)
    exec (.b2WinArm p n v) s =
      .next ((s1.setReg (aB2Hi p n) (setFld (s1.reg (aB2Hi p n)) 43 41 0)).armPut kB2 p n) := by
  change execB2WinArm p n v s = _
  simp only [execB2WinArm, b2ArmWrite, State.setReg_reg_other _ _ _ _ (aB2Hi_ne_aB2Lo p n), hn, hp, ha, hv, and_self,
    or_self, Bool.false_eq_true, if_false, if_true]

theorem exec_b2WinDisarm_valid (hn : n < 16) (hp : p < 4) (ha : s.isArming kB2 p n = false) (hv : s.b2Valid p n = true) :
    exec (.b2WinDisarm p n) s = .next (s.setReg (aB2Lo p n) (setFld (s.reg (aB2Lo p n)) 0 0 0)) := by
  change execB2WinDisarm p n s = _
  simp only [execB2WinDisarm, b2DisarmWrite, hn, hp, ha, hv, and_self, Bool.false_eq_true, if_false, if_true]

theorem exec_b2WinArmDone_waits (ht : s.armTurn kB2 p n = false) : exec (.b2WinArmDone p n) s = .next s := by
  change execB2WinArmDone p n s = _
  simp only [execB2WinArmDone, ht, Bool.false_eq_true, if_false]

theorem exec_b2WinArmDone_passes (ht : s.armTurn kB2 p n = true) (hc : b2Check s p n = 0) :
    exec (.b2WinArmDone p n) s =
      .next ((s.armEnd kB2 p n).setReg (aB2Lo p n) (setFld (s.reg (aB2Lo p n)) 0 0 1)) := by
  change execB2WinArmDone p n s = _
  simp only [execB2WinArmDone, b2ArmEnd, ht, hc, if_true]

theorem exec_b2WinArmDone_fails {c : Nat} (ht : s.armTurn kB2 p n = true) (hc : b2Check s p n = c) (h0 : c ≠ 0) :
    exec (.b2WinArmDone p n) s =
      .next ((s.armEnd kB2 p n).setReg (aB2Hi p n) (setFld (s.reg (aB2Hi p n)) 43 41 c)) := by
  change execB2WinArmDone p n s = _
  simp only [execB2WinArmDone, b2ArmEnd, ht, hc, h0, if_false, if_true]

/-- Another valid window of the partition overlaps window n in BAR2. -/
def State.b2Clash (s : State) (p n : Nat) : Bool :=
  (List.range 16).any fun m => m != n && s.b2Valid p m && overlap (s.b2Off p n) (s.b2Len p n) (s.b2Off p m) (s.b2Len p m)

theorem b2Check_of_empty (hl : s.b2Len p n = 0) : b2Check s p n = 1 := by
  simp only [b2Check, hl, if_true]

theorem b2Check_of_beyond (hl : s.b2Len p n ≠ 0) (hb : 2 ^ s.bar2Log2 p < s.b2Off p n + s.b2Len p n) :
    b2Check s p n = 2 := by
  simp only [b2Check, hl, hb, if_false, if_true]

theorem b2Check_of_clash (hl : s.b2Len p n ≠ 0) (hb : s.b2Off p n + s.b2Len p n ≤ 2 ^ s.bar2Log2 p)
    (hx : s.b2Clash p n = true) : b2Check s p n = 3 := by
  rw [State.b2Clash] at hx
  simp only [b2Check, upTo, hl, hb.not_gt, hx, if_false, if_true]

theorem b2Check_of_not_granted (hl : s.b2Len p n ≠ 0) (hb : s.b2Off p n + s.b2Len p n ≤ 2 ^ s.bar2Log2 p)
    (hx : ¬ s.b2Clash p n = true) (hg : s.inGrants p (s.b2Dev p n) (s.b2Len p n) = false) : b2Check s p n = 4 := by
  rw [State.b2Clash] at hx
  simp only [b2Check, upTo, hl, hb.not_gt, hx, hg, Bool.not_false, Bool.false_eq_true, if_false, if_true]

theorem b2Check_of_sound (hl : s.b2Len p n ≠ 0) (hb : s.b2Off p n + s.b2Len p n ≤ 2 ^ s.bar2Log2 p)
    (hx : ¬ s.b2Clash p n = true) (hg : s.inGrants p (s.b2Dev p n) (s.b2Len p n) = true) : b2Check s p n = 0 := by
  rw [State.b2Clash] at hx
  simp only [b2Check, upTo, hl, hb.not_gt, hx, hg, Bool.not_true, Bool.false_eq_true, if_false]

end

/-- Settles O37: for each table a lemma per case of its writes and of the end of its checks, and what its checks answer. -/
theorem armingResults : Obligations.ArmingResults := by
  unfold Obligations.ArmingResults
  refine ⟨?rgnWrites, ?rgnDone, ?sbWrites, ?sbDone, ?winWrites, ?winDone, ?b2Writes, ?b2Done⟩
  case rgnWrites =>
    intro s p n v hn hp ha
    exact ⟨exec_rgnArm_invalid v hn hp ha, exec_rgnArm_valid v, exec_rgnDisarm_valid hn hp ha⟩
  case rgnDone =>
    intro s p n
    refine ⟨exec_rgnArmDone_waits, fun ht => ?_⟩
    exact ⟨fun hl => exec_rgnArmDone_fails ht (rgnCheck_of_empty hl) one_ne_zero,
      fun hl hg hm => exec_rgnArmDone_fails ht (rgnCheck_of_misaligned hl hg hm) two_ne_zero,
      exec_rgnArmDone_passes ht, rgnCheck_eq_zero_iff, exec_rgnArmDone_fails ht rfl⟩
  case sbWrites =>
    intro s p n v hn hp ha
    exact ⟨exec_sbArm_invalid v hn hp ha, exec_sbDisarm_valid hn hp ha⟩
  case sbDone =>
    intro s p n
    refine ⟨exec_sbArmDone_waits, fun ht => ?_⟩
    exact ⟨fun hl => exec_sbArmDone_fails ht (sbCheck_of_empty hl) two_ne_zero,
      fun hl hf => exec_sbArmDone_fails ht (sbCheck_of_not_folds hl hf) one_ne_zero,
      fun hl hf hi => exec_sbArmDone_fails ht (sbCheck_of_statInside hl hf hi) three_ne_zero,
      fun hl hf hi => exec_sbArmDone_passes ht (sbCheck_of_sound hl hf hi)⟩
  case winWrites =>
    intro s p w v hw hp ha
    exact ⟨exec_winArm_invalid v hw hp ha, exec_winDisarm_valid hw hp ha⟩
  case winDone =>
    intro s p w
    exact ⟨exec_winArmDone_waits, winCheck_eq_zero_iff, fun ht => ⟨exec_winArmDone_passes ht, exec_winArmDone_fails ht⟩⟩
  case b2Writes =>
    intro s p n v hn hp ha
    exact ⟨exec_b2WinArm_invalid v hn hp ha, exec_b2WinDisarm_valid hn hp ha⟩
  case b2Done =>
    intro s p n
    refine ⟨exec_b2WinArmDone_waits, fun ht => ?_⟩
    exact ⟨fun hl => exec_b2WinArmDone_fails ht (b2Check_of_empty hl) one_ne_zero,
      fun hl hb => exec_b2WinArmDone_fails ht (b2Check_of_beyond hl hb) two_ne_zero,
      fun hl hb => ⟨fun hx => exec_b2WinArmDone_fails ht (b2Check_of_clash hl hb hx) three_ne_zero,
        fun hx hg => exec_b2WinArmDone_fails ht (b2Check_of_not_granted hl hb hx hg) four_ne_zero,
        fun hx hg => exec_b2WinArmDone_passes ht (b2Check_of_sound hl hb hx hg)⟩⟩

end Sys2Proof.Machine
end

section
/-! Proofs about element-wise vector instructions: a row of the table is the issue of one shared body, and what it makes of its
groups follows from the body's own check. -/

namespace Sys2Proof.Machine

/-! ### What an issued vector instruction's own work does -/

section
variable {s : State} {d n : Nat} {ctl : Nat → Bool} {l : List Entry} {k : Core}

/-- A vector instruction that issues does what its own work on its operands says. -/
theorem issue_vecOp_run (h : VecIssues s d n ctl l k) (instr : BitVec 16) {f : Core → List Entry → State → Body} {b : Body}
    (hf : f k l (s.fetched d) = b) : issue s d instr .plain (vecOp d n ctl f) = b.run d instr := by
  rw [issue_vecOp h, hf]

/-- One whose own work is done in a state retires in it. -/
theorem issue_vecOp_retire (h : VecIssues s d n ctl l k) (instr : BitVec 16) {f : Core → List Entry → State → Body} {t : State}
    (hf : f k l (s.fetched d) = .retire t) : issue s d instr .plain (vecOp d n ctl f) = t.retire d :=
  issue_vecOp_run h instr hf

/-- Its halves agree, so it does not take the fault of a mismatch (R153, R154). -/
theorem VecIssues.of_calm (h : VecIssues s d n ctl l k) {b1 b2 : Body} :
    (if ((s.fetched d).core d).pairMiss then b1 else b2) = b2 :=
  if_neg (ne_true_of_eq_false h.calm)

end

/-! ### Element-wise arithmetic (R125, R126, R128) -/

/-- Settles O26: each row issues one of `vec2`, `vec3`, `vecS` and `vec1`, whose check of the groups is the statement's. -/
theorem vectorElementResults : Obligations.VectorElementResults := by
  unfold Obligations.VectorElementResults
  refine ⟨?binary, ?fma, ?scalar, ?unary⟩
  case binary =>
    intro row hrow s d x y z k h a b g ok
    have hexec : exec (row.1 d) s = .next (issue s d row.2.2.2 .plain (vec2 d row.2.1 row.2.2.1)) := by
      fin_cases hrow <;> rfl
    have hcheck : (a.ok && b.ok && g.ok && isArith g.fmt && a.fmt == g.fmt && b.fmt == g.fmt && a.n == g.n && b.n == g.n
        && (!row.2.1 || isFloat g.fmt)) = true ↔ ok := by
      simp [ok, and_assoc, imp_iff_not_or]
    rw [hexec]
    exact ⟨fun hok => congrArg _ (issue_vecOp_done h _ (if_pos (hcheck.mpr hok))),
      fun hno => congrArg _ (issue_vecOp_run h _ (if_neg (mt hcheck.mp hno)))⟩
  case fma =>
    intro s d x y w z k h a b c g ha hb hc hg harith hfa hfb hfc hna hnb hnc
    have hcheck : (a.ok && b.ok && c.ok && g.ok && isArith g.fmt && a.fmt == g.fmt && b.fmt == g.fmt && c.fmt == g.fmt
        && a.n == g.n && b.n == g.n && c.n == g.n) = true := by
      simp [ha, hb, hc, hg, harith, hfa, hfb, hfc, hna, hnb, hnc]
    exact congrArg Host.Outcome.next (issue_vecOp_done h _ (if_pos hcheck))
  case scalar =>
    intro row hrow s d x y z k h a g ha hg harith hfa hna c
    obtain ⟨instr, hexec⟩ : ∃ instr, exec (row.1 d) s = .next (issue s d instr .plain (vecS d row.2)) := by
      fin_cases hrow <;> exact ⟨_, rfl⟩
    have hcheck : (a.ok && g.ok && isArith g.fmt && a.fmt == g.fmt && a.n == g.n) = true := by
      simp [ha, hg, harith, hfa, hna]
    rw [hexec]
    refine congrArg _ ((issue_vecOp_done h _ (if_pos hcheck)).trans ?_)
    simp only [List.isEmpty_iff]
    rfl
  case unary =>
    intro row hrow s d x z k h a g ha hg harith hfa hna hflt
    obtain ⟨instr, hexec⟩ : ∃ instr, exec (row.1 d) s = .next (issue s d instr .plain (vec1 d row.2.1 row.2.2)) := by
      fin_cases hrow <;> exact ⟨_, rfl⟩
    have hcheck : (a.ok && g.ok && isArith g.fmt && a.fmt == g.fmt && a.n == g.n && (!row.2.1 || isFloat g.fmt)) = true := by
      simpa [ha, hg, harith, hfa, hna, imp_iff_not_or] using hflt
    rw [hexec]
    exact congrArg _ (issue_vecOp_done h _ (if_pos hcheck))

end Sys2Proof.Machine
end

section
/-! Proofs about what writing a group of vector registers leaves in each of them, and about the digits that it packs. -/

namespace Sys2Proof.Machine

/-! ### Digits packed into a number -/

/-- The number whose digits of w bits are c 0, c 1, … c (n − 1). -/
def packed (w n : Nat) (c : Nat → Nat) : Nat := (List.range n).foldl (fun acc j => acc + c j * 2 ^ (j * w)) 0

theorem packed_succ (w n : Nat) (c : Nat → Nat) : packed w (n + 1) c = packed w n c + c n * 2 ^ (n * w) := by
  rw [packed, List.range_succ, List.foldl_append]
  rfl

theorem packed_lt {w : Nat} {c : Nat → Nat} (hc : ∀ j, c j < 2 ^ w) (n : Nat) : packed w n c < 2 ^ (n * w) := by
  induction n with
  | zero => simp [packed]
  | succ n ih =>
    calc packed w (n + 1) c = packed w n c + c n * 2 ^ (n * w) := packed_succ w n c
      _ < 2 ^ (n * w) + c n * 2 ^ (n * w) := Nat.add_lt_add_right ih _
      _ = (c n + 1) * 2 ^ (n * w) := by ring
      _ ≤ 2 ^ w * 2 ^ (n * w) := Nat.mul_le_mul_right _ (hc n)
      _ = 2 ^ ((n + 1) * w) := by ring

/-- Digit j is read back at its place. -/
theorem packed_digit {w : Nat} {c : Nat → Nat} (hc : ∀ j, c j < 2 ^ w) {n j : Nat} (hj : j < n) :
    packed w n c / 2 ^ (j * w) % 2 ^ w = c j := by
  induction n with
  | zero => omega
  | succ n ih =>
    rw [packed_succ]
    rcases Nat.lt_succ_iff_lt_or_eq.mp hj with hlt | rfl
    · obtain ⟨m, rfl⟩ := Nat.exists_eq_add_of_lt hlt
      have hplace : c (j + m + 1) * 2 ^ ((j + m + 1) * w) = c (j + m + 1) * 2 ^ (m * w) * 2 ^ w * 2 ^ (j * w) := by ring
      rw [hplace, Nat.add_mul_div_right _ _ (Nat.two_pow_pos _), Nat.add_mul_mod_self_right, ih hlt]
    · rw [Nat.add_mul_div_right _ _ (Nat.two_pow_pos _), Nat.div_eq_of_lt (packed_lt hc j), Nat.zero_add,
        Nat.mod_eq_of_lt (hc j)]

/-! ### Writes in a row, each to a place of its own -/

/-- Writes 0, 1, … n − 1, of which write i changes what place a + i reads and no other: a place that none reaches. -/
theorem foldl_range_read_other {σ β : Type} {rd : σ → Nat → β} {wr : σ → Nat → σ} {a : Nat}
    (hother : ∀ s i r, r ≠ a + i → rd (wr s i) r = rd s r) (s : σ) (n : Nat) {r : Nat} (hr : r < a ∨ a + n ≤ r) :
    rd ((List.range n).foldl wr s) r = rd s r :=
  List.foldlRecOn (motive := fun t => rd t r = rd s r) _ wr rfl fun t ht i hi => by
    rw [hother t i r (by have := List.mem_range.mp hi; omega), ht]

/-- Write i makes v i of what place a + i read, in every state of which P holds, and P goes on holding: a place that one
reaches. -/
theorem foldl_range_read_same {σ β : Type} {rd : σ → Nat → β} {wr : σ → Nat → σ} {a : Nat} {v : Nat → β → β} {P : σ → Prop}
    (hother : ∀ s i r, r ≠ a + i → rd (wr s i) r = rd s r) (hkeep : ∀ s i, P s → P (wr s i))
    (hsame : ∀ s i, P s → rd (wr s i) (a + i) = v i (rd s (a + i))) {s : σ} (hs : P s) {n i : Nat} (hi : i < n) :
    rd ((List.range n).foldl wr s) (a + i) = v i (rd s (a + i)) := by
  induction n with
  | zero => omega
  | succ n ih =>
    rw [List.range_succ, List.foldl_append]
    change rd (wr ((List.range n).foldl wr s) n) (a + i) = _
    rcases Nat.lt_succ_iff_lt_or_eq.mp hi with hlt | rfl
    · rw [hother _ _ _ (by omega), ih hlt]
    · rw [hsame _ _ (foldl_keeps P wr hkeep _ s hs), foldl_range_read_other hother s i (.inr le_rfl)]

/-! ### Elements and their registers (R119, R120) -/

/-- The elements of a register fill it. -/
theorem perReg_mul_elW : ∀ f < 16, perReg f * elW f = 128 := by decide
/-- A pattern fits its place. -/
theorem fmtBits_le_elW : ∀ f < 16, fmtBits f ≤ elW f := by decide
theorem elW_pos : ∀ f < 16, 0 < elW f := by decide

theorem Grp.reg_eq {g : Grp} (hf : g.fmt < 16) (e : Nat) : g.reg e = g.first + e / perReg g.fmt := by
  rw [Grp.reg, ← perReg_mul_elW g.fmt hf, Nat.mul_div_mul_right _ _ (elW_pos g.fmt hf)]

/-- The bit of its register at which an element starts. -/
theorem elBit_eq {f : Nat} (hf : f < 16) (e : Nat) : e * elW f % 128 = e % perReg f * elW f := by
  rw [← perReg_mul_elW f hf, Nat.mul_mod_mul_right]

/-! ### One register of a group that is written -/

section
variable (k : Core) (g : Grp) (act : Nat → Bool) (res : Nat → Nat × Bool)

/-- The elements of register i of a group. -/
def regEls (f i : Nat) : List Nat := (upTo (perReg f)).map (· + i * perReg f)

/-- What the place of element e holds after the write. -/
def Core.placed (e : Nat) : Nat :=
  if act e then (res e).1 % 2 ^ fmtBits g.fmt
  else if g.zero then 0 else (k.vreg (g.reg e)).toNat / 2 ^ (e * elW g.fmt % 128) % 2 ^ elW g.fmt

/-- What register i of the group holds after the write. -/
def Core.placedReg (i : Nat) : Nat :=
  (regEls g.fmt i).foldl (fun acc e =>
    acc + (if act e then (res e).1 % 2 ^ fmtBits g.fmt else if g.zero then 0
      else (k.vreg (g.first + i)).toNat / 2 ^ (e * elW g.fmt % 128) % 2 ^ elW g.fmt) * 2 ^ (e * elW g.fmt % 128)) 0

/-- A poisoned result goes to register i. -/
def Grp.taints (i : Nat) : Bool := (regEls g.fmt i).any fun e => act e && (res e).2
/-- Register i is wholly written. -/
def Grp.fills (i : Nat) : Bool := g.zero || (regEls g.fmt i).all act

/-- Register i of the group written into core k', with the inactive elements of core k. -/
def Core.putReg (k' : Core) (i : Nat) : Core :=
  { k' with
    vr := mput 0 k'.vr (g.first + i) (BitVec.ofNat 128 (k.placedReg g act res i))
    vrPsn := if g.taints act res i then sadd k'.vrPsn (g.first + i)
      else if g.fills act i then sdel k'.vrPsn (g.first + i) else k'.vrPsn }

theorem Core.putGroup_eq : k.putGroup g act res = (List.range g.len).foldl (k.putReg g act res) k := rfl

/-- The write of a group is its registers and their poison, and nothing else of the core. -/
theorem Core.putGroup_frame : { k.putGroup g act res with vr := k.vr, vrPsn := k.vrPsn } = k :=
  foldl_keeps (fun t : Core => { t with vr := k.vr, vrPsn := k.vrPsn } = k) (k.putReg g act res) (fun _ _ ht => ht) _ k rfl

theorem Core.putReg_vreg_other (k' : Core) (i r : Nat) (hr : r ≠ g.first + i) :
    (k.putReg g act res k' i).vreg r = k'.vreg r :=
  mget_mput_other _ _ _ _ _ _ hr

theorem Core.putReg_psn_other (k' : Core) (i r : Nat) (hr : r ≠ g.first + i) :
    (k.putReg g act res k' i).vrPsn.contains r = k'.vrPsn.contains r := by
  rw [Bool.eq_iff_iff]
  simp only [Core.putReg]
  split
  · simp [mem_sadd, hr]
  · split
    · simp [sdel, hr]
    · rfl

theorem Core.putReg_psn_same (k' : Core) (i : Nat) : (k.putReg g act res k' i).vrPsn.contains (g.first + i)
    = (g.taints act res i || !g.fills act i && k'.vrPsn.contains (g.first + i)) := by
  simp only [Core.putReg]
  split
  next ht => simp [mem_sadd, ht]
  next ht =>
    split
    next hf => simp [sdel, ht, hf]
    next hf => simp [ht, hf]

/-! ### The registers of a group that is written -/

/-- Other registers keep their value and their poison. -/
theorem Core.putGroup_other {r : Nat} (hr : r < g.first ∨ g.first + g.len ≤ r) :
    (k.putGroup g act res).vreg r = k.vreg r ∧ (k.putGroup g act res).vrPsn.contains r = k.vrPsn.contains r := by
  rw [Core.putGroup_eq]
  exact ⟨foldl_range_read_other (k.putReg_vreg_other g act res) k g.len hr,
    foldl_range_read_other (rd := fun k r => k.vrPsn.contains r) (k.putReg_psn_other g act res) k g.len hr⟩

theorem Core.putGroup_vreg (hk : Canonical 0 k.vr) {i : Nat} (hi : i < g.len) :
    (k.putGroup g act res).vreg (g.first + i) = BitVec.ofNat 128 (k.placedReg g act res i) :=
  foldl_range_read_same (P := fun t => Canonical 0 t.vr) (v := fun i _ => BitVec.ofNat 128 (k.placedReg g act res i))
    (k.putReg_vreg_other g act res) (fun _ _ ht => canonical_mput _ _ _ _ ht)
    (fun _ _ ht => mget_mput_same _ _ _ _ ht.1) hk hi

theorem Core.putGroup_psn {i : Nat} (hi : i < g.len) : (k.putGroup g act res).vrPsn.contains (g.first + i)
    = (g.taints act res i || !g.fills act i && k.vrPsn.contains (g.first + i)) :=
  foldl_range_read_same (rd := fun k r => k.vrPsn.contains r) (P := fun _ => True)
    (v := fun i old => g.taints act res i || !g.fills act i && old)
    (k.putReg_psn_other g act res) (fun _ _ ht => ht) (fun t i _ => k.putReg_psn_same g act res t i) trivial hi

/-! ### The elements of a group that is written -/

variable {k g}

theorem Core.placed_lt (hf : g.fmt < 16) (e : Nat) : k.placed g act res e < 2 ^ elW g.fmt := by
  have hw := Nat.two_pow_pos (elW g.fmt)
  have hle : 2 ^ fmtBits g.fmt ≤ 2 ^ elW g.fmt := Nat.pow_le_pow_right (by decide) (fmtBits_le_elW _ hf)
  unfold Core.placed
  split
  · exact (Nat.mod_lt _ (Nat.two_pow_pos _)).trans_le hle
  · split
    · exact hw
    · exact Nat.mod_lt _ hw

/-- Element j of register i, by its place in the register and by its register. -/
theorem mod_perReg {f : Nat} (i : Nat) {j : Nat} (hj : j < perReg f) : (j + i * perReg f) % perReg f = j := by
  rw [Nat.add_mul_mod_self_right, Nat.mod_eq_of_lt hj]
theorem div_perReg {f : Nat} (i : Nat) {j : Nat} (hj : j < perReg f) : (j + i * perReg f) / perReg f = i := by
  rw [Nat.add_mul_div_right _ _ (by omega), Nat.div_eq_of_lt hj, Nat.zero_add]

/-- A written register packs what the places of its elements hold. -/
theorem Core.placedReg_eq (hf : g.fmt < 16) (i : Nat) : k.placedReg g act res i =
    packed (elW g.fmt) (perReg g.fmt) fun j => k.placed g act res (j + i * perReg g.fmt) := by
  rw [Core.placedReg, regEls, List.foldl_map, packed]
  refine List.foldl_ext _ _ _ fun acc j hj => ?_
  have hj := List.mem_range.mp hj
  rw [Core.placed, Grp.reg_eq hf, div_perReg i hj, elBit_eq hf, mod_perReg i hj]

/-- Element e of a written group reads what its place holds. -/
theorem Core.putGroup_el (hk : Canonical 0 k.vr) (hf : g.fmt < 16) {e : Nat} (he : e < g.n) :
    (k.putGroup g act res).el g e = k.placed g act res e % 2 ^ fmtBits g.fmt := by
  have hper : 0 < perReg g.fmt := Nat.pos_of_ne_zero fun h0 => by simp [Grp.n, h0] at he
  have hmod := Nat.mod_lt e hper
  have hreg : e / perReg g.fmt < g.len := Nat.div_lt_of_lt_mul (Nat.mul_comm _ _ ▸ he)
  have hdigits := fun j => k.placed_lt (g := g) act res hf (j + e / perReg g.fmt * perReg g.fmt)
  have hlt := packed_lt hdigits (perReg g.fmt)
  rw [perReg_mul_elW _ hf] at hlt
  have hdigit := packed_digit hdigits hmod
  rw [Nat.mod_add_div'] at hdigit
  rw [Core.el, Grp.reg_eq hf, k.putGroup_vreg g act res hk hreg, k.placedReg_eq act res hf, BitVec.toNat_ofNat,
    Nat.mod_eq_of_lt hlt, elBit_eq hf, ← Nat.mod_mod_of_dvd _ (Nat.pow_dvd_pow 2 (fmtBits_le_elW _ hf)), hdigit]

theorem Core.placed_mod (hf : g.fmt < 16) (e : Nat) : k.placed g act res e % 2 ^ fmtBits g.fmt =
    if act e then (res e).1 % 2 ^ fmtBits g.fmt else if g.zero then 0 else k.el g e := by
  unfold Core.placed
  split
  · exact Nat.mod_mod _ _
  · split
    · exact Nat.zero_mod _
    · exact Nat.mod_mod_of_dvd _ (Nat.pow_dvd_pow 2 (fmtBits_le_elW _ hf))

end

/-- Settles O27: the registers of the group are written one after another, each with its elements and its poison. -/
theorem groupWriteElements : Obligations.GroupWriteElements := by
  unfold Obligations.GroupWriteElements
  intro k g act res hk hf k'
  exact ⟨fun e he => (k.putGroup_el act res hk hf he).trans (k.placed_mod act res hf e),
    fun r hr => k.putGroup_other g act res hr, fun i hi => k.putGroup_psn g act res hi, k.putGroup_frame g act res⟩

end Sys2Proof.Machine
end

section
/-! Proofs about mask registers, reductions and mask summaries: masks bit by bit, and what each row pushes. -/

namespace Sys2Proof.Machine

/-! ### Masks bit by bit -/

theorem maskOf_eq (p : Nat → Bool) : maskOf p = BitVec.ofNat 2048 (packed 1 2048 fun i => b2n (p i)) := by
  rw [maskOf, packed, upTo]
  congr 2
  funext n i
  cases p i <;> simp [b2n]

/-- A mask made from a predicate has the bits where it holds. -/
theorem maskOf_getLsbD (p : Nat → Bool) {i : Nat} (hi : i < 2048) : (maskOf p).getLsbD i = p i := by
  have hbit : ∀ j, b2n (p j) < 2 ^ 1 := fun j => by cases p j <;> decide
  have hdigit := packed_digit hbit hi
  rw [Nat.mul_one] at hdigit
  rw [maskOf_eq, BitVec.getLsbD_ofNat, Nat.testBit_eq_decide_div_mod_eq, ← Nat.pow_one 2, hdigit]
  cases p i <;> simp [b2n, hi]

/-- The mask of the first n bits. -/
theorem lowBits_getLsbD {n i : Nat} (hi : i < 2048) : (BitVec.ofNat 2048 (2 ^ n - 1)).getLsbD i = decide (i < n) := by
  rw [BitVec.getLsbD_ofNat, Nat.testBit_two_pow_sub_one]
  simp [hi]

theorem Core.setMask_mreg_same {k : Core} (hk : Canonical 0 k.mr) (m : Nat) (v : BitVec 2048) : (k.setMask m v).mreg m = v :=
  mget_mput_same _ _ _ _ hk.1
theorem Core.setMask_mreg_other (k : Core) {m j : Nat} (hj : j ≠ m) (v : BitVec 2048) : (k.setMask m v).mreg j = k.mreg j :=
  mget_mput_other _ _ _ _ _ _ hj

/-! ### Mask instructions (R122, R126) -/

/-- An issued instruction that pushes one entry, where there is room for it. -/
theorem issue_push {s : State} {d : Nat} {x : Entry} {k' : Core} (h : Issues s d .plain) (instr : BitVec 16)
    {body : State → Body} (hb : body (s.fetched d) = stackBody (s.fetched d) d (((s.fetched d).core d).push x))
    (hp : ((s.fetched d).core d).push x = .ok k') :
    issue s d instr .plain body = ((s.fetched d).setCore d k').retire d := by
  rw [issue_of_issues h, hb, hp]
  rfl

/-- Settles O28: the rows issue `vcmp` and `vmask`, whose checks the statement's hypotheses meet; masks are read bit by bit. -/
theorem vectorMaskResults : Obligations.VectorMaskResults := by
  unfold Obligations.VectorMaskResults
  refine ⟨⟨?compares, ?logic, ?vmset, ?vsetvl, ?vgetvl⟩, fun p i => maskOf_getLsbD p, fun n i _ => lowBits_getLsbD,
    fun k m j v hk => ⟨Core.setMask_mreg_same hk m v, fun hj => k.setMask_mreg_other hj v⟩⟩
  case compares =>
    intro row hrow s d x y m k h a b i ha hb harith hf hn hi
    obtain ⟨instr, hexec⟩ : ∃ instr, exec (row.1 d) s = .next (issue s d instr .plain (vcmp d row.2)) := by
      fin_cases hrow <;> exact ⟨_, rfl⟩
    have hcheck : (a.ok && b.ok && isArith a.fmt && a.fmt == b.fmt && a.n == b.n && decide (i < 16)) = true := by
      simp [ha, hb, harith, ← hf, ← hn, hi]
    rw [hexec]
    exact congrArg _ (issue_vecOp_done h _ (if_pos hcheck))
  case logic =>
    intro row hrow s d x y z k h hx hy hz
    obtain ⟨instr, hexec⟩ : ∃ instr, exec (row.1 d) s = .next (issue s d instr .plain (vmask d row.2)) := by
      fin_cases hrow <;> exact ⟨_, rfl⟩
    rw [hexec]
    exact congrArg _ (issue_vecOp_done h _ (if_pos ⟨hx, hy, hz⟩))
  case vmset =>
    intro s d n m k h hn hm
    exact congrArg Host.Outcome.next (issue_vecOp_done h _ (if_pos ⟨hn, hm⟩))
  case vsetvl =>
    intro s d n k h
    exact ⟨fun hn => congrArg Host.Outcome.next (issue_vecOp_retire h _ (if_pos hn)),
      fun hn => congrArg Host.Outcome.next (issue_vecOp_run h _ (if_neg hn.not_ge))⟩
  case vgetvl =>
    intro s d k' h hp
    exact congrArg Host.Outcome.next (issue_push h _ rfl hp)

/-! ### Reductions and summaries (R142 to R145) -/

/-- A reduction that issues retires with its result on the stack, where there is room for it. -/
theorem issue_vecOp_push {s : State} {d n : Nat} {ctl : Nat → Bool} {l : List Entry} {k k1 k' : Core} {v : W64}
    (h : VecIssues s d n ctl l k) (instr : BitVec 16) {f : Core → List Entry → State → Body}
    (hf : f k l (s.fetched d) = redPush (s.fetched d) d k1 v)
    (hp : { k1 with redClaims := k1.redClaims + 1 }.push ⟨v, false⟩ = .ok k') :
    issue s d instr .plain (vecOp d n ctl f) = ((s.fetched d).setCore d k').retire d := by
  refine issue_vecOp_retire h instr (hf.trans ?_)
  rw [redPush, h.calm, hp]
  rfl

/-- Settles O30: the rows issue `redSum`, `redMax` and `maskSum`, and each case of these pushes what the statement says. -/
theorem reductionResults : Obligations.ReductionResults := by
  unfold Obligations.ReductionResults
  refine ⟨?sums, ?extremes, ?summaries⟩
  case sums =>
    intro row hrow s d x k k' h a act k1 ws one f r ha harith
    obtain ⟨instr, hexec⟩ : ∃ instr, exec (row.1 d) s = .next (issue s d instr .plain (redSum d row.2)) := by
      fin_cases hrow <;> exact ⟨_, rfl⟩
    have hcheck : (a.ok && isArith a.fmt) = true := by simp [ha, harith]
    rw [hexec]
    refine ⟨fun hfl hp => congrArg _ (issue_vecOp_push h _ ((if_pos hcheck).trans ((if_pos hfl).trans ?_)) hp),
      fun hfl hp => congrArg _ (issue_vecOp_push h _ ((if_pos hcheck).trans (if_neg (ne_true_of_eq_false hfl))) hp)⟩
    simp only [List.isEmpty_iff]
    rfl
  case extremes =>
    intro row hrow s d x k k' h a act k1 ha harith
    obtain ⟨instr, hexec⟩ : ∃ instr, exec (row.1 d) s = .next (issue s d instr .plain (redMax d row.2)) := by
      fin_cases hrow <;> exact ⟨_, rfl⟩
    have hcheck : (a.ok && isArith a.fmt) = true := by simp [ha, harith]
    rw [hexec]
    constructor
    · intro hnone hp
      refine congrArg _ (issue_vecOp_push h _ ((if_pos hcheck).trans ?_) hp)
      dsimp only
      split
      next => rfl
      next hsome => nomatch hnone.symm.trans hsome
    · intro e l hsome r w hp
      refine congrArg _ (issue_vecOp_push h _ ((if_pos hcheck).trans ?_) hp)
      dsimp only
      split
      next hnone => nomatch hnone.symm.trans hsome
      next hcons =>
        obtain ⟨rfl, rfl⟩ := List.cons.inj (hcons.symm.trans hsome)
        rfl
  case summaries =>
    intro row hrow s d m n k k' h hm hn k1 hp
    obtain ⟨instr, f, hexec, hf⟩ : ∃ instr f, exec (row.1 d) s = .next (issue s d instr .plain (maskSum d f)) ∧ f = row.2 := by
      fin_cases hrow
      · exact ⟨_, _, rfl, rfl⟩
      · refine ⟨_, _, rfl, ?_⟩
        funext l n
        cases l <;> rfl
      · refine ⟨_, _, rfl, ?_⟩
        funext l n
        simp [flagW]
      · refine ⟨_, _, rfl, ?_⟩
        funext l n
        cases l <;> rfl
    rw [hexec, hf]
    exact congrArg _ (issue_vecOp_push h _ (if_pos ⟨hm, hn⟩) hp)

end Sys2Proof.Machine
end

section
/-! Proofs about vector loads and stores: what a load or a store does in each of its cases, whatever the form of its addresses. -/

namespace Sys2Proof.Machine

/-! ### Loads (R129 to R131) -/

/-- Where no paired comparison mismatches, a vector instruction that is done completes. -/
theorem vecDone_run {s : State} {d : Nat} (h : (s.core d).pairMiss = false) (k : Core) (op : BitVec 16) :
    (vecDone s d k).run d op = s.completes d k := by
  rw [vecDone, h]
  rfl

/-- The write of a group leaves `VX.VL`. -/
theorem Core.putGroup_vxVl (k : Core) (g : Grp) (act : Nat → Bool) (res : Nat → Nat × Bool) :
    (k.putGroup g act res).vxVl = k.vxVl := by
  have hvl := congrArg Core.vxVl (k.putGroup_frame g act res)
  exact hvl

section
variable {s : State} {d : Nat} {k : Core} {g : Grp} {ff : Bool} {place : Nat → Nat × Nat} {bit : Nat → Nat}
  {f : Nat × Nat × Nat × Nat}

/-- The first fault of an access to the places of group g's active elements (R130). -/
def vecFlt (s : State) (d : Nat) (k : Core) (g : Grp) (need : Nat) (place : Nat → Nat × Nat) : Option (Nat × Nat × Nat × Nat) :=
  firstFault s d need (decide (16 ≤ fmtBits g.fmt)) ((k.actives g).map fun e => (e, place e))

/-- What a load reads for the elements act. -/
def loadRead (s : State) (d : Nat) (place : Nat → Nat × Nat) (act : List Nat) : State × List (Nat × List PB) :=
  readRuns s (s.dieOf (d / 8)) (runsOf (act.map place))

/-- Core k with the elements act of group g loaded from what was read, and with a `VX.VL`. -/
def Core.loaded (k : Core) (g : Grp) (place : Nat → Nat × Nat) (bit : Nat → Nat) (act : List Nat) (l : List (Nat × List PB))
    (vl : W64) : Core :=
  let k1 := k.putGroup g (fun e => act.contains e) fun e =>
    let b := fromRuns l (place e).1 (place e).2
    (pbNat b / 2 ^ bit e % 2 ^ fmtBits g.fmt, pbPsn b)
  { k1 with vloadsOut := k1.vloadsOut + 1, vxVl := vl }

theorem vecLoad_of_clear (h : vecFlt s d k g pR place = none) : vecLoad s d k g ff place bit =
    vecDone (loadRead s d place (k.actives g)).1 d
      (k.loaded g place bit (k.actives g) (loadRead s d place (k.actives g)).2 k.vxVl) := by
  rw [vecFlt] at h
  simp only [vecLoad, List.map_map, Function.comp_def, h, Core.putGroup_vxVl]
  rfl

theorem vecLoad_of_fault (h : vecFlt s d k g pR place = some f) : vecLoad s d k g ff place bit =
    if ff = true ∧ (k.actives g).head? ≠ some f.1 then
      vecDone (loadRead s d place ((k.actives g).filter (· < f.1))).1 d (k.loaded g place bit ((k.actives g).filter (· < f.1))
        (loadRead s d place ((k.actives g).filter (· < f.1))).2 (w64 f.1))
    else vecFault s d f.2.1 f.1 f.2.2.1 f.2.2.2 := by
  rw [vecFlt] at h
  simp only [vecLoad, List.map_map, Function.comp_def, h]
  rfl

/-- An instruction that runs a vector load makes that load. -/
theorem vecLoads_of_exec {i : Instr} {op : BitVec 16} {s : State}
    (hexec : exec i s = .next ((vecLoad (s.fetched d) d k g ff place bit).run d op)) : VecLoads i op s d k g ff place bit := by
  unfold VecLoads
  intro t act flt calm
  rw [hexec]
  refine ⟨fun hnone hcalm => ?clear, fun f hsome => ⟨fun hff hhead hcalm => ?stop, fun hno => ?fault⟩⟩
  case clear =>
    rw [vecLoad_of_clear hnone]
    exact congrArg _ (vecDone_run hcalm _ op)
  case stop =>
    rw [vecLoad_of_fault hsome, if_pos ⟨hff, hhead⟩]
    exact congrArg _ (vecDone_run hcalm _ op)
  case fault =>
    have hno : ¬(ff = true ∧ (k.actives g).head? ≠ some f.1) := by
      rintro ⟨hff, hhead⟩
      rcases hno with hno | hno
      · exact absurd (hff.symm.trans hno) (by decide)
      · exact hhead hno
    rw [vecLoad_of_fault hsome, if_neg hno]

end

/-- Settles O31: every form issues `vecLoad` with its own places. -/
theorem vectorLoadResults : Obligations.VectorLoadResults := by
  unfold Obligations.VectorLoadResults
  refine ⟨?contiguous, ?strided, ?indexed⟩
  case contiguous =>
    intro row hrow s d a z k h g
    have hexec : exec (row.1 d) s = .next (issue s d row.2.2 .plain (vldBody d row.2.1)) := by
      fin_cases hrow <;> rfl
    exact ⟨fun hg => vecLoads_of_exec (hexec.trans (congrArg _ (issue_vecOp_run h _ (if_pos hg)))),
      fun hg => hexec.trans (congrArg _ (issue_vecOp_run h _ (if_neg (ne_true_of_eq_false hg))))⟩
  case strided =>
    intro s d a st z k h g hg hpk
    have hcheck : (g.ok && !isPacked g.fmt) = true := by simp [hg, hpk]
    exact vecLoads_of_exec (congrArg Host.Outcome.next (issue_vecOp_run h _ (if_pos hcheck)))
  case indexed =>
    intro row hrow s d a i z k h g x hg hpk hidx
    have hexec : exec (row.1 d) s = .next (issue s d row.2.2 .plain (vgatherBody d row.2.1)) := by
      fin_cases hrow <;> rfl
    have hcheck : (g.ok && !isPacked g.fmt && idxOk x g.n) = true := by simp [hg, hpk, hidx]
    exact ⟨fun hclean => vecLoads_of_exec (hexec.trans (congrArg _
        (issue_vecOp_run h _ ((if_pos hcheck).trans (if_neg (ne_true_of_eq_false hclean)))))),
      fun hbad => hexec.trans (congrArg _
        (issue_vecOp_run (b := .fault (s.fetched d) cDataPoison 0) h _ ((if_pos hcheck).trans (if_pos hbad))))⟩

/-! ### Stores (R129, R130, R132, R133) -/

/-- A range test changes nothing that a vector access reads. -/
theorem packedUnit_rangeTested (s : State) (k : Core) (g g' : Grp) (base : Nat) :
    packedUnit s (k.rangeTested g') g base = packedUnit s k g base := by
  have htest : ∃ v, k.rangeTested g' = { k with vxRcStat := v } := by
    unfold Core.rangeTested
    split
    · exact k.rangeTest_eq _
    · exact ⟨_, rfl⟩
  obtain ⟨v, hv⟩ := htest
  rw [hv]
  rfl

section
variable {s : State} {d : Nat} {k : Core} {g : Grp} {place : Nat → Nat × Nat}

/-- The writes of a store of group g to places: one for each active element, or for each byte or group of a packed format. -/
def storeWrites (s : State) (k : Core) (g : Grp) (place : Nat → Nat × Nat) : Option Nat → List (Nat × List PB)
  | none => (k.actives g).map fun e => ((place e).1, pbOf (place e).2 (k.el g e) (k.elPsn g e))
  | some base =>
    let per := if elW g.fmt = 4 then 2 else 4
    ((upTo (g.n / per)).filter fun u => (upTo per).any fun i => k.active g (u * per + i)).map (packedUnit s k g base)

theorem vecStore_of_clear {packed : Option Nat} (h : vecFlt s d k g pW place = none) (hcalm : (s.core d).pairMiss = false) :
    vecStore s d k g place packed =
      .retire (vecWrite (s.setCore d (k.rangeTested g)) d (joinWrites (storeWrites s k g place packed))) := by
  rw [vecFlt] at h
  cases packed <;> simp only [vecStore, h, hcalm, Bool.false_eq_true, if_false] <;> rfl

theorem vecStore_of_fault {packed : Option Nat} {f : Nat × Nat × Nat × Nat} (h : vecFlt s d k g pW place = some f) :
    vecStore s d k g place packed = vecFault s d f.2.1 f.1 f.2.2.1 f.2.2.2 := by
  rw [vecFlt] at h
  simp only [vecStore, h]

/-- An instruction that runs a vector store makes that store's writes. -/
theorem vecStores_of_exec {i : Instr} {op : BitVec 16} {packed : Option Nat} (hcalm : ((s.fetched d).core d).pairMiss = false)
    (hexec : exec i s = .next ((vecStore (s.fetched d) d k g place packed).run d op)) :
    VecStores i op s d k g place (storeWrites (s.fetched d) k g place packed) := by
  unfold VecStores
  intro t flt
  rw [hexec]
  refine ⟨fun hnone => ?clear, fun f hsome => ?fault⟩
  case clear =>
    rw [vecStore_of_clear hnone hcalm]
    rfl
  case fault => rw [vecStore_of_fault hsome]

end

/-- Settles O32: every form issues `vecStore` with its own places. -/
theorem vectorStoreResults : Obligations.VectorStoreResults := by
  unfold Obligations.VectorStoreResults
  refine ⟨?contiguous, ?strided, ?indexed⟩
  case contiguous =>
    intro s d z a k h g base per
    have hexec (hg : g.ok = true) : exec (.vst d) s = .next ((vecStore (s.fetched d) d k g (contPlace g.fmt base)
        (if isPacked g.fmt then some base else none)).run d 0x8001) :=
      congrArg Host.Outcome.next (issue_vecOp_run h _ (if_pos hg))
    refine ⟨fun hg hpk => ?elements, fun hg hpk => ?units,
      fun hg => congrArg Host.Outcome.next (issue_vecOp_run h _ (if_neg (ne_true_of_eq_false hg)))⟩
    case elements =>
      have hstore := vecStores_of_exec h.calm (hexec hg)
      rw [hpk] at hstore
      exact hstore
    case units =>
      have hstore := vecStores_of_exec h.calm (hexec hg)
      rw [hpk] at hstore
      rw [packedUnit_rangeTested]
      exact hstore
  case strided =>
    intro s d z a st k h g place hg hpk
    have hcheck : (g.ok && !isPacked g.fmt) = true := by simp [hg, hpk]
    exact vecStores_of_exec (packed := none) h.calm (congrArg Host.Outcome.next (issue_vecOp_run h _ (if_pos hcheck)))
  case indexed =>
    intro s d z a i k h g x place hg hpk hidx hclean
    have hcheck : (g.ok && !isPacked g.fmt && idxOk x g.n) = true := by simp [hg, hpk, hidx]
    exact vecStores_of_exec (packed := none) h.calm (congrArg Host.Outcome.next
      (issue_vecOp_run h _ ((if_pos hcheck).trans (if_neg (ne_true_of_eq_false hclean)))))

end Sys2Proof.Machine
end

section
/-! Proofs about the operand cache: each instruction's check of its lines, and what it leaves of them. -/

namespace Sys2Proof.Machine

/-! ### Binding lines (R134, R135) -/

/-- A fold over pairs that leaves the first part alone. -/
theorem foldl_fst_fixed {σ τ α : Type} (f : τ → α → τ) (l : List α) (s : σ) (t : τ) :
    l.foldl (fun (r : σ × τ) i => (r.1, f r.2 i)) (s, t) = (s, l.foldl f t) := by
  induction l generalizing t with
  | nil => rfl
  | cons a l ih => exact ih (f t a)

/-- Line `line + i` bound to the i-th line address from a on. -/
def Core.ocBound (a line : Nat) (k : Core) (i : Nat) : Core :=
  (k.ocDiscard (line + i)).setOc (line + i) { st := .clean, addr := a + 64 * i, data := 0, psn := false, wbPending := false }

/-- The same for a line that is filled, once its read has been made. -/
def ocFilled (die a line : Nat) (r : State × Core) (i : Nat) : State × Core :=
  let x := readMem r.1 die (a + 64 * i) 64
  (x.1, (r.2.ocDiscard (line + i)).setOc (line + i)
    { st := .filling, addr := a + 64 * i, data := BitVec.ofNat 512 (pbNat x.2), psn := pbPsn x.2, wbPending := false })

/-- OCFILL and OCBIND end: the core has its bound lines, and an interrupt request that came meanwhile stays. -/
def ocBindEnd (d : Nat) (r : State × Core) : State := r.1.setCore d { r.2 with hwPend := (r.1.core d).hwPend }

/-- OCFILL and OCBIND of lines in range at an aligned address that may be accessed. -/
theorem issue_ocBind {s : State} {d : Nat} {a x n : Entry} {k : Core} (h : VecIssues s d 3 (fun _ => true) [a, x, n] k)
    (instr : BitVec 16) {fill : Bool} (hrange : ocRange x.val.toNat n.val.toNat = true) (halign : a.val.toNat % 64 = 0)
    (hclear : firstFault (s.fetched d) d (if fill then pR else pW) false
      ((List.range n.val.toNat).map fun i => (0, a.val.toNat + 64 * i, 64)) = none) :
    issue s d instr .plain (ocBindBody d fill) = (ocBindEnd d ((List.range n.val.toNat).foldl
      (fun r i => if fill then ocFilled ((s.fetched d).dieOf (d / 8)) a.val.toNat x.val.toNat r i
        else (r.1, r.2.ocBound a.val.toNat x.val.toNat i)) (s.fetched d, k))).retire d := by
  have hin : ¬(!ocRange x.val.toNat n.val.toNat) = true := by simp [hrange]
  refine issue_vecOp_retire h _ ((if_neg hin).trans ?_)
  dsimp only
  split
  next hfault => nomatch hclear.symm.trans hfault
  next => exact if_neg (not_not_intro halign)

/-! ### Writing back (R135) -/

/-- OCWB of lines in range whose DIRTY ones may be written. -/
theorem issue_ocwb {s : State} {d : Nat} {x n : Entry} {k : Core} (h : VecIssues s d 2 (fun _ => true) [x, n] k)
    (instr : BitVec 16) (hrange : ocRange x.val.toNat n.val.toNat = true) {k1 : Core} {ds : List Nat}
    (hk1 : k1 = k.ocSettle (ocLines x.val.toNat n.val.toNat))
    (hds : ds = (ocLines x.val.toNat n.val.toNat).filter fun i => (k1.ocLine i).st == .dirty)
    (hclear : firstFault (s.fetched d) d pW false (ds.map fun i => (i - x.val.toNat, (k1.ocLine i).addr, 64)) = none) :
    issue s d instr .plain (ocwbBody d) = (vecWrite
      ((s.fetched d).setCore d (ds.foldl (fun k i => k.setOc i { k.ocLine i with wbPending := true }) k1)) d
      (ds.map fun i => ((k1.ocLine i).addr, pbOf 64 (k1.ocLine i).data.toNat (k1.ocLine i).psn))).retire d := by
  subst hk1 hds
  have hin : ¬(!ocRange x.val.toNat n.val.toNat) = true := by simp [hrange]
  refine issue_vecOp_retire h _ ((if_neg hin).trans ?_)
  dsimp only
  split
  next hfault => nomatch hclear.symm.trans hfault
  next => rfl

/-- Settles O33: each instruction past its own check of the lines; OCBIND reads nothing, so its fold is one over the core. -/
theorem operandCacheResults : Obligations.OperandCacheResults := by
  unfold Obligations.OperandCacheResults
  refine ⟨?vocld, ?vocst, ?bind, ?lines, fun s d h => congrArg Host.Outcome.next (issue_of_issues h _ _)⟩
  case vocld =>
    intro s d x z k h line g ls k1 hg hline huse
    have hcheck : (g.ok && decide (line < 2048) && k.ocUsable ls) = true := by simp [hg, hline, huse]
    exact congrArg Host.Outcome.next (issue_vecOp_done h _ (if_pos hcheck))
  case vocst =>
    intro s d z x k h line g act ls k1 k2 k3 hg hline huse
    have hcheck : (g.ok && decide (line < 2048) && k.ocUsable ls) = true := by simp [hg, hline, huse]
    exact congrArg Host.Outcome.next (issue_vecOp_done h _ (if_pos hcheck))
  case bind =>
    intro s d a x n k h t line count at' hrange halign
    exact ⟨fun hclear => congrArg Host.Outcome.next ((issue_ocBind h _ (fill := false) hrange halign hclear).trans
        (congrArg (fun r => (ocBindEnd d r).retire d) (foldl_fst_fixed (Core.ocBound a.val.toNat line) _ t k))),
      fun hclear => congrArg Host.Outcome.next (issue_ocBind h _ (fill := true) hrange halign hclear)⟩
  case lines =>
    intro s d x n k h t line count ls k1 ds
    exact ⟨fun hrange hclear => congrArg Host.Outcome.next (issue_ocwb h _ hrange rfl rfl hclear),
      fun hrange => congrArg Host.Outcome.next (issue_vecOp_retire h _ (if_pos hrange)),
      fun hrange => ⟨congrArg Host.Outcome.next (issue_vecOp_run h _ (if_pos (congrArg not hrange))),
        congrArg Host.Outcome.next (issue_vecOp_run h _ (if_neg (ne_true_of_eq_false hrange)))⟩⟩

end Sys2Proof.Machine
end

section
/-! Proofs about the folds that a core issues: past the checks of the group and of the cells, what each instruction folds. -/

namespace Sys2Proof.Machine

/-- Settles O35: no check of the group, of its lines or of its cells fails, so each instruction makes its folds. -/
theorem vectorFoldResults : Obligations.VectorFoldResults := by
  unfold Obligations.VectorFoldResults
  refine ⟨?vfold, ?vswadd, ?vswrd, ?vrsw⟩
  case vfold =>
    intro row hrow s d z a o k h t g p per lines hop hfmt hg halign htargets
    have hform : (o.val.toNat == 0 && g.fmt == 1 || o.val.toNat == 1 && g.fmt == 0 || o.val.toNat == 2 && g.fmt == 14) = true := by
      rw [hop, hfmt]
      fin_cases hrow <;> rfl
    have hcheck : (g.ok && (o.val.toNat == 0 && g.fmt == 1 || o.val.toNat == 1 && g.fmt == 0
        || o.val.toNat == 2 && g.fmt == 14) && a.val.toNat % 64 == 0) = true := by simp [hg, hform, halign]
    refine congrArg Host.Outcome.next (issue_vecOp_retire h _ ((if_pos hcheck).trans ?_))
    dsimp only
    split
    next hbad =>
      obtain ⟨i, hi, hsome⟩ := List.exists_of_findSome?_eq_some hbad
      obtain ⟨st, hrejects, -⟩ := Option.map_eq_some_iff.mp hsome
      nomatch (htargets i hi).symm.trans hrejects
    next =>
      rw [← hop]
      exact h.of_calm
  case vswadd =>
    intro s d z b c k h t g p hg hfmt hclear
    have hcheck : (g.ok && (g.fmt == 0 || g.fmt == 1 || g.fmt == 3)) = true := by
      simpa [hg, or_assoc] using hfmt
    refine congrArg Host.Outcome.next (issue_vecOp_retire h _ ((if_pos hcheck).trans ?_))
    split
    next hfault => nomatch hclear.symm.trans hfault
    next => exact h.of_calm
  case vswrd =>
    intro row hrow s d b c z k h t g p hg hfmt hclear r res
    obtain ⟨instr, hexec⟩ : ∃ instr, exec (row.1 d) s = .next (issue s d instr .plain (vswrdBody d row.2)) := by
      fin_cases hrow <;> exact ⟨_, rfl⟩
    have hcheck : (g.ok && g.fmt == 0) = true := by simp [hg, hfmt]
    rw [hexec]
    refine congrArg Host.Outcome.next (issue_vecOp_retire h _ ((if_pos hcheck).trans ?_))
    dsimp only
    split
    next hfault => nomatch hclear.symm.trans hfault
    next => exact h.of_calm
  case vrsw =>
    intro s d z b c k k' h t g p hg hfmt hclear r f hp
    have hcheck : (g.ok && (g.fmt == 0 || g.fmt == 1 || g.fmt == 3)) = true := by
      simpa [hg, or_assoc] using hfmt
    refine congrArg Host.Outcome.next (issue_vecOp_retire h _ ((if_pos hcheck).trans ?_))
    dsimp only
    split
    next hfault => nomatch hclear.symm.trans hfault
    next =>
      refine h.of_calm.trans ?_
      exact congrArg (stackBody f d) hp

end Sys2Proof.Machine
end

section
/-! Proofs about core instructions that issue: what an instruction makes of the operands that it finds on its data stack, and that
it does nothing but fault where they are lacking. -/

namespace Sys2Proof.Machine

/-! ### Instructions that take operands first (R158, R161) -/

/-- What follows an operation on a stack: STACK with its detail where it fails, else g of the core that it gives. -/
def onStack (s : State) (r : Except Nat Core) (g : Core → Body) : Body :=
  match r with
  | .error e => .fault s cStack e
  | .ok k => g k

section
variable {s : State} {r : Except Nat Core} {g : Core → Body} {b b' : Body}

theorem onStack_error {e : Nat} (hb : b = onStack s r g) (hr : r = .error e) : b = .fault s cStack e := by
  rw [hb, hr]
  rfl

theorem onStack_ok {k : Core} (hb : b = onStack s r g) (hr : r = .ok k) (hg : g k = b') : b = b' := by
  rw [hb, hr]
  exact hg

end

section
variable {s : State} {d n : Nat} {pl : Place} {l : List Entry} {k : Core} {body : State → Body} {g : Core → Body}

/-- An instruction that issues does what its body is shown to be. -/
theorem issue_run {b : Body} {t : State} {instr : BitVec 16} (h : Issues s d pl) (hb : body (s.fetched d) = b)
    (ht : b.run d instr = t) : issue s d instr pl body = t := by rw [issue_of_issues h, hb, ht]

/-- One that finds its operands and meets the conditions of a case of g ends as that case says. -/
theorem issue_taking {b : Body} {t : State} {instr : BitVec 16} (h : Issues s d pl) (hp : Pops s d n l k)
    (hb : body (s.fetched d) = onStack (s.fetched d) (((s.fetched d).core d).need n) g) (hg : g (k.stacked l) = b)
    (ht : b.run d instr = t) : issue s d instr pl body = t :=
  issue_run h (onStack_ok hb hp.1 hg) ht

/-- One that does not find them takes STACK. -/
theorem issue_lacking {e : Nat} {instr : BitVec 16} (h : Issues s d pl) (he : ((s.fetched d).core d).need n = .error e)
    (hb : body (s.fetched d) = onStack (s.fetched d) (((s.fetched d).core d).need n) g) :
    issue s d instr pl body = takeException (s.fetched d) d cStack e instr :=
  issue_run h (onStack_error hb he) rfl

end

/-! ### Instructions that replace their operands by results -/

/-- A stack instruction takes its operands first. -/
theorem aluOp_eq_onStack (d n : Nat) (f : List Entry → List Entry) (s : State) : aluOp d n f s = onStack s ((s.core d).need n)
    fun k => stackBody s d ({ k with ds := k.ds.drop n }.pushAll (f (k.ds.take n).reverse)) := by
  unfold aluOp Core.stackOp
  cases (s.core d).need n <;> rfl

/-- So does one whose result has a latency. -/
theorem slowOp_eq_onStack (d n : Nat) (f : List Entry → List Entry) (s : State) : slowOp d n f s = onStack s ((s.core d).need n)
    fun k => stackBody s d (({ k with ds := k.ds.drop n }.pushAll (f (k.ds.take n).reverse)).map Core.claim) := by
  unfold slowOp Core.stackOp
  cases (s.core d).need n <;> rfl

section
variable {s : State} {d n : Nat} {pl : Place} {l : List Entry} {k k' : Core}

/-- A stack instruction that has room for its results retires with them. -/
theorem stackBody_run {r : Except Nat Core} {instr : BitVec 16} (hr : r = .ok k') :
    (stackBody s d r).run d instr = (s.setCore d k').retire d := by
  rw [hr]
  rfl

/-- What a stack instruction makes of operands that it finds. -/
theorem stackOp_of_pops (hp : Pops s d n l k) (f : List Entry → List Entry) :
    ((s.fetched d).core d).stackOp n f = k.pushAll (f l) := by
  obtain ⟨hneed, rfl⟩ := hp
  exact stackOp_of_need hneed f

/-- An issued stack instruction pushes its results, where there is room for them. -/
theorem issue_aluOp (h : Issues s d pl) (hp : Pops s d n l k) (instr : BitVec 16) {f : List Entry → List Entry}
    (hpush : k.pushAll (f l) = .ok k') :
    issue s d instr pl (aluOp d n f) = ((s.fetched d).setCore d k').retire d := by
  rw [issue_of_issues h, aluOp, stackOp_of_pops hp]
  exact stackBody_run hpush

/-- So does an instruction whose other checks its operands pass. -/
theorem issue_taking_aluOp {instr : BitVec 16} {body : State → Body} {g : Core → Body} {f : List Entry → List Entry}
    (h : Issues s d pl) (hp : Pops s d n l k) (hb : body (s.fetched d) = onStack (s.fetched d) (((s.fetched d).core d).need n) g)
    (hg : g (k.stacked l) = aluOp d n f (s.fetched d)) (hpush : k.pushAll (f l) = .ok k') :
    issue s d instr pl body = ((s.fetched d).setCore d k').retire d := by
  refine issue_taking h hp hb hg ?_
  rw [aluOp, stackOp_of_pops hp]
  exact stackBody_run hpush

/-- So does one whose result has a latency, and it claims it. -/
theorem issue_slowOp (h : Issues s d pl) (hp : Pops s d n l k) (instr : BitVec 16) {f : List Entry → List Entry}
    (hpush : k.pushAll (f l) = .ok k') :
    issue s d instr pl (slowOp d n f) = ((s.fetched d).setCore d k'.claim).retire d := by
  rw [issue_of_issues h, slowOp, stackOp_of_pops hp, hpush]
  rfl

end

theorem pushAll_singleton (k : Core) (x : Entry) : k.pushAll [x] = k.push x := by
  unfold Core.pushAll
  cases k.push x <;> rfl

end Sys2Proof.Machine
end

section
/-! Proofs about the stack, integer, logic, comparison, shift and FP64 instructions. -/

namespace Sys2Proof.Machine

/-! ### Results of the integer instructions (R165 to R168) -/

/-- A condition's word is that of any proposition that says the same. -/
theorem flagW_eq_ite {b : Bool} {p : Prop} [Decidable p] (h : b = true ↔ p) : flagW b = if p then 1 else 0 :=
  if_congr h rfl rfl

theorem bin_flagW {b : W64 → W64 → Bool} {p : W64 → W64 → Prop} [∀ x y, Decidable (p x y)]
    (h : ∀ x y, b x y = true ↔ p x y) : bin (fun x y => flagW (b x y)) = bin fun x y => if p x y then 1 else 0 :=
  congrArg bin (funext₂ fun x y => flagW_eq_ite (h x y))

theorem un_flagW {b : W64 → Bool} {p : W64 → Prop} [∀ x, Decidable (p x)]
    (h : ∀ x, b x = true ↔ p x) : un (fun x => flagW (b x)) = un fun x => if p x then 1 else 0 :=
  congrArg un (funext fun x => flagW_eq_ite (h x))

/-- Settles O3: each row issues `aluOp` or `slowOp` with the function that the statement gives. -/
theorem stackInstructionResults : Obligations.StackInstructionResults := by
  unfold Obligations.StackInstructionResults
  refine ⟨?rows, ?lit, ?ext⟩
  case rows =>
    intro row hrow s d l k k' h hp hpush
    obtain ⟨instr, f, hexec, rfl⟩ : ∃ instr f, exec (row.1 d) s =
        .next (issue s d instr .plain ((if row.2.2.1 then slowOp else aluOp) d row.2.1 f)) ∧ f = row.2.2.2 := by
      fin_cases hrow
      -- All but the comparisons, which the model makes by Booleans, are the statement's functions as they stand.
      any_goals exact ⟨_, _, rfl, rfl⟩
      · exact ⟨_, _, rfl, bin_flagW fun _ _ => beq_iff_eq⟩
      · exact ⟨_, _, rfl, bin_flagW fun _ _ => bne_iff_ne⟩
      · exact ⟨_, _, rfl, bin_flagW fun _ _ => BitVec.slt_iff_toInt_lt⟩
      · exact ⟨_, _, rfl, bin_flagW fun _ _ => BitVec.ult_iff_toNat_lt⟩
      · exact ⟨_, _, rfl, bin_flagW fun _ _ => BitVec.sle_iff_toInt_le⟩
      · exact ⟨_, _, rfl, bin_flagW fun _ _ => BitVec.ule_iff_toNat_le⟩
      · exact ⟨_, _, rfl, un_flagW fun _ => beq_iff_eq⟩
    rw [hexec]
    refine congrArg _ ?_
    cases row.2.2.1
    · exact issue_aluOp h hp instr hpush
    · exact issue_slowOp h hp instr hpush
  case lit =>
    intro s d imm k' h hpush
    have hp : Pops s d 0 [] ((s.fetched d).core d) := ⟨rfl, rfl⟩
    exact congrArg Host.Outcome.next (issue_aluOp h hp _ ((pushAll_singleton _ _).trans hpush))
  case ext =>
    intro s d imm a k k' h hp hpush
    exact congrArg Host.Outcome.next (issue_aluOp h hp _ ((pushAll_singleton k _).trans hpush))

/-- Settles O4: past the check of the operand that selects, the instruction is the stack instruction of its row. -/
theorem shiftAndSelectResults : Obligations.ShiftAndSelectResults := by
  unfold Obligations.ShiftAndSelectResults
  refine ⟨?shifts, ?sel⟩
  case shifts =>
    intro row hrow s d a n k k' h hp
    have hexec : exec (row.1 d) s = .next (issue s d row.2.2 .plain (shiftBody d row.2.1)) := by
      fin_cases hrow <;> rfl
    rw [hexec]
    refine ⟨fun hn hpush => congrArg _ ?_, fun hn => congrArg _ (issue_taking h hp rfl (if_pos hn) rfl)⟩
    refine issue_taking_aluOp h hp rfl (if_neg (ne_true_of_eq_false hn)) ?_
    rw [bin, pushAll_singleton, hn, Bool.or_false, hpush]
  case sel =>
    intro s d a b f k k' h hp
    refine ⟨fun hf hpush => congrArg Host.Outcome.next ?_,
      fun hf => congrArg Host.Outcome.next (issue_taking h hp rfl (if_pos hf) rfl)⟩
    refine issue_taking_aluOp h hp rfl (if_neg (ne_true_of_eq_false hf)) ?_
    rw [pushAll_singleton, ← hpush]
    simp only [ne_eq, ite_not]

/-- Settles O5: each instruction finds what it moves on the stack that it takes it from. -/
theorem stackTransferResults : Obligations.StackTransferResults := by
  unfold Obligations.StackTransferResults
  refine ⟨?pick, ?tor, ?fromr, fun s d k' h hpush => congrArg Host.Outcome.next (issue_push h _ rfl hpush)⟩
  case pick =>
    intro s d n x k k' h hp hn hx hpush
    refine congrArg Host.Outcome.next (issue_taking h hp rfl ?_ (stackBody_run hpush))
    dsimp only
    split
    next e he => nomatch hx.symm.trans he
    next y hy =>
      obtain rfl := Except.ok.inj (hx.symm.trans hy)
      exact if_neg (ne_true_of_eq_false hn)
  case tor =>
    intro s d x k k' h hp hpush
    exact congrArg Host.Outcome.next (issue_taking h hp rfl rfl (stackBody_run hpush))
  case fromr =>
    intro s d x k k' h hneed
    have hbody (pop : Bool) : fromrBody pop d (s.fetched d) =
        stackBody (s.fetched d) d ({ k with rs := if pop then k.rs else x :: k.rs }.push x) := onStack_ok rfl hneed rfl
    exact ⟨fun hpush => congrArg Host.Outcome.next (issue_run h (hbody true) (stackBody_run hpush)),
      fun hpush => congrArg Host.Outcome.next (issue_run h (hbody false) (stackBody_run hpush))⟩

/-! ### Pushes, spills and STACK (R159, R161, R162) -/

theorem leNat_leBytes (n v : Nat) : leNat (leBytes n v) = v % 256 ^ n := by
  induction n generalizing v with
  | zero => simp [leBytes, leNat, Nat.mod_one]
  | succ n ih =>
    rw [leBytes, leNat, ih, pow_succ', Nat.mod_mul]
    rfl

@[simp] theorem length_leBytes (n v : Nat) : (leBytes n v).length = n := by
  induction n generalizing v with
  | zero => rfl
  | succ n ih => rw [leBytes, List.length_cons, ih]

theorem contains_sset (l : List Nat) (i : Nat) (b : Bool) : (sset l i b).contains i = b := by
  cases b <;> simp [sset, sdel, mem_sadd]

/-- An entry stored in a word of local memory is read back. -/
theorem Core.lmPutEntry_lmEntry {k : Core} (hk : Canonical 0 k.lm) (i : Nat) (x : Entry) : (k.lmPutEntry i x).lmEntry i = x := by
  have hbytes := rdBytes_wrBytes 0 k.lm (8 * i) (leBytes 8 x.val.toNat) hk
  rw [length_leBytes] at hbytes
  have hval : w64 (leNat (leBytes 8 x.val.toNat)) = x.val := by
    have hlt : x.val.toNat < 256 ^ 8 := x.val.isLt
    rw [leNat_leBytes, Nat.mod_eq_of_lt hlt, w64, BitVec.ofNat_toNat, BitVec.setWidth_eq]
  simp only [Core.lmEntry, Core.lmPutEntry, hbytes, hval, contains_sset]

/-- It changes no other byte. -/
theorem Core.lmPutEntry_lm_other (k : Core) {i j : Nat} (x : Entry) (h : j < 8 * i ∨ 8 * i + 8 ≤ j) :
    mget 0 (k.lmPutEntry i x).lm j = mget 0 k.lm j :=
  mget_wrBytes_other _ _ _ _ _ (by rwa [length_leBytes])

/-- A push onto a full hardware stack spills its bottom entry, where the spill region has room. -/
theorem Core.push_spills {k : Core} {x y : Entry} {l : List Entry} (hds : k.ds = l ++ [y]) (hl : l.length = 31)
    (hroom : bndBase k.ccDsBnd + k.dsSpill < bndLimit k.ccDsBnd) :
    k.push x = .ok ({ k with ds := x :: l, dsSpill := k.dsSpill + 1 }.lmPutEntry (bndBase k.ccDsBnd + k.dsSpill) y) := by
  have hfull : ¬ k.ds.length < 32 := by simp [hds, hl]
  have htake : k.ds.take 31 = l := by rw [hds, ← hl, List.take_left]
  have hlast : k.ds.getD 31 ⟨0, false⟩ = y := by simp [hds, ← hl]
  rw [Core.push, if_neg hfull, if_neg hroom.not_ge, htake, hlast]

/-- Settles O6: every row takes its operands first; a spilled entry lies in its word of local memory. -/
theorem stackSpillsAndFaults : Obligations.StackSpillsAndFaults := by
  unfold Obligations.StackSpillsAndFaults
  refine ⟨?faults, fun k x hroom => if_pos hroom, fun k x hfull hlimit => (if_neg hfull.not_gt).trans (if_pos hlimit), ?spill,
    fun k n hlack => if_pos hlack⟩
  case faults =>
    intro row hrow s d e h he
    obtain ⟨body, g, hexec, hbody⟩ : ∃ body g, exec (row.1 d) s = .next (issue s d row.2.2 .plain body) ∧
        body (s.fetched d) = onStack (s.fetched d) (((s.fetched d).core d).need row.2.1) g := by
      fin_cases hrow
      -- Most rows check their operands themselves; DUP, DROP, SWAP, ROT and ADD go through `aluOp`, DIVS through `slowOp`.
      any_goals exact ⟨_, _, rfl, rfl⟩
      iterate 5 exact ⟨_, _, rfl, aluOp_eq_onStack _ _ _ _⟩
      exact ⟨_, _, rfl, slowOp_eq_onStack _ _ _ _⟩
    rw [hexec, issue_lacking h he hbody]
  case spill =>
    intro k x y l hds hl hroom
    exact ⟨_, Core.push_spills hds hl hroom, rfl, rfl, fun hk => Core.lmPutEntry_lmEntry hk _ y,
      fun j hj => Core.lmPutEntry_lm_other _ y hj⟩

/-! ### FP64 (R168) -/

/-- An FP64 instruction that finds its operands pushes its result, and raises its flags. -/
theorem fpOp_of_pops {s : State} {d n : Nat} {l : List Entry} {k : Core} (hp : Pops s d n l k)
    (f : Bool → List Nat → Nat × Fl) :
    fpOp d n f (s.fetched d) = stackBody (s.fetched d) d
      ((k.raise (f k.ieee (l.map fun x => x.val.toNat)).2).claim.push
        ⟨w64 (f k.ieee (l.map fun x => x.val.toNat)).1, l.any (·.psn)⟩) := by
  obtain ⟨hneed, rfl⟩ := hp
  obtain ⟨htake, hdrop⟩ := take_drop_of_pops l k.ds
  simp only [fpOp, hneed, Core.stacked, htake, hdrop]

/-- Operations that agree on every pair of operands agree on every list of two. -/
theorem eq_of_length_two {α : Type} {f g : List Nat → α} (h : ∀ a b, f [a, b] = g [a, b]) (ops : List Nat)
    (hops : ops.length = 2) : f ops = g ops := by
  obtain ⟨a, b, rfl⟩ := List.length_eq_two.mp hops
  exact h a b

/-- The same of lists of one. -/
theorem eq_of_length_one {α : Type} {f g : List Nat → α} (h : ∀ a, f [a] = g [a]) (ops : List Nat)
    (hops : ops.length = 1) : f ops = g ops := by
  obtain ⟨a, rfl⟩ := List.length_eq_one_iff.mp hops
  exact h a

/-- Settles O7: each row issues `fpOp` with an operation that on as many operands as it takes is the statement's. -/
theorem floatInstructionResults : Obligations.FloatInstructionResults := by
  unfold Obligations.FloatInstructionResults
  intro row hrow s d l k k' h hp hpush
  obtain ⟨instr, f, hexec, hf⟩ : ∃ instr f, exec (row.1 d) s = .next (issue s d instr .plain (fpOp d row.2.1 f))
      ∧ ∀ i (ops : List Nat), ops.length = row.2.1 → f i ops = row.2.2 i ops := by
    fin_cases hrow
    -- FADD to FMIN take two operands, FSQRT one, FLT to FEQ two, CVTIF and CVTFI one.
    iterate 6 exact ⟨_, _, rfl, fun i => eq_of_length_two fun a b => rfl⟩
    exact ⟨_, _, rfl, fun i => eq_of_length_one fun a => rfl⟩
    iterate 3 exact ⟨_, _, rfl, fun i => eq_of_length_two fun a b => rfl⟩
    iterate 2 exact ⟨_, _, rfl, fun i => eq_of_length_one fun a => rfl⟩
  have hbody := fpOp_of_pops hp f
  rw [hf _ _ (by rw [List.length_map, hp.2])] at hbody
  rw [hexec]
  exact congrArg _ (issue_run h hbody (stackBody_run hpush))

end Sys2Proof.Machine
end

section
/-! Proofs about control flow: transfers, hardware loops and retirement, mode and cache maintenance, traps, waits and ends. -/

namespace Sys2Proof.Machine

/-! ### Transfers (R172, R173) -/

/-- Settles O8: past the check of its operand each transfer goes to its target; RET takes its own off the return stack. -/
theorem transferResults : Obligations.TransferResults := by
  unfold Obligations.TransferResults
  refine ⟨?brz, ?call, ?ret, ?jmpi, ?calli⟩
  case brz =>
    intro s d o c k h hp hc
    exact congrArg Host.Outcome.next (issue_taking h hp rfl (if_neg (ne_true_of_eq_false hc)) rfl)
  case call =>
    intro s d o k' h hpush
    exact congrArg Host.Outcome.next (issue_run h (onStack_ok rfl hpush rfl) rfl)
  case ret =>
    intro s d x k h hneed hx
    exact congrArg Host.Outcome.next (issue_run h (onStack_ok rfl hneed (if_neg (ne_true_of_eq_false hx))) rfl)
  case jmpi =>
    intro s d x k h hp hx
    exact congrArg Host.Outcome.next (issue_taking h hp rfl (if_neg (ne_true_of_eq_false hx)) rfl)
  case calli =>
    intro s d x k k' h hp hx hpush
    exact congrArg Host.Outcome.next
      (issue_taking h hp rfl (onStack_ok rfl hpush (if_neg (ne_true_of_eq_false hx))) rfl)

/-! ### Retirement and hardware loops (R173, R176 to R179) -/

section
variable {pc : Nat} {x : LoopLevel} {l : List LoopLevel}

/-- Away from the innermost level's end address there is no back edge. -/
theorem backEdge_of_ne (h : x.start + 2 * x.lenM1 ≠ pc) : backEdge pc (x :: l) = (x :: l, none) := if_neg h

/-- At the end address control goes back while the count is above 1. -/
theorem backEdge_of_lt (h : x.start + 2 * x.lenM1 = pc) (hc : 1 < x.count) :
    backEdge pc (x :: l) = ({ x with count := x.count - 1 } :: l, some x.start) := (if_pos h).trans (if_pos hc)

/-- Else the level closes, and the next one decides. -/
theorem backEdge_of_le (h : x.start + 2 * x.lenM1 = pc) (hc : x.count ≤ 1) : backEdge pc (x :: l) = backEdge pc l :=
  (if_pos h).trans (if_neg hc.not_gt)

end

/-- Outside a delay slot control goes where the open levels send it, else to the next instruction. -/
theorem Core.retire_of_no_slot {k : Core} (h : k.slot = none) : k.retire =
    { k with loops := (backEdge k.pc k.loops.reverse).1.reverse, pc := (backEdge k.pc k.loops.reverse).2.getD (k.pc + 2) } := by
  rw [Core.retire, h]

/-- The same where the back edge is known. -/
theorem Core.retire_of_backEdge {k : Core} (h : k.slot = none) {l : List LoopLevel} {p : Option Nat}
    (hb : backEdge k.pc k.loops.reverse = (l.reverse, p)) : k.retire = { k with loops := l, pc := p.getD (k.pc + 2) } := by
  rw [Core.retire_of_no_slot h, hb, List.reverse_reverse]

/-- Settles O9: the innermost level alone decides, unless it closes. -/
theorem controlPassesAtRetirement : Obligations.ControlPassesAtRetirement := by
  unfold Obligations.ControlPassesAtRetirement
  refine ⟨fun k target => rfl, ?slot, ?noLevel, ?inside, ?repeats, ?closes⟩
  case slot =>
    intro k t h
    rw [Core.retire, h]
  case noLevel =>
    intro k h hloops
    exact Core.retire_of_backEdge h (l := k.loops) (p := none) (by rw [hloops]; rfl)
  case inside =>
    intro k l x h hloops hne
    refine Core.retire_of_backEdge h (l := k.loops) (p := none) ?_
    rw [hloops, List.reverse_concat, backEdge_of_ne hne]
  case repeats =>
    intro k l x h hloops hend hcount
    refine Core.retire_of_backEdge h (p := some x.start) ?_
    rw [hloops, List.reverse_concat, backEdge_of_lt hend hcount, List.reverse_concat]
  case closes =>
    intro k l x h hloops hend hcount
    have hb : backEdge k.pc k.loops.reverse = backEdge k.pc l.reverse := by
      rw [hloops, List.reverse_concat, backEdge_of_le hend hcount]
    rw [Core.retire_of_no_slot h, Core.retire_of_no_slot (k := { k with loops := l }) h, hb]

/-- The innermost open level gives the end address. -/
theorem Core.atEnd_concat {k : Core} {l : List LoopLevel} {x : LoopLevel} (h : k.loops = l ++ [x]) :
    k.atEnd = (x.start + 2 * x.lenM1 == k.pc) := by
  rw [Core.atEnd, h, List.getLast?_concat]

/-- LEXIT where it only closes its level and passes on. -/
theorem lexitBody_run {s : State} {d : Nat} {instr : BitVec 16} {l : List LoopLevel} (h : (s.core d).loops.dropLast = l) :
    (lexitBody d s).run d instr = s.setCore d { s.core d with loops := l, pc := (s.core d).pc + 2 } := by
  subst h
  rfl

/-- Settles O10: LOOP past the checks of its operands, LEXIT by whether it stands at its level's end address. -/
theorem loopInstructionResults : Obligations.LoopInstructionResults := by
  unfold Obligations.LoopInstructionResults
  refine ⟨?loop, fun s d h => congrArg Host.Outcome.next (issue_run h (if_pos rfl) rfl), ?deep, ?none, ?level, ?lcnt⟩
  case loop =>
    intro s d n c k h hn hp hc hroom
    have hopen : ¬ 4 ≤ k.loops.length := hroom.not_ge
    refine congrArg Host.Outcome.next ?_
    by_cases hzero : c.val = 0
    · rw [if_pos hzero]
      exact issue_taking h hp (if_neg hn)
        ((if_neg (ne_true_of_eq_false hc)).trans ((if_neg hopen).trans (if_pos hzero))) rfl
    · rw [if_neg hzero]
      exact issue_taking h hp (if_neg hn)
        ((if_neg (ne_true_of_eq_false hc)).trans ((if_neg hopen).trans (if_neg hzero))) rfl
  case deep =>
    intro s d n c k h hn hp hc hdeep
    exact congrArg Host.Outcome.next
      (issue_taking h hp (if_neg hn) ((if_neg (ne_true_of_eq_false hc)).trans (if_pos hdeep)) rfl)
  case none =>
    intro s d h hloops
    exact congrArg Host.Outcome.next
      (issue_run h (if_pos (.inr hloops)) (lexitBody_run (l := ((s.fetched d).core d).loops) (by rw [hloops]; rfl)))
  case level =>
    intro s d l x h hloops
    have hdrop : ((s.fetched d).core d).loops.dropLast = l := by rw [hloops, List.dropLast_concat]
    refine ⟨fun hend => congrArg Host.Outcome.next (issue_run h (if_pos (.inl ?atEnd)) (lexitBody_run hdrop)),
      fun hno => congrArg Host.Outcome.next (issue_run h (if_neg ?within)
        (congrArg (fun m => ((s.fetched d).setCore d { (s.fetched d).core d with loops := m }).retire d) hdrop))⟩
    case atEnd =>
      rw [Core.atEnd_concat hloops, beq_iff_eq]
      exact hend
    case within =>
      rw [Core.atEnd_concat hloops, beq_iff_eq, not_or, hloops]
      exact ⟨hno, List.concat_ne_nil _ _⟩
  case lcnt =>
    intro s d i k k' h hp hi hpush
    refine congrArg Host.Outcome.next (issue_taking_aluOp h hp rfl (if_neg (ne_true_of_eq_false hi)) ?_)
    rw [un, pushAll_singleton, hi, ← hpush]
    have hloops : (k.stacked [i]).loops = k.loops := rfl
    rw [hloops]
    cases k.loops.reverse[i.val.toNat]? <;> rfl

/-! ### Mode and caches (R185, R188, R191) -/

/-- Settles O11: each of them past the checks of its operand and its level. -/
theorem modeAndCacheResults : Obligations.ModeAndCacheResults := by
  unfold Obligations.ModeAndCacheResults
  refine ⟨fun s d k' h hpush => congrArg Host.Outcome.next (issue_push h _ rfl hpush), ?modew, ?plain, ?dcinvl⟩
  case modew =>
    intro s d m k h hp hm
    refine ⟨fun hmay => congrArg Host.Outcome.next ?_,
      fun hu hie => congrArg Host.Outcome.next (issue_taking h hp rfl (if_pos ⟨hu, hie⟩) rfl)⟩
    have hno : ¬(k.priv = .U ∧ m.val.getLsbD 0 ≠ k.ie) := by
      rintro ⟨hu, hie⟩
      exact hmay.elim (absurd hu) hie
    exact issue_taking h hp rfl ((if_neg hno).trans (if_neg (ne_true_of_eq_false hm))) rfl
  case plain =>
    intro s d h
    exact ⟨congrArg Host.Outcome.next (issue_of_issues h _ _), congrArg Host.Outcome.next (issue_of_issues h _ _),
      congrArg Host.Outcome.next (issue_of_issues h _ _), congrArg Host.Outcome.next (issue_of_issues h _ _)⟩
  case dcinvl =>
    intro s d a k h hp ha
    exact congrArg Host.Outcome.next (issue_taking h hp rfl (if_neg (ne_true_of_eq_false ha)) rfl)

/-! ### Traps, waits and ends (R192, R221, R222) -/

theorem Core.kend_run (k : Core) : k.kend.run = .idle := by
  simp only [Core.kend, apply_ite Core.run, ite_self]

theorem Core.kend_endStatus (k : Core) : k.kend.endStatus = some k.kendStatus := by
  simp only [Core.kend, apply_ite Core.endStatus, ite_self]

/-- What is said in the name of a core's kernel keeps its event code. -/
theorem ofKernel_code (s : State) (d : Nat) (e : LogEntry) : (s.ofKernel d e).code = e.code := by
  unfold State.ofKernel
  split <;> rfl

/-- Settles O13: each of them past the checks of its body. -/
theorem trapWaitAndEndResults : Obligations.TrapWaitAndEndResults := by
  unfold Obligations.TrapWaitAndEndResults
  refine ⟨?ecall, ?illegal, ?wfi, ?wfiU, ?wake, ?kend⟩
  case ecall =>
    intro s d x k h hp
    exact congrArg Host.Outcome.next (issue_taking h hp rfl rfl rfl)
  case illegal =>
    intro s d w h
    exact congrArg Host.Outcome.next (issue_of_issues h _ _)
  case wfi =>
    intro s d h hpriv
    exact ⟨fun hirq => congrArg Host.Outcome.next (issue_run h ((if_neg hpriv).trans (if_pos hirq)) rfl),
      fun hirq => congrArg Host.Outcome.next (issue_run h ((if_neg hpriv).trans (if_neg (ne_true_of_eq_false hirq))) rfl)⟩
  case wfiU =>
    intro s d h hpriv
    exact congrArg Host.Outcome.next (issue_run h (if_pos hpriv) rfl)
  case wake =>
    intro s d hrun hirq hhold
    exact if_pos ⟨hrun, hirq, by rw [hhold]; rfl⟩
  case kend =>
    intro s d h
    refine ⟨fun hm => congrArg Host.Outcome.next (issue_run h rfl (if_neg (ne_true_of_eq_false hm))),
      fun hm => ⟨_, ofKernel_code _ _ _, congrArg Host.Outcome.next (issue_run h rfl (if_pos hm))⟩,
      Core.kend_run _, fun hu => (Core.kend_endStatus _).trans (congrArg some (if_pos hu))⟩

end Sys2Proof.Machine
end

section
/-! Proofs about the memories of a core: addressed and local loads and stores, the data cache, and which bytes a write changes. -/

namespace Sys2Proof.Machine

/-! ### Addressed loads and stores (R169 to R171) -/

/-- An operand that is clear and aligned passes the two checks that every load and store makes of it first. -/
theorem ite_clear_aligned {c : Bool} {a n : Nat} {b1 b2 b3 b4 : Body} (hc : c = false) (ha : a % n = 0) (h : b3 = b4) :
    (if c then b1 else if a % n ≠ 0 then b2 else b3) = b4 :=
  (if_neg (ne_true_of_eq_false hc)).trans ((if_neg (not_not_intro ha)).trans h)

/-- Settles O17: each row issues `ldBody`, whose checks the statement names one by one. -/
theorem scalarLoadResults : Obligations.ScalarLoadResults := by
  unfold Obligations.ScalarLoadResults
  intro row hrow s d x k h hp t a
  have hexec : exec (row.1 d) s = .next (issue s d row.2.2.2 .plain (ldBody row.2.1 row.2.2.1 d)) := by
    fin_cases hrow <;> rfl
  rw [hexec]
  refine ⟨?poisoned, ?misaligned, ?memory, ?refused, ?control⟩
  case poisoned =>
    intro hx
    exact congrArg _ (issue_taking h hp rfl (if_pos hx) rfl)
  case misaligned =>
    intro hx ha
    exact congrArg _ (issue_taking h hp rfl ((if_neg (ne_true_of_eq_false hx)).trans (if_pos ha)) rfl)
  case memory =>
    intro hx ha hc hmay k' r hpush
    have hgo : ((k.priv == .M && t.inMonitor a row.2.2.1) || (t.chk (t.corePart d) [pR] a row.2.2.1).isOk) = true := by
      simpa using hmay
    exact congrArg _ (issue_taking h hp rfl
      (ite_clear_aligned hx ha ((if_neg (ne_true_of_eq_false hc)).trans (if_pos hgo))) (stackBody_run hpush))
  case refused =>
    intro hx ha hc hlevel hchk
    have hno : ¬((k.priv == .M && t.inMonitor a row.2.2.1) || (t.chk (t.corePart d) [pR] a row.2.2.1).isOk) = true := by
      rw [hchk]
      simpa [imp_iff_not_or] using hlevel
    exact congrArg _ (issue_taking h hp rfl
      (ite_clear_aligned hx ha ((if_neg (ne_true_of_eq_false hc)).trans (if_neg hno))) rfl)
  case control =>
    intro hx ha hc
    exact ⟨fun hreach => congrArg _ (issue_taking h hp rfl (ite_clear_aligned hx ha
        ((if_pos hc).trans (if_neg (ne_true_of_eq_false (congrArg not hreach))))) rfl),
      fun hreach => congrArg _ (issue_taking h hp rfl (ite_clear_aligned hx ha
        ((if_pos hc).trans (if_pos (congrArg not hreach)))) rfl)⟩

/-- Settles O18: each row issues `stBody`, whose checks the statement names one by one. -/
theorem scalarStoreResults : Obligations.ScalarStoreResults := by
  unfold Obligations.ScalarStoreResults
  intro row hrow s d x ad k h hp t a t1
  have hexec : exec (row.1 d) s = .next (issue s d row.2.2 .plain (stBody row.2.1 d)) := by
    fin_cases hrow <;> rfl
  rw [hexec]
  refine ⟨fun hu hown => congrArg _ (issue_taking h hp rfl (if_pos ⟨hu, hown⟩) rfl), fun hlevel => ?_⟩
  have hmay : ¬(k.priv = .U ∧ ownCcEx d a = true) := by
    rintro ⟨hu, hown⟩
    exact hlevel.elim (absurd hu) fun hno => ne_true_of_eq_false hno hown
  refine ⟨?poisoned, ?misaligned, ?memory, ?refused, ?control⟩
  case poisoned =>
    intro had
    exact congrArg _ (issue_taking h hp rfl ((if_neg hmay).trans (if_pos had)) rfl)
  case misaligned =>
    intro had ha
    exact congrArg _ (issue_taking h hp rfl ((if_neg hmay).trans ((if_neg (ne_true_of_eq_false had)).trans (if_pos ha))) rfl)
  case memory =>
    intro had ha hc hchk b u
    exact congrArg _ (issue_taking h hp rfl ((if_neg hmay).trans
      (ite_clear_aligned had ha ((if_neg (ne_true_of_eq_false hc)).trans (if_pos hchk)))) rfl)
  case refused =>
    intro had ha hc hchk
    exact congrArg _ (issue_taking h hp rfl ((if_neg hmay).trans
      (ite_clear_aligned had ha ((if_neg (ne_true_of_eq_false hc)).trans (if_neg (ne_true_of_eq_false hchk))))) rfl)
  case control =>
    intro had ha hc
    exact ⟨fun hreach => congrArg _ (issue_taking h hp rfl ((if_neg hmay).trans (ite_clear_aligned had ha
        ((if_pos hc).trans (if_neg (ne_true_of_eq_false (congrArg not hreach)))))) rfl),
      fun hreach => congrArg _ (issue_taking h hp rfl ((if_neg hmay).trans (ite_clear_aligned had ha
        ((if_pos hc).trans (if_pos (congrArg not hreach))))) rfl)⟩

/-! ### Local memory (R163, R169) -/

/-- Settles O20: the rows issue `lldBody` and `lstBody`, whose checks the statement names one by one. -/
theorem localMemoryResults : Obligations.LocalMemoryResults := by
  unfold Obligations.LocalMemoryResults
  refine ⟨?loads, ?stores, ?lldi, ?lsti⟩
  case loads =>
    intro row hrow s d o k h hp ho
    have hexec : exec (row.1 d) s = .next (issue s d row.2.2.2 .plain (lldBody row.2.1 row.2.2.1 d)) := by
      fin_cases hrow <;> rfl
    rw [hexec]
    exact ⟨fun ha hok k' hpush => congrArg _ (issue_taking h hp rfl
        (ite_clear_aligned ho ha (if_neg (ne_true_of_eq_false (congrArg not hok)))) (stackBody_run hpush)),
      fun ha => congrArg _ (issue_taking h hp rfl ((if_neg (ne_true_of_eq_false ho)).trans (if_pos ha)) rfl),
      fun ha hok => congrArg _ (issue_taking h hp rfl (ite_clear_aligned ho ha (if_pos (congrArg not hok))) rfl)⟩
  case stores =>
    intro row hrow s d x o k h hp ho
    have hexec : exec (row.1 d) s = .next (issue s d row.2.2 .plain (lstBody row.2.1 d)) := by
      fin_cases hrow <;> rfl
    rw [hexec]
    exact ⟨fun ha hok => congrArg _ (issue_taking h hp rfl
        (ite_clear_aligned ho ha (if_neg (ne_true_of_eq_false (congrArg not hok)))) rfl),
      fun ha => congrArg _ (issue_taking h hp rfl ((if_neg (ne_true_of_eq_false ho)).trans (if_pos ha)) rfl),
      fun ha hok => congrArg _ (issue_taking h hp rfl (ite_clear_aligned ho ha (if_pos (congrArg not hok))) rfl)⟩
  case lldi =>
    intro s d imm k' h k hok hpush
    exact congrArg Host.Outcome.next (issue_run h (if_pos hok) (stackBody_run hpush))
  case lsti =>
    intro s d imm x k h hp hok
    exact congrArg Host.Outcome.next (issue_taking h hp rfl (if_pos hok) rfl)

/-- Settles O21: local memory is written byte by byte, and each level's bound is a comparison. -/
theorem localMemoryFrameAndRights : Obligations.LocalMemoryFrameAndRights := by
  unfold Obligations.LocalMemoryFrameAndRights
  refine ⟨fun k off l j hj => mget_wrBytes_other _ _ _ _ _ (by rwa [List.length_map]), fun k off l hk => ?readBack,
    fun k off n => ?rights⟩
  case readBack =>
    have hbytes := rdBytes_wrBytes 0 k.lm off (l.map (·.1)) hk
    rwa [List.length_map] at hbytes
  case rights =>
    have hsub : off + n ≤ 0xF800 → off + n ≤ 0x10000 := by omega
    simp only [Core.lmOk, Bool.and_eq_true, decide_eq_true_eq]
    tauto

/-! ### The data cache (R186, R188) -/

/-- Settles O22: the two cases of `dcLoad` that the statement names. -/
theorem dataCacheAnswers : Obligations.DataCacheAnswers := by
  unfold Obligations.DataCacheAnswers
  refine ⟨fun s d a n hdce => if_pos (congrArg not hdce), fun s d a n l hdce hfind hgood => ?_⟩
  simp only [dcLoad, hdce, hfind, hgood, Bool.not_true, Bool.false_eq_true, if_false]

/-! ### What a write to memory changes (R171, R226) -/

section
variable {s : State} {die a n j : Nat} {l : List PB}

/-- A write changes no byte but its own: the errors that it meets change none. -/
theorem writeMem_bytes_other (hj : j < a ∨ a + l.length ≤ j) :
    mget 0 (writeMem s die a l).mem.bytes j = mget 0 s.mem.bytes j := by
  unfold writeMem
  split
  · rfl
  · refine (mget_wrBytes_other _ _ _ _ _ (by rwa [List.length_map])).trans ?_
    exact congrArg (mget 0 · j) (foldl_keeps (fun t => t.mem.bytes = s.mem.bytes) _
      (fun t q ht => (readErr_mem t die q.1 q.2).1.trans ht) _ _ rfl)

theorem errsIn_of_no_latent (h : s.mem.latent = []) : s.errsIn a n = [] := by
  rw [State.errsIn, h, List.filter_nil, ite_self]

/-- Where no store is in error, a write changes memory alone, and leaves none in error. -/
theorem writeMem_of_no_latent (h : s.mem.latent = []) :
    writeMem s die a l = { s with mem := (writeMem s die a l).mem } ∧ (writeMem s die a l).mem.latent = [] := by
  unfold writeMem
  split
  · exact ⟨rfl, h⟩
  · simp only [errsIn_of_no_latent h, List.filter_nil, List.foldl_nil, h, and_self]

/-- The bytes of a write to a granule that is present. -/
theorem writeMem_bytes (h : s.mem.latent = []) (hp : s.isAbsent a = false) :
    (writeMem s die a l).mem.bytes = wrBytes 0 s.mem.bytes a (l.map (·.1)) := by
  simp only [writeMem, hp, errsIn_of_no_latent h, List.filter_nil, List.foldl_nil, Bool.false_eq_true, if_false]

/-- A write without poison leaves memory without poison. -/
theorem writeMem_psn_nil (h : s.mem.latent = []) (hs : s.mem.psn = []) (hl : ∀ x ∈ l, x.2 = false) :
    (writeMem s die a l).mem.psn = [] := by
  unfold writeMem
  split
  · exact hs
  · simp only [errsIn_of_no_latent h, List.filter_nil, List.foldl_nil]
    have hclean (u : Nat) :
        ¬(l.zipIdx.any fun q => q.1.2 && u ≤ a + q.2 && decide (a + q.2 < u + unitSize a)) = true := by
      rw [List.any_eq_true]
      rintro ⟨q, hq, hbad⟩
      simp [hl q.1 (List.fst_mem_of_mem_zipIdx hq)] at hbad
    refine foldl_keeps (· = []) _ (fun m u hm => ?_) _ _ hs
    rw [if_neg (hclean u.1), hm, List.filter_nil, ite_self]

theorem map_zipIdx_fst {α β : Type} (f : α → β) (l : List α) : l.zipIdx.map (fun q => f q.1) = l.map f :=
  calc l.zipIdx.map (fun q => f q.1) = (l.zipIdx.map Prod.fst).map f := List.map_map.symm
    _ = l.map f := by rw [List.zipIdx_map_fst]

/-- Where nothing is in error, absent or poisoned, a read delivers the bytes that are stored, and clear. -/
theorem readMem_of_clear (hlatent : s.mem.latent = []) (habsent : s.repair.absent = []) (hpsn : s.mem.psn = []) :
    (readMem s die a n).2 = (rdBytes 0 s.mem.bytes a n).map fun b => (b, false) := by
  simpa [readMem, errsIn_of_no_latent hlatent, State.peek, State.isAbsent, habsent, hpsn]
    using map_zipIdx_fst (fun b => (b, false)) (rdBytes 0 s.mem.bytes a n)

end

/-! ### Check-table entries that a write makes stale (R304) -/

/-- s with other memory, in which no store is in error and byte j is that of s. -/
def OtherMem (j : Nat) (s t : State) : Prop :=
  ∃ m : Mem, t = { s with mem := m } ∧ m.latent = [] ∧ mget 0 m.bytes j = mget 0 s.mem.bytes j

section
variable {s t : State} {j : Nat}

theorem OtherMem.writeMem (h : OtherMem j s t) (die : Nat) {a : Nat} {l : List PB} (hj : j < a ∨ a + l.length ≤ j) :
    OtherMem j s (writeMem t die a l) := by
  obtain ⟨m, rfl, hlatent, hbyte⟩ := h
  obtain ⟨hmem, hlatent'⟩ := writeMem_of_no_latent (die := die) (a := a) (l := l) (s := { s with mem := m }) hlatent
  exact ⟨_, hmem, hlatent', (writeMem_bytes_other hj).trans hbyte⟩

/-- Clearing VALID along the entries' own blocks writes entries alone. -/
theorem OtherMem.cvClearN (he : ∀ x e, s.cvEntry x = some e → j < e ∨ e + 8 ≤ j) (h : OtherMem j s t) (die n a : Nat) :
    OtherMem j s (t.cvClearN die n a) := by
  induction n generalizing t a with
  | zero => exact h
  | succ n ih =>
    unfold State.cvClearN
    split
    · exact h
    next e hentry =>
      split
      · refine ih (h.writeMem die (he a e ?_)) e
        obtain ⟨m, rfl, -, -⟩ := h
        exact hentry
      · exact h

theorem OtherMem.cvClear (he : ∀ x e, s.cvEntry x = some e → j < e ∨ e + 8 ≤ j) (h : OtherMem j s t) (die a n : Nat) :
    OtherMem j s (t.cvClear die a n) := by
  unfold State.cvClear
  split
  · exact h
  · exact foldl_keeps (OtherMem j s) _ (fun u i hu => hu.cvClearN he die _ _) _ _ h

end

/-- A core's write changes no byte but its own and those of check-table entries. -/
theorem coreWrite_bytes_other {s : State} (d : Nat) {a j : Nat} {l : List PB} (hlatent : s.mem.latent = [])
    (hj : j < a ∨ a + l.length ≤ j) (he : ∀ x e, s.cvEntry x = some e → j < e ∨ e + 8 ≤ j) :
    mget 0 (coreWrite s d a l).mem.bytes j = mget 0 s.mem.bytes j := by
  unfold coreWrite
  split
  · have hself : OtherMem j s s := ⟨s.mem, rfl, hlatent, rfl⟩
    obtain ⟨m, hstored, -, hbyte⟩ := (hself.writeMem (s.dieOf (d / 8)) hj).cvClear he (s.dieOf (d / 8)) a l.length
    rw [storeMem, hstored]
    exact hbyte
  · exact writeMem_bytes_other hj

/-! ### Fetching changes no byte (R185) -/

theorem icFill_bytes (s : State) (d a : Nat) : (s.icFill d a).1.mem.bytes = s.mem.bytes :=
  (readMem_mem s (s.dieOf (d / 8)) (a / 64 * 64) 64).1

theorem parityError_mem (s : State) (d : Nat) (ic : Bool) (a : Nat) : (parityError s d ic a).mem = s.mem := by
  unfold parityError
  simp only []
  split <;> simp

theorem fetched_bytes (s : State) (d : Nat) : (s.fetched d).mem.bytes = s.mem.bytes := by
  unfold State.fetched fetch
  dsimp only
  split
  · split
    · rw [icFill_bytes, parityError_mem, State.setCore_mem]
    · rfl
  · exact icFill_bytes s d _

/-- Settles O19: writes outside their own bytes, a core's with the entries that it clears; fetching; and reading back. -/
theorem memoryWritesItsBytes : Obligations.MemoryWritesItsBytes := by
  unfold Obligations.MemoryWritesItsBytes
  refine ⟨fun s die a l j hj => writeMem_bytes_other hj, fun s d a l j hlatent hj he => coreWrite_bytes_other d hlatent hj he,
    fun s d j => congrArg (mget 0 · j) (fetched_bytes s d), ?readBack⟩
  case readBack =>
    intro s die die' a l hwf hlatent habsent hpsn hclean hne
    obtain ⟨hmem, hlatent'⟩ := writeMem_of_no_latent (die := die) (a := a) (l := l) hlatent
    have hpresent : s.isAbsent a = false := by rw [State.isAbsent, habsent, List.contains_nil]
    have habsent' : (writeMem s die a l).repair.absent = [] := by rw [hmem]; exact habsent
    have hread := rdBytes_wrBytes 0 s.mem.bytes a (l.map (·.1)) hwf.1
    rw [List.length_map] at hread
    rw [readMem_of_clear hlatent' habsent' (writeMem_psn_nil hlatent hpsn hclean), writeMem_bytes hlatent hpresent, hread,
      List.map_map]
    have hpair : ∀ x ∈ l, (x.1, false) = id x := fun x hx => Prod.ext rfl (hclean x hx).symm
    exact (List.map_congr_left hpair).trans (List.map_id l)

end Sys2Proof.Machine
end

section
/-! Proofs about what happens to a core between its instructions, and about the tickets of the engine work that it enqueues. -/

namespace Sys2Proof.Machine

/-! ### Events of a core (R159, R160, R171, R184, R185, R187, R223, R225) -/

/-- A background refill of the data stack that is due brings back the entry spilled last. -/
theorem Core.refillDs_of_spilled {k : Core} (hroom : k.ds.length < 24) (hspill : 0 < k.dsSpill)
    (hlimit : bndBase k.ccDsBnd + (k.dsSpill - 1) < bndLimit k.ccDsBnd) : k.refillDs =
      { k with ds := k.ds ++ [k.lmEntry (bndBase k.ccDsBnd + (k.dsSpill - 1))], dsSpill := k.dsSpill - 1 } := by
  have hdue : ¬(k.ds.length + 1 ≤ k.ds.length ∨ k.dsSpill = 0) := by omega
  rw [Core.refillDs, if_pos hroom, Core.dsFill, if_neg hdue, if_neg hlimit.not_ge]
  rfl

/-- The same of the return stack, unless it is frozen. -/
theorem Core.refillRs_of_spilled {k : Core} (hroom : k.rs.length < 12) (hspill : 0 < k.rsSpill) (hfree : k.mfaActive = false)
    (hlimit : bndBase k.ccRsBnd + (k.rsSpill - 1) < bndLimit k.ccRsBnd) : k.refillRs =
      { k with rs := k.rs ++ [k.lmEntry (bndBase k.ccRsBnd + (k.rsSpill - 1))], rsSpill := k.rsSpill - 1 } := by
  have hdue : ¬(k.rs.length + 1 ≤ k.rs.length ∨ k.rsSpill = 0) := by omega
  rw [Core.refillRs, if_pos ⟨hroom, by rw [hfree]; rfl⟩, Core.rsFill, if_neg hdue, if_neg hlimit.not_ge]
  rfl

/-- The miss register of a line delivers it. -/
theorem Core.dcArrive_of_find {k : Core} {line : Nat} {m : Miss}
    (h : k.misses.find? (fun m => m.line.addr == line) = some m) :
    k.dcArrive line =
      { k with dcache := cachePut k.dcache m.line, misses := k.misses.filter fun x => x.line.addr != line } := by
  rw [Core.dcArrive, h]

/-- The data of a control-space load arrives, and there is room for it. -/
theorem execControlLoadReturn_of_push {s : State} {d : Nat} {x : Entry} {k' : Core} (hrun : (s.core d).run = .waitControl x)
    (hpush : { s.core d with run := .running }.push x = .ok k') :
    execControlLoadReturn d s = .next ((s.setCore d k').retire d) := by
  simp only [execControlLoadReturn, hrun, hpush]

/-- Settles O23: each event's own check holds where the statement says so, and its effect is a write of the core. -/
theorem coreEventResults : Obligations.CoreEventResults := by
  unfold Obligations.CoreEventResults
  intro s d k
  refine ⟨rfl, rfl, rfl, rfl, ?refillDs, ?refillRs, ?dcacheFill, ?icacheFill, ?controlReturn, ?fillDone, ?writtenBack,
    ?softPost, ?abortTimeout⟩
  case refillDs =>
    intro hroom hspill hlimit
    exact congrArg (fun k' => Host.Outcome.next (s.setCore d k')) (Core.refillDs_of_spilled hroom hspill hlimit)
  case refillRs =>
    intro hroom hspill hfree hlimit
    exact congrArg (fun k' => Host.Outcome.next (s.setCore d k')) (Core.refillRs_of_spilled hroom hspill hfree hlimit)
  case dcacheFill =>
    intro a m hm
    exact congrArg (fun k' => Host.Outcome.next (s.setCore d k')) (Core.dcArrive_of_find hm)
  case icacheFill =>
    intro a hmay hmiss
    exact congrArg Host.Outcome.next (if_pos ⟨hmay, by rw [hmiss]; rfl⟩)
  case controlReturn =>
    intro x k' hrun hpush
    exact execControlLoadReturn_of_push hrun hpush
  case fillDone =>
    intro i hst
    exact congrArg Host.Outcome.next (if_pos hst)
  case writtenBack =>
    intro i hwb
    exact congrArg Host.Outcome.next (if_pos hwb)
  case softPost =>
    intro v hv
    exact if_neg hv
  case abortTimeout =>
    intro hkernel hrunning habort
    exact ⟨_, ofKernel_code _ _ _, if_pos ⟨hkernel, hrunning, habort⟩⟩

/-! ### MXQ and SEQ (R181) -/

/-- Settles O24: past the checks of the record, the free ticket decides, and then whether the command may enter its queue. -/
theorem enqueueResults : Obligations.EnqueueResults := by
  unfold Obligations.EnqueueResults
  intro row hrow s d la k h hp hla t a rec0 n ext k1 ready
  have hexec : exec (row.1 d) s = .next (issue s d row.2.2 .plain (enqBody row.2.1 d)) := by
    fin_cases hrow <;> rfl
  have hclean := ne_true_of_eq_false hla
  rw [hexec]
  refine ⟨fun ha => congrArg _ (issue_taking h hp rfl ((if_neg hclean).trans (if_pos ha)) rfl),
    fun ha hfits hok hok64 hpsn => ?admitted⟩
  have halign := not_not_intro ha
  have hlen : 64 ≤ n := by
    change 64 ≤ if _ then _ else _
    split <;> decide
  have hinside : ¬(0x10000 < a + 64 ∨ (k.lmOk k.priv a 64 = true ∧ 0x10000 < a + n)) := by omega
  have hmay : ¬((!k.lmOk k.priv a 64) = true ∨ (!k.lmOk k.priv a n) = true) := by
    rw [hok64, hok]
    decide
  have hgood := ne_true_of_eq_false hpsn
  have hticket : (k.stacked [la]).freeTicket = k.freeTicket := rfl
  refine ⟨fun hfree => congrArg _ ?full, fun i k' hfree => ⟨?enters, ?waits⟩⟩
  case full =>
    refine issue_taking (b := .fault t cEnqueue 3) h hp rfl ((if_neg hclean).trans <| (if_neg halign).trans <|
      (if_neg hinside).trans <| (if_neg hmay).trans <| (if_neg hgood).trans ?_) rfl
    simp only [hticket, hfree]
    rfl
  case enters =>
    intro hready hroom u hpush
    have hmayEnter : t.waitOk (d / 8) (t.corePart d) k.cbBase k.pbBase ((pbWords rec0).getD 0 0) = true
        ∧ (!k.waitsAhead row.2.1 k.ticketOrder) = true := ⟨hready.1, congrArg not hready.2⟩
    have hspace : ¬(4 ≤ ((t.cluster (d / 8)).queue row.2.1).length ∧ row.2.1.takes (opOf (pbWords rec0)) = true) := by
      rintro ⟨hfull, htakes⟩
      exact hroom.elim hfull.not_gt fun hforeign => ne_true_of_eq_false hforeign htakes
    refine congrArg _ (issue_taking h hp rfl ((if_neg hclean).trans <| (if_neg halign).trans <|
      (if_neg hinside).trans <| (if_neg hmay).trans <| (if_neg hgood).trans ?_) (stackBody_run hpush))
    simp only [hticket, hfree]
    exact (if_pos hmayEnter).trans (if_neg hspace)
  case waits =>
    intro hno hpush
    have hmustWait : ¬(t.waitOk (d / 8) (t.corePart d) k.cbBase k.pbBase ((pbWords rec0).getD 0 0) = true
        ∧ (!k.waitsAhead row.2.1 k.ticketOrder) = true) :=
      fun hready => hno ⟨hready.1, (Bool.not_eq_true' _).mp hready.2⟩
    refine congrArg _ (issue_taking h hp rfl ((if_neg hclean).trans <| (if_neg halign).trans <|
      (if_neg hinside).trans <| (if_neg hmay).trans <| (if_neg hgood).trans ?_) (stackBody_run hpush))
    simp only [hticket, hfree]
    exact if_neg hmustWait

/-! ### Tickets (R181 to R183) -/

/-- Settles O25: QWAIT and QTEST by what their ticket says; the events of a ticket by their own checks. -/
theorem ticketResults : Obligations.TicketResults := by
  unfold Obligations.TicketResults
  refine ⟨?wait, ?enqueue, ?complete, ?enter⟩
  case wait =>
    intro s d x k h hp hx
    have hclean := ne_true_of_eq_false hx
    have hticket : (k.stacked [x]).ticketAt ((k.stacked [x]).ds.getD 0 ⟨0, false⟩) = k.ticketAt x := rfl
    refine ⟨fun t w k' ht hst => ⟨fun hpush => congrArg Host.Outcome.next ?waited,
        fun hpush => congrArg Host.Outcome.next ?tested⟩,
      fun t k' ht hst => ⟨congrArg Host.Outcome.next ?waits, fun hpush => congrArg Host.Outcome.next ?untested⟩,
      fun ht => congrArg Host.Outcome.next ?stray⟩
    case waited =>
      refine issue_taking h hp rfl ((if_neg hclean).trans ?_) (stackBody_run hpush)
      simp only [hticket, ht, hst]
      rfl
    case tested =>
      refine issue_taking (b := .retire ((s.fetched d).setCore d k')) h hp rfl ?_ rfl
      simp only [hticket, ht, hst]
      exact onStack_ok rfl hpush (if_neg hclean)
    case waits =>
      refine issue_taking (b := .stay ((s.fetched d).setCore d { (s.fetched d).core d with run := .waitTicket x.val.toNat }))
        h hp rfl ((if_neg hclean).trans ?_) rfl
      simp only [hticket, ht]
      rfl
    case untested =>
      refine issue_taking (b := .retire ((s.fetched d).setCore d k')) h hp rfl ?_ rfl
      simp only [hticket, ht]
      exact onStack_ok rfl hpush (if_neg hclean)
    case stray =>
      refine issue_taking (b := .fault (s.fetched d) cEnqueue 4) h hp rfl ((if_neg hclean).trans ?_) rfl
      simp only [hticket, ht]
  case enqueue =>
    intro s d t order e words ext
    dsimp only
    intro ht hwait hahead hroom
    have hmay : ((s.cluster (d / 8)).queue e).length < 4 ∨ (!e.takes (opOf words)) = true := hroom.imp_right (congrArg not)
    change execTicketEnqueue d t s = _
    simp only [execTicketEnqueue, ht]
    exact if_pos ⟨hwait, congrArg not hahead, hmay⟩
  case complete =>
    intro s d t order e w
    dsimp only
    intro ht
    change (_ → execTicketComplete d t s = _) ∧ (_ → execTicketComplete d t s = _)
    simp only [execTicketComplete, ht]
    exact ⟨fun hrun => if_neg hrun, fun hrun => if_pos hrun⟩
  case enter =>
    intro s d t order e words ext k htakes
    refine (if_pos htakes).trans ?_
    simp only [List.isEmpty_iff]
    rfl

end Sys2Proof.Machine
end

section
/-! Proofs about exceptions: what entry does to a core, what its frame holds, and when RTE takes that frame back. -/

namespace Sys2Proof.Machine

/-! ### Interrupts at a boundary, and entry (R200, R203) -/

section
variable {s : State} {d : Nat}

theorem run_of_issuing (h : s.issuing d = true) : (s.core d).run = .running ∧ s.power.holdIssue = false := by
  simpa [State.issuing] using h

/-- Between instructions an admitted interrupt goes before the one at the pc. -/
theorem issue_of_admitted {x : Nat × Nat} (h : s.issuing d = true) (hslot : (s.core d).slot = none)
    (hx : (s.core d).admitted = some x) (instr : BitVec 16) (pl : Place) (body : State → Body) :
    issue s d instr pl body = takeInterrupt s d x.1 x.2 := by
  simp [issue, h, hslot, hx]

/-- EXCEPTION_ENTRY takes it there too. -/
theorem enterPending_of_admitted {x : Nat × Nat} (hrun : (s.core d).run = .running) (hslot : (s.core d).slot = none)
    (hx : (s.core d).admitted = some x) : enterPending s d = takeInterrupt s d x.1 x.2 := by
  simp [enterPending, State.boundary, hrun, hslot, hx]

/-- A cause whose frame finds room on the return stack. -/
theorem takeException_of_room {c detail : Nat} {instr : BitVec 16} {k' : Core} (hmfa : (s.core d).mfaActive = false)
    (hpush : (s.core d).rsPushAll (((s.core d).frame c 0 detail (takenAt c (s.core d).priv) instr
      (s.acCount + Config.acSkew (d / 8))).reverse.map fun w => ⟨w, false⟩) = .ok k') :
    takeException s d c detail instr = s.setCore d (k'.enter c detail (takenAt c (s.core d).priv) instr
      (if takenAt c (s.core d).priv = .M then s.vbarM d (s.core d) else (s.core d).exVbarS.toNat)) := by
  simp only [takeException, hmfa, hpush, Bool.false_eq_true, false_and, if_false]

end

/-- Settles O14: issue looks for an interrupt before it fetches, and entry follows the push of the frame. -/
theorem interruptAndExceptionEntry : Obligations.InterruptAndExceptionEntry := by
  unfold Obligations.InterruptAndExceptionEntry
  exact ⟨fun s d instr pl body => ⟨fun x h hslot hx => issue_of_admitted h hslot hx instr pl body,
      fun h => issue_of_idle h instr pl body⟩,
    fun s d c detail instr k' hmfa hpush => takeException_of_room hmfa hpush⟩

/-! ### Fields of a word that is given by its number -/

theorem fld_w64 {n : Nat} (hn : n < 2 ^ 64) (hi lo : Nat) : fld (w64 n) hi lo = n / 2 ^ lo % 2 ^ (hi + 1 - lo) := by
  rw [fld, w64, BitVec.toNat_ofNat, Nat.mod_eq_of_lt hn]

theorem bitW_w64 {i : Nat} (hi : i < 64) (n : Nat) : bitW (w64 n) i = decide (n / 2 ^ i % 2 = 1) := by
  rw [bitW, w64, BitVec.getLsbD_ofNat, decide_eq_true hi, Bool.true_and, Nat.testBit_eq_decide_div_mod_eq]

theorem b2n_lt (b : Bool) : b2n b < 2 := by cases b <;> decide

theorem decide_b2n (b : Bool) : decide (b2n b = 1) = b := by cases b <;> rfl

/-- A bit of the word that is one flag's. -/
theorem bitW_of_b2n {n i : Nat} {b : Bool} (hi : i < 64) (h : n / 2 ^ i % 2 = b2n b) : bitW (w64 n) i = b := by
  rw [bitW_w64 hi, h, decide_b2n]

/-! ### The frame (Table 7.3) -/

theorem Priv.code_lt (p : Priv) : p.code < 4 := by cases p <;> decide

/-- A level's field names it. -/
theorem Priv.ofCode_code (p : Priv) : Priv.ofCode p.code = some p := by cases p <;> rfl

theorem loopEntries_length (l : List LoopLevel) (i : Nat) : (loopEntries l i).length = 2 := by
  unfold loopEntries
  split <;> rfl

/-- The loop level that its two entries hold, if it is open. -/
def levelOf (x y : W64) : Option LoopLevel := if bitW x 63 then some ⟨fld x 47 0, fld x 59 48, y.toNat⟩ else none

theorem frameLoops_eq (e : List W64) :
    frameLoops e = (List.range 4).filterMap fun i => levelOf (e.getD (8 + 2 * i) 0) (e.getD (9 + 2 * i) 0) := rfl

/-- The levels of a list within the first n places. -/
theorem filterMap_range_getElem? {α : Type} (l : List α) (n : Nat) : ((List.range n).filterMap fun i => l[i]?) = l.take n := by
  induction n with
  | zero => rfl
  | succ n ih =>
    rw [List.range_succ, List.filterMap_append, ih, List.take_add_one]
    cases h : l[n]? <;> simp [h]

/-- The two words of an open level give it back. -/
theorem levelOf_w64 {x : LoopLevel} (hstart : x.start < 2 ^ 48) (hlen : x.lenM1 < 4096) (hcount : x.count < 2 ^ 64) :
    levelOf (w64 (x.start % 2 ^ 48 + x.lenM1 % 4096 * 2 ^ 48 + 2 ^ 63)) (w64 x.count) = some x := by
  have hopen : bitW (w64 (x.start % 2 ^ 48 + x.lenM1 % 4096 * 2 ^ 48 + 2 ^ 63)) 63 = true :=
    (bitW_w64 (by decide) _).trans (decide_eq_true (by omega))
  rw [levelOf, if_pos hopen, fld_w64 (by omega), fld_w64 (by omega)]
  congr 2
  · omega
  · omega
  · exact Nat.mod_eq_of_lt hcount

/-- The entries of loop level i hold it, and hold none open where there is none. -/
theorem levelOf_loopEntries {l : List LoopLevel} (h : ∀ x ∈ l, x.start < 2 ^ 48 ∧ x.lenM1 < 4096 ∧ x.count < 2 ^ 64) (i : Nat) :
    levelOf ((loopEntries l i).getD 0 0) ((loopEntries l i).getD 1 0) = l[i]? := by
  unfold loopEntries
  split
  next x hx =>
    obtain ⟨hstart, hlen, hcount⟩ := h x (List.mem_of_getElem? hx)
    exact (levelOf_w64 hstart hlen hcount).trans hx.symm
  next hnone => rw [hnone]; rfl

section
variable (k : Core) (c mfa detail : Nat) (lvl : Priv) (instr : BitVec 16) (ac : Nat)

theorem Core.frame_length : (k.frame c mfa detail lvl instr ac).length = 16 := by
  simp [Core.frame, loopEntries_length]

/-- E8 to E15 are the pairs of the four loop levels. -/
theorem Core.frame_loopEntries {i : Nat} (hi : i < 4) :
    (k.frame c mfa detail lvl instr ac).getD (8 + 2 * i) 0 = (loopEntries k.loops i).getD 0 0
    ∧ (k.frame c mfa detail lvl instr ac).getD (9 + 2 * i) 0 = (loopEntries k.loops i).getD 1 0 := by
  have hpair (j : Nat) : ∃ x y, loopEntries k.loops j = [x, y] := List.length_eq_two.mp (loopEntries_length _ j)
  obtain ⟨x0, y0, h0⟩ := hpair 0
  obtain ⟨x1, y1, h1⟩ := hpair 1
  obtain ⟨x2, y2, h2⟩ := hpair 2
  obtain ⟨x3, y3, h3⟩ := hpair 3
  unfold Core.frame
  rw [h0, h1, h2, h3]
  interval_cases i
  · rw [h0]; exact ⟨rfl, rfl⟩
  · rw [h1]; exact ⟨rfl, rfl⟩
  · rw [h2]; exact ⟨rfl, rfl⟩
  · rw [h3]; exact ⟨rfl, rfl⟩

theorem Core.frameLoops_frame (hlen : k.loops.length ≤ 4)
    (h : ∀ x ∈ k.loops, x.start < 2 ^ 48 ∧ x.lenM1 < 4096 ∧ x.count < 2 ^ 64) :
    frameLoops (k.frame c mfa detail lvl instr ac) = k.loops := by
  have hlevel : ∀ i ∈ List.range 4, levelOf ((k.frame c mfa detail lvl instr ac).getD (8 + 2 * i) 0)
      ((k.frame c mfa detail lvl instr ac).getD (9 + 2 * i) 0) = k.loops[i]? := by
    intro i hi
    obtain ⟨hx, hy⟩ := k.frame_loopEntries c mfa detail lvl instr ac (List.mem_range.mp hi)
    rw [hx, hy, levelOf_loopEntries h]
  rw [frameLoops_eq, List.filterMap_congr hlevel, filterMap_range_getElem?, List.take_of_length_le hlen]

/-- E0: the pc, and whether it stands in a delay slot. -/
theorem Core.frame_place (hpc : k.pc < 2 ^ 48) (hmfa : mfa < 2) :
    fld ((k.frame c mfa detail lvl instr ac).getD 0 0) 47 0 = k.pc
    ∧ bitW ((k.frame c mfa detail lvl instr ac).getD 0 0) 48 = k.slot.isSome := by
  have hs := b2n_lt k.slot.isSome
  have hc := b2n_lt (causeIsInt c)
  have he0 : (k.frame c mfa detail lvl instr ac).getD 0 0
    = w64 (k.pc % 2 ^ 48 + b2n k.slot.isSome * 2 ^ 48 + b2n (causeIsInt c) * 2 ^ 49 + mfa * 2 ^ 50) := rfl
  rw [he0]
  exact ⟨(fld_w64 (by omega) _ _).trans (by omega), bitW_of_b2n (by decide) (by omega)⟩

/-- E1: the target of a delay slot. -/
theorem Core.frame_target {t : Nat} (hslot : k.slot = some t) (ht : t < 2 ^ 48) :
    fld ((k.frame c mfa detail lvl instr ac).getD 1 0) 47 0 = t := by
  have he1 : (k.frame c mfa detail lvl instr ac).getD 1 0 = w64 t := congrArg (fun o => w64 (Option.getD o 0)) hslot
  rw [he1, fld_w64 (by omega)]
  omega

/-- E2: the level, IE, DCE and the atomic window. -/
theorem Core.frame_mode (hlen : k.loops.length ≤ 4) (hrem : k.winRem ≤ 1024) (hclosed : k.winOpen = false → k.winRem = 0) :
    let e2 := (k.frame c mfa detail lvl instr ac).getD 2 0
    fld e2 1 0 = k.priv.code ∧ bitW e2 8 = k.ie ∧ bitW e2 9 = k.dce ∧ bitW e2 43 = k.winOpen ∧ fld e2 42 32 = k.winRem := by
  have hp := k.priv.code_lt
  have hi := b2n_lt k.ie
  have hd := b2n_lt k.dce
  have ho := b2n_lt k.winOpen
  have hwin : (if k.winOpen then k.winRem * 2 ^ 32 + 2 ^ 43 else 0) = k.winRem * 2 ^ 32 + b2n k.winOpen * 2 ^ 43 := by
    cases hw : k.winOpen with
    | true => rfl
    | false => rw [hclosed hw]; rfl
  have he2 : (k.frame c mfa detail lvl instr ac).getD 2 0 = w64 (k.priv.code + b2n k.ie * 2 ^ 8 + b2n k.dce * 2 ^ 9
      + k.loops.length * 2 ^ 16 + (k.winRem * 2 ^ 32 + b2n k.winOpen * 2 ^ 43)) := by
    rw [← hwin]
    rfl
  dsimp only
  rw [he2]
  exact ⟨(fld_w64 (by omega) _ _).trans (by omega), bitW_of_b2n (by decide) (by omega), bitW_of_b2n (by decide) (by omega),
    bitW_of_b2n (by decide) (by omega), (fld_w64 (by omega) _ _).trans (by omega)⟩

end

/-- Settles O15: each field of the frame is as wide as what stands in it. -/
theorem frameRestoresContext : Obligations.FrameRestoresContext := by
  unfold Obligations.FrameRestoresContext
  intro k k' c mfa detail lvl instr ac e hpc hslot hlen hloops hrem hclosed _ hmfa
  obtain ⟨hpcField, hslotBit⟩ := k.frame_place c mfa detail lvl instr ac hpc hmfa
  obtain ⟨hpriv, hie, hdce, hopen, hremField⟩ := k.frame_mode c mfa detail lvl instr ac hlen hrem hclosed
  refine ⟨k.frame_length .., hpriv ▸ k.priv.ofCode_code, hpcField, ?slot, rfl, hie, hdce,
    k.frameLoops_frame _ _ _ _ _ _ hlen hloops, hopen, ?rem⟩
  case slot =>
    change (if bitW (e.getD 0 0) 48 then some (fld (e.getD 1 0) 47 0) else none) = k.slot
    rw [hslotBit]
    cases hk : k.slot with
    | none => rfl
    | some t => exact congrArg some (k.frame_target c mfa detail lvl instr ac hk (hslot t hk))
  case rem =>
    change (if bitW (e.getD 2 0) 43 then fld (e.getD 2 0) 42 32 else 0) = k.winRem
    rw [hopen, hremField]
    cases hk : k.winOpen with
    | true => rfl
    | false => exact (hclosed hk).symm

/-! ### RTE (R214, R215) -/

/-- What RTE makes of the top frame l: PRIV_RETURN, or the core k without the frame resumes it. -/
def rteFrame (s : State) (d : Nat) (l : List Entry) (k : Core) : Body :=
  let e := l.map (·.val)
  match Priv.ofCode (fld (e.getD 2 0) 1 0) with
  | none => .fault s cPrivReturn (e.getD 2 0).toNat
  | some lvl =>
    if lvl.above (s.core d).priv || l.any (·.psn) then .fault s cPrivReturn (e.getD 2 0).toNat
    else .stay (s.setCore d (k.restore e lvl))

section
variable {s : State} {d : Nat} {l : List Entry} {k : Core}

/-- In the machine frame area the last frame is the top one. -/
theorem rteBody_of_mfa (h : (s.core d).mfaActive = true) : rteBody d s = rteFrame s d (s.core d).mfaTop
    (if (s.core d).mfaFrames ≤ 1 then (s.core d).mfaThaw else { s.core d with mfaFrames := (s.core d).mfaFrames - 1 }) := by
  unfold rteBody
  dsimp only
  rw [if_pos h]
  rfl

/-- Else it is the top sixteen entries of the return stack, which STACK demands. -/
theorem rteBody_of_stack (h : (s.core d).mfaActive = false) : rteBody d s = onStack s ((s.core d).rsNeed 16)
    fun k => rteFrame s d (k.rs.take 16) { k with rs := k.rs.drop 16 } := by
  unfold rteBody
  dsimp only
  rw [if_neg (ne_true_of_eq_false h)]
  rfl

theorem rteBody_of_rsNeed (h : (s.core d).mfaActive = false) (hneed : (s.core d).rsNeed 16 = .ok { k with rs := l ++ k.rs })
    (hl : l.length = 16) : rteBody d s = rteFrame s d l k := by
  refine onStack_ok (rteBody_of_stack h) hneed ?_
  dsimp only
  rw [← hl, List.take_left, List.drop_left]

/-- E2 of a frame's words. -/
theorem map_val_getD (l : List Entry) (n : Nat) : (l.map (·.val)).getD n 0 = (l.getD n ⟨0, false⟩).val :=
  List.getD_map l ⟨0, false⟩ Entry.val

theorem rteFrame_resumes {lvl : Priv} (hlvl : Priv.ofCode (fld (l.getD 2 ⟨0, false⟩).val 1 0) = some lvl)
    (hle : lvl.code ≤ (s.core d).priv.code) (hpsn : l.any (·.psn) = false) :
    rteFrame s d l k = .stay (s.setCore d (k.restore (l.map (·.val)) lvl)) := by
  have hok : (lvl.above (s.core d).priv || l.any (·.psn)) = false := by
    rw [hpsn, Bool.or_false]
    exact decide_eq_false hle.not_gt
  unfold rteFrame
  dsimp only
  rw [map_val_getD, hlvl]
  exact if_neg (ne_true_of_eq_false hok)

/-- A frame that names no level, or that is poisoned. -/
theorem rteFrame_refuses (h : Priv.ofCode (fld (l.getD 2 ⟨0, false⟩).val 1 0) = none ∨ l.any (·.psn) = true) :
    rteFrame s d l k = .fault s cPrivReturn (l.getD 2 ⟨0, false⟩).val.toNat := by
  unfold rteFrame
  dsimp only
  rw [map_val_getD]
  split
  next => rfl
  next lvl hlvl =>
    have hpsn : l.any (·.psn) = true := h.resolve_left (by rw [hlvl]; exact Option.some_ne_none lvl)
    exact if_pos (Bool.or_eq_true_iff.mpr (.inr hpsn))

/-- A frame that names a level above the current one. -/
theorem rteFrame_refuses_above {lvl : Priv} (hlvl : Priv.ofCode (fld (l.getD 2 ⟨0, false⟩).val 1 0) = some lvl)
    (hlt : (s.core d).priv.code < lvl.code) : rteFrame s d l k = .fault s cPrivReturn (l.getD 2 ⟨0, false⟩).val.toNat := by
  have habove : lvl.above (s.core d).priv = true := decide_eq_true hlt
  unfold rteFrame
  dsimp only
  rw [map_val_getD, hlvl]
  exact if_pos (Bool.or_eq_true_iff.mpr (.inl habove))

end

/-- The bit patterns that name no level. -/
theorem Priv.ofCode_eq_none_iff (b : Nat) : Priv.ofCode b = none ↔ b = 2 ∨ 4 ≤ b := by
  unfold Priv.ofCode
  split_ifs <;> simp <;> omega

/-- Settles O16: wherever the top frame lies, RTE makes the same checks of it. -/
theorem exceptionReturnResults : Obligations.ExceptionReturnResults := by
  unfold Obligations.ExceptionReturnResults
  refine ⟨?stack, ?area, ?areaRefused, ⟨?takenAtM, Priv.ofCode_eq_none_iff, fun detail v => rfl⟩, ?lacking, ?entry⟩
  case stack =>
    intro s d l k h hmfa hneed hl
    have hframe := rteBody_of_rsNeed hmfa hneed hl
    exact ⟨fun lvl hlvl hle hpsn => congrArg _ (issue_run h (hframe.trans (rteFrame_resumes hlvl hle hpsn)) rfl),
      fun hbad => congrArg _ (issue_run h (hframe.trans (rteFrame_refuses hbad)) rfl),
      fun lvl hlvl hlt => congrArg _ (issue_run h (hframe.trans (rteFrame_refuses_above hlvl hlt)) rfl)⟩
  case area =>
    intro s d lvl h k hmfa hlvl hle hpsn
    exact congrArg _ (issue_run h ((rteBody_of_mfa hmfa).trans (rteFrame_resumes hlvl hle hpsn)) rfl)
  case areaRefused =>
    intro s d h k refused hmfa
    exact ⟨fun hbad => congrArg _ (issue_run h ((rteBody_of_mfa hmfa).trans (rteFrame_refuses hbad)) rfl),
      fun lvl hlvl hlt => congrArg _ (issue_run h ((rteBody_of_mfa hmfa).trans (rteFrame_refuses_above hlvl hlt)) rfl)⟩
  case takenAtM =>
    intro p
    cases p <;> rfl
  case lacking =>
    intro s d e h hmfa hneed
    exact congrArg _ (issue_run h (onStack_error (rteBody_of_stack hmfa) hneed) rfl)
  case entry =>
    intro s d x h hslot hx
    obtain ⟨hrun, hhold⟩ := run_of_issuing h
    exact congrArg _ ((if_neg (ne_true_of_eq_false hhold)).trans (enterPending_of_admitted hrun hslot hx))

end Sys2Proof.Machine
end

section
/-! Proofs about device memory: every command keeps its canonical form. A lemma named `_mem` says that an operation leaves memory
alone, one named `_canon` that it keeps the form. Where the latter is a rewrite whose hypothesis is about an updated state,
`simp` runs with `-implicitDefEqProofs`: else it discharges the hypothesis without a proof term, and cannot use it. -/

namespace Sys2Proof.Machine

/-! ### What it means to keep memory -/

/-- The canonical form of device memory, `Memory.wf`, as a definition of its own: `simp` takes it whole and does not split it
into its four parts. -/
def Mem.Canon (m : Mem) : Prop := Memory.wf m

/-- Where a command answers a next state, that state's memory is canonical. -/
def NextCanon (o : Host.Outcome State Fault Refusal) : Prop := ∀ t, o = .next t → t.mem.Canon

@[simp] theorem nextCanon_next {t : State} : NextCanon (.next t) ↔ t.mem.Canon :=
  ⟨fun h => h t rfl, fun h u hu => by cases hu; exact h⟩
@[simp] theorem nextCanon_fault {f : Fault} : NextCanon (.fault f) := fun _ h => by cases h

/-- One step of a fold whose accumulator carries a state leaves memory alone. A definition of its own, as `FoldKeepsQueue` is. -/
def FoldKeepsMem {σ α : Type} (st : σ → State) (f : σ → α → σ) : Prop := ∀ t a, (st (f t a)).mem = (st t).mem

@[simp] theorem foldKeepsMem_iff {σ α : Type} (st : σ → State) (f : σ → α → σ) :
    FoldKeepsMem st f ↔ ∀ t a, (st (f t a)).mem = (st t).mem := ⟨id, id⟩

/-- A fold whose every step leaves memory alone leaves it alone. -/
theorem FoldKeepsMem.foldl {σ α : Type} {st : σ → State} {f : σ → α → σ} (h : FoldKeepsMem st f) (l : List α) (s : σ) :
    (st (l.foldl f s)).mem = (st s).mem :=
  foldl_keeps (fun t => (st t).mem = (st s).mem) f (fun t a ht => (h t a).trans ht) l s rfl

@[simp] theorem foldl_state_mem {α : Type} (f : State → α → State) (h : FoldKeepsMem id f) (l : List α) (s : State) :
    (l.foldl f s).mem = s.mem := h.foldl l s
@[simp] theorem foldl_fst_state_mem {α β : Type} (f : State × β → α → State × β) (h : FoldKeepsMem Prod.fst f) (l : List α)
    (r : State × β) : (l.foldl f r).1.mem = r.1.mem := h.foldl l r

/-- One step of a fold keeps the canonical form. -/
def FoldKeepsCanon {σ α : Type} (st : σ → State) (f : σ → α → σ) : Prop :=
  ∀ t a, (st t).mem.Canon → (st (f t a)).mem.Canon

@[simp] theorem foldKeepsCanon_iff {σ α : Type} (st : σ → State) (f : σ → α → σ) :
    FoldKeepsCanon st f ↔ ∀ t a, (st t).mem.Canon → (st (f t a)).mem.Canon := ⟨id, id⟩

/-- A fold whose every step keeps the canonical form keeps it. -/
theorem FoldKeepsCanon.foldl {σ α : Type} {st : σ → State} {f : σ → α → σ} (hf : FoldKeepsCanon st f) (l : List α) {s : σ}
    (h : (st s).mem.Canon) : (st (l.foldl f s)).mem.Canon :=
  foldl_keeps (fun t => (st t).mem.Canon) f hf l s h

@[simp] theorem foldl_canon {α : Type} {f : State → α → State} (hf : FoldKeepsCanon id f) (l : List α) {s : State}
    (h : s.mem.Canon) : (l.foldl f s).mem.Canon := hf.foldl l h
@[simp] theorem foldl_fst_canon {α β : Type} {f : State × β → α → State × β} (hf : FoldKeepsCanon Prod.fst f) (l : List α)
    {r : State × β} (h : r.1.mem.Canon) : (l.foldl f r).1.mem.Canon := hf.foldl l h
@[simp] theorem foldl_mv_canon {α : Type} {f : Mv → α → Mv} (hf : FoldKeepsCanon Mv.s f) (l : List α) {m : Mv}
    (h : m.s.mem.Canon) : (l.foldl f m).s.mem.Canon := hf.foldl l h

@[simp] theorem ite_mem (c : Prop) [Decidable c] (a b : State) :
    (if c then a else b).mem = if c then a.mem else b.mem := apply_ite State.mem c a b
@[simp] theorem ite_fst_mem {α : Type} (c : Prop) [Decidable c] (a b : State × α) :
    (if c then a else b).1.mem = if c then a.1.mem else b.1.mem := apply_ite (fun r => r.1.mem) c a b
@[simp] theorem ite_mv_mem (c : Prop) [Decidable c] (a b : Mv) :
    (if c then a else b).s.mem = if c then a.s.mem else b.s.mem := apply_ite (fun m => m.s.mem) c a b
@[simp] theorem ite_foldRes_mem (c : Prop) [Decidable c] (a b : FoldRes) :
    (if c then a else b).s.mem = if c then a.s.mem else b.s.mem := apply_ite (fun r => r.s.mem) c a b
@[simp] theorem ite_canon (c : Prop) [Decidable c] (a b : Mem) :
    (if c then a else b).Canon ↔ if c then a.Canon else b.Canon := by split <;> rfl
@[simp] theorem ite_body_state (c : Prop) [Decidable c] (a b : Body) :
    (if c then a else b).state = if c then a.state else b.state := apply_ite Body.state c a b

/-! ### The operations that change memory -/

/-- Poisoning further words keeps the form. -/
theorem Mem.Canon.poisoned {m : Mem} (h : m.Canon) (l : List Nat) : Mem.Canon { m with psn := l.foldl sadd m.psn } := by
  obtain ⟨hbytes, hpsn, hrest⟩ := h
  exact ⟨hbytes, rising_foldl_sadd l _ hpsn, hrest⟩
/-- Memory that holds nothing but errors not yet found is canonical. -/
theorem Mem.canon_of_latent (l : SMap StoreErr) : Mem.Canon ⟨[], [], l, [], []⟩ := by simp [Mem.Canon, Memory.wf, Canonical]

@[simp] theorem readErr_canon {s : State} (die w : Nat) (x : StoreErr) (h : s.mem.Canon) : (readErr s die w x).1.mem.Canon :=
  (readErr_mem s die w x).2 h
@[simp] theorem readMem_canon {s : State} (die a n : Nat) (h : s.mem.Canon) : (readMem s die a n).1.mem.Canon :=
  (readMem_mem s die a n).2 h
@[simp] theorem writeMem_canon {s : State} (die a : Nat) (l : List PB) (h : s.mem.Canon) : (writeMem s die a l).mem.Canon :=
  writeMem_wf s die a l h
@[simp] theorem State.cvSet_canon {s : State} (die a c : Nat) (h : s.mem.Canon) : (s.cvSet die a c).mem.Canon :=
  cvSet_wf s die a c h
@[simp] theorem State.cvClear_canon {s : State} (die a n : Nat) (h : s.mem.Canon) : (s.cvClear die a n).mem.Canon :=
  cvClear_wf s die a n h
@[simp] theorem storeMem_canon {s : State} (die a : Nat) (l : List PB) (h : s.mem.Canon) : (storeMem s die a l).mem.Canon :=
  storeMem_wf s die a l h
@[simp] theorem Mem.zero_canon {m : Mem} (f : Nat → Bool) (h : m.Canon) : (m.zero f).Canon := zero_wf m f h
@[simp] theorem State.clearPart_canon {s : State} (p : Nat) (h : s.mem.Canon) : (s.clearPart p).mem.Canon := clearPart_wf s p h
@[simp] theorem State.placeMonitor_canon {s : State} (h : s.mem.Canon) : s.placeMonitor.mem.Canon := placeMonitor_wf s h
@[simp] theorem State.stageMonitor_canon {s : State} (l : List Byte) (x : SecInfo) (h : s.mem.Canon) :
    (s.stageMonitor l x).mem.Canon := stageMonitor_wf s l x h
@[simp] theorem State.poisonWord_canon {s : State} (w : Nat) (h : s.mem.Canon) : (s.poisonWord w).mem.Canon := poisonWord_wf s w h
@[simp] theorem State.copied_canon {s : State} (f : Nat → Bool) (h : s.mem.Canon) : (s.copied f).mem.Canon := copied_wf s f h
@[simp] theorem State.writeBack_canon {s : State} (w : Nat) (h : s.mem.Canon) : (s.writeBack w).mem.Canon := writeBack_wf s w h
@[simp] theorem State.deviceReset_canon (s : State) : s.deviceReset.mem.Canon := deviceReset_wf s

/-! ### Messages and the log -/

@[simp] theorem State.msixPut_mem (s : State) (p fn v : Nat) : (s.msixPut p fn v).mem = s.mem := by simp [State.msixPut]
@[simp] theorem State.msixFlush_mem (s : State) (p : Nat) : (s.msixFlush p).mem = s.mem := by simp [State.msixFlush]

/-! ### Commands, channels and kernels: their ends -/

@[simp] theorem State.updCmd_mem (s : State) (id : Nat) (f : Cmd → Cmd) :
    (s.updCmd id f).mem = s.mem := by simp [State.updCmd]
@[simp] theorem State.restChan_mem (s : State) (ch : Nat) : (s.restChan ch).mem = s.mem := by simp [State.restChan]
@[simp] theorem State.haltChan_mem (s : State) (ch : Nat) (st : Status) (sq : Nat) :
    (s.haltChan ch st sq).mem = s.mem := by simp [State.haltChan]
@[simp] theorem State.hayward_mem (s : State) (d n : Nat) : (s.hayward d n).mem = s.mem := by simp [State.hayward]

/-! ### Units, recovery and sparing -/

@[simp] theorem State.endAction_mem (s : State) (kind num : Nat) :
    (s.endAction kind num).mem = s.mem := by simp [State.endAction]
@[simp] theorem State.record_mem (s : State) (type die unit row place target : Nat) :
    (s.record type die unit row place target).mem = s.mem := by simp [State.record]

/-! ### Device memory and host memory -/

@[simp] theorem State.hostWrite_mem (s : State) (p fn a : Nat) (l : List PB) :
    (s.hostWrite p fn a l).mem = s.mem := by simp [State.hostWrite]

/-! ### Arming and disarming -/

@[simp] theorem State.armPut_mem (s : State) (k p n : Nat) : (s.armPut k p n).mem = s.mem := by simp [State.armPut]
@[simp] theorem State.armEnd_mem (s : State) (k p n : Nat) : (s.armEnd k p n).mem = s.mem := by simp [State.armEnd]
@[simp] theorem rgnArmWrite_mem (s : State) (p n : Nat) (v : W64) : (rgnArmWrite s p n v).mem = s.mem := by simp [rgnArmWrite]
@[simp] theorem rgnArmEnd_mem (s : State) (p n : Nat) : (rgnArmEnd s p n).mem = s.mem := by simp [rgnArmEnd]
@[simp] theorem rgnDisarmWrite_mem (s : State) (p n : Nat) (v : Option W64) : (rgnDisarmWrite s p n v).mem = s.mem := by
  unfold rgnDisarmWrite
  repeat' split
  all_goals simp
@[simp] theorem rgnHiWrite_mem (s : State) (p n : Nat) (v : W64) : (rgnHiWrite s p n v).mem = s.mem := by simp [rgnHiWrite]
@[simp] theorem sbArmWrite_mem (s : State) (p n : Nat) (v : W64) : (sbArmWrite s p n v).mem = s.mem := by simp [sbArmWrite]
@[simp] theorem sbArmEnd_canon {s : State} (p n : Nat) (h : s.mem.Canon) : (sbArmEnd s p n).mem.Canon := by simp [h, sbArmEnd]
@[simp] theorem sbDisarmWrite_mem (s : State) (p n : Nat) (v : Option W64) : (sbDisarmWrite s p n v).mem = s.mem := by
  unfold sbDisarmWrite
  repeat' split
  all_goals simp
@[simp] theorem sbAddrWrite_mem (s : State) (p n a : Nat) (v : W64) :
    (sbAddrWrite s p n a v).mem = s.mem := by simp [sbAddrWrite]
@[simp] theorem winArmWrite_mem (s : State) (p w : Nat) (v : W64) : (winArmWrite s p w v).mem = s.mem := by simp [winArmWrite]
@[simp] theorem winArmEnd_mem (s : State) (p w : Nat) : (winArmEnd s p w).mem = s.mem := by simp [winArmEnd]
@[simp] theorem winDisarmWrite_mem (s : State) (p w : Nat) (v : Option W64) : (winDisarmWrite s p w v).mem = s.mem := by
  unfold winDisarmWrite
  repeat' split
  all_goals simp
@[simp] theorem winLoWrite_mem (s : State) (p w : Nat) (v : W64) : (winLoWrite s p w v).mem = s.mem := by simp [winLoWrite]
@[simp] theorem b2ArmWrite_mem (s : State) (p n : Nat) (v : W64) : (b2ArmWrite s p n v).mem = s.mem := by simp [b2ArmWrite]
@[simp] theorem b2ArmEnd_mem (s : State) (p n : Nat) : (b2ArmEnd s p n).mem = s.mem := by simp [b2ArmEnd]
@[simp] theorem b2DisarmWrite_mem (s : State) (p n : Nat) (v : Option W64) : (b2DisarmWrite s p n v).mem = s.mem := by
  unfold b2DisarmWrite
  repeat' split
  all_goals simp
@[simp] theorem b2HiWrite_mem (s : State) (p n : Nat) (v : W64) : (b2HiWrite s p n v).mem = s.mem := by simp [b2HiWrite]

/-! ### Partner tables, keys and ports -/

@[simp] theorem State.setPtState_mem (s : State) (r st : Nat) : (s.setPtState r st).mem = s.mem := by simp [State.setPtState]
@[simp] theorem State.endOpsWith_mem (s : State) (r : Nat) (st : Status) (except : Option Nat) :
    (s.endOpsWith r st except).mem = s.mem := by simp [State.endOpsWith]
@[simp] theorem State.expel_mem (s : State) (r : Nat) (except : Option Nat) :
    (s.expel r except).mem = s.mem := by simp [State.expel]
@[simp] theorem State.ptErr_mem (s : State) (p e : Nat) : (s.ptErr p e).mem = s.mem := by simp [State.ptErr]
@[simp] theorem ptWrite_mem (s : State) (p r : Nat) : (ptWrite s p r).mem = s.mem := by
  -- else the kernel unfolds the fold over the eight words to see that the two sides agree
  simp -implicitDefEqProofs [ptWrite]
@[simp] theorem ptRead_mem (s : State) (p r : Nat) : (ptRead s p r).mem = s.mem := by simp [ptRead]
@[simp] theorem ptExpel_mem (s : State) (p r : Nat) : (ptExpel s p r).mem = s.mem := by simp [ptExpel]
@[simp] theorem keyWrite_mem (s : State) (p : Nat) (v : W64) : (keyWrite s p v).mem = s.mem := by simp [keyWrite]
@[simp] theorem portEn_mem (s : State) (k : Nat) (en : Bool) : (portEn s k en).mem = s.mem := by simp [portEn]

/-! ### Register writes -/

@[simp] theorem pvAckWrite_mem (s : State) (p : Nat) (v : W64) : (pvAckWrite s p v).mem = s.mem := by
  simp [pvAckWrite, present_mem]
@[simp] theorem mbWrite_mem (s : State) (p : Nat) (m v : W64) : (mbWrite s p m v).mem = s.mem := by simp [mbWrite]
@[simp] theorem partWrite_mem (s : State) (host : Bool) (p o : Nat) (m v : W64) :
    (partWrite s host p o m v).mem = s.mem := by simp [partWrite]
@[simp] theorem cluWrite_mem (s : State) (c o : Nat) (m v : W64) : (cluWrite s c o m v).mem = s.mem := by simp [cluWrite]
@[simp] theorem coreWriteOther_mem (s : State) (d o : Nat) (m v : W64) :
    (coreWriteOther s d o m v).mem = s.mem := by simp [coreWriteOther]
@[simp] theorem writeReg_mem (s : State) (host : Bool) (_p a : Nat) (m v : W64) :
    (writeReg s host _p a m v).mem = s.mem := by simp [writeReg]

/-! ### Exceptions and interrupts -/

@[simp] theorem takeException_mem (s : State) (d c detail : Nat) (instr : BitVec 16) :
    (takeException s d c detail instr).mem = s.mem := by
  simp only [takeException]
  repeat' split
  all_goals simp
@[simp] theorem takeInterrupt_mem (s : State) (d c detail : Nat) :
    (takeInterrupt s d c detail).mem = s.mem := by simp [takeInterrupt]
@[simp] theorem State.boundary_mem (s : State) (d : Nat) : (s.boundary d).mem = s.mem := by
  unfold State.boundary
  split <;> simp

/-! ### Issue -/

@[simp] theorem readLine_canon {s : State} (d a : Nat) (h : s.mem.Canon) :
    (readLine s d a).1.mem.Canon := by simp [h, readLine]
@[simp] theorem State.icFill_canon {s : State} (d a : Nat) (h : s.mem.Canon) :
    (s.icFill d a).1.mem.Canon := by simp [h, State.icFill]
@[simp] theorem fetch_canon {s : State} (d : Nat) (h : s.mem.Canon) : (fetch s d).1.mem.Canon := by
  simp only [fetch]
  split <;> simp [h, parityError_mem]
@[simp] theorem State.retire_mem (s : State) (d : Nat) : (s.retire d).mem = s.mem := by simp [State.retire]
@[simp] theorem Body.run_mem (b : Body) (d : Nat) (instr : BitVec 16) : (Body.run b d instr).mem = b.state.mem := by
  unfold Body.run
  split <;> simp
theorem issue_canon {s : State} (d : Nat) (instr : BitVec 16) (pl : Place) {body : State → Body}
    (hb : ∀ t, t.mem.Canon → (body t).state.mem.Canon) (h : s.mem.Canon) : (issue s d instr pl body).mem.Canon := by
  have hf : (fetch s d).1.mem.Canon := fetch_canon d h
  simp only [issue]
  repeat' split
  all_goals simp [h, hf, hb _ hf]
/-- A core instruction whose body keeps the canonical form keeps it. -/
theorem issue_nextCanon {s : State} {d : Nat} {instr : BitVec 16} {pl : Place} {body : State → Body} (h : s.mem.Canon)
    (hb : ∀ t, t.mem.Canon → (body t).state.mem.Canon) : NextCanon (.next (issue s d instr pl body)) :=
  nextCanon_next.2 (issue_canon d instr pl hb h)
/-- So does one whose body leaves memory alone. -/
theorem issue_nextCanon_of_mem {s : State} {d : Nat} {instr : BitVec 16} {pl : Place} {body : State → Body} (h : s.mem.Canon)
    (hb : ∀ t, (body t).state.mem = t.mem) : NextCanon (.next (issue s d instr pl body)) :=
  issue_nextCanon h fun t ht => (hb t).symm ▸ ht
@[simp] theorem stackBody_mem (s : State) (d : Nat) (r : Except Nat Core) : (stackBody s d r).state.mem = s.mem := by
  unfold stackBody
  split <;> simp
@[simp] theorem aluOp_mem (d n : Nat) (f : List Entry → List Entry) (s : State) :
    (aluOp d n f s).state.mem = s.mem := by simp [aluOp]
@[simp] theorem slowOp_mem (d n : Nat) (f : List Entry → List Entry) (s : State) :
    (slowOp d n f s).state.mem = s.mem := by simp [slowOp]
@[simp] theorem fpOp_mem (d n : Nat) (f : Bool → List Nat → Nat × Fl) (s : State) : (fpOp d n f s).state.mem = s.mem := by
  unfold fpOp
  split <;> simp

/-! ### Literal, stack, integer and FP64 instructions -/

@[simp] theorem pickBody_mem (d : Nat) (s : State) : (pickBody d s).state.mem = s.mem := by
  simp only [pickBody]
  repeat' split
  all_goals simp
@[simp] theorem torBody_mem (d : Nat) (s : State) : (torBody d s).state.mem = s.mem := by
  unfold torBody
  split <;> simp
@[simp] theorem fromrBody_mem (pop : Bool) (d : Nat) (s : State) : (fromrBody pop d s).state.mem = s.mem := by
  unfold fromrBody
  split <;> simp
@[simp] theorem shiftBody_mem (d : Nat) (f : W64 → Nat → W64) (s : State) : (shiftBody d f s).state.mem = s.mem := by
  unfold shiftBody
  repeat' split
  all_goals simp
@[simp] theorem selBody_mem (d : Nat) (s : State) : (selBody d s).state.mem = s.mem := by
  unfold selBody
  repeat' split
  all_goals simp

/-! ### Device reset and power pins -/

@[simp] theorem State.powerOff_canon (s : State) : s.powerOff.mem.Canon := by simp [State.powerOff]
@[simp] theorem State.powerUp_mem (s : State) : s.powerUp.mem = s.mem := by simp [State.powerUp]
theorem execVinOutOfRange_canon (dv : Nat) {s : State} (h : s.mem.Canon) : NextCanon (execVinOutOfRange dv s) := by
  unfold execVinOutOfRange
  repeat' split
  all_goals simp [h]

/-! ### Scrubbing, write-backs and repair -/

@[simp] theorem State.lmFound_canon {s : State} (w : Nat) (x : StoreErr) (h : s.mem.Canon) : (s.lmFound w x).mem.Canon := by
  have hgone : Mem.Canon { s.mem with latent := mdel s.mem.latent w } := h
  unfold State.lmFound
  split <;> simp [h, hgone]
theorem execScrubRead_canon (r : StoreRef) {s : State} (h : s.mem.Canon) : NextCanon (execScrubRead r s) := by
  unfold execScrubRead
  repeat' split
  all_goals simp [h]
theorem execCorrectedWriteback_canon (r : StoreRef) {s : State} (h : s.mem.Canon) :
    NextCanon (execCorrectedWriteback r s) := by
  unfold execCorrectedWriteback
  split <;> simp [h]
theorem execSpareCopyDone_canon (b : BankRef) (row : Nat) {s : State} (h : s.mem.Canon) :
    NextCanon (execSpareCopyDone b row s) := by
  simp only [execSpareCopyDone]
  repeat' split
  all_goals simp [h]
theorem execGranuleCopyDone_canon (g : Nat) {s : State} (h : s.mem.Canon) : NextCanon (execGranuleCopyDone g s) := by
  unfold execGranuleCopyDone
  split <;> simp [h]
theorem execPprDone_canon (r : DdrRow) {s : State} (h : s.mem.Canon) : NextCanon (execPprDone r s) := by
  unfold execPprDone
  split <;> simp [h]
theorem execPprTimeout_canon (r : DdrRow) {s : State} (h : s.mem.Canon) : NextCanon (execPprTimeout r s) := by
  unfold execPprTimeout
  split <;> simp [h]
theorem execDdrGranuleCopyDone_canon (g : Nat) {s : State} (h : s.mem.Canon) : NextCanon (execDdrGranuleCopyDone g s) := by
  unfold execDdrGranuleCopyDone
  split <;> simp [h]
theorem execRepairRecordWrite_canon {s : State} (h : s.mem.Canon) : NextCanon (execRepairRecordWrite s) := by
  simp only [execRepairRecordWrite]
  repeat' split
  all_goals simp [h]
theorem execBeatReplay_canon (c a : Nat) (ok : Bool) {s : State} (h : s.mem.Canon) : NextCanon (execBeatReplay c a ok s) := by
  unfold execBeatReplay
  split <;> simp [h, h.poisoned]
theorem execBondErased_canon (c grp : Nat) {s : State} (h : s.mem.Canon) : NextCanon (execBondErased c grp s) := by
  simp only [execBondErased]
  repeat' split
  all_goals simp [h]
@[simp] theorem State.d2dRetire_mem (s : State) (grp : Nat) : (s.d2dRetire grp).mem = s.mem := by simp [State.d2dRetire]
theorem execD2dLaneRepaired_canon (grp : Nat) (ok : Bool) {s : State} (h : s.mem.Canon) :
    NextCanon (execD2dLaneRepaired grp ok s) := by
  unfold execD2dLaneRepaired
  repeat' split
  all_goals simp [h]

/-! ### Fallow rotation -/

@[simp] theorem State.takeRole_mem (s : State) (c ph : Nat) : (s.takeRole c ph).mem = s.mem := by simp [State.takeRole]
@[simp] theorem State.freed_mem (s : State) (ph : Nat) (parts : BitVec 4) :
    (s.freed ph parts).mem = s.mem := by simp [State.freed]
theorem execClusterDue_canon (c : Nat) {s : State} (h : s.mem.Canon) : NextCanon (execClusterDue c s) := by
  unfold execClusterDue
  repeat' split
  all_goals simp [h]
theorem execClusterBorrowed_canon (c : Nat) {s : State} (h : s.mem.Canon) : NextCanon (execClusterBorrowed c s) := by
  simp only [execClusterBorrowed]
  repeat' split
  all_goals simp [h]
theorem execMigrationStart_canon (c : Nat) {s : State} (h : s.mem.Canon) : NextCanon (execMigrationStart c s) := by
  unfold execMigrationStart
  repeat' split
  all_goals simp [h]
theorem execMigrationDone_canon (c : Nat) {s : State} (h : s.mem.Canon) : NextCanon (execMigrationDone c s) := by
  unfold execMigrationDone
  repeat' split
  all_goals simp [h]
theorem execMigrationHoldRelease_canon (c : Nat) {s : State} (h : s.mem.Canon) :
    NextCanon (execMigrationHoldRelease c s) := by
  unfold execMigrationHoldRelease
  split <;> simp [h]
@[simp] theorem State.testPass_mem (s : State) (ph : Nat) : (s.testPass ph).mem = s.mem := by simp [State.testPass]
@[simp] theorem State.testBegin_mem (s : State) (ph : Nat) : (s.testBegin ph).mem = s.mem := by simp [State.testBegin]
theorem execTestKernelDone_canon (ph : Nat) (agrees last : Bool) {s : State} (h : s.mem.Canon) :
    NextCanon (execTestKernelDone ph agrees last s) := by
  simp only [execTestKernelDone]
  repeat' split
  all_goals simp [h]
@[simp] theorem State.replaceRole_mem (s : State) (c ph : Nat) (flag : Bool) :
    (s.replaceRole c ph flag).mem = s.mem := by simp [State.replaceRole]
@[simp] theorem State.roleAbsent_mem (s : State) (c : Nat) : (s.roleAbsent c).mem = s.mem := by
  unfold State.roleAbsent; simp only []
  split
  · rfl
  · -- else the kernel unfolds the fold over the sixteen sets to see that the two sides agree
    simp -implicitDefEqProofs
theorem execClusterReplace_canon (c : Nat) {s : State} (h : s.mem.Canon) : NextCanon (execClusterReplace c s) := by
  simp only [execClusterReplace]
  repeat' split
  all_goals simp [h]
@[simp] theorem State.flagPastDue_mem (s : State) : s.flagPastDue.mem = s.mem := by simp [State.flagPastDue]

/-! ### Boot -/

@[simp] theorem State.bootFrom_mem (s : State) (b : Bool) (im : ImageRead) (ck : W64) (trial : Option Bool) :
    (s.bootFrom b im ck trial).mem = s.mem := by simp [State.bootFrom]
@[simp] theorem State.eraseBad_mem (s : State) : s.eraseBad.mem = s.mem := by
  unfold State.eraseBad
  split
  · exact foldl_state_mem _ (fun t b => by split <;> rfl) _ _
  · rfl
theorem execBootImage_canon {s : State} (h : s.mem.Canon) : NextCanon (execBootImage s) := by
  simp only [execBootImage]
  repeat' split
  all_goals simp [h]
@[simp] theorem State.useSlot_mem (s : State) (a t : Nat) : (s.useSlot a t).mem = s.mem := by
  unfold State.useSlot
  split <;> simp
@[simp] theorem State.replay_mem (s : State) (r : RepairRec) : (s.replay r).mem = s.mem := by simp [State.replay]
@[simp] theorem State.replayAll_mem (s : State) : s.replayAll.mem = s.mem := by simp [State.replayAll]
@[simp] theorem State.bootPhys_mem (s : State) (ph : Nat) : (s.bootPhys ph).mem = s.mem := by simp [State.bootPhys]
@[simp] theorem State.placeRoles_mem (s : State) : s.placeRoles.mem = s.mem := by
  refine (foldl_state_mem _ (fun t c => ?_) _ _).trans (by simp)
  repeat' split
  all_goals simp
theorem execBootInit_canon {s : State} (h : s.mem.Canon) : NextCanon (execBootInit s) := by
  unfold execBootInit
  repeat' split
  all_goals simp -implicitDefEqProofs [h, Mem.canon_of_latent]
@[simp] theorem State.softRepair_mem (s : State) (r : RepairRec) : (s.softRepair r).mem = s.mem := by simp [State.softRepair]
@[simp] theorem State.harden_mem (s : State) : s.harden.mem = s.mem := by simp [State.harden]

/-! ### Fresh check values -/

@[simp] theorem State.coverFresh_canon {s : State} (die : Nat) (m : SMap Nat) (h : s.mem.Canon) :
    (s.coverFresh die m).mem.Canon := by
  refine foldl_canon (fun t q ht => ?_) _ h
  simp only [id_eq] at ht ⊢
  repeat' split
  all_goals simp [ht]

/-! ### Scalar loads and stores -/

@[simp] theorem dcMiss_canon {s : State} (d a n : Nat) (h : s.mem.Canon) : (dcMiss s d a n).1.mem.Canon := by
  simp only [dcMiss]
  split <;> simp [h]
@[simp] theorem dcLoad_canon {s : State} (d a n : Nat) (h : s.mem.Canon) : (dcLoad s d a n).1.mem.Canon := by
  simp only [dcLoad]
  repeat' split
  all_goals simp [h, parityError_mem]
@[simp] theorem coreWrite_canon {s : State} (d a : Nat) (b : List PB) (h : s.mem.Canon) : (coreWrite s d a b).mem.Canon := by
  unfold coreWrite
  split <;> simp [h]
@[simp] theorem ctlLoad_mem (s : State) (d a n : Nat) : (ctlLoad s d a n).1.mem = s.mem := by
  unfold ctlLoad
  split <;> simp
@[simp] theorem ldBody_canon (signed : Bool) (n d : Nat) {s : State} (h : s.mem.Canon) :
    (ldBody signed n d s).state.mem.Canon := by
  simp only [ldBody]
  repeat' split
  all_goals simp -implicitDefEqProofs [h]
@[simp] theorem ctlStore_mem (s : State) (d a n : Nat) (v : W64) : (ctlStore s d a n v).mem = s.mem := by
  unfold ctlStore
  split <;> simp
@[simp] theorem stBody_canon (n d : Nat) {s : State} (h : s.mem.Canon) : (stBody n d s).state.mem.Canon := by
  simp only [stBody]
  repeat' split
  all_goals simp -implicitDefEqProofs [h]
@[simp] theorem lldBody_mem (signed : Bool) (n d : Nat) (s : State) : (lldBody signed n d s).state.mem = s.mem := by
  simp only [lldBody]
  repeat' split
  all_goals simp
@[simp] theorem lstBody_mem (n d : Nat) (s : State) : (lstBody n d s).state.mem = s.mem := by
  simp only [lstBody]
  repeat' split
  all_goals simp

/-! ### Control flow, mode, windows and traps -/

@[simp] theorem brzBody_mem (d : Nat) (o : BitVec 12) (s : State) : (brzBody d o s).state.mem = s.mem := by
  simp only [brzBody]
  repeat' split
  all_goals simp
@[simp] theorem callTo_mem (d : Nat) (k : Core) (target : Nat) (s : State) : (callTo d k target s).state.mem = s.mem := by
  unfold callTo
  split <;> simp
@[simp] theorem retBody_mem (d : Nat) (s : State) : (retBody d s).state.mem = s.mem := by
  simp only [retBody]
  repeat' split
  all_goals simp
@[simp] theorem indirectBody_mem (call : Bool) (d : Nat) (s : State) : (indirectBody call d s).state.mem = s.mem := by
  simp only [indirectBody]
  repeat' split
  all_goals simp
@[simp] theorem loopBody_mem (d : Nat) (n : BitVec 12) (s : State) : (loopBody d n s).state.mem = s.mem := by
  simp only [loopBody]
  repeat' split
  all_goals simp
@[simp] theorem lexitBody_mem (d : Nat) (s : State) : (lexitBody d s).state.mem = s.mem := by simp [lexitBody]
@[simp] theorem lcntBody_mem (d : Nat) (s : State) : (lcntBody d s).state.mem = s.mem := by
  unfold lcntBody
  repeat' split
  all_goals simp
@[simp] theorem modewBody_mem (d : Nat) (s : State) : (modewBody d s).state.mem = s.mem := by
  simp only [modewBody]
  repeat' split
  all_goals simp
@[simp] theorem dcinvlBody_mem (d : Nat) (s : State) : (dcinvlBody d s).state.mem = s.mem := by
  simp only [dcinvlBody]
  repeat' split
  all_goals simp
@[simp] theorem atwBody_mem (d : Nat) (s : State) : (atwBody d s).state.mem = s.mem := by
  simp only [atwBody]
  repeat' split
  all_goals simp
@[simp] theorem ecallBody_mem (d : Nat) (s : State) : (ecallBody d s).state.mem = s.mem := by
  unfold ecallBody
  split <;> simp
@[simp] theorem wfiBody_mem (d : Nat) (s : State) : (wfiBody d s).state.mem = s.mem := by
  simp only [wfiBody]
  repeat' split
  all_goals simp
@[simp] theorem kendBody_mem (d : Nat) (s : State) : (kendBody d s).state.mem = s.mem := by simp [kendBody]
@[simp] theorem rteBody_mem (d : Nat) (s : State) : (rteBody d s).state.mem = s.mem := by
  simp only [rteBody]
  repeat' split
  all_goals simp

/-! ### Barriers, tickets and the enqueue of engine work -/

@[simp] theorem State.signalBar_mem (s : State) (a : Nat) : (s.signalBar a).mem = s.mem := by simp [State.signalBar]
@[simp] theorem State.signalMask_mem (s : State) (c p cb pb : Nat) (hdr : W64) (st : Status) :
    (s.signalMask c p cb pb hdr st).mem = s.mem := by simp [State.signalMask]
@[simp] theorem State.ticketEnter_mem (s : State) (d t : Nat) (e : Engine) (order : Nat) (words ext : List W64) :
    (s.ticketEnter d t e order words ext).mem = s.mem := by simp [State.ticketEnter]
@[simp] theorem enqBody_mem (e : Engine) (d : Nat) (s : State) : (enqBody e d s).state.mem = s.mem := by
  simp only [enqBody]
  repeat' split
  all_goals simp
@[simp] theorem qwaitBody_mem (d : Nat) (s : State) : (qwaitBody d s).state.mem = s.mem := by
  simp only [qwaitBody]
  repeat' split
  all_goals simp
@[simp] theorem qtestBody_mem (d : Nat) (s : State) : (qtestBody d s).state.mem = s.mem := by
  unfold qtestBody
  split
  · rfl
  · simp only []
    split
    · split
      · rename_i heq
        repeat' split at heq
        all_goals cases heq <;> rfl
      · rfl
    · repeat' split
      all_goals simp
theorem execTicketEnqueue_canon (d t : Nat) {s : State} (h : s.mem.Canon) : NextCanon (execTicketEnqueue d t s) := by
  simp only [execTicketEnqueue]
  repeat' split
  all_goals simp [h]
theorem execTicketComplete_canon (d t : Nat) {s : State} (h : s.mem.Canon) : NextCanon (execTicketComplete d t s) := by
  simp only [execTicketComplete]
  repeat' split
  all_goals simp [h]

/-! ### Channels and the dispatcher -/

@[simp] theorem State.evict_mem (s : State) (keep : Nat) : (s.evict keep).mem = s.mem := by
  simp only [State.evict]
  repeat' split
  all_goals simp
@[simp] theorem State.loadChan_mem (s : State) (p ch : Nat) : (s.loadChan p ch).mem = s.mem := by simp [State.loadChan]
@[simp] theorem State.armChan_mem (s : State) (p ch : Nat) : (s.armChan p ch).mem = s.mem := by simp [State.armChan]
@[simp] theorem State.addCmd_mem (s : State) (ch p c : Nat) (words : List W64) (ext : Option (List W64))
    (st : Option Status) (detail : W64) :
    (s.addCmd ch p c words ext st detail).mem = s.mem := by simp [State.addCmd]
@[simp] theorem State.endHeld_mem (s : State) (p ch : Nat) (st : Status) (detail : W64) (n : Nat) :
    (s.endHeld p ch st detail n).mem = s.mem := by
  induction n generalizing s with
  | zero => rfl
  | succ n ih =>
    unfold State.endHeld
    split
    · rfl
    · simp [ih]
@[simp] theorem State.abortChannel_mem (s : State) (p ch : Nat) (q r : Status) (detail : W64) :
    (s.abortChannel p ch q r detail).mem = s.mem := by simp [State.abortChannel]
@[simp] theorem State.scanOne_mem (s : State) (p ch : Nat) : (s.scanOne p ch).mem = s.mem := by simp [State.scanOne]
@[simp] theorem State.ringRecord_canon {s : State} (p ch i : Nat) (h : s.mem.Canon) :
    (s.ringRecord p ch i).1.mem.Canon := by simp [h, State.ringRecord]
@[simp] theorem State.cachedChan_mem (s : State) (p ch : Nat) : (s.cachedChan p ch).mem = s.mem := by simp [State.cachedChan]
theorem execCommandRecordCopy_canon (ch : Nat) {s : State} (h : s.mem.Canon) : NextCanon (execCommandRecordCopy ch s) := by
  simp only [execCommandRecordCopy]
  repeat' split
  all_goals simp [h]
@[simp] theorem State.handOver_mem (s : State) (p ch c : Nat) (h : Head) : (s.handOver p ch c h).mem = s.mem := by
  simp only [State.handOver]
  split <;> simp
theorem execCommandDispatch_canon (ch : Nat) {s : State} (h : s.mem.Canon) : NextCanon (execCommandDispatch ch s) := by
  simp only [execCommandDispatch]
  repeat' split
  all_goals simp [h]
@[simp] theorem armBar_mem (s : State) (mode : Bool) (v a : Nat) : (armBar s mode v a).mem = s.mem := by simp [armBar]
theorem execBarArm_canon (id : Nat) {s : State} (h : s.mem.Canon) : NextCanon (execBarArm id s) := by
  unfold execBarArm
  split <;> simp [h]
theorem execNopCommand_canon (id : Nat) {s : State} (h : s.mem.Canon) : NextCanon (execNopCommand id s) := by
  unfold execNopCommand
  split <;> simp [h]
@[simp] theorem State.putRecord_canon {s : State} (c : Cmd) (st : Status) (h : s.mem.Canon) :
    (s.putRecord c st).1.mem.Canon := by simp [h, State.putRecord]
@[simp] theorem State.dropCmd_mem (s : State) (c : Cmd) : (s.dropCmd c).mem = s.mem := by simp [State.dropCmd]
theorem execCommandCompletion_canon (id : Nat) {s : State} (h : s.mem.Canon) : NextCanon (execCommandCompletion id s) := by
  simp only [execCommandCompletion]
  repeat' split
  all_goals simp [h]
theorem execProgressWatchdogExpire_canon (ch : Nat) {s : State} (h : s.mem.Canon) :
    NextCanon (execProgressWatchdogExpire ch s) := by
  unfold execProgressWatchdogExpire
  repeat' split
  all_goals simp [h]

/-! ### Fold units -/

@[simp] theorem foldReject_mem (s : State) (p : Nat) (st : Status) : (foldReject s p st).s.mem = s.mem := by simp [foldReject]
@[simp] theorem foldStore_canon {s : State} (p a : Nat) (l : List PB) (h : s.mem.Canon) :
    (foldStore s p a l).1.mem.Canon := by
  unfold foldStore
  split <;> simp [h]
@[simp] theorem lineFold_canon {s : State} (p a z : Nat) (f : Nat → Nat → Nat) (x : Nat) (en psn : Nat → Bool)
    (h : s.mem.Canon) : (lineFold s p a z f x en psn).s.mem.Canon := by
  unfold lineFold
  split <;> simp [h]
@[simp] theorem raiseSward_canon {s : State} (p n die flags : Nat) (h : s.mem.Canon) :
    (raiseSward s p n die flags).mem.Canon := by simp [h, raiseSward]
@[simp] theorem swardAdd_canon {s : State} (p n a : Nat) (psn : Bool) (c : Option Int × Nat) (h : s.mem.Canon) :
    (swardAdd s p n a psn c).s.mem.Canon := by
  have hr := readMem_canon (foldDie a) (foldLine a) 64 h
  unfold swardAdd
  split
  · simp [h]
  · refine raiseSward_canon _ _ _ _ ?_
    repeat' split
    all_goals simp only [hr, foldStore_canon]
@[simp] theorem swaddFloat_canon {s : State} (p a n f x : Nat) (psn : Bool) (h : s.mem.Canon) :
    (swaddFloat s p a n f x psn).s.mem.Canon := by simp [h, swaddFloat]
@[simp] theorem swardRead_canon {s : State} (p a n : Nat) (clr : Bool) (h : s.mem.Canon) :
    (swardRead s p a n clr).s.mem.Canon := by
  unfold swardRead
  split <;> simp [h]

/-! ### The frame of a vector instruction -/

@[simp] theorem vecFault_mem (s : State) (d cause elem detail addr : Nat) :
    (vecFault s d cause elem detail addr).state.mem = s.mem := by simp [vecFault]
@[simp] theorem operandFault_mem (s : State) (d : Nat) : (operandFault s d).state.mem = s.mem := by simp [operandFault]
@[simp] theorem pairFault_mem (s : State) (d : Nat) : (pairFault s d).state.mem = s.mem := by simp [pairFault]
@[simp] theorem vecOp_mem (d n : Nat) (ctl : Nat → Bool) (f : Core → List Entry → State → Body)
    (h : ∀ k l t, (f k l t).state.mem = t.mem) (s : State) : (vecOp d n ctl f s).state.mem = s.mem := by
  unfold vecOp
  split
  · rfl
  · simp only []
    split
    · rfl
    · exact h _ _ _
theorem vecOp_canon {d n : Nat} {ctl : Nat → Bool} {f : Core → List Entry → State → Body}
    (hf : ∀ k l t, t.mem.Canon → (f k l t).state.mem.Canon) {s : State} (h : s.mem.Canon) :
    (vecOp d n ctl f s).state.mem.Canon := by
  unfold vecOp
  split
  · exact h
  · simp only []
    split
    · exact h
    · exact hf _ _ _ h
@[simp] theorem vecDone_mem (s : State) (d : Nat) (k : Core) : (vecDone s d k).state.mem = s.mem := by
  unfold vecDone
  split <;> simp

/-! ### Element-wise vector instructions and reductions -/

@[simp] theorem mapGroup_mem (s : State) (d : Nat) (k : Core) (g : Grp) (f : Nat → Nat × Fl) (psn : Nat → Bool) :
    (mapGroup s d k g f psn).state.mem = s.mem := by simp [mapGroup]
@[simp] theorem vec2_mem (d : Nat) (fltOnly : Bool) (f : Nat → Bool → Nat → Nat → Nat × Fl) (s : State) :
    (vec2 d fltOnly f s).state.mem = s.mem :=
  vecOp_mem _ _ _ _ (fun k l t => by simp only []; split <;> simp) s
@[simp] theorem vec3_mem (d : Nat) (f : Nat → Bool → Nat → Nat → Nat → Nat × Fl) (s : State) :
    (vec3 d f s).state.mem = s.mem :=
  vecOp_mem _ _ _ _ (fun k l t => by simp only []; split <;> simp) s
@[simp] theorem vecS_mem (d : Nat) (f : Nat → Bool → Nat → Nat → Nat × Fl) (s : State) : (vecS d f s).state.mem = s.mem :=
  vecOp_mem _ _ _ _ (fun k l t => by simp only []; split <;> simp) s
@[simp] theorem vec1_mem (d : Nat) (fltOnly : Bool) (f : Nat → Bool → Nat → Nat × Fl) (s : State) :
    (vec1 d fltOnly f s).state.mem = s.mem :=
  vecOp_mem _ _ _ _ (fun k l t => by simp only []; split <;> simp) s
@[simp] theorem vcmp_mem (d : Nat) (f : Val → Val → Bool) (s : State) : (vcmp d f s).state.mem = s.mem :=
  vecOp_mem _ _ _ _ (fun k l t => by simp only []; split <;> simp) s
@[simp] theorem vmask_mem (d : Nat) (f : BitVec 2048 → BitVec 2048 → BitVec 2048) (s : State) :
    (vmask d f s).state.mem = s.mem :=
  vecOp_mem _ _ _ _ (fun k l t => by simp only []; split <;> simp) s
@[simp] theorem vcvtBody_mem (d : Nat) (s : State) : (vcvtBody d s).state.mem = s.mem :=
  vecOp_mem _ _ _ _ (fun k l t => by simp only []; split <;> simp) s
@[simp] theorem vqmxBody_mem (d : Nat) (s : State) : (vqmxBody d s).state.mem = s.mem :=
  vecOp_mem _ _ _ _ (fun k l t => by simp only []; split <;> simp) s
@[simp] theorem redPush_mem (s : State) (d : Nat) (k : Core) (v : W64) : (redPush s d k v).state.mem = s.mem := by
  unfold redPush
  split <;> simp
@[simp] theorem redSum_mem (d : Nat) (prod : Bool) (s : State) : (redSum d prod s).state.mem = s.mem := by
  refine vecOp_mem _ _ _ _ (fun k l t => ?_) s
  simp only []
  repeat' split
  all_goals simp
@[simp] theorem redMax_mem (d : Nat) (mx : Bool) (s : State) : (redMax d mx s).state.mem = s.mem := by
  refine vecOp_mem _ _ _ _ (fun k l t => ?_) s
  simp only []
  repeat' split
  all_goals simp
@[simp] theorem maskSum_mem (d : Nat) (f : List Nat → Nat → W64) (s : State) : (maskSum d f s).state.mem = s.mem :=
  vecOp_mem _ _ _ _ (fun k l t => by simp only []; split <;> simp) s

/-! ### Vector memory and the operand cache -/

@[simp] theorem readRuns_canon {s : State} (die : Nat) (l : List (Nat × Nat)) (h : s.mem.Canon) :
    (readRuns s die l).1.mem.Canon := by simp +contextual [h, readRuns]
@[simp] theorem vecWrite_canon {s : State} (d : Nat) (l : List (Nat × List PB)) (h : s.mem.Canon) :
    (vecWrite s d l).mem.Canon := by simp +contextual [h, vecWrite]
@[simp] theorem vecLoad_canon {s : State} (d : Nat) (k : Core) (g : Grp) (ff : Bool) (place : Nat → Nat × Nat)
    (bit : Nat → Nat) (h : s.mem.Canon) : (vecLoad s d k g ff place bit).state.mem.Canon := by
  simp only [vecLoad]
  repeat' split
  all_goals simp [h]
@[simp] theorem vldBody_canon (d : Nat) (ff : Bool) {s : State} (h : s.mem.Canon) : (vldBody d ff s).state.mem.Canon :=
  vecOp_canon (fun k l t ht => by simp only []; split <;> simp [ht]) h
@[simp] theorem vldsBody_canon (d : Nat) {s : State} (h : s.mem.Canon) : (vldsBody d s).state.mem.Canon :=
  vecOp_canon (fun k l t ht => by simp only []; split <;> simp [ht]) h
@[simp] theorem vgatherBody_canon (d : Nat) (ff : Bool) {s : State} (h : s.mem.Canon) :
    (vgatherBody d ff s).state.mem.Canon := by
  refine vecOp_canon (fun k l t ht => ?_) h
  simp only []
  repeat' split
  all_goals simp [ht]
@[simp] theorem vecStore_canon {s : State} (d : Nat) (k : Core) (g : Grp) (place : Nat → Nat × Nat) (packed : Option Nat)
    (h : s.mem.Canon) : (vecStore s d k g place packed).state.mem.Canon := by
  simp only [vecStore]
  repeat' split
  all_goals simp -implicitDefEqProofs [h]
@[simp] theorem vstBody_canon (d : Nat) {s : State} (h : s.mem.Canon) : (vstBody d s).state.mem.Canon :=
  vecOp_canon (fun k l t ht => by simp only []; split <;> simp [ht]) h
@[simp] theorem vstsBody_canon (d : Nat) {s : State} (h : s.mem.Canon) : (vstsBody d s).state.mem.Canon :=
  vecOp_canon (fun k l t ht => by simp only []; split <;> simp [ht]) h
@[simp] theorem vscatterBody_canon (d : Nat) {s : State} (h : s.mem.Canon) : (vscatterBody d s).state.mem.Canon := by
  refine vecOp_canon (fun k l t ht => ?_) h
  simp only []
  repeat' split
  all_goals simp [ht]
@[simp] theorem vocldBody_mem (d : Nat) (s : State) : (vocldBody d s).state.mem = s.mem :=
  vecOp_mem _ _ _ _ (fun k l t => by simp only []; split <;> simp) s
@[simp] theorem vocstBody_mem (d : Nat) (s : State) : (vocstBody d s).state.mem = s.mem :=
  vecOp_mem _ _ _ _ (fun k l t => by simp only []; split <;> simp) s
@[simp] theorem ocBindBody_canon (d : Nat) (fill : Bool) {s : State} (h : s.mem.Canon) :
    (ocBindBody d fill s).state.mem.Canon := by
  refine vecOp_canon (fun k l t ht => ?_) h
  simp only []
  repeat' split
  all_goals simp -implicitDefEqProofs +contextual [ht]
@[simp] theorem ocwbBody_canon (d : Nat) {s : State} (h : s.mem.Canon) : (ocwbBody d s).state.mem.Canon := by
  refine vecOp_canon (fun k l t ht => ?_) h
  simp only []
  repeat' split
  all_goals simp -implicitDefEqProofs [ht]
@[simp] theorem ocevictBody_mem (d : Nat) (s : State) : (ocevictBody d s).state.mem = s.mem :=
  vecOp_mem _ _ _ _ (fun k l t => by simp only []; split <;> simp) s

/-! ### Vector folds and chains -/

@[simp] theorem foldSeen_mem (r : FoldRes) (d : Nat) : (foldSeen r d).mem = r.s.mem := by simp [foldSeen]
@[simp] theorem vfoldBody_canon (d : Nat) {s : State} (h : s.mem.Canon) : (vfoldBody d s).state.mem.Canon := by
  refine vecOp_canon (fun k l t ht => ?_) h
  simp only []
  repeat' split
  all_goals simp -implicitDefEqProofs +contextual [ht]
@[simp] theorem vswaddBody_canon (d : Nat) {s : State} (h : s.mem.Canon) : (vswaddBody d s).state.mem.Canon := by
  refine vecOp_canon (fun k l t ht => ?_) h
  simp only []
  repeat' split
  all_goals simp -implicitDefEqProofs +contextual [ht]
@[simp] theorem vswrdBody_canon (d : Nat) (clr : Bool) {s : State} (h : s.mem.Canon) :
    (vswrdBody d clr s).state.mem.Canon := by
  refine vecOp_canon (fun k l t ht => ?_) h
  simp only []
  repeat' split
  all_goals simp -implicitDefEqProofs +contextual [ht]
@[simp] theorem vrswBody_canon (d : Nat) {s : State} (h : s.mem.Canon) : (vrswBody d s).state.mem.Canon := by
  refine vecOp_canon (fun k l t ht => ?_) h
  simp only []
  repeat' split
  all_goals simp -implicitDefEqProofs only [ht, vecFault_mem, pairFault_mem, operandFault_mem, stackBody_mem,
    foldSeen_mem, swardAdd_canon, State.setCore_mem]
@[simp] theorem vchainBody_mem (d : Nat) (s : State) : (vchainBody d s).state.mem = s.mem := by
  refine vecOp_mem _ _ _ _ (fun k l t => ?_) s
  simp only []
  repeat' split
  all_goals simp

/-! ### Events of a core -/

theorem execControlLoadReturn_canon (d : Nat) {s : State} (h : s.mem.Canon) : NextCanon (execControlLoadReturn d s) := by
  unfold execControlLoadReturn
  repeat' split
  all_goals simp [h]
@[simp] theorem enterPending_mem (s : State) (d : Nat) : (enterPending s d).mem = s.mem := by
  simp only [enterPending]
  repeat' split
  all_goals simp
theorem execAtomicWindowExpire_canon (d : Nat) {s : State} (h : s.mem.Canon) : NextCanon (execAtomicWindowExpire d s) := by
  simp only [execAtomicWindowExpire]
  split <;> simp [h]
theorem execWfiWake_canon (d : Nat) {s : State} (h : s.mem.Canon) : NextCanon (execWfiWake d s) := by
  simp only [execWfiWake]
  split <;> simp [h]
theorem execAbortTimeout_canon (d : Nat) {s : State} (h : s.mem.Canon) : NextCanon (execAbortTimeout d s) := by
  simp only [execAbortTimeout]
  split <;> simp [h]
theorem execSoftPost_canon (d : Nat) (v : BitVec 32) {s : State} (h : s.mem.Canon) : NextCanon (execSoftPost d v s) := by
  unfold execSoftPost
  split <;> simp [h]

/-! ### The sending side of the links -/

@[simp] theorem State.wire_mem (s : State) (r : Nat) (f : Frame) : (s.wire r f).mem = s.mem := by
  simp only [State.wire]
  split <;> simp
@[simp] theorem State.sendCtl_mem (s : State) (r type code psn ctx aux : Nat) :
    (s.sendCtl r type code psn ctx aux).mem = s.mem := by simp [State.sendCtl]
@[simp] theorem State.updOp_mem (s : State) (id : Nat) (f : LinkOp → LinkOp) :
    (s.updOp id f).mem = s.mem := by simp [State.updOp]
@[simp] theorem State.sendData_canon {s : State} (r : Nat) (x : TxFrame) (again : Bool) (h : s.mem.Canon) :
    (s.sendData r x again).mem.Canon := by
  simp only [State.sendData]
  repeat' split
  all_goals simp [h]
@[simp] theorem State.pumpN_canon {s : State} (r n : Nat) (h : s.mem.Canon) : (s.pumpN r n).mem.Canon := by
  induction n generalizing s with
  | zero => exact h
  | succ n ih =>
    unfold State.pumpN; simp only []
    repeat' split
    all_goals simp -implicitDefEqProofs [h, ih]
@[simp] theorem State.pump_canon {s : State} (r : Nat) (h : s.mem.Canon) : (s.pump r).mem.Canon := by simp [h, State.pump]
@[simp] theorem State.pumpPort_canon {s : State} (k : Nat) (h : s.mem.Canon) : (s.pumpPort k).mem.Canon :=
  foldl_canon (fun _ r ht => State.pump_canon r ht) _ h
@[simp] theorem State.pumpOp_canon {s : State} (o : LinkOp) (h : s.mem.Canon) : (s.pumpOp o).mem.Canon :=
  foldl_canon (fun _ r ht => State.pump_canon r ht) _ h
@[simp] theorem State.endOp_mem (s : State) (o : LinkOp) (st : Status) (flags : BitVec 8) (detail : W64) :
    (s.endOp o st flags detail).mem = s.mem := by simp [State.endOp]
@[simp] theorem State.finishOp_mem (s : State) (o : LinkOp) : (s.finishOp o).mem = s.mem := by
  unfold State.finishOp
  split <;> simp
@[simp] theorem State.settle_mem (s : State) : s.settle.mem = s.mem := by
  refine foldl_state_mem _ (fun t id => ?_) _ _
  split <;> simp
@[simp] theorem State.ackFrom_canon {s : State} (r ackPsn : Nat) (sack : BitVec 32) (h : s.mem.Canon) :
    (s.ackFrom r ackPsn sack).mem.Canon := by
  unfold State.ackFrom; simp only []
  split
  · exact foldl_canon (fun t x ht => State.sendData_canon r x true ht) _ h
  · exact h

/-! ### Link commands -/

@[simp] theorem State.memberList_canon {s : State} (p die a n : Nat) (h : s.mem.Canon) :
    (s.memberList p die a n).1.mem.Canon := by
  simp only [State.memberList]
  repeat' split
  all_goals simp [h]
@[simp] theorem planXfer_mem (s : State) (c : Cmd) : (planXfer s c).s.mem = s.mem := by simp [planXfer]
@[simp] theorem planColl_canon {s : State} (c : Cmd) (h : s.mem.Canon) : (planColl s c).s.mem.Canon := by
  simp only [planColl]
  split <;> simp [h]
@[simp] theorem planMcast_canon {s : State} (c : Cmd) (h : s.mem.Canon) : (planMcast s c).s.mem.Canon := by
  simp only [planMcast]
  split <;> simp [h]
@[simp] theorem planVote_canon {s : State} (c : Cmd) (h : s.mem.Canon) : (planVote s c).s.mem.Canon := by
  simp only [planVote]
  split <;> simp [h]
@[simp] theorem State.startOp_canon {s : State} (o : LinkOp) (h : s.mem.Canon) :
    (s.startOp o).mem.Canon := by simp [h, State.startOp]
@[simp] theorem admitLk_canon (id : Nat) (pl : LkPlan) (h : pl.s.mem.Canon) :
    (admitLk id pl).mem.Canon := by simp [h, admitLk]
theorem execLkXfer_canon (id : Nat) {s : State} (h : s.mem.Canon) : NextCanon (execLkXfer id s) := by
  unfold execLkXfer
  split <;> simp [h]
theorem execLkColl_canon (id : Nat) {s : State} (h : s.mem.Canon) : NextCanon (execLkColl id s) := by
  unfold execLkColl
  split <;> simp [h]
theorem execLkMcast_canon (id : Nat) {s : State} (h : s.mem.Canon) : NextCanon (execLkMcast id s) := by
  unfold execLkMcast
  split <;> simp [h]
theorem execLkVote_canon (id : Nat) {s : State} (h : s.mem.Canon) : NextCanon (execLkVote id s) := by
  unfold execLkVote
  split <;> simp [h]
theorem execLkExpel_canon (id : Nat) {s : State} (h : s.mem.Canon) : NextCanon (execLkExpel id s) := by
  unfold execLkExpel
  split <;> simp [h]
theorem execLinkContextGrant_canon (die : Nat) {s : State} (h : s.mem.Canon) : NextCanon (execLinkContextGrant die s) := by
  simp only [execLinkContextGrant]
  repeat' split
  all_goals simp [h]

/-! ### Frames that arrive -/

@[simp] theorem State.drop_mem (s : State) (k hi lo : Nat) : (s.drop k hi lo).mem = s.mem := by
  unfold State.drop
  split <;> simp
@[simp] theorem State.dropMalformed_mem (s : State) (k : Nat) :
    (s.dropMalformed k).mem = s.mem := by simp [State.dropMalformed]
@[simp] theorem State.dropAuth_mem (s : State) (k : Nat) : (s.dropAuth k).mem = s.mem := by simp [State.dropAuth]
@[simp] theorem State.dropRate_mem (s : State) (k : Nat) : (s.dropRate k).mem = s.mem := by simp [State.dropRate]
@[simp] theorem State.dropExpelled_mem (s : State) (k : Nat) : (s.dropExpelled k).mem = s.mem := by simp [State.dropExpelled]
@[simp] theorem State.pfcCheck_mem (s : State) (k : Nat) : (s.pfcCheck k).mem = s.mem := by simp [State.pfcCheck]
theorem State.macsec_mem {s t : State} {k r : Nat} {f : Frame} (h : s.macsec k f = some (t, r)) : t.mem = s.mem := by
  unfold State.macsec at h
  repeat' split at h
  all_goals cases h <;> rfl
theorem State.bucketTake_mem {s t : State} {r : Nat} {f : Frame} (h : s.bucketTake r f = some t) : t.mem = s.mem := by
  unfold State.bucketTake at h; simp only [] at h
  repeat' split at h
  all_goals cases h <;> rfl
@[simp] theorem State.takeIn_mem (s : State) (k : Nat) (f : Frame) : (s.takeIn k f).1.mem = s.mem := by
  unfold State.takeIn
  split
  · rfl
  · split
    · simp only []; split <;> simp
    · split
      · simp
      · split
        · simp
        · next h =>
          have h1 := State.macsec_mem h
          split
          · simp [h1]
          · split
            · simp [h1]
            · split
              · simp [h1]
              · next h =>
                have h2 := State.bucketTake_mem h
                split <;> simp [h1, h2]
@[simp] theorem State.quotaTake_mem (s : State) (r n : Nat) : (s.quotaTake r n).mem = s.mem := by simp [State.quotaTake]
@[simp] theorem State.foldFrame_canon {s : State} (p : Nat) (f : Frame) (h : s.mem.Canon) :
    (s.foldFrame p f).1.mem.Canon := by
  unfold State.foldFrame; simp only []
  split
  · exact h
  · refine foldl_fst_canon (fun q i hq => ?_) _ h
    repeat' split
    all_goals simp [hq]
@[simp] theorem State.notifyBar_mem (s : State) (p : Nat) (f : Frame) :
    (s.notifyBar p f).mem = s.mem := by simp [State.notifyBar]
@[simp] theorem State.applyWF_canon {s : State} (k p r : Nat) (f : Frame) (fold : Bool) (h : s.mem.Canon) :
    (s.applyWF k p r f fold).1.mem.Canon := by
  simp only [State.applyWF]
  repeat' split
  all_goals simp [h]
@[simp] theorem State.answerRead_canon {s : State} (k p r : Nat) (f : Frame) (h : s.mem.Canon) :
    (s.answerRead k p r f).1.mem.Canon := by
  unfold State.answerRead
  split <;> simp [h]
@[simp] theorem State.takeResponse_canon {s : State} (k r : Nat) (f : Frame) (h : s.mem.Canon) :
    (s.takeResponse k r f).1.mem.Canon := by
  unfold State.takeResponse
  split <;> simp [h]
@[simp] theorem State.takeColl_canon {s : State} (k p r : Nat) (f : Frame) (h : s.mem.Canon) :
    (s.takeColl k p r f).1.mem.Canon := by
  simp only [State.takeColl]
  repeat' split
  all_goals simp [h]
@[simp] theorem State.takeVote_mem (s : State) (r : Nat) (f : Frame) : (s.takeVote r f).1.mem = s.mem := by
  unfold State.takeVote
  split <;> simp
@[simp] theorem State.deliver_canon {s : State} (k p r : Nat) (f : Frame) (h : s.mem.Canon) :
    (s.deliver k p r f).1.mem.Canon := by simp [h, State.deliver]
@[simp] theorem State.deliverRun_canon {s : State} (k p r n : Nat) (f : Frame) (h : s.mem.Canon) :
    (s.deliverRun k p r n f).mem.Canon := by
  induction n generalizing s f with
  | zero => exact h
  | succ n ih =>
    have hd := State.deliver_canon k p r f h
    unfold State.deliverRun; simp only []
    repeat' split
    all_goals simp -implicitDefEqProofs [hd, ih]
@[simp] theorem State.recvData_canon {s : State} (k p r : Nat) (f : Frame) (h : s.mem.Canon) :
    (s.recvData k p r f).mem.Canon := by simp [h, State.recvData]
@[simp] theorem State.afterFrame_canon {s : State} (k r : Nat) (f : Frame) (h : s.mem.Canon) :
    (s.afterFrame k r f).mem.Canon := by
  have hs : (s.ackFrom r f.ackPsn f.sack).settle.mem.Canon := by simp [h]
  have hp (l : List LinkOp) : (l.foldl State.pumpOp (s.ackFrom r f.ackPsn f.sack).settle).mem.Canon :=
    foldl_canon (fun _ o ht => State.pumpOp_canon o ht) l hs
  simp [State.afterFrame, hp]
@[simp] theorem recvOp_canon {s : State} (k op : Nat) (f : Frame) (h : s.mem.Canon) : (recvOp s k op f).mem.Canon := by
  unfold recvOp
  split
  · exact h
  · have ht := State.takeIn_mem s k f
    split <;> simp_all
@[simp] theorem recvType_canon {s : State} (k type : Nat) (f : Frame) {act : State → Nat → Nat → State}
    (ha : ∀ t a b, t.mem.Canon → (act t a b).mem.Canon) (h : s.mem.Canon) : (recvType s k type f act).mem.Canon := by
  unfold recvType
  split
  · exact h
  · have ht := State.takeIn_mem s k f
    split <;> simp_all
@[simp] theorem State.takeNack_mem (s : State) (r : Nat) (f : Frame) : (s.takeNack r f).mem = s.mem := by
  simp only [State.takeNack]
  repeat' split
  all_goals simp
@[simp] theorem State.markDead_mem (s : State) (r : Nat) : (s.markDead r).mem = s.mem := by simp [State.markDead]
@[simp] theorem State.peerLost_mem (s : State) (r : Nat) (st : Nat) (detach : Bool) :
    (s.peerLost r st detach).mem = s.mem := by simp [State.peerLost]
theorem execAbortFrame_canon (k : Nat) (f : Frame) {s : State} (h : s.mem.Canon) : NextCanon (execAbortFrame k f s) := by
  refine nextCanon_next.2 (recvType_canon _ _ _ (fun t p r ht => ?_) h)
  split
  · simp [ht]
  · split <;> simp [ht]

/-! ### Link timers and training -/

theorem execLagLimitExpire_canon (id m : Nat) {s : State} (h : s.mem.Canon) : NextCanon (execLagLimitExpire id m s) := by
  unfold execLagLimitExpire
  repeat' split
  all_goals simp [h]
theorem execPfcWatchdog_canon (k prio : Nat) {s : State} (h : s.mem.Canon) : NextCanon (execPfcWatchdog k prio s) := by
  simp only [execPfcWatchdog]
  repeat' split
  all_goals simp [h]
theorem execRetransmissionTimeout_canon (ref : Nat) {s : State} (h : s.mem.Canon) :
    NextCanon (execRetransmissionTimeout ref s) := by
  simp only [execRetransmissionTimeout, nextCanon_next]
  split
  · exact State.pump_canon ref h
  · rw [State.settle_mem]
    exact State.pump_canon ref (foldl_canon (fun _ x ht => State.sendData_canon ref x true ht) _ h)
theorem execPfcFrame_canon (k prio : Nat) (pause : Bool) {s : State} (h : s.mem.Canon) :
    NextCanon (execPfcFrame k prio pause s) := by
  simp only [execPfcFrame, nextCanon_next]
  repeat' split
  all_goals simp -implicitDefEqProofs [h]
@[simp] theorem State.portUp_canon {s : State} (k : Nat) (h : s.mem.Canon) :
    (s.portUp k).mem.Canon := by simp -implicitDefEqProofs [h, State.portUp]
@[simp] theorem State.sendHello_mem (s : State) (k : Nat) : (s.sendHello k).mem = s.mem := by simp [State.sendHello]
theorem execDegradeFlit_canon (k : Nat) {s : State} (h : s.mem.Canon) : NextCanon (execDegradeFlit k s) := by
  simp only [execDegradeFlit]
  split <;> simp [h]
theorem execLaneRecalDone_canon (k : Nat) (ok : Bool) {s : State} (h : s.mem.Canon) :
    NextCanon (execLaneRecalDone k ok s) := by
  simp only [execLaneRecalDone]
  split <;> simp [h]

/-! ### Hayward -/

@[simp] theorem State.drainBuffers_mem (s : State) : s.drainBuffers.mem = s.mem := by simp [State.drainBuffers, logW_mem]
@[simp] theorem State.beginAction_mem (s : State) (a : Action) : (s.beginAction a).mem = s.mem := by simp [State.beginAction]
theorem execRecoveryActionStart_canon {s : State} (h : s.mem.Canon) : NextCanon (execRecoveryActionStart s) := by
  unfold execRecoveryActionStart
  split <;> simp [h]

/-! ### Registers as commands -/

@[simp] theorem chanWrite_mem (s : State) (ch b n : Nat) (v : W64) : (chanWrite s ch b n v).mem = s.mem := by simp [chanWrite]
@[simp] theorem msixWrite_mem (s : State) (p fn v w b n : Nat) (x : W64) :
    (msixWrite s p fn v w b n x).mem = s.mem := by simp [msixWrite]
@[simp] theorem bar0Write_mem (s : State) (p fn : Nat) (tgt : Bar0) (o size : Nat) (v : W64) :
    (bar0Write s p fn tgt o size v).mem = s.mem := by
  unfold bar0Write
  repeat' split
  all_goals simp
theorem execRegisterWrite_canon (ag : Agent) (a size : Nat) (v : BitVec 64) {s : State} (h : s.mem.Canon) :
    NextCanon (execRegisterWrite ag a size v s) := by
  unfold execRegisterWrite
  repeat' split
  all_goals simp [h]
@[simp] theorem ptCtl_mem (s : State) (p r cmd : Nat) : (ptCtl s p r cmd).mem = s.mem := by simp [ptCtl]
theorem execPortEnable_canon (k : Nat) {s : State} (h : s.mem.Canon) : NextCanon (execPortEnable k s) := by
  unfold execPortEnable
  split <;> simp [h]

/-! ### Host ports -/

@[simp] theorem State.linksAborted_mem (s : State) (p : Nat) : (s.linksAborted p).mem = s.mem := by simp [State.linksAborted]
@[simp] theorem State.resetFields_mem (s : State) (p : Nat) : (s.resetFields p).mem = s.mem := by
  unfold State.resetFields
  split <;> simp
@[simp] theorem State.stopEngines_mem (s : State) (p : Nat) : (s.stopEngines p).mem = s.mem := by simp [State.stopEngines]
@[simp] theorem State.startReset_mem (s : State) (p : Nat) (link : Bool) :
    (s.startReset p link).mem = s.mem := by simp [State.startReset]
@[simp] theorem State.trigger_mem (s : State) (p : Nat) (link : Bool) :
    (s.trigger p link).mem = s.mem := by simp [State.trigger]
theorem execVfFunctionLevelReset_canon (p n : Nat) {s : State} (h : s.mem.Canon) :
    NextCanon (execVfFunctionLevelReset p n s) := by
  unfold execVfFunctionLevelReset
  split <;> simp [h]
theorem execPresetIdle_canon (p : Nat) {s : State} (h : s.mem.Canon) : NextCanon (execPresetIdle p s) := by
  unfold execPresetIdle
  repeat' split
  all_goals simp [h]
theorem execPresetCleared_canon (p : Nat) {s : State} (h : s.mem.Canon) : NextCanon (execPresetCleared p s) := by
  unfold execPresetCleared
  split <;> simp [h]
theorem execPresetEraseDone_canon (p : Nat) {s : State} (h : s.mem.Canon) : NextCanon (execPresetEraseDone p s) := by
  unfold execPresetEraseDone
  split <;> simp [h]
@[simp] theorem State.cfgWrite_mem (s : State) (p fn off : Nat) (v : BitVec 32) :
    (s.cfgWrite p fn off v).mem = s.mem := by simp [State.cfgWrite]
theorem execConfigRequest_canon (p : Nat) (q : ConfigReq) {s : State} (h : s.mem.Canon) :
    NextCanon (execConfigRequest p q s) := by
  unfold execConfigRequest
  split <;> simp [h]
theorem execBar2Read_canon (p o len : Nat) {s : State} (h : s.mem.Canon) : NextCanon (execBar2Read p o len s) := by
  unfold execBar2Read
  repeat' split
  all_goals simp [h]
theorem execBar2Write_canon (p o : Nat) (data : List (BitVec 8)) (ep : Bool) {s : State} (h : s.mem.Canon) :
    NextCanon (execBar2Write p o data ep s) := by
  unfold execBar2Write
  repeat' split
  all_goals simp [h]
theorem execSpdmRequest_canon (p : Nat) (q : SpdmReq) {s : State} (h : s.mem.Canon) : NextCanon (execSpdmRequest p q s) := by
  unfold execSpdmRequest
  repeat' split
  all_goals simp [h]

/-! ### Kernels -/

theorem execKernelAccept_canon (id : Nat) {s : State} (h : s.mem.Canon) : NextCanon (execKernelAccept id s) := by
  unfold execKernelAccept
  split <;> simp [h]
theorem execKernelStart_canon (id : Nat) {s : State} (h : s.mem.Canon) : NextCanon (execKernelStart id s) := by
  simp only [execKernelStart]
  repeat' split
  all_goals simp [h]
theorem execKernelComplete_canon (id : Nat) {s : State} (h : s.mem.Canon) : NextCanon (execKernelComplete id s) := by
  simp only [execKernelComplete]
  repeat' split
  all_goals simp [h]

/-! ### Live change -/

@[simp] theorem State.policyNow_mem (s : State) (n : Policy) : (s.policyNow n).mem = s.mem := by simp [State.policyNow]
@[simp] theorem State.applyClusters_mem (s : State) (n : Policy) : (s.applyClusters n).mem = s.mem := by
  unfold State.applyClusters; simp only []
  -- the fold is over any list: the kernel shall not unfold it over this one
  generalize upTo 288 = roles
  refine (foldl_state_mem _ (fun t p => ?_) _ _).trans ?_
  · simp
  · exact foldl_state_mem _ (fun t ph => by split <;> rfl) _ _
@[simp] theorem State.applyRanges_mem (s : State) (n : Policy) : (s.applyRanges n).mem = s.mem := by simp [State.applyRanges]
theorem execPolicyQuiesceApply_canon {s : State} (h : s.mem.Canon) : NextCanon (execPolicyQuiesceApply s) := by
  unfold execPolicyQuiesceApply
  split <;> simp [h]
theorem execMonitorInPlace_canon (c : Nat) {s : State} (h : s.mem.Canon) : NextCanon (execMonitorInPlace c s) := by
  unfold execMonitorInPlace
  split <;> simp [h]
theorem execPlannedSwitchover_canon {s : State} (h : s.mem.Canon) : NextCanon (execPlannedSwitchover s) := by
  unfold execPlannedSwitchover
  repeat' split
  all_goals simp [h]
@[simp] theorem State.startApply_canon {s : State} (im : ImageRead) (h : s.mem.Canon) :
    (s.startApply im).mem.Canon := by simp [h, State.startApply]
theorem execApplyComplete_canon {s : State} (h : s.mem.Canon) : NextCanon (execApplyComplete s) := by
  unfold execApplyComplete
  repeat' split
  all_goals simp [h]

/-! ### The mailbox -/

@[simp] theorem State.answer_mem (s : State) (p result : Nat) (l : List Byte) :
    (s.answer p result l).mem = s.mem := by simp [State.answer]
@[simp] theorem State.answerD_mem (s : State) (p result detail : Nat) :
    (s.answerD p result detail).mem = s.mem := by simp [State.answerD]
@[simp] theorem stageOp_mem (s : State) (p sub : Nat) (f : State → State) (h : ∀ t, (f t).mem = t.mem) :
    (stageOp s p sub f).mem = s.mem := by
  simp only [stageOp]
  repeat' split
  all_goals simp [h]
theorem stageOp_canon {s : State} (p sub : Nat) {f : State → State} (hf : ∀ t, t.mem.Canon → (f t).mem.Canon)
    (h : s.mem.Canon) : (stageOp s p sub f).mem.Canon := by
  simp only [stageOp]
  repeat' split
  all_goals simp [h, hf]
theorem execImageCommit_canon (p : Nat) {s : State} (h : s.mem.Canon) : NextCanon (execImageCommit p s) := by
  refine nextCanon_next.2 (stageOp_canon _ _ (fun t ht => ?_) h)
  simp only []
  split <;> simp [ht]
theorem execImageApply_canon (p : Nat) {s : State} (h : s.mem.Canon) : NextCanon (execImageApply p s) := by
  refine nextCanon_next.2 (stageOp_canon _ _ (fun t ht => ?_) h)
  repeat' split
  all_goals simp [ht]

/-! ### Matrix engines -/

@[simp] theorem readEls_canon {s : State} (die base f i n : Nat) (h : s.mem.Canon) :
    (readEls s die base f i n).1.mem.Canon := by simp [h, readEls]
@[simp] theorem readScales_canon {s : State} (die a n : Nat) (h : s.mem.Canon) :
    (readScales s die a n).1.mem.Canon := by simp [h, readScales]
theorem readAll_canon {α : Type} {rd : State → Nat → State × α} {s : State} (l : List Nat)
    (hr : ∀ t i, t.mem.Canon → (rd t i).1.mem.Canon) (h : s.mem.Canon) : (readAll rd s l).1.mem.Canon :=
  foldl_fst_canon (f := fun r i => ((rd r.1 i).1, r.2 ++ [(rd r.1 i).2])) (fun r i hi => hr r.1 i hi) l h
/-- A read that is made on a condition keeps the form where it does so on either branch. -/
theorem fst_canon_of_ite {α : Type} {c : Prop} [Decidable c] {a b : State × α} (ha : a.1.mem.Canon) (hb : b.1.mem.Canon) :
    (if c then a else b).1.mem.Canon := by split <;> assumption
@[simp] theorem loadPass_canon {s : State} (die : Nat) (x : MxCmd) (p : Nat) (h : s.mem.Canon) :
    (loadPass s die x p).1.mem.Canon := by
  unfold loadPass; dsimp only
  refine fst_canon_of_ite (readAll_canon _ (fun t j ht => readScales_canon _ _ _ ht) ?_) ?_
  all_goals refine fst_canon_of_ite (readScales_canon _ _ _ ?_) ?_
  all_goals split <;> simp +contextual [h, readAll_canon]
@[simp] theorem readRow_canon {s : State} (die : Nat) (x : MxCmd) (p m : Nat) (h : s.mem.Canon) :
    (readRow s die x p m).1.mem.Canon := by
  unfold readRow; dsimp only
  refine fst_canon_of_ite (readScales_canon _ _ _ ?_) ?_
  all_goals refine fst_canon_of_ite (readScales_canon _ _ _ ?_) ?_
  all_goals split <;> simp +contextual [h, readAll_canon]
@[simp] theorem State.engineEnd_mem (s : State) (c p : Nat) (src : Src) (hdr : W64) (st : Status)
    (flags : BitVec 8) (detail : W64) :
    (s.engineEnd c p src hdr st flags detail).mem = s.mem := by
  simp only [State.engineEnd]
  repeat' split
  all_goals simp
@[simp] theorem loadShadow_canon {s : State} (die : Nat) (x : MxCmd) (x' : Option (Nat × Nat)) (h : s.mem.Canon) :
    (loadShadow s die x x').1.mem.Canon := by
  unfold loadShadow
  split <;> simp [h]
theorem execMxMatmul_canon (c : Nat) {s : State} (h : s.mem.Canon) : NextCanon (execMxMatmul c s) := by
  simp only [execMxMatmul]
  repeat' split
  all_goals simp -implicitDefEqProofs [h]
theorem execMxExtAlone_canon (c : Nat) {s : State} (h : s.mem.Canon) : NextCanon (execMxExtAlone c s) := by
  simp only [execMxExtAlone]
  repeat' split
  all_goals simp [h]
theorem execMxRowEnter_canon (c : Nat) {s : State} (h : s.mem.Canon) : NextCanon (execMxRowEnter c s) := by
  simp only [execMxRowEnter]
  repeat' split
  all_goals simp [h]
theorem execMxPassBoundary_canon (c : Nat) {s : State} (h : s.mem.Canon) : NextCanon (execMxPassBoundary c s) := by
  simp only [execMxPassBoundary]
  repeat' split
  all_goals simp [h]
theorem execWindrowCompare_canon (c col : Nat) (colErr chkErr : Dy) {s : State} (h : s.mem.Canon) :
    NextCanon (execWindrowCompare c col colErr chkErr s) := by
  simp only [execWindrowCompare]
  repeat' split
  all_goals simp [h]
@[simp] theorem State.rerunStall_mem (s : State) (c : Nat) (sameFmt : Bool) :
    (s.rerunStall c sameFmt).mem = s.mem := by simp [State.rerunStall]
theorem execWindrowVote_canon (c col1 : Nat) (err1 : Dy) (col2 : Nat) (err2 chkErr : Dy) {s : State} (h : s.mem.Canon) :
    NextCanon (execWindrowVote c col1 err1 col2 err2 chkErr s) := by
  simp only [execWindrowVote]
  repeat' split
  all_goals simp [h]
theorem execMxTileDrainDone_canon (c : Nat) {s : State} (h : s.mem.Canon) : NextCanon (execMxTileDrainDone c s) := by
  unfold execMxTileDrainDone
  repeat' split
  all_goals simp -implicitDefEqProofs +contextual [h]
theorem execMxCommandEnd_canon (c : Nat) {s : State} (h : s.mem.Canon) : NextCanon (execMxCommandEnd c s) := by
  simp only [execMxCommandEnd]
  repeat' split
  all_goals simp -implicitDefEqProofs [h]

/-! ### The management sideband and the TAP -/

@[simp] theorem State.reply_mem (s : State) (status : Nat) (l : List Byte) :
    (s.reply status l).mem = s.mem := by simp [State.reply]
@[simp] theorem State.setDyn_mem (s : State) (da : BitVec 7) : (s.setDyn da).mem = s.mem := by simp [State.setDyn]
@[simp] theorem State.tapTo_mem (s : State) (n : Nat) (w : BitVec 32) : (s.tapTo n w).mem = s.mem := by simp [State.tapTo]

/-! ### Power and temperature -/

@[simp] theorem State.divRequest_mem (s : State) : s.divRequest.mem = s.mem := by simp [State.divRequest]
theorem execDividerSwitch_canon {s : State} (h : s.mem.Canon) : NextCanon (execDividerSwitch s) := by
  unfold execDividerSwitch
  split <;> simp [h]
@[simp] theorem State.throttled_mem (s : State) (c : Nat) : (s.throttled c).mem = s.mem := by simp [State.throttled]
@[simp] theorem State.takeSample_mem (s : State) (watts : Nat) :
    (s.takeSample watts).mem = s.mem := by simp [State.takeSample]
@[simp] theorem State.linksThermal_mem (s : State) : s.linksThermal.mem = s.mem := by simp [State.linksThermal]
@[simp] theorem State.thermalStop_mem (s : State) : s.thermalStop.mem = s.mem := by simp [State.thermalStop]
@[simp] theorem State.coolMark_mem (s : State) : s.coolMark.mem = s.mem := by simp [State.coolMark]
theorem execDdrTempRead_canon (pkg degC : Nat) {s : State} (h : s.mem.Canon) : NextCanon (execDdrTempRead pkg degC s) := by
  unfold execDdrTempRead
  split <;> simp [h]

/-! ### Stream engines -/

@[simp] theorem State.seEnd_canon {s : State} (c : Nat) (x : SeRun) (h : s.mem.Canon) : (s.seEnd c x).mem.Canon := by
  simp only [h, State.seEnd, State.engineEnd_mem, State.setCluster_mem, State.coverFresh_canon]
@[simp] theorem State.seNext_canon {s : State} (c : Nat) (x : SeRun) (h : s.mem.Canon) : (s.seNext c x).mem.Canon := by
  unfold State.seNext
  repeat' split
  all_goals simp [h]
theorem execSeList_canon (c : Nat) {s : State} (h : s.mem.Canon) : NextCanon (execSeList c s) := by
  simp only [execSeList]
  repeat' split
  all_goals simp [h]
@[simp] theorem fetchDescs_canon (c n : Nat) {s : State} (x : SeRun) (h : s.mem.Canon) :
    (fetchDescs c n s x).1.mem.Canon := by
  induction n generalizing s x with
  | zero => exact h
  | succ n ih =>
    unfold fetchDescs; simp only []
    repeat' split
    all_goals simp -implicitDefEqProofs [h, ih]
theorem execDescriptorFetch_canon (c : Nat) {s : State} (h : s.mem.Canon) : NextCanon (execDescriptorFetch c s) := by
  unfold execDescriptorFetch
  repeat' split
  all_goals simp [h]
theorem execSlotGrant_canon (c : Nat) {s : State} (h : s.mem.Canon) : NextCanon (execSlotGrant c s) := by
  simp only [execSlotGrant]
  repeat' split
  all_goals simp [h]
@[simp] theorem readPiece_canon (m : Mv) (c : Nat) (d : Desc) (q : Nat × Nat) (h : m.s.mem.Canon) :
    (readPiece m c d q).1.s.mem.Canon := by
  simp only [readPiece]
  repeat' split
  all_goals simp [h]
@[simp] theorem putHost_mem (m : Mv) (a : Nat) (l : List PB) : (putHost m a l).s.mem = m.s.mem := by simp [putHost]
@[simp] theorem putDev_canon (m : Mv) (c a : Nat) (l : List PB) (v : Option Nat) (noVal : Bool) (h : m.s.mem.Canon) :
    (putDev m c a l v noVal).s.mem.Canon := by
  refine foldl_mv_canon (fun t q ht => ?_) _ h
  simp only []
  split <;> simp [ht]
@[simp] theorem copyPiece_canon (m : Mv) (c : Nat) (d : Desc) (r : Nat) (q : Nat × Nat) (h : m.s.mem.Canon) :
    (copyPiece m c d r q).s.mem.Canon := by
  have hr := readPiece_canon m c d q h
  unfold copyPiece; simp only []
  split
  · simpa using hr
  · exact foldl_mv_canon (fun t a ht => putDev_canon t _ _ _ _ _ ht) _ hr
@[simp] theorem fillRow_canon (m : Mv) (c : Nat) (d : Desc) (r : Nat) (h : m.s.mem.Canon) :
    (fillRow m c d r).s.mem.Canon := by simp [h, fillRow]
@[simp] theorem foldElem_canon (m : Mv) (_c : Nat) (d : Desc) (r : Nat) (row : List PB) (e : Nat) (h : m.s.mem.Canon) :
    (foldElem m _c d r row e).s.mem.Canon := by simp [h, foldElem]
@[simp] theorem foldRow_canon (m : Mv) (c : Nat) (d : Desc) (r : Nat) (h : m.s.mem.Canon) :
    (foldRow m c d r).s.mem.Canon := by
  refine foldl_mv_canon (fun t e ht => foldElem_canon t _ _ _ _ _ ht) _ ?_
  exact foldl_keeps (fun g : Mv × List PB => g.1.s.mem.Canon) _ (fun g q hg => readPiece_canon _ _ _ _ hg) _ _ h
@[simp] theorem swreadRow_canon (m : Mv) (c : Nat) (d : Desc) (r : Nat) (h : m.s.mem.Canon) :
    (swreadRow m c d r).s.mem.Canon := by
  refine foldl_mv_canon (fun t e ht => ?_) _ h
  simp only []
  repeat' split
  all_goals simp [ht]
@[simp] theorem putDigest_canon (m : Mv) (c : Nat) (w : List W64) (h : m.s.mem.Canon) :
    (putDigest m c w).s.mem.Canon := by simp [h, putDigest]
theorem runDesc_canon {s : State} (c op : Nat) {row : Mv → Nat → Desc → Nat → Mv}
    (hr : ∀ m r d i, m.s.mem.Canon → (row m r d i).s.mem.Canon) (h : s.mem.Canon) : (runDesc s c op row).mem.Canon := by
  have hrows (l : List Nat) (x : SeRun) (d : Desc) : (l.foldl (fun m i => row m c d i) ⟨s, x, []⟩).s.mem.Canon :=
    foldl_mv_canon (fun m i hm => hr m c d i hm) l h
  unfold runDesc; simp only []
  repeat' split
  all_goals simp [h, hrows]
@[simp] theorem copyRow_canon (m : Mv) (c : Nat) (d : Desc) (r : Nat) (h : m.s.mem.Canon) :
    (copyRow m c d r).s.mem.Canon := by simp +contextual [h, copyRow]
theorem execCvReread_canon (c : Nat) {s : State} (h : s.mem.Canon) : NextCanon (execCvReread c s) := by
  unfold execCvReread
  repeat' split
  all_goals simp [h]
theorem execDescriptorDone_canon (c : Nat) {s : State} (h : s.mem.Canon) : NextCanon (execDescriptorDone c s) := by
  unfold execDescriptorDone
  repeat' split
  all_goals simp [h]
theorem execMovedNack_canon (c : Nat) {s : State} (h : s.mem.Canon) : NextCanon (execMovedNack c s) := by
  unfold execMovedNack
  repeat' split
  all_goals simp [h]
theorem execStaleNack_canon (c : Nat) {s : State} (h : s.mem.Canon) : NextCanon (execStaleNack c s) := by
  unfold execStaleNack
  split <;> simp [h]
theorem execHostReadFail_canon (id a : Nat) {s : State} (h : s.mem.Canon) : NextCanon (execHostReadFail id a s) := by
  simp only [execHostReadFail]
  repeat' split
  all_goals simp [h]
theorem execRgnDisarmDone_canon (p n : Nat) {s : State} (h : s.mem.Canon) : NextCanon (execRgnDisarmDone p n s) := by
  simp only [execRgnDisarmDone]
  repeat' split
  all_goals simp [h]

/-! ### Tokens and the life cycle -/

@[simp] theorem State.redraw_mem (s : State) : s.redraw.mem = s.mem := by simp [State.redraw]
@[simp] theorem tokenOp_mem (s : State) (p k : Nat) (f : State → State) (h : ∀ t, (f t).mem = t.mem) :
    (tokenOp s p k f).mem = s.mem := by
  simp only [tokenOp]
  repeat' split
  all_goals simp [h]
@[simp] theorem State.stopForChange_mem (s : State) : s.stopForChange.mem = s.mem := by simp [State.stopForChange]
theorem State.mbUnknown_mem {s t : State} {p : Nat} (h : s.mbUnknown p = some t) : t.mem = s.mem := by
  simp only [State.mbUnknown] at h
  repeat' split at h
  all_goals cases h
  all_goals simp
@[simp] theorem State.mbFinish_mem (s : State) (p result : Nat) (l : List Byte) : (s.mbFinish p result l).mem = s.mem := by
  simp only [State.mbFinish]
  split <;> simp
theorem execMailboxResponse_canon (p : Nat) {s : State} (h : s.mem.Canon) : NextCanon (execMailboxResponse p s) := by
  have hu : ((s.mbUnknown p).getD s).mem = s.mem := by
    cases hu : s.mbUnknown p with
    | none => rfl
    | some t => exact State.mbUnknown_mem hu
  simp only [execMailboxResponse, nextCanon_next]
  split <;> simp [h, hu]
@[simp] theorem State.freeByte_mem (s : State) : s.freeByte.1.mem = s.mem := by simp [State.freeByte]
theorem execInstrumentAccess_canon (q : InstrumentReq) {s : State} (h : s.mem.Canon) :
    NextCanon (execInstrumentAccess q s) := by
  unfold execInstrumentAccess
  repeat' split
  all_goals simp [h]

/-! ### exec and step -/

/-- Every command keeps the canonical form of memory. -/
theorem exec_canon (c : Instr) {s : State} (h : s.mem.Canon) : NextCanon (exec c s) := by
  cases c with
  | lit | ext | dup | drop | swap | rot | nip | tuck | add | sub | neg | band | bor | bxor | bnot | eq | ne |
  lts | ltu | les | leu | eqz => exact issue_nextCanon_of_mem h (aluOp_mem _ _ _)
  | pick => exact issue_nextCanon_of_mem h (pickBody_mem _)
  | tor => exact issue_nextCanon_of_mem h (torBody_mem _)
  | fromr | rfetch => exact issue_nextCanon_of_mem h (fromrBody_mem _ _)
  | mul | mulhs | mulhu | divs | divu | rems | remu => exact issue_nextCanon_of_mem h (slowOp_mem _ _ _)
  | shl | shr | sar => exact issue_nextCanon_of_mem h (shiftBody_mem _ _)
  | sel => exact issue_nextCanon_of_mem h (selBody_mem _)
  | fadd | fsub | fmul | fdiv | fmax | fmin | fsqrt | flt | fle | feq | cvtif | cvtfi =>
    exact issue_nextCanon_of_mem h (fpOp_mem _ _ _)
  | ld8u | ld8s | ld16u | ld16s | ld32u | ld32s | ld64 => exact issue_nextCanon h fun t ht => ldBody_canon _ _ _ ht
  | st8 | st16 | st32 | st64 => exact issue_nextCanon h fun t ht => stBody_canon _ _ ht
  | lld8u | lld8s | lld16u | lld16s | lld32u | lld32s | lld64 => exact issue_nextCanon_of_mem h (lldBody_mem _ _ _)
  | lst8 | lst16 | lst32 | lst64 => exact issue_nextCanon_of_mem h (lstBody_mem _ _)
  | brz => exact issue_nextCanon_of_mem h (brzBody_mem _ _)
  | loop => exact issue_nextCanon_of_mem h (loopBody_mem _ _)
  | mxq | seqEnq => exact issue_nextCanon_of_mem h (enqBody_mem _ _)
  | qwait => exact issue_nextCanon_of_mem h (qwaitBody_mem _)
  | qtest => exact issue_nextCanon_of_mem h (qtestBody_mem _)
  | ret => exact issue_nextCanon_of_mem h (retBody_mem _)
  | rte => exact issue_nextCanon_of_mem h (rteBody_mem _)
  | jmpi | calli => exact issue_nextCanon_of_mem h (indirectBody_mem _ _)
  | lcnt => exact issue_nextCanon_of_mem h (lcntBody_mem _)
  | modew => exact issue_nextCanon_of_mem h (modewBody_mem _)
  | dcinvl => exact issue_nextCanon_of_mem h (dcinvlBody_mem _)
  | atw => exact issue_nextCanon_of_mem h (atwBody_mem _)
  | ecall => exact issue_nextCanon_of_mem h (ecallBody_mem _)
  | wfi => exact issue_nextCanon_of_mem h (wfiBody_mem _)
  | kend => exact issue_nextCanon_of_mem h (kendBody_mem _)
  | vadd | vsub | vmul | vdiv | vmax | vmin => exact issue_nextCanon_of_mem h (vec2_mem _ _ _)
  | vfma => exact issue_nextCanon_of_mem h (vec3_mem _ _)
  | vadds | vmuls | vmaxs | vmins => exact issue_nextCanon_of_mem h (vecS_mem _ _)
  | vabs | vneg | vsqrt | vrsqrt | vexp | vlog | vtanh | vsig => exact issue_nextCanon_of_mem h (vec1_mem _ _ _)
  | vcmpEq | vcmpNe | vcmpLt | vcmpLe | vcmpGt | vcmpGe => exact issue_nextCanon_of_mem h (vcmp_mem _ _)
  | vmand | vmor | vmxor | vmandn => exact issue_nextCanon_of_mem h (vmask_mem _ _)
  | vcvt => exact issue_nextCanon_of_mem h (vcvtBody_mem _)
  | vqmx => exact issue_nextCanon_of_mem h (vqmxBody_mem _)
  | vchain => exact issue_nextCanon_of_mem h (vchainBody_mem _)
  | vld | vldff => exact issue_nextCanon h fun t ht => vldBody_canon _ _ ht
  | vst => exact issue_nextCanon h fun t ht => vstBody_canon _ ht
  | vlds => exact issue_nextCanon h fun t ht => vldsBody_canon _ ht
  | vsts => exact issue_nextCanon h fun t ht => vstsBody_canon _ ht
  | vgather | vgatherff => exact issue_nextCanon h fun t ht => vgatherBody_canon _ _ ht
  | vscatter => exact issue_nextCanon h fun t ht => vscatterBody_canon _ ht
  | vocld => exact issue_nextCanon_of_mem h (vocldBody_mem _)
  | vocst => exact issue_nextCanon_of_mem h (vocstBody_mem _)
  | ocfill | ocbind => exact issue_nextCanon h fun t ht => ocBindBody_canon _ _ ht
  | ocwb => exact issue_nextCanon h fun t ht => ocwbBody_canon _ ht
  | ocevict => exact issue_nextCanon_of_mem h (ocevictBody_mem _)
  | vfold => exact issue_nextCanon h fun t ht => vfoldBody_canon _ ht
  | vswadd => exact issue_nextCanon h fun t ht => vswaddBody_canon _ ht
  | vswrd | vswrdc => exact issue_nextCanon h fun t ht => vswrdBody_canon _ _ ht
  | vrsum | vrprod => exact issue_nextCanon_of_mem h (redSum_mem _ _)
  | vrmax | vrmin => exact issue_nextCanon_of_mem h (redMax_mem _ _)
  | vcount | vany | vall | vfirst => exact issue_nextCanon_of_mem h (maskSum_mem _ _)
  | vrsw => exact issue_nextCanon h fun t ht => vrswBody_canon _ ht
  | vmset => exact issue_nextCanon_of_mem h (vecOp_mem _ _ _ _ fun k l t => by simp only []; split <;> simp)
  | vsetvl => exact issue_nextCanon_of_mem h (vecOp_mem _ _ _ _ fun k l t => by split <;> simp)
  | depth | call | moder | dcinv | icinv | fence | nop | illegalInstr | vgetvl | ocsync =>
    exact issue_nextCanon_of_mem h fun t => by simp
  | lldi | lsti | lexit | atwc => exact issue_nextCanon_of_mem h fun t => by repeat' split <;> simp
  -- the commands that always answer a next state, made by the helpers above
  | resultFill | reductionResult | stackRefill | dcacheFill | icacheFill | storeAck | vectorLoadArrive | ocFillDone |
  ocWritebackAck | exceptionEntry | fadd32 | fadd64 | iadd64 | swaddF64 | swaddF32 | swaddBf16 | swaddCell | swrd |
  swrdClr | rgnArm | rgnArmDone | rgnDisarm | sbArm | sbArmDone | sbDisarm | winArm | winArmDone | winDisarm | b2WinArm
  | b2WinArmDone | b2WinDisarm | ddrRefresh | ddrRetrainStep | channelScan | channelAbortDone
  | remoteWriteFrame | remoteFoldFrame | readRequest | readResponse |
  collectiveFrame | voteFrame | ackFrame | nackFrame | noticeFrame | keepaliveFrame | helloExchange | ackTimer |
  keepaliveSend | peerSilence | noticeSend | linkDrops | partnerEntryWrite |
  partnerEntryRead | expelPartner | keyLoad | equaliserTrained | laneDeskewDone | trainingTimeout | helloRetry |
  autoNegotiation | laneRecalTrigger | perstAssert | perstDeassert | hotReset | dataLinkDown | functionLevelReset |
  partitionResetFail | d3hotEntry | d0Return | ideKm | ideInsecure | getId | attest | imageBegin | imageWrite |
  tokenDebug | tokenRelease | tokenVendorReturn | tokenProvision | tokenScrap | tokenSvn | tokenRevoke | retArmExpire |
  debugExpire | debugHaltRequest | lifecycleReset | entdaa | setdasa | mctpControl | getTid | getPldmVersion |
  getPldmTypes | getPldmCommands | getPdrRepositoryInfo | getPdr | getSensorReading | getStateSensorReadings |
  sensorRefresh | mgmtStatus | mgmtLogRead | mgmtLogAck | rotSuspend | rotResume | pvAck | lockstepMismatch |
  standbyTakeover | clockFault | supplyFault | migrationRetry | rotationRecordWrite | powerSample | admissionResume |
  thermalSample | thermalStopEnd | enRise | enFall | powerUpRestart | powerGood | sysRstNAssert | sysRstNDeassert |
  bootRom | bootMemory | psecWrite | jtagBypass | jtagIdcode | jtagSamplePreload | jtagExtest | jtagClamp |
  portConfigReady | pcieLinkUp | vin48InRange =>
    exact nextCanon_next.2 (by simp [h])
  -- the commands whose next states need a case split, or an argument of their own, made above
  | streamCopy | streamBcast => exact nextCanon_next.2 (runDesc_canon _ _ (fun m r d i hm => copyRow_canon m r d i hm) h)
  | streamFill => exact nextCanon_next.2 (runDesc_canon _ _ (fun m r d i hm => fillRow_canon m r d i hm) h)
  | streamFold => exact nextCanon_next.2 (runDesc_canon _ _ (fun m r d i hm => foldRow_canon m r d i hm) h)
  | streamSwread => exact nextCanon_next.2 (runDesc_canon _ _ (fun m r d i hm => swreadRow_canon m r d i hm) h)
  | retransmissionTimeout => exact execRetransmissionTimeout_canon _ h
  | pfcFrame => exact execPfcFrame_canon _ _ _ h
  | controlLoadReturn => exact execControlLoadReturn_canon _ h
  | atomicWindowExpire => exact execAtomicWindowExpire_canon _ h
  | wfiWake => exact execWfiWake_canon _ h
  | abortTimeout => exact execAbortTimeout_canon _ h
  | softPost => exact execSoftPost_canon _ _ h
  | ticketEnqueue => exact execTicketEnqueue_canon _ _ h
  | ticketComplete => exact execTicketComplete_canon _ _ h
  | mxMatmul => exact execMxMatmul_canon _ h
  | mxExtAlone => exact execMxExtAlone_canon _ h
  | mxRowEnter => exact execMxRowEnter_canon _ h
  | mxPassBoundary => exact execMxPassBoundary_canon _ h
  | windrowCompare => exact execWindrowCompare_canon _ _ _ _ h
  | windrowVote => exact execWindrowVote_canon _ _ _ _ _ _ h
  | mxTileDrainDone => exact execMxTileDrainDone_canon _ h
  | mxCommandEnd => exact execMxCommandEnd_canon _ h
  | registerWrite => exact execRegisterWrite_canon _ _ _ _ h
  | rgnDisarmDone => exact execRgnDisarmDone_canon _ _ h
  | scrubRead => exact execScrubRead_canon _ h
  | correctedWriteback => exact execCorrectedWriteback_canon _ h
  | spareCopyDone => exact execSpareCopyDone_canon _ _ h
  | granuleCopyDone => exact execGranuleCopyDone_canon _ h
  | pprDone => exact execPprDone_canon _ h
  | pprTimeout => exact execPprTimeout_canon _ h
  | ddrGranuleCopyDone => exact execDdrGranuleCopyDone_canon _ h
  | repairRecordWrite => exact execRepairRecordWrite_canon h
  | beatReplay => exact execBeatReplay_canon _ _ _ h
  | bondErased => exact execBondErased_canon _ _ h
  | d2dLaneRepaired => exact execD2dLaneRepaired_canon _ _ h
  | ddrTempRead => exact execDdrTempRead_canon _ _ h
  | commandRecordCopy => exact execCommandRecordCopy_canon _ h
  | commandDispatch => exact execCommandDispatch_canon _ h
  | kernelAccept => exact execKernelAccept_canon _ h
  | kernelStart => exact execKernelStart_canon _ h
  | kernelComplete => exact execKernelComplete_canon _ h
  | seList => exact execSeList_canon _ h
  | barArm => exact execBarArm_canon _ h
  | nopCommand => exact execNopCommand_canon _ h
  | commandCompletion => exact execCommandCompletion_canon _ h
  | progressWatchdogExpire => exact execProgressWatchdogExpire_canon _ h
  | descriptorFetch => exact execDescriptorFetch_canon _ h
  | slotGrant => exact execSlotGrant_canon _ h
  | cvReread => exact execCvReread_canon _ h
  | descriptorDone => exact execDescriptorDone_canon _ h
  | movedNack => exact execMovedNack_canon _ h
  | staleNack => exact execStaleNack_canon _ h
  | hostReadFail => exact execHostReadFail_canon _ _ h
  | lkXfer => exact execLkXfer_canon _ h
  | lkColl => exact execLkColl_canon _ h
  | lkMcast => exact execLkMcast_canon _ h
  | lkVote => exact execLkVote_canon _ h
  | lkExpel => exact execLkExpel_canon _ h
  | linkContextGrant => exact execLinkContextGrant_canon _ h
  | abortFrame => exact execAbortFrame_canon _ _ h
  | lagLimitExpire => exact execLagLimitExpire_canon _ _ h
  | pfcWatchdog => exact execPfcWatchdog_canon _ _ h
  | portEnable => exact execPortEnable_canon _ h
  | degradeFlit => exact execDegradeFlit_canon _ h
  | laneRecalDone => exact execLaneRecalDone_canon _ _ h
  | vfFunctionLevelReset => exact execVfFunctionLevelReset_canon _ _ h
  | presetIdle => exact execPresetIdle_canon _ h
  | presetCleared => exact execPresetCleared_canon _ h
  | presetEraseDone => exact execPresetEraseDone_canon _ h
  | configRequest => exact execConfigRequest_canon _ _ h
  | bar2Read => exact execBar2Read_canon _ _ _ h
  | bar2Write => exact execBar2Write_canon _ _ _ _ h
  | spdmRequest => exact execSpdmRequest_canon _ _ h
  | imageCommit => exact execImageCommit_canon _ h
  | imageApply => exact execImageApply_canon _ h
  | policyQuiesceApply => exact execPolicyQuiesceApply_canon h
  | monitorInPlace => exact execMonitorInPlace_canon _ h
  | plannedSwitchover => exact execPlannedSwitchover_canon h
  | applyComplete => exact execApplyComplete_canon h
  | mailboxResponse => exact execMailboxResponse_canon _ h
  | recoveryActionStart => exact execRecoveryActionStart_canon h
  | clusterDue => exact execClusterDue_canon _ h
  | clusterBorrowed => exact execClusterBorrowed_canon _ h
  | migrationStart => exact execMigrationStart_canon _ h
  | migrationDone => exact execMigrationDone_canon _ h
  | migrationHoldRelease => exact execMigrationHoldRelease_canon _ h
  | testKernelDone => exact execTestKernelDone_canon _ _ _ h
  | clusterReplace => exact execClusterReplace_canon _ h
  | dividerSwitch => exact execDividerSwitch_canon h
  | vinOutOfRange => exact execVinOutOfRange_canon _ h
  | bootImage => exact execBootImage_canon h
  | bootInit => exact execBootInit_canon h
  | instrumentAccess => exact execInstrumentAccess_canon _ h
  -- OVER, the one command left: its name is a token of Mathlib's and cannot label an alternative
  | _ => exact issue_nextCanon_of_mem h (aluOp_mem _ _ _)

/-- Settles O57: each command keeps the form by the lemma about its meaning; on an empty queue the clock leaves memory alone. -/
theorem stepKeepsMemoryCanonical : Obligations.StepKeepsMemoryCanonical := by
  unfold Obligations.StepKeepsMemoryCanonical
  intro s t hs hstep
  have h : s.mem.Canon := hs
  cases hq : s.pending with
  | nil =>
    have hidle : s.idle.mem.Canon := by simp [h]
    rw [step_of_empty hq] at hstep
    exact nextCanon_next.2 hidle t hstep
  | cons c rest =>
    have hrest : { s with pending := rest }.mem.Canon := h
    rw [step_of_front hq] at hstep
    exact exec_canon c hrest t hstep

end Sys2Proof.Machine
end

section
/-! Proofs about scrubbing, write-backs, repair and the transfer codes: each command by the case that it is in. -/

namespace Sys2Proof.Machine

/-! ### Scrub reads and write-backs (R240, R252 to R254) -/

section
variable {s : State} {d off a : Nat}

/-- Where the scrub is off, a scrub read does nothing. -/
theorem execScrubRead_of_off (h : s.policy.scrub = false) (r : StoreRef) : execScrubRead r s = .next s := by
  simp [execScrubRead, h]
theorem execScrubRead_lm_clean (h : mfind s.mem.latent (lmWord d off) = none) : execScrubRead (.lm d off) s = .next s := by
  unfold execScrubRead
  split
  · rfl
  · simp only [h]
theorem execScrubRead_lm_found {x : StoreErr} (hon : s.policy.scrub = true) (h : mfind s.mem.latent (lmWord d off) = some x) :
    execScrubRead (.lm d off) s = .next (s.lmFound (lmWord d off) x) := by
  simp [execScrubRead, hon, h]
theorem execScrubRead_dev_clean (h : mfind s.mem.latent (unitOf a) = none ∨ isMemory a = false) :
    execScrubRead (.dev a) s = .next s := by
  unfold execScrubRead
  split
  · rfl
  · rcases h with h | h <;> simp [h]
theorem execScrubRead_dev_found {x : StoreErr} (hon : s.policy.scrub = true) (hmem : isMemory a = true)
    (hdetect : s.isDetect a = false) (habsent : s.isAbsent a = false) (h : mfind s.mem.latent (unitOf a) = some x) :
    let s1 := (readErr s (if isDdr a then 16 else bankDie (s.bankRow a).1) (unitOf a) x).1
    execScrubRead (.dev a) s = .next (if s1.mem.writeback.contains (unitOf a) then s1.writeBack (unitOf a) else s1) := by
  simp [execScrubRead, hon, hmem, hdetect, habsent, h]

/-- A write-back that a write to the same word came before does nothing. -/
theorem execCorrectedWriteback_of_not_mem (h : unitOf a ∉ s.mem.writeback) : execCorrectedWriteback (.dev a) s = .next s := by
  simp [execCorrectedWriteback, h]
theorem execCorrectedWriteback_of_mem (h : unitOf a ∈ s.mem.writeback) :
    execCorrectedWriteback (.dev a) s = .next (s.writeBack (unitOf a)) := by
  simp [execCorrectedWriteback, h]

/-- The second read of a write-back tells a hard error, a soft one and none apart. -/
theorem State.writeBack_eq (s : State) (w : Nat) :
    let s1 := { s with mem := { s.mem with writeback := sdel s.mem.writeback w } }
    (mfind s.mem.latent w = some (.correctable true) → s.writeBack w = s1.rowFails (w * 8))
    ∧ (mfind s.mem.latent w = some (.correctable false) →
      s.writeBack w = { s1 with mem := { s1.mem with latent := mdel s1.mem.latent w } })
    ∧ (mfind s.mem.latent w = none → s.writeBack w = s1) := by
  refine ⟨?_, ?_, ?_⟩ <;> intro h <;> simp only [State.writeBack, h]

end

/-! ### The ends of copies (R259 to R262, R265) -/

section
variable {s : State} {g t : Nat}

theorem execSpareCopyDone_idle {b : BankRef} (h : (s.bank (s.bankNo b)).copying = none) (row : Nat) :
    execSpareCopyDone b row s = .next s := by
  simp only [execSpareCopyDone, h]
theorem execSpareCopyDone_copied {b : BankRef} {row sp : Nat} (h : (s.bank (s.bankNo b)).copying = some (row, sp)) :
    let n := s.bankNo b
    let s1 := s.copied fun w => (decide (2 ^ 50 ≤ w) || (isMemory (w * 8) && !isDdr (w * 8))) && s.wordRow w == (n, row)
    let s2 := s1.setBank n { s.bank n with map := madd (s.bank n).map row sp, copying := none }
    execSpareCopyDone b row s = .next (if n < 1000 then s2.endAction uBaseBank n else s2) := by
  simp only [execSpareCopyDone, h]
  rw [if_neg (not_not_intro rfl)]

theorem execGranuleCopyDone_idle (h : mfind s.repair.copying g = none) : execGranuleCopyDone g s = .next s := by
  simp only [execGranuleCopyDone, h]
theorem execGranuleCopyDone_copied (h : mfind s.repair.copying g = some t) :
    let s1 := s.copied fun w => isBase (w * 8) && granuleOf (w * 8) == g
    let s2 := { s1 with repair := { s1.repair with
      copying := mdel s1.repair.copying g, granuleAt := madd s1.repair.granuleAt g t } }
    ∃ e : LogEntry, e.code = eGranuleMoved ∧ e.addr = granuleAddr g ∧ execGranuleCopyDone g s = .next
      ((logEv (s2.record 4 (granuleDie g) (granuleBank g) 0 (0x400000000000 / 0x200000 + g) t) (8 + granuleDie g) e).nextMove
        (s.homeBank g) 5) := by
  simp only [execGranuleCopyDone, h]
  exact ⟨_, rfl, rfl, rfl⟩

theorem execDdrGranuleCopyDone_idle (h : mfind s.repair.ddrCopying g = none) : execDdrGranuleCopyDone g s = .next s := by
  simp only [execDdrGranuleCopyDone, h]
theorem execDdrGranuleCopyDone_copied (h : mfind s.repair.ddrCopying g = some t) :
    let s1 := s.copied fun w => isDdr (w * 8) && w * 8 / 0x200000 == g
    let s2 := { s1 with repair := { s1.repair with ddrCopying := mdel s1.repair.ddrCopying g, ddrAt := madd s1.repair.ddrAt g t } }
    ∃ e : LogEntry, e.code = eGranuleMoved ∧ e.addr = g * 0x200000 ∧ execDdrGranuleCopyDone g s =
      .next (logEv (s2.record 4 (g * 0x200000 / 256 % 80 / 4) (g * 0x200000 / 256 % 80) 0 g t) 16 e) := by
  simp only [execDdrGranuleCopyDone, h]
  exact ⟨_, rfl, rfl, rfl⟩

end

/-! ### Post-package repair (R264, R265) -/

section
variable {s : State} {r : DdrRow}

theorem execPprDone_idle (h : s.pprOn r = false) : execPprDone r s = .next s := by simp [execPprDone, h]
theorem execPprTimeout_idle (h : s.pprOn r = false) : execPprTimeout r s = .next s := by simp [execPprTimeout, h]
theorem execPprDone_of_on (h : s.pprOn r = true) :
    let arg := r.bank + 256 * r.row
    let s1 := s.copied (inDdrRow r.chan arg)
    let s2 := { s1 with repair := { s1.repair with rows := ⟨r.chan, r.bank, r.row, r.addr, false⟩ :: s1.dropRow r } }
    ∃ e : LogEntry, e.code = eDdrRepaired ∧ e.addr = r.addr ∧ execPprDone r s = .next
      ((logEv (s2.record 6 (r.chan / 4) (r.chan + 256 * r.bank) r.row (r.chan + 128 * arg) r.addr) 16 e).endAction uDdrRow
        (r.chan + 128 * arg)) := by
  simp only [execPprDone, h]
  exact ⟨_, rfl, rfl, rfl⟩
theorem execPprTimeout_of_on (h : s.pprOn r = true) :
    let arg := r.bank + 256 * r.row
    execPprTimeout r s = .next (((({ s with repair := { s.repair with rows := s.dropRow r } }).endAction uDdrRow
      (r.chan + 128 * arg)).retireUnit uDdrRow (r.chan + 128 * arg)).unrepairable r.chan arg r.addr) := by
  simp only [execPprTimeout, h]
  rfl

end

/-! ### The journal of REPAIR records (R267) -/

section
variable {s : State} {r : RepairRec} {rest : List RepairRec}

theorem execRepairRecordWrite_idle (h : s.repair.pending = []) : execRepairRecordWrite s = .next s := by
  simp only [execRepairRecordWrite, h]
theorem execRepairRecordWrite_pending (h : s.repair.pending = r :: rest) :
    let all := s.repair.recs ++ [r]
    let kept := if all.length ≤ 16384 then all else all.filter fun x => !all.any fun y => y.over x
    (kept.length ≤ 16384 →
      execRepairRecordWrite s = .next { s with repair := { s.repair with pending := rest, recs := kept } })
    ∧ (16384 < kept.length → ∃ e : LogEntry, e.code = eRepairLog ∧ e.detail = 2 ∧ execRepairRecordWrite s =
        .next (logEv { s with repair := { s.repair with pending := rest } } 16 e)) := by
  simp only [execRepairRecordWrite, h]
  exact ⟨fun hfits => if_pos hfits, fun hfull => ⟨_, rfl, rfl, if_neg (Nat.not_le_of_lt hfull)⟩⟩

end

/-! ### Transfer codes and lane groups (R20, R245, R247) -/

section
variable {s : State} {c a grp ph : Nat}

/-- A beat that could not be corrected lands poisoned in memory that is there. -/
theorem execBeatReplay_lost (hmem : isMemory (a / 256 * 256) = true) (hpresent : s.isAbsent (a / 256 * 256) = false) :
    ∃ e : LogEntry, e.code = ePathUe ∧ e.addr = a / 256 * 256 ∧ execBeatReplay c a false s = .next
      (logCluster { s with mem := { s.mem with
        psn := ((List.range 32).map (· + a / 256 * 256 / 8)).foldl sadd s.mem.psn } } c e) := by
  refine ⟨{ ev ePathUe with addr := a / 256 * 256 }, rfl, rfl, ?_⟩
  simp only [execBeatReplay, hmem, hpresent, upTo]
  rfl

/-- What the next erasure of a channel's bond groups does: nothing new, the third of its codeword, or an erasure more. -/
theorem execBondErased_of_role (hrole : s.physOfRole c = some ph) (hgrp : grp < 288) :
    let x := s.physOf ph
    let near := (x.erased.filter fun g => g % 8 == grp % 8).length
    (grp ∈ x.erased → execBondErased c grp s = .next s)
    ∧ (grp ∉ x.erased → 2 ≤ near → execBondErased c grp s = .next (s.retireCluster ph 3))
    ∧ (grp ∉ x.erased → near < 2 → ∃ e : LogEntry, e.code = eBondErased ∧ e.unit = grp ∧ execBondErased c grp s = .next
        (logEv ((s.setPhys ph { x with erased := sadd x.erased grp }).record 8 (ph / 36) ph grp ph 0) (ph / 36) e)) := by
  have hnew (h : grp ∉ (s.physOf ph).erased) : ¬(288 ≤ grp ∨ (s.physOf ph).erased.contains grp = true) := by
    simp [h, hgrp]
  simp only [execBondErased, hrole]
  refine ⟨fun h => ?known, fun h hnear => ?third, fun h hnear => ?further⟩
  case known => exact if_pos (.inr (List.contains_iff_mem.mpr h))
  case third => rw [if_neg (hnew h), if_pos hnear]
  case further =>
    rw [if_neg (hnew h), if_neg (Nat.not_le_of_lt hnear)]
    exact ⟨_, rfl, rfl, rfl⟩

theorem execD2dLaneRepaired_retired (h : s.repair.d2dRetired.contains grp = true) (ok : Bool) :
    execD2dLaneRepaired grp ok s = .next s := if_pos h
theorem execD2dLaneRepaired_failed (h : s.repair.d2dRetired.contains grp = false) :
    execD2dLaneRepaired grp false s = .next (s.d2dRetire grp) := if_neg (ne_true_of_eq_false h)
theorem execD2dLaneRepaired_ok (h : s.repair.d2dRetired.contains grp = false) :
    ∃ e : LogEntry, e.code = eD2dLaneRepaired ∧ e.unit = grp ∧ let s1 := logUnit s 16 e 0
      execD2dLaneRepaired grp true s = .next (if s1.unitRetired uD2d grp then s1.d2dRetire grp else s1) :=
  ⟨_, rfl, rfl, if_neg (ne_true_of_eq_false h)⟩

end

/-- Settles O40: a lemma for each case of each command. -/
theorem repairResults : Obligations.RepairResults := by
  unfold Obligations.RepairResults
  refine ⟨?scrub, ?spare, ?granules, ?ppr, ?refresh, ?journal, ?beats, ?bonds, ?lanes⟩
  case scrub =>
    intro s d off a
    refine ⟨fun h => ⟨execScrubRead_of_off h (.lm d off), execScrubRead_of_off h (.dev a)⟩, execScrubRead_lm_clean,
      fun hon x h => execScrubRead_lm_found hon h, execScrubRead_dev_clean,
      fun hon hmem hdetect habsent x h => execScrubRead_dev_found hon hmem hdetect habsent h, rfl,
      execCorrectedWriteback_of_not_mem, fun hwb => ?_⟩
    obtain ⟨hhard, hsoft, hgone⟩ := s.writeBack_eq (unitOf a)
    have hexec := execCorrectedWriteback_of_mem hwb
    exact ⟨fun h => hexec.trans (congrArg _ (hhard h)), fun h => hexec.trans (congrArg _ (hsoft h)),
      fun h => hexec.trans (congrArg _ (hgone h))⟩
  case spare => exact fun s b row sp => ⟨fun h => execSpareCopyDone_idle h row, execSpareCopyDone_copied⟩
  case granules =>
    exact fun s g t => ⟨execGranuleCopyDone_idle, execGranuleCopyDone_copied, execDdrGranuleCopyDone_idle,
      execDdrGranuleCopyDone_copied⟩
  case ppr =>
    exact fun s r => ⟨fun h => ⟨execPprDone_idle h, execPprTimeout_idle h⟩,
      fun h => ⟨execPprDone_of_on h, execPprTimeout_of_on h⟩⟩
  case refresh => exact fun s k b => ⟨fun hk hb => congrArg _ (if_pos ⟨hk, hb⟩), fun hk => congrArg _ (if_pos hk)⟩
  case journal => exact fun s => ⟨execRepairRecordWrite_idle, fun r rest h => execRepairRecordWrite_pending h⟩
  case beats => exact fun s c a => ⟨rfl, execBeatReplay_lost⟩
  case bonds => exact fun s c grp ph => execBondErased_of_role
  case lanes =>
    exact fun s grp => ⟨execD2dLaneRepaired_retired, fun h => ⟨execD2dLaneRepaired_failed h, execD2dLaneRepaired_ok h⟩⟩

end Sys2Proof.Machine
end

section
/-! Proofs about the dispatcher's completions and about kernels: each command by the case it is in. -/

namespace Sys2Proof.Machine

/-! ### Completions (R280, R281) -/

section
variable {s : State} {id : Nat} {c : Cmd} {st : Status}

@[simp] theorem length_completionRecord (c : Cmd) (st : Status) (j n ptime : Nat) (tag : W64) :
    (completionRecord c st j n ptime tag).length = 32 := by
  simp only [completionRecord, List.length_append, length_leBytes]

/-- A completion ring in device memory takes the record where its index points (R280). -/
theorem State.putRecord_dev (h : bitW (s.chan c.ch).w0 13 = false) :
    let n := fld (s.chan c.ch).w2 5 0
    let j := s.cplPi c.ch
    s.putRecord c st = (storeMem s (16 + c.part / 2) (fld (s.chan c.ch).w2 63 6 * 64 + 32 * (j % 2 ^ n))
      ((completionRecord c st j n s.sc (s.chW c.ch 5)).map fun b => (b, false)), true) := by
  simp only [State.putRecord, h, Bool.false_eq_true, if_false]

theorem exec_commandCompletion_silent (hcmd : s.cmd id = some c) (hst : c.status = some st) (h : c.silent = true) :
    exec (.commandCompletion id) s = .next (s.dropCmd c) := by
  change execCommandCompletion id s = _
  simp only [execCommandCompletion, hcmd, hst, h, if_true]

/-- R386: host memory that holds requests back holds the completion back. -/
theorem exec_commandCompletion_held (hcmd : s.cmd id = some c) (hst : c.status = some st) (h : c.silent = false)
    (hhost : bitW (s.chan c.ch).w0 13 = true) (hheld : s.hostWay c.part (s.chanFn c.ch) = .held) :
    exec (.commandCompletion id) s = .next s := by
  change execCommandCompletion id s = _
  simp only [execCommandCompletion, hcmd, hst, h, hhost, hheld, and_self, Bool.false_eq_true, if_false, if_true]

/-- The steps of a completion before it may halt its channel (R280): barriers, record, index, message. -/
def State.completed (s : State) (c : Cmd) (st : Status) : State :=
  let k := s.chan c.ch
  let fn := s.chanFn c.ch
  let s1 := s.signalMask c.cluster c.part (fld k.w0 20 16) (fld k.w0 26 21) (c.words.getD 0 0) st
  let r := s1.putRecord c st
  let s2 := r.1.setChW c.ch 4 (setFld (r.1.chW c.ch 4) 63 32 (r.1.cplPi c.ch + 1))
  if bitW (c.words.getD 0 0) 8 = true ∨ st ≠ .ok then
    msixDue s2 c.part (if fn = 0 then fld k.w0 30 27 else fn) (fld k.w0 44 34) else s2

section
variable (hcmd : s.cmd id = some c) (hst : c.status = some st) (h : c.silent = false)
  (hdev : bitW (s.chan c.ch).w0 13 = false)
  (hdev1 : bitW ((s.signalMask c.cluster c.part (fld (s.chan c.ch).w0 20 16) (fld (s.chan c.ch).w0 26 21)
    (c.words.getD 0 0) st).chan c.ch).w0 13 = false)
include hcmd hst h hdev hdev1

/-- R280, R281: a completion into device memory halts its channel where the entry says so and the channel is not at rest. -/
theorem exec_commandCompletion_dev :
    let t := s.completed c st
    exec (.commandCompletion id) s = .next ((if st.halts (s.chan c.ch).w0 = true ∧ fld (t.chW c.ch 0) 1 0 < 2 then
      t.haltChan c.ch st (seqOf c.words) else t).dropCmd c) := by
  have hput := State.putRecord_dev (st := st) hdev1
  change execCommandCompletion id s = _
  simp only [execCommandCompletion, State.completed, hcmd, hst, h, hdev, hput, Bool.false_eq_true, Bool.not_true, false_and,
    true_and, if_false, if_true]

theorem exec_commandCompletion_halts
    (hhalts : st.halts (s.chan c.ch).w0 = true ∧ fld ((s.completed c st).chW c.ch 0) 1 0 < 2) :
    exec (.commandCompletion id) s = .next (((s.completed c st).haltChan c.ch st (seqOf c.words)).dropCmd c) := by
  rw [exec_commandCompletion_dev hcmd hst h hdev hdev1, if_pos hhalts]

theorem exec_commandCompletion_stays
    (hstays : ¬(st.halts (s.chan c.ch).w0 = true ∧ fld ((s.completed c st).chW c.ch 0) 1 0 < 2)) :
    exec (.commandCompletion id) s = .next ((s.completed c st).dropCmd c) := by
  rw [exec_commandCompletion_dev hcmd hst h hdev hdev1, if_neg hstays]

end

end

/-- Settles O45: a lemma for each way that a completion may go. -/
theorem commandCompletionResults : Obligations.CommandCompletionResults := by
  unfold Obligations.CommandCompletionResults
  refine ⟨?completion, ?record⟩
  case completion =>
    intro s id c st hcmd hst
    refine ⟨exec_commandCompletion_silent hcmd hst, fun h => ⟨exec_commandCompletion_held hcmd hst h, fun hdev => ?_⟩⟩
    intro k fn s1 r s2 s3 hdev1
    exact ⟨exec_commandCompletion_halts hcmd hst h hdev hdev1, exec_commandCompletion_stays hcmd hst h hdev hdev1⟩
  case record =>
    intro s c st hdev
    exact ⟨congrArg Prod.fst (State.putRecord_dev hdev), length_completionRecord ..⟩

/-! ### Kernels (R286 to R289) -/

section
variable {s : State} {id : Nat} {c : Cmd} {x : Kernel}

/-- R287: an accepted KERNEL waits behind those before it. -/
theorem exec_kernelAccept_waiting (h : s.waitingCmd id 0x10 = some c) :
    let w := fun i => c.words.getD i 0
    exec (.kernelAccept id) s = .next { (s.updCmd id fun c => { c with started := true }) with
      kernels := s.kernels ++ [⟨id, c.cluster, coresOf (fld (w 1) 55 48), fld (w 1) 47 0,
        (List.range 5).map fun i => w (i + 2), bitW (w 0) 9, false, none⟩] } := by
  change execKernelAccept id s = _
  simp only [execKernelAccept, h]
  rfl

/-- R286, R288: a kernel starts on all its cores once each is idle and no kernel before it waits for one of them. -/
theorem exec_kernelStart_ready (hx : (s.kernels.find? fun k => k.id == id) = some x) (hc : s.cmd id = some c)
    (hnew : x.started = false) (hlive : x.abort = none) (hhold : s.power.holdIssue = false)
    (hidle : ∀ i ∈ x.cores, (s.core (x.cluster * 8 + i)).kernel = none ∧ (s.core (x.cluster * 8 + i)).run = .idle)
    (hturn : ((s.kernels.takeWhile fun k => k.id != id).any fun k =>
      k.cluster == x.cluster && !k.started && k.cores.any fun i => x.cores.contains i) = false) :
    let w0 := (s.chan c.ch).w0
    exec (.kernelStart id) s = .next (x.cores.foldl (fun t i => t.setCore (x.cluster * 8 + i)
      ((t.core (x.cluster * 8 + i)).start x (s.part c.part).sEntry (fld w0 20 16) (fld w0 26 21)))
      { s with kernels := s.kernels.map fun k => if k.id = id then { k with started := true } else k }) := by
  have hfree : (x.cores.any fun i =>
      (s.core (x.cluster * 8 + i)).kernel.isSome || (s.core (x.cluster * 8 + i)).run != .idle) = false := by
    refine List.any_eq_false.mpr fun i hi => ?_
    obtain ⟨hkernel, hrun⟩ := hidle i hi
    simp [hkernel, hrun]
  change execKernelStart id s = _
  simp only [execKernelStart, hx, hc, hnew, hlive, hhold, hturn, hfree, Option.isSome_none, Bool.or_self,
    Bool.false_eq_true, if_false]

/-- A bit reads 0 once it has been written 0. -/
theorem bitW_setFld_zero (w : W64) (n : Nat) : bitW (setFld w n n 0) n = false := by
  have hmask (hn : n < 64) : (maskW n n).getLsbD n = true := by
    rw [maskW, BitVec.getLsbD_ofNat, Nat.add_sub_cancel_left]
    simp [hn, Nat.testBit_two_pow_self]
  by_cases hn : n < 64
  · simp [bitW, setFld, hmask hn]
  · exact BitVec.getLsbD_of_ge _ _ (Nat.le_of_not_lt hn)

/-- The status of a kernel whose cores have ended: that of an abort, or else the highest-ranked of its cores (R289, R290). -/
def Kernel.endStatus (x : Kernel) (ks : List Core) : Status := x.abort.getD (Status.worst (ks.map Core.kernelStatus))

/-- R290: a kernel that was aborted before it started ends with no core having run it. -/
theorem exec_kernelComplete_unstarted {st : Status} (hx : (s.kernels.find? fun k => k.id == id) = some x)
    (hnew : x.started = false) (hst : x.abort = some st) (hcycle : st ≠ .noProgress) :
    exec (.kernelComplete id) s =
      .next ({ s with kernels := s.kernels.filter fun k => k.id != id }.finish id st 0 0) := by
  change execKernelComplete id s = _
  simp only [execKernelComplete, hx, hnew, hst, hcycle, Bool.not_false, if_false, if_true]

theorem exec_kernelComplete_running (hx : (s.kernels.find? fun k => k.id == id) = some x) (hstarted : x.started = true)
    (hends : ((x.cores.map fun i => s.core (x.cluster * 8 + i)).all Core.kernelEnded) = false) :
    exec (.kernelComplete id) s = .next s := by
  change execKernelComplete id s = _
  simp only [execKernelComplete, hx, hstarted, hends, Bool.not_true, Bool.not_false, Bool.false_eq_true, if_false, if_true]

/-- R289, R304: every core has ended its part, so their blocks get their values and the cores are free. -/
theorem exec_kernelComplete_ended (hx : (s.kernels.find? fun k => k.id == id) = some x) (hstarted : x.started = true) :
    let ks := x.cores.map fun i => s.core (x.cluster * 8 + i)
    let st := x.endStatus ks
    let fl := b2n (ks.any fun k => bitW k.vxStatus 5) + 2 * b2n (ks.any fun k => bitW k.vxRcStat 0)
    let s1 := { s with kernels := s.kernels.filter fun k => k.id != id }
    let s2 := s1.coverFresh (s.dieOf x.cluster) (ks.foldl (fun m k => coverUnion m k.cvCover) [])
    (ks.all Core.kernelEnded) = true → st ≠ .noProgress → exec (.kernelComplete id) s =
      .next ((x.cores.foldl (fun t i => t.setCore (x.cluster * 8 + i) (t.core (x.cluster * 8 + i)).release) s2).finish id st
        (BitVec.ofNat 8 fl) 0) := by
  intro ks st fl s1 s2 hends hcycle
  change execKernelComplete id s = _
  simp only [execKernelComplete, hx, hstarted, hends, ks, Bool.not_true, Bool.false_eq_true, if_false]
  cases habort : x.abort with
  | none =>
    have hst : st = Status.worst (ks.map Core.kernelStatus) := by simp only [st, Kernel.endStatus, habort, Option.getD_none]
    simp only [← hst, if_neg hcycle, ks]
    rfl
  | some a =>
    have hst : st = a := by simp only [st, Kernel.endStatus, habort, Option.getD_some]
    simp only [← hst, if_neg hcycle]
    rfl

end

/-- Settles O46: a lemma for each event of a kernel's life; what a core starts with are the fields that `Core.start` writes. -/
theorem kernelResults : Obligations.KernelResults := by
  unfold Obligations.KernelResults
  refine ⟨?accept, ?start, ?core, ?complete⟩
  case accept => exact fun s id c => exec_kernelAccept_waiting
  case start => exact fun s id x c => exec_kernelStart_ready
  case core =>
    exact fun k x e cb pb => ⟨rfl, rfl, rfl, rfl, rfl, rfl, rfl, rfl, rfl, rfl, rfl, rfl, rfl, rfl, rfl,
      bitW_setFld_zero _ 0, bitW_setFld_zero _ 5⟩
  case complete =>
    exact fun s id x hx => ⟨fun hnew st => exec_kernelComplete_unstarted hx hnew, exec_kernelComplete_running hx,
      exec_kernelComplete_ended hx⟩

end Sys2Proof.Machine
end

section
/-! Proofs about the stream engines: each of their commands by the case it is in. -/

namespace Sys2Proof.Machine

/-! ### A list begins and is fetched (R295, R297) -/

section
variable {s : State} {c : Nat} {x : SeRun}

section
variable {q : EngCmd} {rest : List EngCmd}

/-- R295: what a list's record must meet. -/
def EngCmd.listRuns (q : EngCmd) : Prop :=
  1 ≤ fld (q.words.getD 2 0) 16 0 ∧ fld (q.words.getD 2 0) 16 0 ≤ 65536 ∧ fld (q.words.getD 1 0) 47 0 % 64 = 0
  ∧ opOf q.words = 0x30

theorem EngCmd.listRuns_iff : q.listRuns ↔ ¬(fld (q.words.getD 2 0) 16 0 = 0 ∨ 65536 < fld (q.words.getD 2 0) 16 0
    ∨ fld (q.words.getD 1 0) 47 0 % 64 ≠ 0 ∨ opOf q.words ≠ 0x30) := by
  simp only [EngCmd.listRuns, Nat.one_le_iff_ne_zero, not_or, not_lt, not_ne_iff, ne_eq]

theorem exec_seList_refused (hidle : (s.cluster c).se = none) (hq : (s.cluster c).seQ = q :: rest) (h : ¬q.listRuns) :
    exec (.seList c) s = .next ((s.setCluster c { s.cluster c with seQ := rest }).engineEnd c q.part q.src (q.words.getD 0 0)
      .illegalCommand 0 0) := by
  change execSeList c s = _
  simp only [execSeList, hidle, hq]
  exact if_pos (not_not.mp (EngCmd.listRuns_iff.not.mp h))

/-- The run of a list of which nothing has been fetched. -/
def SeRun.start (q : EngCmd) : SeRun :=
  ⟨q.src, q.part, q.words.getD 0 0, fld (q.words.getD 1 0) 47 0, fld (q.words.getD 2 0) 16 0, 0, [], none, none, 0, none, none,
    none, none, 0, [], [], []⟩

theorem exec_seList_starts (hidle : (s.cluster c).se = none) (hq : (s.cluster c).seQ = q :: rest) (h : q.listRuns) :
    let s1 := s.setCluster c { s.cluster c with seQ := rest }
    exec (.seList c) s = .next (s1.setCluster c { s1.cluster c with se := some (.start q) }) := by
  change execSeList c s = _
  simp only [execSeList, hidle, hq]
  exact if_neg (EngCmd.listRuns_iff.mp h)

end

/-- R295: a burst is fetched once half of the last one has begun, unless a descriptor has failed or none is left. -/
theorem exec_descriptorFetch (hse : (s.cluster c).se = some x) (hroom : x.fetched.length ≤ 8) (hbad : x.bad = none)
    (hnext : x.next < x.count) :
    let r := fetchDescs c 16 s x
    exec (.descriptorFetch c) s = .next (r.1.seNext c r.2) := by
  change execDescriptorFetch c s = _
  simp only [execDescriptorFetch, hse, hbad, hroom.not_gt, hnext.not_ge, Option.isSome_none, Bool.false_eq_true, or_self,
    if_false]

/-- R297: a descriptor that does not lie in a readable region ends the fetching. -/
theorem fetchDescs_outside {n b : Nat} (hbad : x.bad = none) (hnext : x.next < x.count)
    (hext : s.extBad x.part [pR] (x.list + 64 * x.next) 64 = some b) :
    fetchDescs c (n + 1) s x = (s, { x with bad := some (x.next, .outOfBounds, BitVec.ofNat 64 b) }) := by
  simp only [fetchDescs, hbad, hnext.not_ge, hext, Option.isSome_none, Bool.false_eq_true, or_self, if_false]
  rfl

/-! ### The current descriptor (R298, R302, R305) -/

section
variable {d : Desc} (hse : (s.cluster c).se = some x) (hcur : x.cur = some d)
include hse hcur

/-- R302: every engine of the descriptor has the slots that it needs, and no waiting list that it passes over has been passed
over sixteen times. -/
theorem exec_slotGrant (hwait : d.phase = .waitSlots) (hslots : ∀ e ∈ d.engines, d.slots ≤ (s.cluster e).slotsFree)
    (hpass : ∀ e ∈ s.passes d, (s.cluster e).passedOver < 16) :
    let s1 := d.engines.foldl (fun s e => s.setCluster e { s.cluster e with slotsFree := (s.cluster e).slotsFree - d.slots }) s
    let s2 := (s.passes d).foldl (fun s e => s.setCluster e { s.cluster e with passedOver := (s.cluster e).passedOver + 1 }) s1
    exec (.slotGrant c) s = .next (s2.setCluster c { s2.cluster c with
      passedOver := 0, se := some { x with cur := some { d with phase := .granted } } }) := by
  have hguard : (d.phase != .waitSlots || d.engines.any (fun e => decide ((s.cluster e).slotsFree < d.slots))
      || (s.passes d).any fun e => decide (16 ≤ (s.cluster e).passedOver)) = false := by
    simpa [hwait] using And.intro hslots hpass
  change execSlotGrant c s = _
  simp only [execSlotGrant, hse, hcur, hguard, Bool.false_eq_true, if_false]

/-- R298: the slots of a descriptor that has moved are free, and the next one begins. -/
theorem exec_descriptorDone (hmoved : d.phase = .moved) :
    let s1 := d.engines.foldl (fun s e =>
      s.setCluster e { s.cluster e with slotsFree := min 64 ((s.cluster e).slotsFree + d.slots) }) s
    exec (.descriptorDone c) s = .next (s1.seNext c { x with cur := none }) := by
  change execDescriptorDone c s = _
  simp only [execDescriptorDone, hse, hcur, hmoved, if_true]

/-- The second reading of a block arrives without a transfer fault and matches the block's value (R305). -/
def State.rereadGood (s : State) (c b : Nat) : Bool :=
  (s.cluster c).xferFault == 0
    && (crc32c ((readMem s (s.dieOf c) b 4096).2.map (·.1))).toNat == (s.cvRead ((s.cvEntry b).getD 0)).1
/-- What the second reading of a block leaves of its list: it goes on, or it has failed at that block. -/
def SeRun.afterReread (x : SeRun) (d : Desc) (b : Nat) : Bool → SeRun
  | true => { x with cur := some { d with phase := .granted, good := b :: d.good }, flags := x.flags ||| 4 }
  | false => { x with cur := some { d with phase := .granted, wrong := b :: d.wrong }, failAt := some (x.failAt.getD b) }

theorem exec_cvReread {b : Nat} (hreread : d.phase = .reread b) :
    ∃ l : LogEntry, l.addr = b ∧ l.code = (if s.rereadGood c b then eCvRetry else eCvFail) ∧ exec (.cvReread c) s = .next
      (logCluster (s.setCluster c { s.cluster c with
        xferFault := (s.cluster c).xferFault - 1, se := some (x.afterReread d b (s.rereadGood c b)) }) c l) := by
  refine ⟨{ ev (if s.rereadGood c b then eCvRetry else eCvFail) with
    addr := b, channel := s.srcChannel x.src, cmdseq := fld x.hdr 63 48
    status := if s.rereadGood c b then 0xFF else Status.checkFail.code }, rfl, rfl, ?_⟩
  change execCvReread c s = _
  cases hgood : s.rereadGood c b
  all_goals
    rw [State.rereadGood] at hgood
    simp only [execCvReread, hse, hcur, hreread, hgood, Bool.false_eq_true, if_false, if_true]
    rfl

end

/-- Running the descriptor uses host memory: rows are read from it, or written to it as bytes (R386). -/
def Desc.onBus (d : Desc) : Bool :=
  (readsRows d.words && dSrcHost d.words) || (!foldsCells d.words && dOp d.words != 2 && dDstHost d.words)

section
variable {d : Desc} {row : Mv → Nat → Desc → Nat → Mv} (hse : (s.cluster c).se = some x) (hcur : x.cur = some d)
  (hgranted : d.phase = .granted)

section
include hse hcur hgranted

/-- R386: host memory that holds requests back holds the descriptor back. -/
theorem runDesc_held (hbus : d.onBus = true) (hway : s.hostWay x.part (s.seFn x) = .held) :
    runDesc s c (dOp d.words) row = s := by
  rw [Desc.onBus] at hbus
  simp only [runDesc, hse, hcur, hgranted, hbus, hway, bne_self_eq_false, Bool.or_self, Bool.false_eq_true, if_false,
    beq_self_eq_true, Bool.and_self, if_true]

/-- R386: host memory that refuses requests ends the list at the descriptor. -/
theorem runDesc_denied (hbus : d.onBus = true) (hway : s.hostWay x.part (s.seFn x) = .denied) :
    runDesc s c (dOp d.words) row = s.setCluster c { s.cluster c with
      se := some { x with bad := some (d.idx, .denied, 0), fetched := [], cur := some { d with phase := .moved } } } := by
  have hheld : (HostWay.denied == HostWay.held) = false := rfl
  rw [Desc.onBus] at hbus
  simp only [runDesc, hse, hcur, hgranted, hbus, hway, hheld, bne_self_eq_false, Bool.or_self, Bool.false_eq_true, if_false,
    beq_self_eq_true, Bool.and_self, Bool.and_false, if_true]

end

/-- The way to the descriptor's rows is free. -/
def Desc.MayMove (d : Desc) (s : State) (x : SeRun) : Prop := d.onBus = false ∨ s.hostWay x.part (s.seFn x) = .open

theorem Desc.MayMove.not_stopped (h : d.MayMove s x) :
    (d.onBus && s.hostWay x.part (s.seFn x) == .held) = false
    ∧ (d.onBus && s.hostWay x.part (s.seFn x) == .denied) = false := by
  rcases h with h | h <;> rw [h]
  · exact ⟨Bool.false_and _, Bool.false_and _⟩
  · exact ⟨Bool.and_false _, Bool.and_false _⟩

include hse hcur hgranted

/-- R304: a descriptor none of whose blocks mismatches moves its rows, and writes their digest. -/
theorem runDesc_moves (hfree : d.MayMove s x) (hmatch : s.firstMismatch c d = none) :
    let m := putDigest ((List.range (dRows d.words)).foldl (fun m r => row m c d r) ⟨s, x, []⟩) c d.words
    runDesc s c (dOp d.words) row =
      m.s.setCluster c { m.s.cluster c with se := some { m.x with cur := some { d with phase := .moved } } } := by
  obtain ⟨hheld, hdenied⟩ := hfree.not_stopped
  rw [Desc.onBus] at hheld hdenied
  simp only [runDesc, hse, hcur, hgranted, hheld, hdenied, hmatch, bne_self_eq_false, Bool.or_self, Bool.false_eq_true,
    if_false]
  rfl

/-- R304, R305: a descriptor stops at its first block whose check value mismatches, which is to be read again. -/
theorem runDesc_mismatches {b : Nat} (hfree : d.MayMove s x) (hmismatch : s.firstMismatch c d = some b) :
    runDesc s c (dOp d.words) row = s.setCluster c { s.cluster c with
      xferFault := (s.cluster c).xferFault - 1, se := some { x with cur := some { d with phase := .reread b } } } := by
  obtain ⟨hheld, hdenied⟩ := hfree.not_stopped
  rw [Desc.onBus] at hheld hdenied
  simp only [runDesc, hse, hcur, hgranted, hheld, hdenied, hmismatch, bne_self_eq_false, Bool.or_self, Bool.false_eq_true,
    if_false]

end

/-- The moves, each with its op and what it does with a row (Table 9.13). -/
theorem exec_streamRow : ∀ row ∈ ([(.streamCopy, 0, copyRow), (.streamFill, 1, fillRow), (.streamFold, 2, foldRow),
    (.streamBcast, 3, copyRow), (.streamSwread, 4, swreadRow)]
      : List ((Nat → Instr) × Nat × (Mv → Nat → Desc → Nat → Mv))),
    exec (row.1 c) s = .next (runDesc s c row.2.1 row.2.2) := by
  simp only [List.forall_mem_cons]
  exact ⟨rfl, rfl, rfl, rfl, rfl, fun _ h => nomatch h⟩

/-! ### NACKs and host reads (R307, R387) -/

theorem exec_movedNack_retries (hse : (s.cluster c).se = some x) (h : x.retries < 3) :
    exec (.movedNack c) s = .next ((s.setCluster c { s.cluster c with
      se := some { x with retries := x.retries + 1, flags := x.flags ||| 0x10 } }).bump (aSE c + 0x10) 15 0 1) := by
  change execMovedNack c s = _
  simp only [execMovedNack, hse, h, if_true]

theorem exec_movedNack_fails (hse : (s.cluster c).se = some x) (h : 3 ≤ x.retries) :
    exec (.movedNack c) s = .next ((s.setCluster c { s.cluster c with
      se := some { x with status := some ((x.status.getD .staleRole).worse .staleRole) } }).bump (aSE c + 0x10) 31 16 1) := by
  change execMovedNack c s = _
  simp only [execMovedNack, hse, h.not_gt, if_false]

theorem exec_staleNack (hse : (s.cluster c).se = some x) :
    exec (.staleNack c) s = .next (s.setCluster c { s.cluster c with
      se := some { x with status := some ((x.status.getD .staleRole).worse .staleRole) } }) := by
  change execStaleNack c s = _
  simp only [execStaleNack, hse]

section
variable {id : Nat} {k : Cmd} (a : Nat)

/-- R387: a running list ends at the descriptor it fetches next; the current one, which has its slots, has moved. -/
theorem exec_hostReadFail_list (hcmd : s.cmd id = some k) (hse : (s.cluster k.cluster).se = some x) (hsrc : x.src.is id = true)
    (hslots : ∀ d, x.cur = some d → d.phase ≠ .waitSlots) :
    exec (.hostReadFail id a) s = .next (s.setCluster k.cluster { s.cluster k.cluster with se := some { x with
      bad := some (x.next, .outOfBounds, BitVec.ofNat 64 a), fetched := []
      cur := x.cur.map fun d => { d with phase := .moved } } }) := by
  have hcur : (x.cur.map fun d => if d.phase = .waitSlots then d else { d with phase := .moved })
      = x.cur.map fun d => { d with phase := .moved } :=
    Option.map_congr fun d hd => if_neg (hslots d hd)
  have hany : (x.cur.any fun d => d.phase == .waitSlots) = false := by
    simpa [Option.any_eq_false] using hslots
  change execHostReadFail id a s = _
  simp only [execHostReadFail, hcmd, hse, hsrc, hcur, hany, Bool.false_eq_true, if_false, if_true]
  rfl

theorem exec_hostReadFail_ends (hcmd : s.cmd id = some k) (hse : (s.cluster k.cluster).se = none)
    (h : k.started = false ∨ (s.linkOps.any fun o => o.id == id) = true) :
    exec (.hostReadFail id a) s = .next (s.finish id .outOfBounds 0 (BitVec.ofNat 64 a)) := by
  have hnot : ¬(k.started = true ∧ (!(s.linkOps.any fun o => o.id == id)) = true) := by
    rcases h with h | h <;> simp [h]
  change execHostReadFail id a s = _
  simp only [execHostReadFail, hcmd, hse, if_neg hnot]
  rfl

theorem exec_hostReadFail_over (hcmd : s.cmd id = some k) (hse : (s.cluster k.cluster).se = none) (hstarted : k.started = true)
    (hlink : (s.linkOps.any fun o => o.id == id) = false) : exec (.hostReadFail id a) s = .next s := by
  change execHostReadFail id a s = _
  simp only [execHostReadFail, hcmd, hse, hstarted, hlink, Bool.not_false, and_self, if_true]

end
end

/-! ### The end of a disarming (R235) -/

section
variable {s : State} {p n : Nat}

/-- A running command still uses a range of the entry. -/
def State.rgnUsed (s : State) (p n : Nat) : Bool :=
  (s.heldRanges p).any fun r => overlap r.1 r.2 (rgnBase (s.reg (aRgnLo p n))) (rgnLen (s.reg (aRgnLo p n)) (s.reg (aRgnHi p n)))

theorem exec_rgnDisarmDone_waits (h : (p, n) ∉ s.disarming ∨ s.rgnUsed p n = true) :
    exec (.rgnDisarmDone p n) s = .next s := by
  change execRgnDisarmDone p n s = _
  rcases h with h | h
  · have hnot : s.disarming.contains (p, n) = false := by simpa using h
    simp only [execRgnDisarmDone, hnot, Bool.not_false, if_true]
  · rw [State.rgnUsed] at h
    simp only [execRgnDisarmDone, h, if_true, ite_self]

theorem exec_rgnDisarmDone_done (h : (p, n) ∈ s.disarming) (hfree : s.rgnUsed p n = false) :
    exec (.rgnDisarmDone p n) s = .next { (s.setReg (aRgnLo p n) (setFld (s.reg (aRgnLo p n)) 0 0 0)) with
      disarming := s.disarming.filter fun x => x != (p, n) } := by
  have hin : s.disarming.contains (p, n) = true := by simpa using h
  rw [State.rgnUsed] at hfree
  change execRgnDisarmDone p n s = _
  simp only [execRgnDisarmDone, hin, hfree, Bool.not_true, Bool.false_eq_true, if_false]

end

/-- Settles O43: a lemma for each case of each command. -/
theorem streamCommandResults : Obligations.StreamCommandResults := by
  unfold Obligations.StreamCommandResults
  refine ⟨?list, ?fetch, ?outside, ?current, ?nacks, ?hostRead, ?noList, ?disarm⟩
  case list =>
    intro s c q rest k hidle hq
    refine ⟨fun h => exec_seList_refused hidle hq ?_,
      fun hsome hfew haligned hop => exec_seList_starts hidle hq ⟨hsome, hfew, haligned, hop⟩⟩
    rintro ⟨hsome, hfew, haligned, -⟩
    omega
  case fetch => exact fun s c x => exec_descriptorFetch
  case outside => exact fun s c n x hbad hnext b => fetchDescs_outside hbad hnext
  case current =>
    intro s c x d hse hcur
    refine ⟨exec_slotGrant hse hcur, ?moves, ?reread, exec_descriptorDone hse hcur⟩
    case moves =>
      intro row hrow onBus hgranted hop
      have hexec := exec_streamRow (c := c) (s := s) row hrow
      rw [← hop] at hexec
      exact ⟨fun hbus hway => hexec.trans (congrArg _ (runDesc_held hse hcur hgranted hbus hway)),
        fun hbus hway => hexec.trans (congrArg _ (runDesc_denied hse hcur hgranted hbus hway)),
        fun hfree hmatch => hexec.trans (congrArg _ (runDesc_moves hse hcur hgranted hfree hmatch)),
        fun hfree b hmismatch => hexec.trans (congrArg _ (runDesc_mismatches hse hcur hgranted hfree hmismatch))⟩
    case reread =>
      intro b hreread e good left
      obtain ⟨l, haddr, hcode, hexec⟩ := exec_cvReread hse hcur hreread
      refine ⟨l, haddr, hcode, fun hgood => ?_, fun hgood => ?_⟩
      · have hgood : s.rereadGood c b = true := hgood
        rw [hexec, hgood]
        rfl
      · have hgood : s.rereadGood c b = false := hgood
        rw [hexec, hgood]
        rfl
  case nacks => exact fun s c x hse => ⟨exec_movedNack_retries hse, exec_movedNack_fails hse, exec_staleNack hse⟩
  case hostRead => exact fun s id a x y => exec_hostReadFail_list a
  case noList => exact fun s id a x hcmd hse => ⟨exec_hostReadFail_ends a hcmd hse, exec_hostReadFail_over a hcmd hse⟩
  case disarm => exact fun s p n => ⟨exec_rgnDisarmDone_waits, exec_rgnDisarmDone_done⟩

end Sys2Proof.Machine
end

section
/-! Proofs about the links' single registers: the fields that a register write leaves, and what each row's write does. -/

namespace Sys2Proof.Machine

/-! ### Bits and fields of a word under a field write (R5, R11) -/

theorem getLsbD_maskW (hi lo i : Nat) : (maskW hi lo).getLsbD i = decide (i < 64 ∧ lo ≤ i ∧ i ≤ hi) := by
  rw [maskW, BitVec.getLsbD_ofNat, Nat.testBit_mul_two_pow, Nat.testBit_two_pow_sub_one, Bool.eq_iff_iff]
  simp only [Bool.and_eq_true, decide_eq_true_eq]
  omega

theorem getLsbD_setFld (w : W64) (hi lo n i : Nat) :
    (setFld w hi lo n).getLsbD i =
      if i < 64 ∧ lo ≤ i ∧ i ≤ hi then (BitVec.ofNat 64 (n * 2 ^ lo)).getLsbD i else w.getLsbD i := by
  rw [setFld, BitVec.getLsbD_or, BitVec.getLsbD_and, BitVec.getLsbD_and, BitVec.getLsbD_not, getLsbD_maskW]
  by_cases hi64 : i < 64
  · by_cases hin : lo ≤ i ∧ i ≤ hi <;> simp [hi64, hin]
  · simp [hi64, Nat.le_of_not_lt hi64]

/-- A bit outside a field keeps its value when the field is written. -/
theorem getLsbD_setFld_outside (w : W64) {hi lo i : Nat} (n : Nat) (h : i < lo ∨ hi < i) :
    (setFld w hi lo n).getLsbD i = w.getLsbD i := by
  rw [getLsbD_setFld, if_neg (by omega)]

/-- A bit reads 1 once it has been written 1. -/
theorem bitW_setFld_one (w : W64) {n : Nat} (hn : n < 64) : bitW (setFld w n n 1) n = true := by
  rw [bitW, getLsbD_setFld, if_pos ⟨hn, le_rfl, le_rfl⟩, Nat.one_mul, BitVec.getLsbD_ofNat, Nat.testBit_two_pow_self,
    decide_eq_true hn, Bool.and_self]

theorem testBit_fld (w : W64) (hi lo i : Nat) : (fld w hi lo).testBit i = (decide (i < hi + 1 - lo) && w.getLsbD (i + lo)) := by
  rw [fld, Nat.testBit_mod_two_pow, Nat.testBit_div_two_pow, BitVec.testBit_toNat]

/-- A field that lies outside another keeps its value when that one is written. -/
theorem fld_setFld_outside (w : W64) {hi lo h l : Nat} (n : Nat) (houtside : hi < l ∨ h < lo) :
    fld (setFld w h l n) hi lo = fld w hi lo := by
  refine Nat.eq_of_testBit_eq fun i => ?_
  rw [testBit_fld, testBit_fld]
  by_cases hin : i < hi + 1 - lo
  · rw [getLsbD_setFld_outside w n (by omega)]
  · simp [hin]

@[simp] theorem and_maskW_all (v : W64) : v &&& maskW 63 0 = v := BitVec.and_allOnes

/-- A write of the whole word to a register with one read-write field. -/
theorem applyFields_rw (old v : W64) (hi lo : Nat) :
    applyFields old (maskW 63 0) v [(hi, lo, .rw)] = (old &&& ~~~ maskW hi lo) ||| (v &&& maskW hi lo) := by
  simp only [applyFields, List.foldl, and_maskW_all]

/-- Such a write changes the field alone. -/
theorem applyFields_rw_setFld (w : W64) {hi lo h l : Nat} (n : Nat) (hhi : h ≤ hi) (hlo : lo ≤ l) :
    applyFields w (maskW 63 0) (setFld w h l n) [(hi, lo, .rw)] = setFld w h l n := by
  rw [applyFields_rw]
  refine BitVec.eq_of_getLsbD_eq fun i hi64 => ?_
  rw [BitVec.getLsbD_or, BitVec.getLsbD_and, BitVec.getLsbD_and, BitVec.getLsbD_not]
  by_cases hin : lo ≤ i ∧ i ≤ hi
  · have hmask : (maskW hi lo).getLsbD i = true := (getLsbD_maskW ..).trans (decide_eq_true ⟨hi64, hin⟩)
    rw [hmask]
    simp
  · have hmask : (maskW hi lo).getLsbD i = false := (getLsbD_maskW ..).trans (decide_eq_false fun h => hin h.right)
    rw [hmask, getLsbD_setFld_outside w n (by omega)]
    simp [hi64]

/-! ### Partner entries (R324, R328) -/

section
variable {s : State} {p r : Nat}

theorem pt_denied (h : s.portPart (refPort r) ≠ some p) :
    ptWrite s p r = s.ptErr p 1 ∧ ptRead s p r = s.ptErr p 1 ∧ ptExpel s p r = s.ptErr p 1 :=
  ⟨if_pos h, if_pos h, if_pos h⟩

theorem ptExpel_own (h : s.portPart (refPort r) = some p) (h0 : refEntry r = 0) : ptExpel s p r = s.ptErr p 2 := by
  rw [ptExpel, if_neg (not_not_intro h), if_pos h0]

theorem ptExpel_partner (h : s.portPart (refPort r) = some p) (h0 : refEntry r ≠ 0) :
    ptExpel s p r = (s.expel r none).ptErr p 0 := by
  rw [ptExpel, if_neg (not_not_intro h), if_neg h0]

theorem ptRead_owned (h : s.portPart (refPort r) = some p) :
    ptRead s p r =
      ((List.range 8).foldl (fun (s : State) i => s.setReg (aLK p + 0x40 + 8 * i) (s.partner r i)) s).ptErr p 0 :=
  if_neg (not_not_intro h)

end

/-- The word of a partner row: its REF field is the reference, its CMD field the command. -/
theorem applyFields_ptCtl (old : W64) (r cmd : Nat) :
    applyFields old (maskW 63 0) (w64 (r % 65536 + cmd * 65536)) [(15, 0, .rw)] = setFld old 15 0 r := by
  have hlow : w64 (r % 65536 + cmd * 65536) &&& maskW 15 0 = BitVec.ofNat 64 (r * 2 ^ 0) &&& maskW 15 0 := by
    refine BitVec.eq_of_toNat_eq ?_
    have hmask : (maskW 15 0).toNat = 2 ^ 16 - 1 := by decide
    rw [BitVec.toNat_and, BitVec.toNat_and, hmask, Nat.and_two_pow_sub_one_eq_mod, Nat.and_two_pow_sub_one_eq_mod, w64,
      BitVec.toNat_ofNat, BitVec.toNat_ofNat]
    omega
  rw [applyFields_rw, hlow, setFld]

theorem fld_ptCtl (r : Nat) {cmd : Nat} (hcmd : cmd < 4) : fld (w64 (r % 65536 + cmd * 65536)) 17 16 = cmd := by
  rw [fld_w64 (by omega)]
  omega

/-- `LK.PT_CTL` with its REF field written. -/
def State.putRef (s : State) (p r : Nat) : State := s.setReg (aLK p + 8) (setFld (s.reg (aLK p + 8)) 15 0 r)

/-- A write of the whole of `LK.PT_CTL` stores REF, and its CMD acts on the entry that REF names. -/
theorem partWrite_ptCtl (s : State) (p : Nat) (v : W64) :
    let s1 := s.setReg (aLK p + 8) (applyFields (s.reg (aLK p + 8)) (maskW 63 0) v [(15, 0, .rw)])
    let e := fld (s1.reg (aLK p + 8)) 15 0
    let c := fld v 17 16
    partWrite s true p 0x30008 (maskW 63 0) v =
      if c = 1 then ptWrite s1 p e else if c = 2 then ptRead s1 p e else if c = 3 then ptExpel s1 p e else s1 := by
  unfold partWrite
  rw [if_neg (by decide), if_neg (by decide), if_neg (by decide), if_pos rfl, and_maskW_all]
  rfl

/-- R324: the reference stands in the register, and the command acts on the entry that it names there. -/
theorem ptCtl_eq (s : State) {p cmd : Nat} (r : Nat) (hp : p < 4) (hcmd : cmd < 4) :
    let s1 := s.putRef p r
    let e := fld (s1.reg (aLK p + 8)) 15 0
    ptCtl s p r cmd =
      if cmd = 1 then ptWrite s1 p e else if cmd = 2 then ptRead s1 p e else if cmd = 3 then ptExpel s1 p e else s1 := by
  rw [ptCtl, if_pos hp, partWrite_ptCtl, applyFields_ptCtl, fld_ptCtl r hcmd, ← State.putRef]

section
variable (s : State) {p : Nat} (r : Nat) (hp : p < 4)
include hp

theorem exec_partnerEntryWrite : let s1 := s.putRef p r
    exec (.partnerEntryWrite p r) s = .next (ptWrite s1 p (fld (s1.reg (aLK p + 8)) 15 0)) := by
  change execPartnerEntryWrite p r s = _
  rw [execPartnerEntryWrite, ptCtl_eq s r hp (by decide), if_pos rfl]

theorem exec_partnerEntryRead : let s1 := s.putRef p r
    exec (.partnerEntryRead p r) s = .next (ptRead s1 p (fld (s1.reg (aLK p + 8)) 15 0)) := by
  change execPartnerEntryRead p r s = _
  rw [execPartnerEntryRead, ptCtl_eq s r hp (by decide), if_neg (by decide), if_pos rfl]

theorem exec_expelPartner : let s1 := s.putRef p r
    exec (.expelPartner p r) s = .next (ptExpel s1 p (fld (s1.reg (aLK p + 8)) 15 0)) := by
  change execExpelPartner p r s = _
  rw [execExpelPartner, ptCtl_eq s r hp (by decide), if_neg (by decide), if_neg (by decide), if_pos rfl]

end

/-! ### Key slots (R322) -/

section
variable {s : State} {p : Nat} (v : W64)

theorem exec_keyLoad (hp : p < 4) : exec (.keyLoad p v) s = .next (keyWrite s p (setFld v 19 19 1)) := by
  have hwrite : partWrite s true p 0x30010 (maskW 63 0) (setFld v 19 19 1)
      = keyWrite s p (setFld v 19 19 1 &&& maskW 63 0) := rfl
  change execKeyLoad p v s = _
  rw [execKeyLoad, if_pos hp, hwrite, and_maskW_all]

/-- The key slot that the data registers and a word for `LK.KEY_CTL` describe. -/
def State.keyFrom (s : State) (p : Nat) (v : W64) : KeySlot :=
  let d := fun i => (s.reg (aLK p + 0x80 + 8 * i)).toNat
  ⟨BitVec.ofNat 256 (d 0 + d 1 * 2 ^ 64 + d 2 * 2 ^ 128 + d 3 * 2 ^ 192),
    BitVec.ofNat 96 (d 4 + d 5 % 2 ^ 32 * 2 ^ 64), BitVec.ofNat 32 (d 5 / 2 ^ 32), fld v 18 17, 1⟩

theorem keyWrite_other (h : s.portPart (fld v 16 14) ≠ some p) : keyWrite s p v = s :=
  if_pos (.inr h)

theorem keyWrite_loads (hload : bitW v 19 = true) (h : s.portPart (fld v 16 14) = some p) :
    keyWrite s p v = { s with keys := madd s.keys (fld v 16 14 * 16384 + fld v 13 0) (s.keyFrom p v) } :=
  if_neg (by simp [hload, h])

/-- LOAD lies outside the fields that name a slot. -/
theorem fld_load {hi : Nat} (lo : Nat) (h : hi < 19) : fld (setFld v 19 19 1) hi lo = fld v hi lo :=
  fld_setFld_outside v 1 (.inl h)

theorem exec_keyLoad_other (hp : p < 4) (h : s.portPart (fld v 16 14) ≠ some p) : exec (.keyLoad p v) s = .next s := by
  rw [exec_keyLoad v hp, keyWrite_other]
  rwa [fld_load v 14 (by decide)]

theorem exec_keyLoad_own (hp : p < 4) (h : s.portPart (fld v 16 14) = some p) :
    exec (.keyLoad p v) s =
      .next { s with keys := madd s.keys (fld v 16 14 * 16384 + fld v 13 0) (s.keyFrom p v) } := by
  have hport : fld (setFld v 19 19 1) 16 14 = fld v 16 14 := fld_load v 14 (by decide)
  rw [exec_keyLoad v hp, keyWrite_loads _ (bitW_setFld_one v (by decide)) (by rwa [hport]), hport, State.keyFrom,
    fld_load v 0 (by decide), fld_load v 17 (by decide), ← State.keyFrom]

end

/-! ### Port enable (R316) -/

section
variable {s : State} {k p : Nat}

/-- The owner's write of a whole `LK.PORT_CFG[k]`. -/
theorem partWrite_portCfg (v : W64) (hk : k < 8) (h : s.portPart k = some p) :
    let a := aPortCfg p k
    let s1 := s.setReg a (applyFields (s.reg a) (maskW 63 0) v [(50, 2, .rw)])
    partWrite s true p (0x30100 + 0x20 * k) (maskW 63 0) v =
      if bitW (s1.reg a) 2 ≠ bitW (s.reg a) 2 then portEn s1 k (bitW (s1.reg a) 2) else s1 := by
  have haddr : aPart p + (0x30100 + 0x20 * k) = aPortCfg p k := by
    rw [aPortCfg, aLK]
    omega
  have hplace : (0x30100 + 0x20 * k - 0x30100) / 0x20 = k := by omega
  have hreg : (0x30100 + 0x20 * k) % 0x20 = 0 := by omega
  have hfields : partFields (0x30100 + 0x20 * k) = [(50, 2, .rw)] := by
    interval_cases k <;> rfl
  intro a s1
  unfold partWrite
  rw [haddr, if_neg (by omega), if_neg (by omega), if_neg (by omega), if_neg (by omega), if_neg (by omega),
    if_pos (by omega), hplace, hreg, hfields, if_neg (not_not_intro h)]
  simp only [true_and]
  rfl

theorem exec_portEnable_own (hk : k < 8) (h : s.portPart k = some p) (hoff : bitW (s.reg (aPortCfg p k)) 2 = false) :
    let s1 := s.setReg (aPortCfg p k) (setFld (s.reg (aPortCfg p k)) 2 2 1)
    bitW (s1.reg (aPortCfg p k)) 2 = true → exec (.portEnable k) s = .next
      (if (s1.port k).phase = .down then s1.setPort k { s1.port k with
        phase := .equalise, lanes := 0, degraded := false, recal := none } else s1) := by
  intro s1 hon
  have howner : s1.portPart k = some p := h
  have hstored := applyFields_rw_setFld (s.reg (aPortCfg p k)) (hi := 50) (lo := 2) 1 (le_of_lt (by decide : 2 < 50)) le_rfl
  change execPortEnable k s = _
  simp only [execPortEnable, h, hk, if_true]
  rw [partWrite_portCfg _ hk h, hstored, hon, hoff, if_pos (by decide), portEn, howner]
  rfl

end

/-! ### The partition view (R379) -/

section
variable {s : State} {p : Nat} (v : W64)

theorem exec_pvAck (hp : p < 4) : exec (.pvAck p v) s = .next (pvAckWrite s p v) := by
  have hwrite : partWrite s true p 0x50010 (maskW 63 0) v = pvAckWrite s p (v &&& maskW 63 0) := rfl
  change execPvAck p v s = _
  rw [execPvAck, if_pos hp, hwrite, and_maskW_all]

theorem exec_pvAck_other (hp : p < 4) (h : mget 0 s.hw.viewAt (2 * p) ≠ fld v 31 0 + 1) : exec (.pvAck p v) s = .next s := by
  rw [exec_pvAck v hp, pvAckWrite, if_neg h]

theorem exec_pvAck_presented (hp : p < 4) (h : mget 0 s.hw.viewAt (2 * p) = fld v 31 0 + 1) :
    exec (.pvAck p v) s = .next
      (((List.range 8).foldl (fun (u : State) i => u.setReg (aPV p + 0x40 + 8 * i) 0)
        { s with hw := { s.hw with viewAt := mput 0 s.hw.viewAt (2 * p) 0 } }).present p) := by
  rw [exec_pvAck v hp, pvAckWrite, if_pos h]
  rfl

end

/-- Settles O39: each row is a write of the whole register, whose fields say what it acts on. -/
theorem linkRegisterResults : Obligations.LinkRegisterResults := by
  unfold Obligations.LinkRegisterResults
  refine ⟨?rows, ?entries, ?keys, ?enable, ?view⟩
  case rows =>
    intro s p ref cmd c t hrow hp
    simp only [List.mem_cons, List.not_mem_nil, or_false, Prod.mk.injEq] at hrow
    rcases hrow with ⟨rfl, rfl, rfl⟩ | ⟨rfl, rfl, rfl⟩ | ⟨rfl, rfl, rfl⟩
    · exact exec_partnerEntryWrite s ref hp
    · exact exec_partnerEntryRead s ref hp
    · exact exec_expelPartner s ref hp
  case entries => exact fun s p r => ⟨pt_denied, fun h => ⟨ptExpel_own h, ptExpel_partner h, ptRead_owned h⟩⟩
  case keys => exact fun s p v hp => ⟨exec_keyLoad_other v hp, exec_keyLoad_own v hp⟩
  case enable => exact fun s k p => exec_portEnable_own
  case view => exact fun s p v hp => ⟨exec_pvAck_other v hp, exec_pvAck_presented v hp⟩

end Sys2Proof.Machine
end

section
/-! Proofs about the link commands: their admission, the grant of a context, and what naming a partner meets. -/

namespace Sys2Proof.Machine

/-! ### Admission (R281, R334, R335) -/

section
variable {id : Nat} {s : State}

/-- The operation of a plan finds a context, and none of its partition waits for one on that die. -/
def LkPlan.hasRoom (pl : LkPlan) (s : State) : Prop :=
  s.ctxFree pl.op.part pl.op.die = true
    ∧ (s.linkOps.any fun o => !o.ctxHeld && o.part == pl.op.part && o.die == pl.op.die) = false

section
variable {pl : LkPlan}

theorem admitLk_fails (h : pl.fails ≠ []) :
    admitLk id pl = (pl.s.updCmd id fun c => { c with started := true }).finish id (worstOf pl.fails).1 0
      (worstOf pl.fails).2 := by
  have hfails : pl.fails.isEmpty = false := List.isEmpty_eq_false_iff.mpr h
  simp only [admitLk, hfails, Bool.not_false, if_true]

theorem admitLk_passes (h : pl.fails = []) :
    admitLk id pl =
      (let s1 := pl.s.updCmd id fun c => { c with started := true }
      if s1.ctxFree pl.op.part pl.op.die ∧ !(s1.linkOps.any fun o => !o.ctxHeld && o.part == pl.op.part && o.die == pl.op.die)
      then s1.startOp pl.op else { s1 with linkOps := s1.linkOps ++ [pl.op] }) := by
  simp only [admitLk, h, List.isEmpty_nil, Bool.not_true, Bool.false_eq_true, if_false]

theorem admitLk_starts (h : pl.fails = []) (hroom : pl.hasRoom (pl.s.updCmd id fun c => { c with started := true })) :
    admitLk id pl = (pl.s.updCmd id fun c => { c with started := true }).startOp pl.op := by
  obtain ⟨hfree, hfirst⟩ := hroom
  exact (admitLk_passes h).trans (if_pos ⟨hfree, by rw [hfirst, Bool.not_false]⟩)

theorem admitLk_waits (h : pl.fails = []) (hroom : ¬ pl.hasRoom (pl.s.updCmd id fun c => { c with started := true })) :
    let s1 := pl.s.updCmd id fun c => { c with started := true }
    admitLk id pl = { s1 with linkOps := s1.linkOps ++ [pl.op] } := by
  refine (admitLk_passes h).trans (if_neg fun hgo => hroom ?_)
  obtain ⟨hfree, hfirst⟩ := hgo
  exact ⟨hfree, by rwa [Bool.not_eq_true'] at hfirst⟩

end

/-- The commands that hold a context, each with its opcode and its plan: one that waits to start is admitted. -/
theorem exec_linkRow : ∀ row ∈ ([(.lkXfer, 0x50, planXfer), (.lkColl, 0x51, planColl), (.lkMcast, 0x52, planMcast),
    (.lkVote, 0x53, planVote)] : List ((Nat → Instr) × Nat × (State → Cmd → LkPlan))),
    exec (row.1 id) s = match s.waitingCmd id row.2.1 with
      | none => .next s
      | some c => .next (admitLk id (row.2.2 s c)) := by
  simp only [List.forall_mem_cons]
  exact ⟨rfl, rfl, rfl, rfl, fun _ h => nomatch h⟩

end

/-! ### LK_EXPEL (R348) -/

section
variable {s : State} {id : Nat} {c : Cmd} (hwaiting : s.waitingCmd id 0x54 = some c)
include hwaiting

theorem exec_lkExpel_denied (h : s.portPart (refPort (fld (c.words.getD 1 0) 15 0)) ≠ some c.part) :
    exec (.lkExpel id) s = .next ((s.updCmd id fun c => { c with started := true }).finish id .denied 0 0) := by
  change execLkExpel id s = _
  simp only [execLkExpel, hwaiting, if_pos h]

theorem exec_lkExpel_expels (h : s.portPart (refPort (fld (c.words.getD 1 0) 15 0)) = some c.part)
    (h0 : refEntry (fld (c.words.getD 1 0) 15 0) ≠ 0) :
    exec (.lkExpel id) s = .next (((s.updCmd id fun c => { c with started := true }).expel
      (fld (c.words.getD 1 0) 15 0) none).finish id .ok 0 0) := by
  change execLkExpel id s = _
  simp only [execLkExpel, hwaiting, if_neg (not_not_intro h), if_neg h0]

end

/-! ### The grant of a context (R335) -/

/-- How a command of each kind is planned. -/
def LinkKind.plan : LinkKind → State → Cmd → LkPlan
  | .xfer => planXfer
  | .coll => planColl
  | .mcast => planMcast
  | .vote => planVote

/-- The first operation that waits on a die's engine and whose partition has room there. -/
def State.nextGrant (s : State) (die : Nat) : Option LinkOp :=
  s.linkOps.find? fun o => !o.ctxHeld && o.die == die && s.ctxFree o.part die

section
variable {s : State} {die : Nat}

theorem exec_linkContextGrant_none (h : s.nextGrant die = none) : exec (.linkContextGrant die) s = .next s := by
  rw [State.nextGrant] at h
  change execLinkContextGrant die s = _
  simp only [execLinkContextGrant, h]

section
variable {o : LinkOp} {c : Cmd} (h : s.nextGrant die = some o)
  (hcmd : { s with linkOps := s.linkOps.filter fun x => x.id != o.id }.cmd o.id = some c)
include h hcmd

theorem exec_linkContextGrant_some :
    let pl := o.kind.plan { s with linkOps := s.linkOps.filter fun x => x.id != o.id } c
    exec (.linkContextGrant die) s = .next (if pl.fails.isEmpty then pl.s.startOp pl.op
      else pl.s.finish o.id (worstOf pl.fails).1 0 (worstOf pl.fails).2) := by
  rw [State.nextGrant] at h
  change execLinkContextGrant die s = _
  simp only [execLinkContextGrant, h, hcmd]
  cases o.kind <;> rfl

theorem exec_linkContextGrant_starts :
    let pl := o.kind.plan { s with linkOps := s.linkOps.filter fun x => x.id != o.id } c
    pl.fails = [] → exec (.linkContextGrant die) s = .next (pl.s.startOp pl.op) := fun hpass =>
  (exec_linkContextGrant_some h hcmd).trans (congrArg _ (if_pos (List.isEmpty_iff.mpr hpass)))

theorem exec_linkContextGrant_fails :
    let pl := o.kind.plan { s with linkOps := s.linkOps.filter fun x => x.id != o.id } c
    pl.fails ≠ [] → exec (.linkContextGrant die) s =
      .next (pl.s.finish o.id (worstOf pl.fails).1 0 (worstOf pl.fails).2) := fun hfail =>
  (exec_linkContextGrant_some h hcmd).trans (congrArg _ (if_neg (mt List.isEmpty_iff.mp hfail)))

end

/-- A plan that stands beside a kind in the list is that kind's. -/
theorem LinkKind.plan_of_mem {k : LinkKind} {plan : State → Cmd → LkPlan}
    (h : (k, plan) ∈ ([(.xfer, planXfer), (.coll, planColl), (.mcast, planMcast), (.vote, planVote)]
      : List (LinkKind × (State → Cmd → LkPlan)))) : plan = k.plan := by
  simp only [List.mem_cons, List.not_mem_nil, or_false, Prod.mk.injEq] at h
  rcases h with ⟨rfl, rfl⟩ | ⟨rfl, rfl⟩ | ⟨rfl, rfl⟩ | ⟨rfl, rfl⟩ <;> rfl

end

/-! ### Naming a partner (R313, R328, R333) -/

section
variable {s : State} {p r : Nat}

theorem refFails_denied (h : s.portPart (refPort r) ≠ some p) : s.refFails p r = [.denied] := if_pos h

section
variable (h : s.portPart (refPort r) = some p)
include h

theorem refFails_invalid (hvalid : s.refValid r = false) : s.refFails p r = [.illegalCommand] := by
  simp [State.refFails, h, hvalid]

theorem refFails_expelled (hvalid : s.refValid r = true) (hst : s.ptState r = 2) : s.refFails p r = [.denied] := by
  simp [State.refFails, h, hvalid, hst]

theorem refFails_lost (hvalid : s.refValid r = true) (hst : s.ptState r = 1) : s.refFails p r = [.peerLost] := by
  simp [State.refFails, h, hvalid, hst]

theorem refFails_admitted (hvalid : s.refValid r = true) (hst : s.ptState r = 0) : s.refFails p r = [] := by
  simp [State.refFails, h, hvalid, hst]

end
end

/-- Settles O47: admission by the plan's failures and by room; a grant plans again with the plan of the operation's kind. -/
theorem linkCommandResults : Obligations.LinkCommandResults := by
  unfold Obligations.LinkCommandResults
  refine ⟨?admission, ?expel, ?grant, ?refs⟩
  case admission =>
    intro row hrow s id
    have hexec := exec_linkRow (id := id) (s := s) row hrow
    refine ⟨fun hnone => by rw [hexec, hnone], fun c hwaiting => ?_⟩
    rw [hwaiting] at hexec
    exact ⟨fun hfail => hexec.trans (congrArg _ (admitLk_fails hfail)),
      fun hpass hroom => hexec.trans (congrArg _ (admitLk_starts hpass hroom)),
      fun hpass hroom => hexec.trans (congrArg _ (admitLk_waits hpass hroom))⟩
  case expel => exact fun s id c hwaiting => ⟨exec_lkExpel_denied hwaiting, exec_lkExpel_expels hwaiting⟩
  case grant =>
    refine fun s die => ⟨exec_linkContextGrant_none, ?_⟩
    intro o h s1 c hcmd plan hplan
    rw [LinkKind.plan_of_mem hplan]
    exact ⟨exec_linkContextGrant_starts h hcmd, exec_linkContextGrant_fails h hcmd⟩
  case refs =>
    exact fun s p r => ⟨refFails_denied, fun h => ⟨refFails_invalid h,
      fun hvalid => ⟨refFails_expelled h hvalid, refFails_lost h hvalid, refFails_admitted h hvalid⟩⟩⟩

end Sys2Proof.Machine
end

section
/-! Proofs about frames that arrive on a link: the filter's drops in their order, and what each kind of frame does. -/

namespace Sys2Proof.Machine

/-! ### The filter (R315, R319, R323, R325, R329) -/

section
variable {s : State} {k : Nat} {f : Frame}

theorem takeIn_silent (h : (s.port k).phase ≠ .up ∨ s.ptValid (k * 8192) = false) : s.takeIn k f = (s, none) :=
  if_pos (h.imp_right (by simp))

/-- R319: the port is up with its own entry, and the frame finds room in its receive buffer. -/
structure State.Receives (s : State) (k : Nat) (f : Frame) : Prop where
  up : (s.port k).phase = .up
  own : s.ptValid (k * 8192) = true
  room : s.portEth k = false ∨ s.rxFill k + 32 + f.payload.length ≤ 0x200000

section
variable (hrx : s.Receives k f)
include hrx

/-- Such a frame goes to the filter's own checks. -/
theorem takeIn_of_receives :
    s.takeIn k f = if !s.framed k f then (s.dropMalformed k, none)
      else match s.macsec k f with
        | none => (s.dropAuth k, none)
        | some (s1, r) =>
          if !s1.ethMatch k r f then (s1.dropMalformed k, none)
          else if s1.ptState r = 2 then (s1.dropExpelled k, none)
          else match s1.bucketTake r f with
            | none => (s1.dropRate k, none)
            | some s2 => if frameHeaderOk f then (s2, some r) else (s2.dropMalformed k, none) := by
  obtain ⟨hup, hown, hroom⟩ := hrx
  have hlistens : ¬((s.port k).phase ≠ .up ∨ (!s.ptValid (k * 8192)) = true) := by simp [hup, hown]
  have hfits : ¬(s.portEth k = true ∧ 0x200000 < s.rxFill k + 32 + f.payload.length) := by
    rintro ⟨heth, hfull⟩
    rcases hroom with hnative | hroom
    · simp [hnative] at heth
    · omega
  exact (if_neg hlistens).trans (if_neg hfits)

theorem takeIn_malformed (h : s.framed k f = false) : s.takeIn k f = (s.dropMalformed k, none) := by
  simp only [takeIn_of_receives hrx, h, Bool.not_false, if_true]

theorem takeIn_not_authentic (h : s.framed k f = true) (hmac : s.macsec k f = none) :
    s.takeIn k f = (s.dropAuth k, none) := by
  simp only [takeIn_of_receives hrx, h, hmac, Bool.not_true, Bool.false_eq_true, if_false]

section
variable {s1 : State} {r : Nat} (h : s.framed k f = true) (hmac : s.macsec k f = some (s1, r))
include h hmac

theorem takeIn_mismatched (heth : s1.ethMatch k r f = false) : s.takeIn k f = (s1.dropMalformed k, none) := by
  simp only [takeIn_of_receives hrx, h, hmac, heth, Bool.not_true, Bool.not_false, Bool.false_eq_true, if_false, if_true]

variable (heth : s1.ethMatch k r f = true)
include heth

theorem takeIn_expelled (hst : s1.ptState r = 2) : s.takeIn k f = (s1.dropExpelled k, none) := by
  simp only [takeIn_of_receives hrx, h, hmac, heth, hst, Bool.not_true, Bool.false_eq_true, if_false, if_true]

theorem takeIn_over_rate (hst : s1.ptState r ≠ 2) (hrate : s1.bucketTake r f = none) :
    s.takeIn k f = (s1.dropRate k, none) := by
  simp only [takeIn_of_receives hrx, h, hmac, heth, hst, hrate, Bool.not_true, Bool.false_eq_true, if_false]

/-- The header is the last thing looked at. -/
theorem takeIn_within_rate {s2 : State} (hst : s1.ptState r ≠ 2) (hrate : s1.bucketTake r f = some s2) :
    s.takeIn k f = if frameHeaderOk f then (s2, some r) else (s2.dropMalformed k, none) := by
  simp only [takeIn_of_receives hrx, h, hmac, heth, hst, hrate, Bool.not_true, Bool.false_eq_true, if_false]

end
end

/-! ### MACsec (R323) -/

theorem macsec_unknown (h : s.refOfSci k f.sci = none) : s.macsec k f = none := by
  simp only [State.macsec, h]

section
variable {r i : Nat} {x : KeySlot} (href : s.refOfSci k f.sci = some r) (hkey : s.rxKey r f.an = some (i, x))
include href hkey

theorem macsec_known :
    s.macsec k f = if f.icvOk ∧ x.nextPn ≤ f.pn + fld (s.reg (aPortCfg ((s.portPart k).getD 0) k)) 50 35
      then some ({ s with keys := madd s.keys i { x with nextPn := max x.nextPn (f.pn + 1) } }, r) else none := by
  simp only [State.macsec, href, hkey]

theorem macsec_refuses (h : f.icvOk = false ∨ f.pn + fld (s.reg (aPortCfg ((s.portPart k).getD 0) k)) 50 35 < x.nextPn) :
    s.macsec k f = none := by
  refine (macsec_known href hkey).trans (if_neg ?_)
  rintro ⟨hicv, hpn⟩
  rcases h with h | h
  · simp [h] at hicv
  · exact Nat.not_le_of_gt h hpn

theorem macsec_accepts (hicv : f.icvOk = true)
    (hpn : x.nextPn ≤ f.pn + fld (s.reg (aPortCfg ((s.portPart k).getD 0) k)) 50 35) :
    s.macsec k f = some ({ s with keys := madd s.keys i { x with nextPn := max x.nextPn (f.pn + 1) } }, r) :=
  (macsec_known href hkey).trans (if_pos ⟨hicv, hpn⟩)

end
end

/-! ### From the filter to the transport -/

section
variable {s t : State} {k : Nat} {f : Frame}

section
variable {op : Nat} (htype : f.type = 1) (hop : f.op = op)
include htype hop

theorem recvOp_dropped (hin : s.takeIn k f = (t, none)) : recvOp s k op f = t := by
  simp [recvOp, htype, hop, hin]

theorem recvOp_taken {r p : Nat} (hin : s.takeIn k f = (t, some r)) (hport : s.portPart k = some p) :
    recvOp s k op f = (t.recvData k p r f).afterFrame k r f := by
  simp [recvOp, htype, hop, hin, hport]

end

/-- The rows of the DATA frames, each with its OP. -/
theorem exec_dataRow : ∀ row ∈ ([(.remoteWriteFrame, 0), (.remoteFoldFrame, 1), (.readRequest, 2), (.readResponse, 3),
    (.collectiveFrame, 4), (.voteFrame, 5)] : List ((Nat → Frame → Instr) × Nat)),
    exec (row.1 k f) s = .next (recvOp s k row.2 f) := by
  simp only [List.forall_mem_cons]
  exact ⟨rfl, rfl, rfl, rfl, rfl, rfl, fun _ h => nomatch h⟩

section
variable {type : Nat} (htype : f.type = type) (act : State → Nat → Nat → State)
include htype

theorem recvType_dropped (hin : s.takeIn k f = (t, none)) : recvType s k type f act = t := by
  simp [recvType, htype, hin]

theorem recvType_taken {r p : Nat} (hin : s.takeIn k f = (t, some r)) (hport : s.portPart k = some p) :
    recvType s k type f act = (act t p r).afterFrame k r f := by
  simp [recvType, htype, hin, hport]

end
end

/-! ### What the frames of the other types do (R339, R343, R345, R346) -/

/-- R343, R346: what an ABORT of partner r does. -/
def State.takeAbort (f : Frame) (s : State) (_p r : Nat) : State :=
  if f.code = Status.thermal.code then s.peerLost r Status.thermal.code false
  else match s.groupOp .coll r f.ctx with
    | none => s
    | some (o, m) => s.endOp o .peerLost o.flags (BitVec.ofNat 64 (o.sender r m))

section
variable {s : State} {p r : Nat} {f : Frame}

theorem takeAbort_thermal (h : f.code = Status.thermal.code) :
    s.takeAbort f p r = s.peerLost r Status.thermal.code false := if_pos h

theorem takeAbort_no_collective (h : f.code ≠ Status.thermal.code) (hnone : s.groupOp .coll r f.ctx = none) :
    s.takeAbort f p r = s := by
  simp only [State.takeAbort, if_neg h, hnone]

theorem takeAbort_collective {o : LinkOp} {m : Nat} (h : f.code ≠ Status.thermal.code)
    (hsome : s.groupOp .coll r f.ctx = some (o, m)) :
    s.takeAbort f p r = s.endOp o .peerLost o.flags (BitVec.ofNat 64 (o.sender r m)) := by
  simp only [State.takeAbort, if_neg h, hsome]

end

/-- R345: what a NOTICE of partner r adds to the time that an operation grants it. -/
def State.noticeGain (s : State) (p r : Nat) (f : Frame) (o : LinkOp) : Nat :=
  ((o.memberOf r).map fun m => min (min f.aux (fld (s.partner r 6) 63 48))
    (fld (s.reg (aLK p)) 49 34 - mget 0 o.granted m)).getD 0

/-- What a NOTICE of partner r does: each operation that holds a context grants what it may. -/
def State.takeNotice (f : Frame) (s : State) (p r : Nat) : State :=
  let gets := fun (o : LinkOp) => o.ctxHeld && decide (0 < s.noticeGain p r f o)
  let more := fun (o : LinkOp) => { o with
    granted := mput 0 o.granted ((o.memberOf r).getD 0) (mget 0 o.granted ((o.memberOf r).getD 0) + s.noticeGain p r f o)
    flags := o.flags ||| 2 }
  let u := (s.bump (aLK p + 0x18) 31 16 1).bump (aLK p + 0x18) 47 32 (b2n (s.linkOps.any gets))
  { u with linkOps := s.linkOps.map fun o => if gets o then more o else o }

/-- What a frame of each TYPE but DATA does; ACK and KEEPALIVE carry nothing but their acknowledgement fields. -/
def State.takeOther (f : Frame) : Nat → State → Nat → Nat → State
  | 3, s, _, r => (s.takeNack r f).markDead r
  | 4, s, p, r => s.takeNotice f p r
  | 5, s, p, r => s.takeAbort f p r
  | _, s, _, _ => s

section
variable {s : State} {k : Nat} {f : Frame}

theorem exec_noticeFrame : exec (.noticeFrame k f) s = .next (recvType s k 4 f (State.takeNotice f)) := by
  refine congrArg (fun act => Host.Outcome.next (recvType s k 4 f act)) (funext fun t => funext fun p => funext fun r => ?_)
  have hgain (o : LinkOp) : t.noticeGain p r f o = match o.memberOf r with
      | none => 0
      | some m => min (min f.aux (fld (t.partner r 6) 63 48)) (fld (t.reg (aLK p)) 49 34 - mget 0 o.granted m) := by
    rw [State.noticeGain]
    cases o.memberOf r <;> rfl
  simp only [State.takeNotice, hgain]
  rfl

/-- The rows of the other frames, each with its TYPE. -/
theorem exec_typeRow : ∀ row ∈ ([(.ackFrame, 2), (.nackFrame, 3), (.noticeFrame, 4), (.abortFrame, 5), (.keepaliveFrame, 6)]
    : List ((Nat → Frame → Instr) × Nat)),
    exec (row.1 k f) s = .next (recvType s k row.2 f (State.takeOther f row.2)) := by
  simp only [List.forall_mem_cons]
  exact ⟨rfl, rfl, exec_noticeFrame, rfl, rfl, fun _ h => nomatch h⟩

end

/-! ### Writes into a window (R327, R336) -/

section
variable {s : State} {k p r : Nat} {f : Frame}

theorem applyWF_refused {st : Status} (h : s.winRefuses p r f true false f.len = some st) :
    s.applyWF k p r f false = (s, some st) := by
  simp only [State.applyWF, h]

theorem applyWF_writes (h : s.winRefuses p r f true false f.len = none) :
    s.applyWF k p r f false = ((storeMem s (16 + k / 4) (s.winBase p f.window + f.offset)
      (f.payload.map fun b => (b, false))).quotaTake r f.len, none) := by
  simp only [State.applyWF, h, Bool.false_eq_true, if_false]

end

/-- Settles O48: a lemma for each answer of the filter, and one for what each kind of frame does to the state it leaves. -/
theorem linkFrameResults : Obligations.LinkFrameResults := by
  unfold Obligations.LinkFrameResults
  refine ⟨?data, ?types, ?notice, ?filter, ?macsec, ?write⟩
  case data =>
    intro row hrow s t k r p f htype hop hport
    have hexec := exec_dataRow (s := s) (k := k) (f := f) row hrow
    exact ⟨fun hin => hexec.trans (congrArg _ (recvOp_dropped htype hop hin)),
      fun hin => hexec.trans (congrArg _ (recvOp_taken htype hop hin hport))⟩
  case types =>
    intro row hrow s t k f htype
    have hexec := exec_typeRow (s := s) (k := k) (f := f) row hrow
    refine ⟨fun hin => hexec.trans (congrArg _ (recvType_dropped htype _ hin)), fun r p hin hport => ?_⟩
    have hdoes := hexec.trans (congrArg _ (recvType_taken htype _ hin hport))
    refine ⟨?plain, ?nack, ?thermal, ?abort⟩
    case plain =>
      rintro (hrow2 | hrow2)
      · rw [hdoes, hrow2]
        rfl
      · rw [hdoes, hrow2]
        rfl
    case nack => exact fun hrow2 => by rw [hdoes, hrow2, State.takeOther]
    case thermal => exact fun hrow2 hcode => by rw [hdoes, hrow2, State.takeOther, takeAbort_thermal hcode]
    case abort =>
      refine fun hrow2 hcode => ⟨fun hnone => ?_, fun o m hsome => ?_⟩
      · rw [hdoes, hrow2, State.takeOther, takeAbort_no_collective hcode hnone]
      · rw [hdoes, hrow2, State.takeOther, takeAbort_collective hcode hsome]
  case notice =>
    intro s t k r p f htype hin hport
    exact exec_noticeFrame.trans (congrArg _ (recvType_taken htype _ hin hport))
  case filter =>
    refine fun s k f => ⟨takeIn_silent, fun hup hown hroom => ?_⟩
    have hrx : s.Receives k f := ⟨hup, hown, hroom⟩
    refine ⟨takeIn_malformed hrx, fun hframed => ⟨takeIn_not_authentic hrx hframed, fun s1 r hmac => ?_⟩⟩
    refine ⟨takeIn_mismatched hrx hframed hmac, takeIn_expelled hrx hframed hmac, fun heth hst => ?_⟩
    refine ⟨takeIn_over_rate hrx hframed hmac heth hst, fun s2 hrate => ?_⟩
    have hin := takeIn_within_rate hrx hframed hmac heth hst hrate
    exact ⟨fun hok => hin.trans (if_pos hok), fun hbad => hin.trans (if_neg (by simp [hbad]))⟩
  case macsec =>
    exact fun s k f => ⟨macsec_unknown, fun r i x href hkey => ⟨macsec_refuses href hkey, macsec_accepts href hkey⟩⟩
  case write => exact fun s k p r f _ => ⟨fun st => applyWF_refused, applyWF_writes⟩

end Sys2Proof.Machine
end

section
/-! Proofs about link ports: timers of the transport, lagging members, flow control, training and recalibration. -/

namespace Sys2Proof.Machine

/-! ### Timers of a partner (R331 to R333) -/

section
variable {s : State} {r : Nat}

theorem exec_ackTimer_acked (h : (s.transport r).sinceAck = 0) : exec (.ackTimer r) s = .next s := by
  change execAckTimer r s = _
  rw [execAckTimer, if_pos h]

theorem exec_ackTimer_owed (h : (s.transport r).sinceAck ≠ 0) : exec (.ackTimer r) s = .next (s.sendCtl r 2 0 0 0 0) := by
  change execAckTimer r s = _
  rw [execAckTimer, if_neg h]

theorem exec_retransmissionTimeout_idle (h : (s.transport r).unacked = [] ∨ s.ptState r ≠ 0) :
    exec (.retransmissionTimeout r) s = .next (s.pump r) :=
  congrArg _ (if_pos (h.imp_left List.isEmpty_iff.mpr))

theorem exec_retransmissionTimeout_sends (h : (s.transport r).unacked ≠ []) (hst : s.ptState r = 0) :
    let t := s.transport r
    exec (.retransmissionTimeout r) s = .next
      (((t.unacked.filter fun x => !x.sacked && !x.dead).foldl (fun s x => s.sendData r x true)
        (s.setTransport r { t with rtoUs := min 5000 (2 * t.rtoUs) })).pump r).settle :=
  congrArg _ (if_neg (by simp [h, hst]))

theorem exec_keepaliveSend_active (h : s.activeWith r = true) (hst : s.ptState r = 0) :
    exec (.keepaliveSend r) s = .next ((s.sendCtl r 6 0 0 0 0).pump r) :=
  congrArg _ (if_pos ⟨h, hst⟩)

theorem exec_keepaliveSend_idle (h : s.activeWith r = false ∨ s.ptState r ≠ 0) : exec (.keepaliveSend r) s = .next s :=
  congrArg _ (if_neg (by rcases h with h | h <;> simp [h]))

theorem exec_peerSilence_waited (hvalid : s.ptValid r = true) (hst : s.ptState r = 0) (hentry : refEntry r ≠ 0)
    (h : s.activeWith r = true ∨ ((s.transport r).unacked.any fun x => !x.dead) = true) :
    exec (.peerSilence r) s = .next (s.peerLost r 0xFF true) :=
  congrArg _ (if_pos ⟨hvalid, hst, hentry, h⟩)

theorem exec_peerSilence_unwatched (h : s.ptValid r = false ∨ s.ptState r ≠ 0 ∨ refEntry r = 0) :
    exec (.peerSilence r) s = .next s :=
  congrArg _ (if_neg (by rcases h with h | h | h <;> simp [h]))

end

/-! ### Members that lag (R343, R344, R347) -/

section
variable {s : State} {id m : Nat} {o : LinkOp} (hop : (s.linkOps.find? fun o => o.id == id && o.ctxHeld) = some o)
  (hm : m < o.n) (hused : o.usesMember m = true)
include hop hm hused

/-- What the expiry for a member whose entry the operation uses comes to. -/
theorem exec_lagLimitExpire_used :
    let r := (o.members.getD m (0, 0)).1
    exec (.lagLimitExpire id m) s = .next (match o.kind with
      | .xfer => s
      | .coll =>
        if o.inTotal m ≤ o.fromMember m then s
        else ((o.refs.filter fun x => x != r).foldl (fun s x => s.sendCtl x 5 Status.peerLost.code 0 o.ctx 0) s).endOp o
          .peerLost o.flags (BitVec.ofNat 64 m)
      | .mcast =>
        if o.outTotal m ≤ o.sentTo m ∧ !((s.transport r).unacked.any fun x => x.opId == some id) then s
        else ((s.updOp id fun o => o.detach m .peerLost).markDead r).settle
      | .vote =>
        if o.digests.any fun d => d.1 == m then s
        else (s.updOp id fun o => { o with absent := sadd o.absent m }).settle) := by
  have hlags : ¬(o.n ≤ m ∨ (!o.usesMember m) = true) := by simp [hm, hused]
  change execLagLimitExpire id m s = _
  simp only [execLagLimitExpire, hop, if_neg hlags]
  rfl

theorem exec_lagLimitExpire_coll (hkind : o.kind = .coll) (h : o.fromMember m < o.inTotal m) :
    let r := (o.members.getD m (0, 0)).1
    exec (.lagLimitExpire id m) s = .next
      (((o.refs.filter fun x => x != r).foldl (fun s x => s.sendCtl x 5 Status.peerLost.code 0 o.ctx 0) s).endOp o .peerLost
        o.flags (BitVec.ofNat 64 m)) := by
  simp only [exec_lagLimitExpire_used hop hm hused, hkind, if_neg h.not_ge]

theorem exec_lagLimitExpire_mcast (hkind : o.kind = .mcast) (h : o.sentTo m < o.outTotal m) :
    exec (.lagLimitExpire id m) s = .next
      (((s.updOp id fun o => o.detach m .peerLost).markDead (o.members.getD m (0, 0)).1).settle) := by
  simp only [exec_lagLimitExpire_used hop hm hused, hkind, if_neg fun hsent => h.not_ge (And.left hsent)]

theorem exec_lagLimitExpire_vote (hkind : o.kind = .vote) (h : (o.digests.any fun d => d.1 == m) = false) :
    exec (.lagLimitExpire id m) s = .next (s.updOp id fun o => { o with absent := sadd o.absent m }).settle := by
  simp only [exec_lagLimitExpire_used hop hm hused, hkind, h, Bool.false_eq_true, if_false]

theorem exec_lagLimitExpire_xfer (hkind : o.kind = .xfer) : exec (.lagLimitExpire id m) s = .next s := by
  simp only [exec_lagLimitExpire_used hop hm hused, hkind]

end

/-! ### Notices (R345) -/

section
variable {s : State}

theorem exec_noticeSend_cool (h : s.pkgHot = false) : exec .noticeSend s = .next s :=
  congrArg _ (if_pos (by rw [h, Bool.not_false]))

theorem exec_noticeSend_hot (h : s.pkgHot = true) :
    exec .noticeSend s = .next ((s.linkOps.filter (·.ctxHeld)).foldl (fun s o =>
      ((List.range o.n).filter fun m => o.usesMember m && !(o.detached.any fun d => d.1 == m)).foldl (fun (s : State) m =>
        let r := (o.members.getD m (0, 0)).1
        if s.canSend r then (s.sendCtl r 4 0 0 o.ctx (fld (s.partner r 6) 47 32)).bump (aLK o.part + 0x18) 15 0 1 else s) s) s) :=
  congrArg _ (if_neg (by simp [h]))

end

/-! ### Flow control and drop events (R319, R325) -/

section
variable {s : State} {k q : Nat}

theorem exec_pfcFrame_honoured (heth : s.portEth k = true) (hup : (s.port k).phase = .up) (hq : q < 8) (b : Bool) :
    exec (.pfcFrame k q b) s = .next (if b then s.setPort k { s.port k with paused := sadd (s.port k).paused q }
      else ((s.setPort k { s.port k with paused := sdel (s.port k).paused q, ignored := sdel (s.port k).ignored q }).pumpPort
        k).settle) :=
  congrArg _ (if_neg (by simp [heth, hup, hq]))

theorem exec_pfcFrame_ignored (h : s.portEth k = false ∨ (s.port k).phase ≠ .up) (b : Bool) :
    exec (.pfcFrame k q b) s = .next s :=
  congrArg _ (if_pos (by rcases h with h | h <;> simp [h]))

theorem exec_pfcWatchdog_paused {p : Nat} (hport : s.portPart k = some p) (hpaused : q ∈ (s.port k).paused)
    (hhonoured : q ∉ (s.port k).ignored) :
    let s1 := (s.setPort k { s.port k with ignored := sadd (s.port k).ignored q }).setReg (aPortStat p k)
      (setFld (s.reg (aPortStat p k)) 6 6 1)
    exec (.pfcWatchdog k q) s =
      .next (((logEv s1 (16 + k / 4) { ev ePfcIgnored with parts := pbit p, detail := k }).pumpPort k).settle) := by
  have hcount : (!(s.port k).paused.contains q || (s.port k).ignored.contains q) = false := by simp [hpaused, hhonoured]
  change execPfcWatchdog k q s = _
  simp only [execPfcWatchdog, hport, hcount, Bool.false_eq_true, if_false]

theorem exec_linkDrops_none (h : (s.port k).dropped = false) : exec (.linkDrops k) s = .next s :=
  congrArg _ (if_neg (by simp [h]))

theorem exec_linkDrops_some (h : (s.port k).dropped = true) :
    exec (.linkDrops k) s = .next (logEv (s.setPort k { s.port k with dropped := false }) (16 + k / 4)
      { ev eLinkDrops with parts := pbitO (s.portPart k), detail := k }) :=
  congrArg _ (if_pos h)

end

/-! ### Training (Table 10.2, R316, R318) -/

section
variable {s : State} {k : Nat}

section
variable (hnative : s.portEth k = false)
include hnative

theorem exec_equaliserTrained (h : (s.port k).phase = .equalise) :
    exec (.equaliserTrained k) s = .next (s.setPort k { s.port k with phase := .deskew }) :=
  congrArg _ (if_pos ⟨h, by rw [hnative, Bool.not_false]⟩)

theorem exec_laneDeskewDone (h : (s.port k).phase = .deskew) :
    exec (.laneDeskewDone k) s =
      .next ((s.setPort k { s.port k with phase := .hello, helloRefused := false }).emit (.trainFlit k 1)) :=
  congrArg _ (if_pos ⟨h, by rw [hnative, Bool.not_false]⟩)

theorem exec_helloExchange_hello (h : (s.port k).phase = .hello) (node part : Nat) :
    exec (.helloExchange k node part) s = .next (if part ≠ 0x2048 ∨ node = fld (s.partner (k * 8192) 0) 31 16 then
      s.setPort k { s.port k with helloRefused := true } else s.portUp k) :=
  congrArg _ (if_neg (by simp [h, hnative]))

theorem exec_helloExchange_accepts {node part : Nat} (h : (s.port k).phase = .hello) (hpart : part = 0x2048)
    (hnode : node ≠ fld (s.partner (k * 8192) 0) 31 16) : exec (.helloExchange k node part) s = .next (s.portUp k) := by
  rw [exec_helloExchange_hello hnative h, if_neg (by simp [hpart, hnode])]

theorem exec_helloExchange_refuses {node part : Nat} (h : (s.port k).phase = .hello)
    (hbad : part ≠ 0x2048 ∨ node = fld (s.partner (k * 8192) 0) 31 16) :
    exec (.helloExchange k node part) s = .next (s.setPort k { s.port k with helloRefused := true }) := by
  rw [exec_helloExchange_hello hnative h, if_pos hbad]

end

theorem exec_helloRetry (h : (s.port k).phase = .hello) (href : (s.port k).helloRefused = true) :
    exec (.helloRetry k) s = .next (s.emit (.trainFlit k 1)) :=
  congrArg _ (if_pos ⟨h, href⟩)

/-- A port whose HELLO was refused stays in phase 3. -/
theorem exec_trainingTimeout_refused (h : (s.port k).phase = .hello) (href : (s.port k).helloRefused = true) :
    exec (.trainingTimeout k) s = .next s :=
  congrArg _ (if_neg (by simp [h, href]))

theorem exec_trainingTimeout_retrains (h : (s.port k).phase = .equalise ∨ (s.port k).phase = .deskew
      ∨ ((s.port k).phase = .hello ∧ (s.port k).helloRefused = false)) :
    exec (.trainingTimeout k) s = .next (s.setPort k (s.port k).retrain) :=
  congrArg _ (if_pos (by simpa only [Bool.not_eq_true'] using h))

theorem exec_autoNegotiation_eth (h : (s.port k).phase = .equalise) (heth : s.portEth k = true) (ok : Bool) :
    exec (.autoNegotiation k ok) s = .next (if ok then s.portUp k else s.setPort k (s.port k).retrain) :=
  congrArg _ (if_neg (by simp [h, heth]))

end

/-! ### Recalibration (R317, R318) -/

section
variable {s : State} {k lane : Nat}

section
variable (hup : (s.port k).phase = .up) (hlane : lane < 4)
include hup hlane

theorem exec_laneRecalTrigger_up :
    let x := s.port k
    exec (.laneRecalTrigger k lane) s = .next (if s.portEth k then s.setPort k { x.retrain with recals := satN 16 (x.recals + 1) }
      else if x.degraded then (if x.lanes.getLsbD lane then s.setPort k x.retrain else s)
      else if x.recal.isSome then s
      else
        let r := s.startAction uLane (4 * k + lane) 0 0
        if r.2 then (r.1.setPort k { x with recal := some lane }).emit (.trainFlit k 2) else r.1) :=
  congrArg _ (if_neg (by simp [hup, hlane]))

theorem exec_laneRecalTrigger_eth (heth : s.portEth k = true) :
    exec (.laneRecalTrigger k lane) s =
      .next (s.setPort k { (s.port k).retrain with recals := satN 16 ((s.port k).recals + 1) }) := by
  simp only [exec_laneRecalTrigger_up hup hlane, heth, if_true]

theorem exec_laneRecalTrigger_degraded (hnative : s.portEth k = false) (hdeg : (s.port k).degraded = true) :
    exec (.laneRecalTrigger k lane) s =
      .next (if (s.port k).lanes.getLsbD lane then s.setPort k (s.port k).retrain else s) := by
  simp only [exec_laneRecalTrigger_up hup hlane, hnative, hdeg, Bool.false_eq_true, if_false, if_true]

theorem exec_laneRecalTrigger_starts (hnative : s.portEth k = false) (hdeg : (s.port k).degraded = false)
    (hnone : (s.port k).recal = none) :
    let r := s.startAction uLane (4 * k + lane) 0 0
    exec (.laneRecalTrigger k lane) s =
      .next (if r.2 then (r.1.setPort k { s.port k with recal := some lane }).emit (.trainFlit k 2) else r.1) := by
  simp only [exec_laneRecalTrigger_up hup hlane, hnative, hdeg, hnone, Option.isSome_none, Bool.false_eq_true, if_false]

end

section
variable (hrecal : (s.port k).recal = some lane)
include hrecal

theorem exec_degradeFlit (hup : (s.port k).phase = .up) (hdeg : (s.port k).degraded = false) :
    exec (.degradeFlit k) s = .next
      (s.setPort k { s.port k with degraded := true, lanes := if lane < 2 then 0b1100 else 0b0011 }) := by
  change execDegradeFlit k s = _
  simp only [execDegradeFlit, hrecal, hup, hdeg, otherPair, Bool.not_false, and_self, if_true]

section
variable {ok : Bool} (hdeg : (s.port k).degraded = true)
include hdeg

theorem exec_laneRecalDone_degraded :
    let s1 := s.endAction uLane (4 * k + lane)
    let again := satN 16 ((s.port k).recals + 1)
    exec (.laneRecalDone k ok) s = .next (if ok && !s1.unitRetired uLane (4 * k + lane) then
        s1.setPort k { s.port k with degraded := false, lanes := 0xF, recal := none, recals := again }
      else logUnit (s1.setPort k { s.port k with recal := none, recals := again }) (16 + k / 4)
        { ev eLaneDegraded with parts := pbitO (s.portPart k), ukind := uLane, unit := 4 * k + lane } 0) := by
  change execLaneRecalDone k ok s = _
  simp only [execLaneRecalDone, hrecal, hdeg, Bool.not_true, Bool.false_eq_true, if_false]
  rfl

theorem exec_laneRecalDone_restores (hok : ok = true)
    (hlive : (s.endAction uLane (4 * k + lane)).unitRetired uLane (4 * k + lane) = false) :
    exec (.laneRecalDone k ok) s = .next ((s.endAction uLane (4 * k + lane)).setPort k { s.port k with
      degraded := false, lanes := 0xF, recal := none, recals := satN 16 ((s.port k).recals + 1) }) :=
  (exec_laneRecalDone_degraded hrecal hdeg).trans (congrArg _ (if_pos (by simp [hok, hlive])))

theorem exec_laneRecalDone_stays
    (h : ok = false ∨ (s.endAction uLane (4 * k + lane)).unitRetired uLane (4 * k + lane) = true) :
    exec (.laneRecalDone k ok) s = .next (logUnit ((s.endAction uLane (4 * k + lane)).setPort k { s.port k with
      recal := none, recals := satN 16 ((s.port k).recals + 1) }) (16 + k / 4)
        { ev eLaneDegraded with parts := pbitO (s.portPart k), ukind := uLane, unit := 4 * k + lane } 0) :=
  (exec_laneRecalDone_degraded hrecal hdeg).trans (congrArg _ (if_neg (by rcases h with h | h <;> simp [h])))

end
end
end

/-- Settles O49: a lemma for each row by what the partner, the operation or the port is at when its time comes. -/
theorem linkPortResults : Obligations.LinkPortResults := by
  unfold Obligations.LinkPortResults
  refine ⟨?timers, ?lag, ?notice, ?flow, ?training, ?recal⟩
  case timers =>
    exact fun s r => ⟨exec_ackTimer_acked, exec_ackTimer_owed, exec_retransmissionTimeout_idle,
      exec_retransmissionTimeout_sends, exec_keepaliveSend_active, exec_keepaliveSend_idle, exec_peerSilence_waited,
      exec_peerSilence_unwatched⟩
  case lag =>
    exact fun s id m o hop hm hused => ⟨exec_lagLimitExpire_coll hop hm hused, exec_lagLimitExpire_mcast hop hm hused,
      exec_lagLimitExpire_vote hop hm hused, exec_lagLimitExpire_xfer hop hm hused⟩
  case notice => exact fun s => ⟨exec_noticeSend_cool, exec_noticeSend_hot⟩
  case flow =>
    intro s k q
    refine ⟨fun heth hup hq => ?_, exec_pfcFrame_ignored, fun p hport hpaused hhonoured => ?_, exec_linkDrops_none,
      fun hdropped => ?_⟩
    · exact ⟨exec_pfcFrame_honoured heth hup hq true, exec_pfcFrame_honoured heth hup hq false⟩
    · exact ⟨_, rfl, exec_pfcWatchdog_paused hport hpaused hhonoured⟩
    · exact ⟨_, rfl, rfl, exec_linkDrops_some hdropped⟩
  case training =>
    intro s k node part
    refine ⟨fun hnative => ⟨exec_equaliserTrained hnative, exec_laneDeskewDone hnative, fun hhello => ?_⟩,
      fun hhello href => ⟨exec_helloRetry hhello href, exec_trainingTimeout_refused hhello href⟩,
      exec_trainingTimeout_retrains, fun hphase heth => ?_⟩
    · exact ⟨exec_helloExchange_accepts hnative hhello, exec_helloExchange_refuses hnative hhello⟩
    · exact ⟨exec_autoNegotiation_eth hphase heth true, exec_autoNegotiation_eth hphase heth false⟩
  case recal =>
    intro s k lane ok
    refine ⟨exec_laneRecalTrigger_eth, exec_laneRecalTrigger_degraded, exec_laneRecalTrigger_starts, exec_degradeFlit,
      fun hrecal hdeg => ⟨exec_laneRecalDone_restores hrecal hdeg, fun hstays => ?_⟩⟩
    exact ⟨_, rfl, rfl, exec_laneRecalDone_stays hrecal hdeg hstays⟩

end Sys2Proof.Machine
end

section
/-! Proofs about the fuses: no step takes back what is burnt. A lemma named `_life` says that an operation leaves the life cycle
alone; the few that touch it are said apart, with what they make of it. -/

namespace Sys2Proof.Machine

/-! ### What it means to keep what is burnt -/

/-- Whatever is burnt in the fuses of l is burnt in those of m (R433, R436, R442). -/
def Life.Burns (l m : Life) : Prop :=
  l.ownerDig <+: m.ownerDig ∧ (∀ i, i < 6 → l.svnMin.getD i 0 ≤ m.svnMin.getD i 0) ∧ l.vendorRev &&& m.vendorRev = l.vendorRev
    ∧ (l.udsKill = true → m.udsKill = true) ∧ (l.scrapped = true → m.scrapped = true) ∧ l.provisions ≤ m.provisions
    ∧ l.returns ≤ m.returns ∧ m.vendorDig = l.vendorDig

/-- The fuses alone count: a life cycle that differs in nothing else burns nothing. -/
@[simp] theorem Life.burns_of_fuses {l m : Life} (howner : m.ownerDig = l.ownerDig) (hsvn : m.svnMin = l.svnMin)
    (hrev : m.vendorRev = l.vendorRev) (huds : m.udsKill = l.udsKill) (hscrap : m.scrapped = l.scrapped)
    (hprov : m.provisions = l.provisions) (hret : m.returns = l.returns) (hvendor : m.vendorDig = l.vendorDig) : l.Burns m := by
  simp [Life.Burns, howner, hsvn, hrev, huds, hscrap, hprov, hret, hvendor]
@[simp] theorem Life.burns_refl (l : Life) : l.Burns l := by simp
@[simp] theorem ite_burns (c : Prop) [Decidable c] (l a b : Life) :
    l.Burns (if c then a else b) ↔ if c then l.Burns a else l.Burns b := by split <;> rfl

theorem Life.Burns.trans {l m n : Life} (hlm : l.Burns m) (hmn : m.Burns n) : l.Burns n := by
  obtain ⟨howner, hsvn, hrev, huds, hscrap, hprov, hret, hvendor⟩ := hlm
  obtain ⟨howner', hsvn', hrev', huds', hscrap', hprov', hret', hvendor'⟩ := hmn
  refine ⟨howner.trans howner', fun i hi => (hsvn i hi).trans (hsvn' i hi), ?_, huds' ∘ huds, hscrap' ∘ hscrap, hprov.trans hprov',
    hret.trans hret', hvendor'.trans hvendor⟩
  rw [← hrev, BitVec.and_assoc, hrev']

/-- Where a command answers a next state, that state's fuses hold what those of s hold. -/
def KeepsFuses (s : State) (o : Host.Outcome State Fault Refusal) : Prop := ∀ t, o = .next t → s.life.Burns t.life

@[simp] theorem keepsFuses_next {s t : State} : KeepsFuses s (.next t) ↔ s.life.Burns t.life :=
  ⟨fun h => h t rfl, fun h u hu => by cases hu; exact h⟩
@[simp] theorem keepsFuses_fault {s : State} {f : Fault} : KeepsFuses s (.fault f) := fun _ h => by cases h
theorem keepsFuses_of_life {s t : State} (h : t.life = s.life) : KeepsFuses s (.next t) := by simp [h]

/-- One step of a fold whose accumulator carries a state leaves the life cycle. A definition of its own, as `FoldKeepsQueue` is. -/
def FoldKeepsLife {σ α : Type} (st : σ → State) (f : σ → α → σ) : Prop := ∀ t a, (st (f t a)).life = (st t).life

@[simp] theorem foldKeepsLife_iff {σ α : Type} (st : σ → State) (f : σ → α → σ) :
    FoldKeepsLife st f ↔ ∀ t a, (st (f t a)).life = (st t).life := ⟨id, id⟩

/-- A fold whose every step leaves the life cycle leaves it. -/
theorem FoldKeepsLife.foldl {σ α : Type} {st : σ → State} {f : σ → α → σ} (h : FoldKeepsLife st f) (l : List α) (s : σ) :
    (st (l.foldl f s)).life = (st s).life :=
  foldl_keeps (fun t => (st t).life = (st s).life) f (fun t a ht => (h t a).trans ht) l s rfl

@[simp] theorem foldl_life {α : Type} (f : State → α → State) (h : FoldKeepsLife id f) (l : List α) (s : State) :
    (l.foldl f s).life = s.life := h.foldl l s
@[simp] theorem foldl_fst_life {α β : Type} (f : State × β → α → State × β) (h : FoldKeepsLife Prod.fst f) (l : List α)
    (r : State × β) : (l.foldl f r).1.life = r.1.life := h.foldl l r
@[simp] theorem foldl_mv_life {α : Type} (f : Mv → α → Mv) (h : FoldKeepsLife Mv.s f) (l : List α) (m : Mv) :
    (l.foldl f m).s.life = m.s.life := h.foldl l m

@[simp] theorem ite_life (c : Prop) [Decidable c] (a b : State) :
    (if c then a else b).life = if c then a.life else b.life := apply_ite State.life c a b
@[simp] theorem ite_fst_life {α : Type} (c : Prop) [Decidable c] (a b : State × α) :
    (if c then a else b).1.life = if c then a.1.life else b.1.life := apply_ite (fun r => r.1.life) c a b
@[simp] theorem ite_mv_life (c : Prop) [Decidable c] (a b : Mv) :
    (if c then a else b).s.life = if c then a.s.life else b.s.life := apply_ite (fun m => m.s.life) c a b
@[simp] theorem ite_foldRes_life (c : Prop) [Decidable c] (a b : FoldRes) :
    (if c then a else b).s.life = if c then a.s.life else b.s.life := apply_ite (fun r => r.s.life) c a b

/-! ### Messages and the log -/

@[simp] theorem State.msixPut_life (s : State) (p fn v : Nat) : (s.msixPut p fn v).life = s.life := by simp [State.msixPut]
@[simp] theorem msixSend_life (s : State) (p fn v : Nat) : (msixSend s p fn v).1.life = s.life := by simp [msixSend]
@[simp] theorem State.msixFlush_life (s : State) (p : Nat) : (s.msixFlush p).life = s.life := by simp [State.msixFlush]
@[simp] theorem State.present_life (s : State) (p : Nat) : (s.present p).life = s.life := by
  unfold State.present
  -- the fold is over any list: the kernel shall not unfold it over this one
  generalize upTo 8 = words
  split
  · rfl
  · split <;> simp
@[simp] theorem State.lose_life (s : State) : s.lose.life = s.life := by simp [State.lose]
@[simp] theorem State.viewLost_life (s : State) (v : LogEntry) : (s.viewLost v).life = s.life := by simp [State.viewLost]
@[simp] theorem putLog.add_life (s : State) (e : LogEntry) : (putLog.add s e).1.life = s.life := by simp [putLog.add]
@[simp] theorem putLog.go_life (s : State) (e : LogEntry) : (putLog.go s e).1.life = s.life := by
  unfold putLog.go; simp only []
  split
  · rw [putLog.add_life]
  · split
    · rfl
    · split
      · rw [putLog.add_life, State.viewLost_life]; split <;> rfl
      · rfl
@[simp] theorem putLog_life (s : State) (e : LogEntry) : (putLog s e).1.life = s.life := by
  unfold putLog
  split
  · split
    · rfl
    · exact putLog.go_life _ _
  · exact putLog.go_life _ _
@[simp] theorem logW_life (n : Nat) (s : State) (e : LogEntry) : (logW n s e).life = s.life := by
  induction n generalizing s e with
  | zero => exact putLog_life _ _
  | succ n ih =>
    refine (foldl_life _ (fun t x => ?_) _ _).trans (putLog_life _ _)
    simp only []; split <;> simp [ih]
@[simp] theorem logEv_life (s : State) (die : Nat) (e : LogEntry) : (logEv s die e).life = s.life := by simp [logEv]
@[simp] theorem msixDue_life (s : State) (p fn v : Nat) : (msixDue s p fn v).life = s.life := by simp [msixDue]
@[simp] theorem badAccess_life (s : State) (die p a : Nat) : (badAccess s die p a).life = s.life := by simp [badAccess]

/-! ### Commands, channels and kernels: their ends -/

@[simp] theorem State.updCmd_life (s : State) (id : Nat) (f : Cmd → Cmd) : (s.updCmd id f).life = s.life := by simp [State.updCmd]
@[simp] theorem State.finish_life (s : State) (id : Nat) (st : Status) (flags : BitVec 8) (detail : W64) :
    (s.finish id st flags detail).life = s.life := by simp [State.finish]
@[simp] theorem State.restChan_life (s : State) (ch : Nat) : (s.restChan ch).life = s.life := by simp [State.restChan]
@[simp] theorem State.haltChan_life (s : State) (ch : Nat) (st : Status) (sq : Nat) :
    (s.haltChan ch st sq).life = s.life := by simp [State.haltChan]
@[simp] theorem State.abortCore_life (s : State) (d : Nat) (st : Status) :
    (s.abortCore d st).life = s.life := by simp [State.abortCore]
@[simp] theorem State.abortKernel_life (s : State) (id : Nat) (st : Status) : (s.abortKernel id st).life = s.life := by
  unfold State.abortKernel
  split <;> simp
@[simp] theorem State.abortCmd.drop_life (id : Nat) (st : Status) (s : State) (c : Cmd) (k : Cluster) :
    (State.abortCmd.drop id st s c k).life = s.life := by simp [State.abortCmd.drop]
@[simp] theorem State.abortCmd_life (s : State) (id : Nat) (st : Status) : (s.abortCmd id st).life = s.life := by
  unfold State.abortCmd; simp only []
  repeat' split
  all_goals simp
@[simp] theorem State.hayward_life (s : State) (d n : Nat) : (s.hayward d n).life = s.life := by simp [State.hayward]
@[simp] theorem State.quarantine_life (s : State) (c : Nat) : (s.quarantine c).life = s.life := by simp [State.quarantine]
@[simp] theorem State.stopAll_life (s : State) : s.stopAll.life = s.life := by simp [State.stopAll]
@[simp] theorem State.deviceFatal_life (s : State) (die : Nat) (e : LogEntry) :
    (s.deviceFatal die e).life = s.life := by simp [State.deviceFatal]
@[simp] theorem State.partFatal_life (s : State) (p : Nat) : (s.partFatal p).life = s.life := by simp [State.partFatal]

/-! ### Units, recovery and sparing -/

@[simp] theorem State.retireUnit_life (s : State) (kind num : Nat) :
    (s.retireUnit kind num).life = s.life := by simp [State.retireUnit]
@[simp] theorem State.endAction_life (s : State) (kind num : Nat) :
    (s.endAction kind num).life = s.life := by simp [State.endAction]
@[simp] theorem State.record_life (s : State) (type die unit row place target : Nat) :
    (s.record type die unit row place target).life = s.life := by simp [State.record]
@[simp] theorem State.makeAbsent_life (s : State) (a : Nat) : (s.makeAbsent a).life = s.life := by
  simp only [State.makeAbsent]
  repeat' split
  all_goals simp
@[simp] theorem State.startMove_life (s : State) (g : Nat) : (s.startMove g).life = s.life := by
  simp only [State.startMove]
  repeat' split
  all_goals simp
@[simp] theorem State.nextMove_life (s : State) (b : Nat) (n : Nat) : (s.nextMove b n).life = s.life := by
  induction n generalizing s with
  | zero => rfl
  | succ n ih =>
    unfold State.nextMove
    split
    · rfl
    · simp [ih]
@[simp] theorem State.retireBank_life (s : State) (b : Nat) : (s.retireBank b).life = s.life := by simp [State.retireBank]
@[simp] theorem State.startAction_life (s : State) (kind num arg addr : Nat) :
    (s.startAction kind num arg addr).1.life = s.life := by simp [State.startAction]
@[simp] theorem State.refreshHolds_life (s : State) : s.refreshHolds.life = s.life := by
  simp [State.refreshHolds]
@[simp] theorem State.flagOnly_life (s : State) (ph : Nat) : (s.flagOnly ph).life = s.life := by simp [State.flagOnly]
@[simp] theorem State.retirePhys_life (s : State) (ph : Nat) (quar : Bool) : (s.retirePhys ph quar).life = s.life := by
  unfold State.retirePhys
  repeat' split
  all_goals simp
@[simp] theorem State.retireCluster_life (s : State) (ph cls : Nat) :
    (s.retireCluster ph cls).life = s.life := by simp [State.retireCluster]
@[simp] theorem State.escalated_life (s : State) (o : LogEntry) (kind num : Nat) :
    (s.escalated o kind num).life = s.life := by simp [State.escalated]
@[simp] theorem State.flagCluster_life (s : State) (ph cls : Nat) :
    (s.flagCluster ph cls).life = s.life := by simp [State.flagCluster]
@[simp] theorem State.flagFront_life (s : State) (ph cls : Nat) : (s.flagFront ph cls).life = s.life := by simp [State.flagFront]
@[simp] theorem State.beginSpare_life (s : State) (b row : Nat) : (s.beginSpare b row).life = s.life := by simp [State.beginSpare]
@[simp] theorem State.spareRow_life (s : State) (b row : Nat) : (s.spareRow b row).life = s.life := by simp [State.spareRow]
@[simp] theorem State.unrepairable_life (s : State) (chan arg addr : Nat) :
    (s.unrepairable chan arg addr).life = s.life := by simp [State.unrepairable]
@[simp] theorem State.beginPpr_life (s : State) (chan arg addr : Nat) :
    (s.beginPpr chan arg addr).life = s.life := by simp [State.beginPpr]
@[simp] theorem State.pprRow_life (s : State) (chan arg addr : Nat) :
    (s.pprRow chan arg addr).life = s.life := by simp [State.pprRow]
@[simp] theorem State.escalate_life (s : State) (o : LogEntry) (kind num arg addr : Nat) :
    (s.escalate o kind num arg addr).life = s.life := by
  simp only [State.escalate]
  split <;> simp
@[simp] theorem State.countContained_life (s : State) (o : LogEntry) (kind num arg addr : Nat) :
    (s.countContained o kind num arg addr).life = s.life := by simp [State.countContained]
@[simp] theorem State.countEvent_life (s : State) (o : LogEntry) (kind num arg addr : Nat) :
    (s.countEvent o kind num arg addr).life = s.life := by
  simp only [State.countEvent]
  repeat' split
  all_goals simp
@[simp] theorem logUnit_life (s : State) (die : Nat) (e : LogEntry) (arg : Nat) :
    (logUnit s die e arg).life = s.life := by simp [logUnit]
@[simp] theorem logCluster_life (s : State) (c : Nat) (e : LogEntry) : (logCluster s c e).life = s.life := by simp [logCluster]

/-! ### Device memory and host memory -/

@[simp] theorem State.errCnt_life (s : State) (a hi lo : Nat) : (s.errCnt a hi lo).life = s.life := by
  unfold State.errCnt
  split <;> simp
@[simp] theorem State.rowFails_life (s : State) (a : Nat) : (s.rowFails a).life = s.life := by simp [State.rowFails]
@[simp] theorem State.corrected_life (s : State) (die w : Nat) : (s.corrected die w).life = s.life := by simp [State.corrected]
@[simp] theorem State.uncorrected_life (s : State) (die w : Nat) : (s.uncorrected die w).life = s.life := by
  unfold State.uncorrected
  split <;> simp
@[simp] theorem State.detectHit_life (s : State) (die w : Nat) : (s.detectHit die w).life = s.life := by simp [State.detectHit]
@[simp] theorem readErr_life (s : State) (die w : Nat) (x : StoreErr) : (readErr s die w x).1.life = s.life := by
  unfold readErr
  repeat' split
  all_goals simp
@[simp] theorem readMem_life (s : State) (die a n : Nat) : (readMem s die a n).1.life = s.life := by simp [readMem]
@[simp] theorem writeMem_life (s : State) (die a : Nat) (l : List PB) : (writeMem s die a l).life = s.life := by simp [writeMem]
@[simp] theorem State.cvClearN_life (s : State) (die n a : Nat) : (s.cvClearN die n a).life = s.life := by
  induction n generalizing s a with
  | zero => rfl
  | succ n ih =>
    unfold State.cvClearN
    split
    · rfl
    · split
      · simp [ih]
      · rfl
@[simp] theorem State.cvClear_life (s : State) (die a n : Nat) : (s.cvClear die a n).life = s.life := by simp [State.cvClear]
@[simp] theorem State.cvSet_life (s : State) (die a : Nat) (crc : Nat) : (s.cvSet die a crc).life = s.life := by
  unfold State.cvSet
  split <;> simp
@[simp] theorem storeMem_life (s : State) (die a : Nat) (l : List PB) : (storeMem s die a l).life = s.life := by simp [storeMem]
@[simp] theorem State.hostWrite_life (s : State) (p fn a : Nat) (l : List PB) :
    (s.hostWrite p fn a l).life = s.life := by simp [State.hostWrite]

/-! ### Arming and disarming -/

@[simp] theorem State.armPut_life (s : State) (k p n : Nat) : (s.armPut k p n).life = s.life := by simp [State.armPut]
@[simp] theorem State.armEnd_life (s : State) (k p n : Nat) : (s.armEnd k p n).life = s.life := by simp [State.armEnd]
@[simp] theorem rgnArmWrite_life (s : State) (p n : Nat) (v : W64) : (rgnArmWrite s p n v).life = s.life := by simp [rgnArmWrite]
@[simp] theorem rgnArmEnd_life (s : State) (p n : Nat) : (rgnArmEnd s p n).life = s.life := by simp [rgnArmEnd]
@[simp] theorem rgnDisarmWrite_life (s : State) (p n : Nat) (v : Option W64) : (rgnDisarmWrite s p n v).life = s.life := by
  unfold rgnDisarmWrite
  repeat' split
  all_goals simp
@[simp] theorem rgnHiWrite_life (s : State) (p n : Nat) (v : W64) : (rgnHiWrite s p n v).life = s.life := by simp [rgnHiWrite]
@[simp] theorem sbArmWrite_life (s : State) (p n : Nat) (v : W64) : (sbArmWrite s p n v).life = s.life := by simp [sbArmWrite]
@[simp] theorem sbArmEnd_life (s : State) (p n : Nat) : (sbArmEnd s p n).life = s.life := by simp [sbArmEnd]
@[simp] theorem sbDisarmWrite_life (s : State) (p n : Nat) (v : Option W64) : (sbDisarmWrite s p n v).life = s.life := by
  unfold sbDisarmWrite
  repeat' split
  all_goals simp
@[simp] theorem sbAddrWrite_life (s : State) (p n a : Nat) (v : W64) :
    (sbAddrWrite s p n a v).life = s.life := by simp [sbAddrWrite]
@[simp] theorem winArmWrite_life (s : State) (p w : Nat) (v : W64) : (winArmWrite s p w v).life = s.life := by simp [winArmWrite]
@[simp] theorem winArmEnd_life (s : State) (p w : Nat) : (winArmEnd s p w).life = s.life := by simp [winArmEnd]
@[simp] theorem winDisarmWrite_life (s : State) (p w : Nat) (v : Option W64) : (winDisarmWrite s p w v).life = s.life := by
  unfold winDisarmWrite
  repeat' split
  all_goals simp
@[simp] theorem winLoWrite_life (s : State) (p w : Nat) (v : W64) : (winLoWrite s p w v).life = s.life := by simp [winLoWrite]
@[simp] theorem b2ArmWrite_life (s : State) (p n : Nat) (v : W64) : (b2ArmWrite s p n v).life = s.life := by simp [b2ArmWrite]
@[simp] theorem b2ArmEnd_life (s : State) (p n : Nat) : (b2ArmEnd s p n).life = s.life := by simp [b2ArmEnd]
@[simp] theorem b2DisarmWrite_life (s : State) (p n : Nat) (v : Option W64) : (b2DisarmWrite s p n v).life = s.life := by
  unfold b2DisarmWrite
  repeat' split
  all_goals simp
@[simp] theorem b2HiWrite_life (s : State) (p n : Nat) (v : W64) : (b2HiWrite s p n v).life = s.life := by simp [b2HiWrite]

/-! ### Partner tables, keys and ports -/

@[simp] theorem State.setPtState_life (s : State) (r st : Nat) : (s.setPtState r st).life = s.life := by simp [State.setPtState]
@[simp] theorem State.endOpsWith_life (s : State) (r : Nat) (st : Status) (except : Option Nat) :
    (s.endOpsWith r st except).life = s.life := by simp [State.endOpsWith]
@[simp] theorem State.expel_life (s : State) (r : Nat) (except : Option Nat) :
    (s.expel r except).life = s.life := by simp [State.expel]
@[simp] theorem State.ptErr_life (s : State) (p e : Nat) : (s.ptErr p e).life = s.life := by simp [State.ptErr]
@[simp] theorem ptWrite_life (s : State) (p r : Nat) : (ptWrite s p r).life = s.life := by
  -- else the kernel unfolds the fold over the eight words to see that the two sides agree
  simp -implicitDefEqProofs [ptWrite]
@[simp] theorem ptRead_life (s : State) (p r : Nat) : (ptRead s p r).life = s.life := by
  simp [ptRead]
@[simp] theorem ptExpel_life (s : State) (p r : Nat) : (ptExpel s p r).life = s.life := by simp [ptExpel]
@[simp] theorem keyWrite_life (s : State) (p : Nat) (v : W64) : (keyWrite s p v).life = s.life := by simp [keyWrite]
@[simp] theorem portEn_life (s : State) (k : Nat) (en : Bool) : (portEn s k en).life = s.life := by simp [portEn]

/-! ### Register writes -/

@[simp] theorem pvAckWrite_life (s : State) (p : Nat) (v : W64) : (pvAckWrite s p v).life = s.life := by
  simp [pvAckWrite]
@[simp] theorem mbWrite_life (s : State) (p : Nat) (m v : W64) : (mbWrite s p m v).life = s.life := by simp [mbWrite]
@[simp] theorem partWrite_life (s : State) (host : Bool) (p o : Nat) (m v : W64) :
    (partWrite s host p o m v).life = s.life := by simp [partWrite]
@[simp] theorem cluWrite_life (s : State) (c o : Nat) (m v : W64) : (cluWrite s c o m v).life = s.life := by simp [cluWrite]
@[simp] theorem coreWriteOther_life (s : State) (d o : Nat) (m v : W64) :
    (coreWriteOther s d o m v).life = s.life := by simp [coreWriteOther]
@[simp] theorem writeReg_life (s : State) (host : Bool) (_p a : Nat) (m v : W64) :
    (writeReg s host _p a m v).life = s.life := by simp [writeReg]

/-! ### Exceptions and interrupts -/

@[simp] theorem takeException_life (s : State) (d c detail : Nat) (instr : BitVec 16) :
    (takeException s d c detail instr).life = s.life := by
  simp only [takeException]
  repeat' split
  all_goals simp
@[simp] theorem takeInterrupt_life (s : State) (d c detail : Nat) :
    (takeInterrupt s d c detail).life = s.life := by simp [takeInterrupt]
@[simp] theorem State.boundary_life (s : State) (d : Nat) : (s.boundary d).life = s.life := by
  unfold State.boundary
  split <;> simp

/-! ### Issue -/

@[simp] theorem readLine_life (s : State) (d a : Nat) : (readLine s d a).1.life = s.life := by simp [readLine]
@[simp] theorem parityError_life (s : State) (d : Nat) (ic : Bool) (a : Nat) :
    (parityError s d ic a).life = s.life := by simp [parityError]
@[simp] theorem State.icFill_life (s : State) (d a : Nat) : (s.icFill d a).1.life = s.life := by simp [State.icFill]
@[simp] theorem fetch_life (s : State) (d : Nat) : (fetch s d).1.life = s.life := by
  simp only [fetch]
  split <;> simp
@[simp] theorem State.retire_life (s : State) (d : Nat) : (s.retire d).life = s.life := by simp [State.retire]
@[simp] theorem Body.run_life (b : Body) (d : Nat) (instr : BitVec 16) : (Body.run b d instr).life = b.state.life := by
  unfold Body.run
  split <;> simp
@[simp] theorem issue_life (s : State) (d : Nat) (instr : BitVec 16) (pl : Place) (body : State → Body)
    (h : ∀ t, (body t).state.life = t.life) : (issue s d instr pl body).life = s.life := by
  simp only [issue]
  repeat' split
  all_goals simp [h]
/-- A core instruction whose body leaves the life cycle leaves it. -/
theorem issue_keepsFuses {s : State} {d : Nat} {instr : BitVec 16} {pl : Place} {body : State → Body}
    (h : ∀ t, (body t).state.life = t.life) : KeepsFuses s (.next (issue s d instr pl body)) :=
  keepsFuses_of_life (issue_life s d instr pl body h)
@[simp] theorem stackBody_life (s : State) (d : Nat) (r : Except Nat Core) : (stackBody s d r).state.life = s.life := by
  unfold stackBody
  split <;> simp
@[simp] theorem aluOp_life (d n : Nat) (f : List Entry → List Entry) (s : State) :
    (aluOp d n f s).state.life = s.life := by simp [aluOp]
@[simp] theorem slowOp_life (d n : Nat) (f : List Entry → List Entry) (s : State) :
    (slowOp d n f s).state.life = s.life := by simp [slowOp]
@[simp] theorem fpOp_life (d n : Nat) (f : Bool → List Nat → Nat × Fl) (s : State) : (fpOp d n f s).state.life = s.life := by
  unfold fpOp
  split <;> simp

/-! ### Literal, stack, integer and FP64 instructions -/

@[simp] theorem pickBody_life (d : Nat) (s : State) : (pickBody d s).state.life = s.life := by
  simp only [pickBody]
  repeat' split
  all_goals simp
@[simp] theorem torBody_life (d : Nat) (s : State) : (torBody d s).state.life = s.life := by
  unfold torBody
  split <;> simp
@[simp] theorem fromrBody_life (pop : Bool) (d : Nat) (s : State) : (fromrBody pop d s).state.life = s.life := by
  unfold fromrBody
  split <;> simp
@[simp] theorem shiftBody_life (d : Nat) (f : W64 → Nat → W64) (s : State) : (shiftBody d f s).state.life = s.life := by
  unfold shiftBody
  repeat' split
  all_goals simp
@[simp] theorem selBody_life (d : Nat) (s : State) : (selBody d s).state.life = s.life := by
  unfold selBody
  repeat' split
  all_goals simp

/-! ### Device reset and power pins -/

@[simp] theorem State.deviceReset_burns {l : Life} {s : State} (h : l.Burns s.life) : l.Burns s.deviceReset.life := h
@[simp] theorem State.powerOff_burns {l : Life} {s : State} (h : l.Burns s.life) : l.Burns s.powerOff.life := h
@[simp] theorem State.powerUp_life (s : State) : s.powerUp.life = s.life := by simp [State.powerUp]

/-! ### Scrubbing, write-backs and repair -/

@[simp] theorem State.poisonWord_life (s : State) (w : Nat) : (s.poisonWord w).life = s.life := by simp [State.poisonWord]
@[simp] theorem State.lmFound_life (s : State) (w : Nat) (x : StoreErr) : (s.lmFound w x).life = s.life := by
  unfold State.lmFound
  split <;> simp
@[simp] theorem State.writeBack_life (s : State) (w : Nat) : (s.writeBack w).life = s.life := by
  unfold State.writeBack
  split <;> simp
@[simp] theorem State.copied_life (s : State) (here : Nat → Bool) : (s.copied here).life = s.life := by simp [State.copied]
@[simp] theorem State.d2dRetire_life (s : State) (grp : Nat) : (s.d2dRetire grp).life = s.life := by simp [State.d2dRetire]

/-! ### Fallow rotation -/

@[simp] theorem State.takeRole_life (s : State) (c ph : Nat) : (s.takeRole c ph).life = s.life := by simp [State.takeRole]
@[simp] theorem State.freed_life (s : State) (ph : Nat) (parts : BitVec 4) :
    (s.freed ph parts).life = s.life := by simp [State.freed]
@[simp] theorem State.testPass_life (s : State) (ph : Nat) : (s.testPass ph).life = s.life := by simp [State.testPass]
@[simp] theorem State.testBegin_life (s : State) (ph : Nat) : (s.testBegin ph).life = s.life := by simp [State.testBegin]
@[simp] theorem State.replaceRole_life (s : State) (c ph : Nat) (flag : Bool) :
    (s.replaceRole c ph flag).life = s.life := by simp [State.replaceRole]
@[simp] theorem State.roleAbsent_life (s : State) (c : Nat) : (s.roleAbsent c).life = s.life := by
  unfold State.roleAbsent; simp only []
  split
  · rfl
  · -- else the kernel unfolds the fold over the sixteen sets to see that the two sides agree
    simp -implicitDefEqProofs
@[simp] theorem State.flagPastDue_life (s : State) : s.flagPastDue.life = s.life := by simp [State.flagPastDue]

/-! ### Boot -/

@[simp] theorem Life.readFuses_burns (l : Life) : l.Burns l.readFuses := by simp [Life.readFuses]
@[simp] theorem State.bootFrom_life (s : State) (b : Bool) (im : ImageRead) (ck : W64) (trial : Option Bool) :
    (s.bootFrom b im ck trial).life = s.life := by simp [State.bootFrom]
@[simp] theorem State.eraseBad_life (s : State) : s.eraseBad.life = s.life := by
  unfold State.eraseBad
  split
  · exact foldl_life _ (fun t b => by split <;> rfl) _ _
  · rfl
@[simp] theorem State.placeMonitor_life (s : State) : s.placeMonitor.life = s.life := by simp [State.placeMonitor]
@[simp] theorem State.useSlot_life (s : State) (a t : Nat) : (s.useSlot a t).life = s.life := by
  unfold State.useSlot
  split <;> simp
@[simp] theorem State.replay_life (s : State) (r : RepairRec) : (s.replay r).life = s.life := by simp [State.replay]
@[simp] theorem State.replayAll_life (s : State) : s.replayAll.life = s.life := by simp [State.replayAll]
@[simp] theorem State.bootPhys_life (s : State) (ph : Nat) : (s.bootPhys ph).life = s.life := by simp [State.bootPhys]
@[simp] theorem State.placeRoles_life (s : State) : s.placeRoles.life = s.life := by
  refine (foldl_life _ (fun t c => ?_) _ _).trans (by simp)
  repeat' split
  all_goals simp
@[simp] theorem State.softRepair_life (s : State) (r : RepairRec) : (s.softRepair r).life = s.life := by simp [State.softRepair]
@[simp] theorem State.harden_life (s : State) : s.harden.life = s.life := by simp [State.harden]

/-! ### Fresh check values -/

@[simp] theorem State.coverFresh_life (s : State) (die : Nat) (m : SMap Nat) : (s.coverFresh die m).life = s.life := by
  refine foldl_life _ (fun t q => ?_) _ _
  simp only [id_eq]
  repeat' split
  all_goals simp only [State.cvSet_life]

/-! ### Scalar loads and stores -/

@[simp] theorem dcMiss_life (s : State) (d a n : Nat) : (dcMiss s d a n).1.life = s.life := by
  simp only [dcMiss]
  split <;> simp
@[simp] theorem dcLoad_life (s : State) (d a n : Nat) : (dcLoad s d a n).1.life = s.life := by
  simp only [dcLoad]
  repeat' split
  all_goals simp
@[simp] theorem coreWrite_life (s : State) (d a : Nat) (b : List PB) : (coreWrite s d a b).life = s.life := by
  unfold coreWrite
  split <;> simp
@[simp] theorem ctlLoad_life (s : State) (d a n : Nat) : (ctlLoad s d a n).1.life = s.life := by
  unfold ctlLoad
  split <;> simp
@[simp] theorem ldBody_life (signed : Bool) (n d : Nat) (s : State) : (ldBody signed n d s).state.life = s.life := by
  simp only [ldBody]
  repeat' split
  all_goals simp
@[simp] theorem ctlStore_life (s : State) (d a n : Nat) (v : W64) : (ctlStore s d a n v).life = s.life := by
  unfold ctlStore
  split <;> simp
@[simp] theorem stBody_life (n d : Nat) (s : State) : (stBody n d s).state.life = s.life := by
  simp only [stBody]
  repeat' split
  all_goals simp
@[simp] theorem lldBody_life (signed : Bool) (n d : Nat) (s : State) : (lldBody signed n d s).state.life = s.life := by
  simp only [lldBody]
  repeat' split
  all_goals simp
@[simp] theorem lstBody_life (n d : Nat) (s : State) : (lstBody n d s).state.life = s.life := by
  simp only [lstBody]
  repeat' split
  all_goals simp

/-! ### Control flow, mode, windows and traps -/

@[simp] theorem brzBody_life (d : Nat) (o : BitVec 12) (s : State) : (brzBody d o s).state.life = s.life := by
  simp only [brzBody]
  repeat' split
  all_goals simp
@[simp] theorem callTo_life (d : Nat) (k : Core) (target : Nat) (s : State) : (callTo d k target s).state.life = s.life := by
  unfold callTo
  split <;> simp
@[simp] theorem retBody_life (d : Nat) (s : State) : (retBody d s).state.life = s.life := by
  simp only [retBody]
  repeat' split
  all_goals simp
@[simp] theorem indirectBody_life (call : Bool) (d : Nat) (s : State) : (indirectBody call d s).state.life = s.life := by
  simp only [indirectBody]
  repeat' split
  all_goals simp
@[simp] theorem loopBody_life (d : Nat) (n : BitVec 12) (s : State) : (loopBody d n s).state.life = s.life := by
  simp only [loopBody]
  repeat' split
  all_goals simp
@[simp] theorem lexitBody_life (d : Nat) (s : State) : (lexitBody d s).state.life = s.life := by simp [lexitBody]
@[simp] theorem lcntBody_life (d : Nat) (s : State) : (lcntBody d s).state.life = s.life := by
  unfold lcntBody
  repeat' split
  all_goals simp
@[simp] theorem modewBody_life (d : Nat) (s : State) : (modewBody d s).state.life = s.life := by
  simp only [modewBody]
  repeat' split
  all_goals simp
@[simp] theorem dcinvlBody_life (d : Nat) (s : State) : (dcinvlBody d s).state.life = s.life := by
  simp only [dcinvlBody]
  repeat' split
  all_goals simp
@[simp] theorem atwBody_life (d : Nat) (s : State) : (atwBody d s).state.life = s.life := by
  simp only [atwBody]
  repeat' split
  all_goals simp
@[simp] theorem ecallBody_life (d : Nat) (s : State) : (ecallBody d s).state.life = s.life := by
  unfold ecallBody
  split <;> simp
@[simp] theorem wfiBody_life (d : Nat) (s : State) : (wfiBody d s).state.life = s.life := by
  simp only [wfiBody]
  repeat' split
  all_goals simp
@[simp] theorem kendBody_life (d : Nat) (s : State) : (kendBody d s).state.life = s.life := by simp [kendBody]
@[simp] theorem rteBody_life (d : Nat) (s : State) : (rteBody d s).state.life = s.life := by
  simp only [rteBody]
  repeat' split
  all_goals simp

/-! ### Barriers, tickets and the enqueue of engine work -/

@[simp] theorem State.signalBar_life (s : State) (a : Nat) : (s.signalBar a).life = s.life := by simp [State.signalBar]
@[simp] theorem State.signalMask_life (s : State) (c p cb pb : Nat) (hdr : W64) (st : Status) :
    (s.signalMask c p cb pb hdr st).life = s.life := by simp [State.signalMask]
@[simp] theorem State.ticketEnter_life (s : State) (d t : Nat) (e : Engine) (order : Nat) (words ext : List W64) :
    (s.ticketEnter d t e order words ext).life = s.life := by simp [State.ticketEnter]
@[simp] theorem enqBody_life (e : Engine) (d : Nat) (s : State) : (enqBody e d s).state.life = s.life := by
  simp only [enqBody]
  repeat' split
  all_goals simp
@[simp] theorem qwaitBody_life (d : Nat) (s : State) : (qwaitBody d s).state.life = s.life := by
  simp only [qwaitBody]
  repeat' split
  all_goals simp
@[simp] theorem qtestBody_life (d : Nat) (s : State) : (qtestBody d s).state.life = s.life := by
  unfold qtestBody
  split
  · rfl
  · simp only []
    split
    · split
      · rename_i heq
        repeat' split at heq
        all_goals cases heq <;> rfl
      · rfl
    · repeat' split
      all_goals simp

/-! ### Channels and the dispatcher -/

@[simp] theorem State.evict_life (s : State) (keep : Nat) : (s.evict keep).life = s.life := by
  simp only [State.evict]
  repeat' split
  all_goals simp
@[simp] theorem State.loadChan_life (s : State) (p ch : Nat) : (s.loadChan p ch).life = s.life := by simp [State.loadChan]
@[simp] theorem State.armChan_life (s : State) (p ch : Nat) : (s.armChan p ch).life = s.life := by simp [State.armChan]
@[simp] theorem State.addCmd_life (s : State) (ch p c : Nat) (words : List W64) (ext : Option (List W64))
    (st : Option Status) (detail : W64) :
    (s.addCmd ch p c words ext st detail).life = s.life := by simp [State.addCmd]
@[simp] theorem State.endHeld_life (s : State) (p ch : Nat) (st : Status) (detail : W64) (n : Nat) :
    (s.endHeld p ch st detail n).life = s.life := by
  induction n generalizing s with
  | zero => rfl
  | succ n ih =>
    unfold State.endHeld
    split
    · rfl
    · simp [ih]
@[simp] theorem State.abortChannel_life (s : State) (p ch : Nat) (q r : Status) (detail : W64) :
    (s.abortChannel p ch q r detail).life = s.life := by simp [State.abortChannel]
@[simp] theorem State.scanOne_life (s : State) (p ch : Nat) : (s.scanOne p ch).life = s.life := by simp [State.scanOne]
@[simp] theorem State.ringRecord_life (s : State) (p ch i : Nat) :
    (s.ringRecord p ch i).1.life = s.life := by simp [State.ringRecord]
@[simp] theorem State.cachedChan_life (s : State) (p ch : Nat) : (s.cachedChan p ch).life = s.life := by simp [State.cachedChan]
@[simp] theorem State.handOver_life (s : State) (p ch c : Nat) (h : Head) : (s.handOver p ch c h).life = s.life := by
  simp only [State.handOver]
  split <;> simp
@[simp] theorem armBar_life (s : State) (mode : Bool) (v a : Nat) : (armBar s mode v a).life = s.life := by simp [armBar]
@[simp] theorem State.putRecord_life (s : State) (c : Cmd) (st : Status) :
    (s.putRecord c st).1.life = s.life := by simp [State.putRecord]
@[simp] theorem State.dropCmd_life (s : State) (c : Cmd) : (s.dropCmd c).life = s.life := by simp [State.dropCmd]

/-! ### Fold units -/

@[simp] theorem foldReject_life (s : State) (p : Nat) (st : Status) : (foldReject s p st).s.life = s.life := by simp [foldReject]
@[simp] theorem foldStore_life (s : State) (p a : Nat) (l : List PB) : (foldStore s p a l).1.life = s.life := by
  unfold foldStore
  split <;> simp
@[simp] theorem lineFold_life (s : State) (p a z : Nat) (f : Nat → Nat → Nat) (x : Nat) (en psn : Nat → Bool) :
    (lineFold s p a z f x en psn).s.life = s.life := by
  unfold lineFold
  split <;> simp
@[simp] theorem raiseSward_life (s : State) (p n die flags : Nat) :
    (raiseSward s p n die flags).life = s.life := by simp [raiseSward]
@[simp] theorem swardAdd_life (s : State) (p n a : Nat) (psn : Bool) (c : Option Int × Nat) :
    (swardAdd s p n a psn c).s.life = s.life := by
  unfold swardAdd
  split
  · simp
  · simp only [raiseSward_life]
    repeat' split
    all_goals simp only [foldStore_life, readMem_life]
@[simp] theorem swaddFloat_life (s : State) (p a n f x : Nat) (psn : Bool) :
    (swaddFloat s p a n f x psn).s.life = s.life := by simp [swaddFloat]
@[simp] theorem swardRead_life (s : State) (p a n : Nat) (clr : Bool) : (swardRead s p a n clr).s.life = s.life := by
  unfold swardRead
  split <;> simp

/-! ### The frame of a vector instruction -/

@[simp] theorem vecFault_life (s : State) (d cause elem detail addr : Nat) :
    (vecFault s d cause elem detail addr).state.life = s.life := by simp [vecFault]
@[simp] theorem operandFault_life (s : State) (d : Nat) : (operandFault s d).state.life = s.life := by simp [operandFault]
@[simp] theorem pairFault_life (s : State) (d : Nat) : (pairFault s d).state.life = s.life := by simp [pairFault]
@[simp] theorem vecOp_life (d n : Nat) (ctl : Nat → Bool) (f : Core → List Entry → State → Body)
    (h : ∀ k l t, (f k l t).state.life = t.life) (s : State) : (vecOp d n ctl f s).state.life = s.life := by
  unfold vecOp
  split
  · rfl
  · simp only []
    split
    · rfl
    · exact h _ _ _
@[simp] theorem vecDone_life (s : State) (d : Nat) (k : Core) : (vecDone s d k).state.life = s.life := by
  unfold vecDone
  split <;> simp

/-! ### Element-wise vector instructions and reductions -/

@[simp] theorem mapGroup_life (s : State) (d : Nat) (k : Core) (g : Grp) (f : Nat → Nat × Fl) (psn : Nat → Bool) :
    (mapGroup s d k g f psn).state.life = s.life := by simp [mapGroup]
@[simp] theorem vec2_life (d : Nat) (fltOnly : Bool) (f : Nat → Bool → Nat → Nat → Nat × Fl) (s : State) :
    (vec2 d fltOnly f s).state.life = s.life :=
  vecOp_life _ _ _ _ (fun k l t => by simp only []; split <;> simp) s
@[simp] theorem vec3_life (d : Nat) (f : Nat → Bool → Nat → Nat → Nat → Nat × Fl) (s : State) : (vec3 d f s).state.life = s.life :=
  vecOp_life _ _ _ _ (fun k l t => by simp only []; split <;> simp) s
@[simp] theorem vecS_life (d : Nat) (f : Nat → Bool → Nat → Nat → Nat × Fl) (s : State) : (vecS d f s).state.life = s.life :=
  vecOp_life _ _ _ _ (fun k l t => by simp only []; split <;> simp) s
@[simp] theorem vec1_life (d : Nat) (fltOnly : Bool) (f : Nat → Bool → Nat → Nat × Fl) (s : State) :
    (vec1 d fltOnly f s).state.life = s.life :=
  vecOp_life _ _ _ _ (fun k l t => by simp only []; split <;> simp) s
@[simp] theorem vcmp_life (d : Nat) (f : Val → Val → Bool) (s : State) : (vcmp d f s).state.life = s.life :=
  vecOp_life _ _ _ _ (fun k l t => by simp only []; split <;> simp) s
@[simp] theorem vmask_life (d : Nat) (f : BitVec 2048 → BitVec 2048 → BitVec 2048) (s : State) :
    (vmask d f s).state.life = s.life :=
  vecOp_life _ _ _ _ (fun k l t => by simp only []; split <;> simp) s
@[simp] theorem vcvtBody_life (d : Nat) (s : State) : (vcvtBody d s).state.life = s.life :=
  vecOp_life _ _ _ _ (fun k l t => by simp only []; split <;> simp) s
@[simp] theorem vqmxBody_life (d : Nat) (s : State) : (vqmxBody d s).state.life = s.life :=
  vecOp_life _ _ _ _ (fun k l t => by simp only []; split <;> simp) s
@[simp] theorem redPush_life (s : State) (d : Nat) (k : Core) (v : W64) : (redPush s d k v).state.life = s.life := by
  unfold redPush
  split <;> simp
@[simp] theorem redSum_life (d : Nat) (prod : Bool) (s : State) : (redSum d prod s).state.life = s.life := by
  refine vecOp_life _ _ _ _ (fun k l t => ?_) s
  simp only []
  repeat' split
  all_goals simp
@[simp] theorem redMax_life (d : Nat) (mx : Bool) (s : State) : (redMax d mx s).state.life = s.life := by
  refine vecOp_life _ _ _ _ (fun k l t => ?_) s
  simp only []
  repeat' split
  all_goals simp
@[simp] theorem maskSum_life (d : Nat) (f : List Nat → Nat → W64) (s : State) : (maskSum d f s).state.life = s.life :=
  vecOp_life _ _ _ _ (fun k l t => by simp only []; split <;> simp) s

/-! ### Vector memory and the operand cache -/

@[simp] theorem readRuns_life (s : State) (die : Nat) (l : List (Nat × Nat)) :
    (readRuns s die l).1.life = s.life := by simp [readRuns]
@[simp] theorem vecWrite_life (s : State) (d : Nat) (l : List (Nat × List PB)) :
    (vecWrite s d l).life = s.life := by simp [vecWrite]
@[simp] theorem vecLoad_life (s : State) (d : Nat) (k : Core) (g : Grp) (ff : Bool) (place : Nat → Nat × Nat) (bit : Nat → Nat) :
    (vecLoad s d k g ff place bit).state.life = s.life := by
  simp only [vecLoad]
  repeat' split
  all_goals simp
@[simp] theorem vldBody_life (d : Nat) (ff : Bool) (s : State) : (vldBody d ff s).state.life = s.life :=
  vecOp_life _ _ _ _ (fun k l t => by simp only []; split <;> simp) s
@[simp] theorem vldsBody_life (d : Nat) (s : State) : (vldsBody d s).state.life = s.life :=
  vecOp_life _ _ _ _ (fun k l t => by simp only []; split <;> simp) s
@[simp] theorem vgatherBody_life (d : Nat) (ff : Bool) (s : State) : (vgatherBody d ff s).state.life = s.life := by
  refine vecOp_life _ _ _ _ (fun k l t => ?_) s
  simp only []
  repeat' split
  all_goals simp
@[simp] theorem vecStore_life (s : State) (d : Nat) (k : Core) (g : Grp) (place : Nat → Nat × Nat) (packed : Option Nat) :
    (vecStore s d k g place packed).state.life = s.life := by
  simp only [vecStore]
  repeat' split
  all_goals simp
@[simp] theorem vstBody_life (d : Nat) (s : State) : (vstBody d s).state.life = s.life :=
  vecOp_life _ _ _ _ (fun k l t => by simp only []; split <;> simp) s
@[simp] theorem vstsBody_life (d : Nat) (s : State) : (vstsBody d s).state.life = s.life :=
  vecOp_life _ _ _ _ (fun k l t => by simp only []; split <;> simp) s
@[simp] theorem vscatterBody_life (d : Nat) (s : State) : (vscatterBody d s).state.life = s.life := by
  refine vecOp_life _ _ _ _ (fun k l t => ?_) s
  simp only []
  repeat' split
  all_goals simp
@[simp] theorem vocldBody_life (d : Nat) (s : State) : (vocldBody d s).state.life = s.life :=
  vecOp_life _ _ _ _ (fun k l t => by simp only []; split <;> simp) s
@[simp] theorem vocstBody_life (d : Nat) (s : State) : (vocstBody d s).state.life = s.life :=
  vecOp_life _ _ _ _ (fun k l t => by simp only []; split <;> simp) s
@[simp] theorem ocBindBody_life (d : Nat) (fill : Bool) (s : State) : (ocBindBody d fill s).state.life = s.life := by
  refine vecOp_life _ _ _ _ (fun k l t => ?_) s
  simp only []
  repeat' split
  all_goals simp
@[simp] theorem ocwbBody_life (d : Nat) (s : State) : (ocwbBody d s).state.life = s.life := by
  refine vecOp_life _ _ _ _ (fun k l t => ?_) s
  simp only []
  repeat' split
  all_goals simp
@[simp] theorem ocevictBody_life (d : Nat) (s : State) : (ocevictBody d s).state.life = s.life :=
  vecOp_life _ _ _ _ (fun k l t => by simp only []; split <;> simp) s

/-! ### Vector folds and chains -/

@[simp] theorem foldSeen_life (r : FoldRes) (d : Nat) : (foldSeen r d).life = r.s.life := by simp [foldSeen]
@[simp] theorem vfoldBody_life (d : Nat) (s : State) : (vfoldBody d s).state.life = s.life := by
  refine vecOp_life _ _ _ _ (fun k l t => ?_) s
  simp only []
  repeat' split
  all_goals simp
@[simp] theorem vswaddBody_life (d : Nat) (s : State) : (vswaddBody d s).state.life = s.life := by
  refine vecOp_life _ _ _ _ (fun k l t => ?_) s
  simp only []
  repeat' split
  all_goals simp
@[simp] theorem vswrdBody_life (d : Nat) (clr : Bool) (s : State) : (vswrdBody d clr s).state.life = s.life := by
  refine vecOp_life _ _ _ _ (fun k l t => ?_) s
  simp only []
  repeat' split
  all_goals simp
@[simp] theorem vrswBody_life (d : Nat) (s : State) : (vrswBody d s).state.life = s.life := by
  refine vecOp_life _ _ _ _ (fun k l t => ?_) s
  simp only []
  repeat' split
  all_goals simp only [vecFault_life, pairFault_life, operandFault_life, stackBody_life, foldSeen_life,
    swardAdd_life, State.setCore_life]
@[simp] theorem vchainBody_life (d : Nat) (s : State) : (vchainBody d s).state.life = s.life := by
  refine vecOp_life _ _ _ _ (fun k l t => ?_) s
  simp only []
  repeat' split
  all_goals simp

/-! ### Events of a core -/

@[simp] theorem enterPending_life (s : State) (d : Nat) : (enterPending s d).life = s.life := by
  simp only [enterPending]
  repeat' split
  all_goals simp

/-! ### The sending side of the links -/

@[simp] theorem State.wire_life (s : State) (r : Nat) (f : Frame) : (s.wire r f).life = s.life := by
  simp only [State.wire]
  split <;> simp
@[simp] theorem State.sendCtl_life (s : State) (r type code psn ctx aux : Nat) :
    (s.sendCtl r type code psn ctx aux).life = s.life := by simp [State.sendCtl]
@[simp] theorem State.updOp_life (s : State) (id : Nat) (f : LinkOp → LinkOp) :
    (s.updOp id f).life = s.life := by simp [State.updOp]
@[simp] theorem State.sendData_life (s : State) (r : Nat) (x : TxFrame) (again : Bool) : (s.sendData r x again).life = s.life := by
  simp only [State.sendData]
  repeat' split
  all_goals simp
@[simp] theorem State.pumpN_life (s : State) (r n : Nat) : (s.pumpN r n).life = s.life := by
  induction n generalizing s with
  | zero => rfl
  | succ n ih =>
    unfold State.pumpN; simp only []
    repeat' split
    all_goals simp [ih]
@[simp] theorem State.pump_life (s : State) (r : Nat) : (s.pump r).life = s.life := by simp [State.pump]
@[simp] theorem State.pumpPort_life (s : State) (k : Nat) : (s.pumpPort k).life = s.life := by simp [State.pumpPort]
@[simp] theorem State.pumpOp_life (s : State) (o : LinkOp) : (s.pumpOp o).life = s.life := by simp [State.pumpOp]
@[simp] theorem State.endOp_life (s : State) (o : LinkOp) (st : Status) (flags : BitVec 8) (detail : W64) :
    (s.endOp o st flags detail).life = s.life := by simp [State.endOp]
@[simp] theorem State.finishOp_life (s : State) (o : LinkOp) : (s.finishOp o).life = s.life := by
  unfold State.finishOp
  split <;> simp
@[simp] theorem State.settle_life (s : State) : s.settle.life = s.life := by
  refine foldl_life _ (fun t id => ?_) _ _
  split <;> simp
@[simp] theorem State.ackFrom_life (s : State) (r ackPsn : Nat) (sack : BitVec 32) : (s.ackFrom r ackPsn sack).life = s.life := by
  unfold State.ackFrom; simp only []
  split
  · exact foldl_life _ (fun t x => State.sendData_life t r x true) _ _
  · rfl

/-! ### Link commands -/

@[simp] theorem State.memberList_life (s : State) (p die a n : Nat) : (s.memberList p die a n).1.life = s.life := by
  simp only [State.memberList]
  repeat' split
  all_goals simp
@[simp] theorem planXfer_life (s : State) (c : Cmd) : (planXfer s c).s.life = s.life := by simp [planXfer]
@[simp] theorem planColl_life (s : State) (c : Cmd) : (planColl s c).s.life = s.life := by
  simp only [planColl]
  split <;> simp
@[simp] theorem planMcast_life (s : State) (c : Cmd) : (planMcast s c).s.life = s.life := by
  simp only [planMcast]
  split <;> simp
@[simp] theorem planVote_life (s : State) (c : Cmd) : (planVote s c).s.life = s.life := by
  simp only [planVote]
  split <;> simp
@[simp] theorem State.startOp_life (s : State) (o : LinkOp) : (s.startOp o).life = s.life := by simp [State.startOp]
@[simp] theorem admitLk_life (id : Nat) (pl : LkPlan) : (admitLk id pl).life = pl.s.life := by simp [admitLk]

/-! ### Frames that arrive -/

@[simp] theorem State.drop_life (s : State) (k hi lo : Nat) : (s.drop k hi lo).life = s.life := by
  unfold State.drop
  split <;> simp
@[simp] theorem State.dropMalformed_life (s : State) (k : Nat) : (s.dropMalformed k).life = s.life := by simp [State.dropMalformed]
@[simp] theorem State.dropAuth_life (s : State) (k : Nat) : (s.dropAuth k).life = s.life := by simp [State.dropAuth]
@[simp] theorem State.dropRate_life (s : State) (k : Nat) : (s.dropRate k).life = s.life := by simp [State.dropRate]
@[simp] theorem State.dropExpelled_life (s : State) (k : Nat) : (s.dropExpelled k).life = s.life := by simp [State.dropExpelled]
@[simp] theorem State.pfcCheck_life (s : State) (k : Nat) : (s.pfcCheck k).life = s.life := by simp [State.pfcCheck]
theorem State.macsec_life {s t : State} {k r : Nat} {f : Frame} (h : s.macsec k f = some (t, r)) : t.life = s.life := by
  unfold State.macsec at h
  repeat' split at h
  all_goals cases h <;> rfl
theorem State.bucketTake_life {s t : State} {r : Nat} {f : Frame} (h : s.bucketTake r f = some t) : t.life = s.life := by
  unfold State.bucketTake at h; simp only [] at h
  repeat' split at h
  all_goals cases h <;> rfl
@[simp] theorem State.takeIn_life (s : State) (k : Nat) (f : Frame) : (s.takeIn k f).1.life = s.life := by
  unfold State.takeIn
  split
  · rfl
  · split
    · simp only []; split <;> simp
    · split
      · simp
      · split
        · simp
        · next h =>
          have h1 := State.macsec_life h
          split
          · simp [h1]
          · split
            · simp [h1]
            · split
              · simp [h1]
              · next h =>
                have h2 := State.bucketTake_life h
                split <;> simp [h1, h2]
@[simp] theorem State.quotaTake_life (s : State) (r n : Nat) : (s.quotaTake r n).life = s.life := by simp [State.quotaTake]
@[simp] theorem State.foldFrame_life (s : State) (p : Nat) (f : Frame) : (s.foldFrame p f).1.life = s.life := by
  unfold State.foldFrame; simp only []
  split
  · rfl
  · refine foldl_fst_life _ (fun q i => ?_) _ _
    repeat' split
    all_goals simp
@[simp] theorem State.notifyBar_life (s : State) (p : Nat) (f : Frame) :
    (s.notifyBar p f).life = s.life := by simp [State.notifyBar]
@[simp] theorem State.applyWF_life (s : State) (k p r : Nat) (f : Frame) (fold : Bool) :
    (s.applyWF k p r f fold).1.life = s.life := by
  simp only [State.applyWF]
  repeat' split
  all_goals simp
@[simp] theorem State.answerRead_life (s : State) (k p r : Nat) (f : Frame) : (s.answerRead k p r f).1.life = s.life := by
  unfold State.answerRead
  split <;> simp
@[simp] theorem State.takeResponse_life (s : State) (k r : Nat) (f : Frame) : (s.takeResponse k r f).1.life = s.life := by
  unfold State.takeResponse
  split <;> simp
@[simp] theorem State.takeColl_life (s : State) (k p r : Nat) (f : Frame) : (s.takeColl k p r f).1.life = s.life := by
  simp only [State.takeColl]
  repeat' split
  all_goals simp
@[simp] theorem State.takeVote_life (s : State) (r : Nat) (f : Frame) : (s.takeVote r f).1.life = s.life := by
  unfold State.takeVote
  split <;> simp
@[simp] theorem State.deliver_life (s : State) (k p r : Nat) (f : Frame) :
    (s.deliver k p r f).1.life = s.life := by simp [State.deliver]
@[simp] theorem State.deliverRun_life (s : State) (k p r n : Nat) (f : Frame) : (s.deliverRun k p r n f).life = s.life := by
  induction n generalizing s f with
  | zero => rfl
  | succ n ih =>
    unfold State.deliverRun; simp only []
    repeat' split
    all_goals simp [ih]
@[simp] theorem State.recvData_life (s : State) (k p r : Nat) (f : Frame) :
    (s.recvData k p r f).life = s.life := by simp [State.recvData]
@[simp] theorem State.afterFrame_life (s : State) (k r : Nat) (f : Frame) :
    (s.afterFrame k r f).life = s.life := by simp [State.afterFrame]
@[simp] theorem recvOp_life (s : State) (k op : Nat) (f : Frame) : (recvOp s k op f).life = s.life := by
  unfold recvOp
  split
  · rfl
  · have h := State.takeIn_life s k f
    split <;> simp_all
@[simp] theorem recvType_life (s : State) (k type : Nat) (f : Frame) (act : State → Nat → Nat → State)
    (ha : ∀ t a b, (act t a b).life = t.life) : (recvType s k type f act).life = s.life := by
  unfold recvType
  split
  · rfl
  · have h := State.takeIn_life s k f
    split <;> simp_all
@[simp] theorem State.takeNack_life (s : State) (r : Nat) (f : Frame) : (s.takeNack r f).life = s.life := by
  simp only [State.takeNack]
  repeat' split
  all_goals simp
@[simp] theorem State.markDead_life (s : State) (r : Nat) : (s.markDead r).life = s.life := by simp [State.markDead]
@[simp] theorem State.peerLost_life (s : State) (r : Nat) (st : Nat) (detach : Bool) :
    (s.peerLost r st detach).life = s.life := by simp [State.peerLost]
theorem execAbortFrame_keepsFuses (k : Nat) (f : Frame) (s : State) : KeepsFuses s (execAbortFrame k f s) := by
  refine keepsFuses_of_life (recvType_life _ _ _ _ _ fun t p r => ?_)
  split
  · simp
  · split <;> simp

/-! ### Link timers and training -/

@[simp] theorem State.portUp_life (s : State) (k : Nat) : (s.portUp k).life = s.life := by simp [State.portUp]
@[simp] theorem State.sendHello_life (s : State) (k : Nat) : (s.sendHello k).life = s.life := by simp [State.sendHello]

/-! ### Hayward -/

@[simp] theorem State.drainBuffers_life (s : State) : s.drainBuffers.life = s.life := by simp [State.drainBuffers]
@[simp] theorem State.beginAction_life (s : State) (a : Action) : (s.beginAction a).life = s.life := by simp [State.beginAction]

/-! ### Registers as commands -/

@[simp] theorem chanWrite_life (s : State) (ch b n : Nat) (v : W64) : (chanWrite s ch b n v).life = s.life := by simp [chanWrite]
@[simp] theorem msixWrite_life (s : State) (p fn v w b n : Nat) (x : W64) :
    (msixWrite s p fn v w b n x).life = s.life := by simp [msixWrite]
@[simp] theorem bar0Write_life (s : State) (p fn : Nat) (tgt : Bar0) (o size : Nat) (v : W64) :
    (bar0Write s p fn tgt o size v).life = s.life := by
  unfold bar0Write
  repeat' split
  all_goals simp
@[simp] theorem ptCtl_life (s : State) (p r cmd : Nat) : (ptCtl s p r cmd).life = s.life := by simp [ptCtl]

/-! ### Host ports -/

@[simp] theorem State.linksAborted_life (s : State) (p : Nat) : (s.linksAborted p).life = s.life := by simp [State.linksAborted]
@[simp] theorem State.resetFields_life (s : State) (p : Nat) : (s.resetFields p).life = s.life := by
  unfold State.resetFields
  split <;> simp
@[simp] theorem State.stopEngines_life (s : State) (p : Nat) : (s.stopEngines p).life = s.life := by simp [State.stopEngines]
theorem State.startReset_burns (s : State) (p : Nat) (link : Bool) : s.life.Burns (s.startReset p link).life := by
  simp [State.startReset]
@[simp] theorem State.trigger_burns {l : Life} {s : State} (h : l.Burns s.life) (p : Nat) (link : Bool) :
    l.Burns (s.trigger p link).life := by
  have hstart := h.trans (s.startReset_burns p link)
  simp only [State.trigger]
  repeat' split
  all_goals simp [h, hstart]
theorem execPerstAssert_keepsFuses (p : Nat) (s : State) : KeepsFuses s (execPerstAssert p s) := by
  simp only [execPerstAssert, keepsFuses_next]
  split
  · exact Life.burns_refl _
  · refine State.trigger_burns ?_ p false
    simp
@[simp] theorem State.clearPart_life (s : State) (p : Nat) : (s.clearPart p).life = s.life := by simp [State.clearPart]
@[simp] theorem State.cfgWrite_life (s : State) (p fn off : Nat) (v : BitVec 32) :
    (s.cfgWrite p fn off v).life = s.life := by simp [State.cfgWrite]

/-! ### Kernels -/

/-! ### Live change -/

@[simp] theorem State.policyNow_life (s : State) (n : Policy) : (s.policyNow n).life = s.life := by simp [State.policyNow]
@[simp] theorem State.applyClusters_life (s : State) (n : Policy) : (s.applyClusters n).life = s.life := by
  unfold State.applyClusters; simp only []
  -- the fold is over any list: the kernel shall not unfold it over this one
  generalize upTo 288 = roles
  refine (foldl_life _ (fun t p => ?_) _ _).trans ?_
  · simp
  · exact foldl_life _ (fun t ph => by split <;> rfl) _ _
@[simp] theorem State.applyRanges_life (s : State) (n : Policy) : (s.applyRanges n).life = s.life := by simp [State.applyRanges]
@[simp] theorem State.stageMonitor_life (s : State) (l : List Byte) (x : SecInfo) :
    (s.stageMonitor l x).life = s.life := by simp [State.stageMonitor]
@[simp] theorem State.startApply_life (s : State) (im : ImageRead) : (s.startApply im).life = s.life := by simp [State.startApply]

/-! ### The mailbox -/

@[simp] theorem State.answer_life (s : State) (p result : Nat) (l : List Byte) :
    (s.answer p result l).life = s.life := by simp [State.answer]
@[simp] theorem State.answerD_life (s : State) (p result detail : Nat) :
    (s.answerD p result detail).life = s.life := by simp [State.answerD]
@[simp] theorem stageOp_life (s : State) (p sub : Nat) (f : State → State) (h : ∀ t, (f t).life = t.life) :
    (stageOp s p sub f).life = s.life := by
  simp only [stageOp]
  repeat' split
  all_goals simp [h]
theorem execImageCommit_keepsFuses (p : Nat) (s : State) : KeepsFuses s (execImageCommit p s) := by
  refine keepsFuses_of_life (stageOp_life _ _ _ _ fun t => ?_)
  simp only []
  split <;> simp
theorem execImageApply_keepsFuses (p : Nat) (s : State) : KeepsFuses s (execImageApply p s) := by
  refine keepsFuses_of_life (stageOp_life _ _ _ _ fun t => ?_)
  repeat' split
  all_goals simp

/-! ### Matrix engines -/

@[simp] theorem readEls_life (s : State) (die base f i n : Nat) : (readEls s die base f i n).1.life = s.life := by simp [readEls]
@[simp] theorem readScales_life (s : State) (die a n : Nat) : (readScales s die a n).1.life = s.life := by simp [readScales]
@[simp] theorem readAll_life {α : Type} (rd : State → Nat → State × α) (s : State) (l : List Nat)
    (h : ∀ t i, (rd t i).1.life = t.life) :
    (readAll rd s l).1.life = s.life := by
  refine foldl_fst_life _ (fun r i => ?_) _ _
  exact h _ _
@[simp] theorem loadPass_life (s : State) (die : Nat) (x : MxCmd) (p : Nat) :
    (loadPass s die x p).1.life = s.life := by simp [loadPass]
@[simp] theorem readRow_life (s : State) (die : Nat) (x : MxCmd) (p m : Nat) :
    (readRow s die x p m).1.life = s.life := by simp [readRow]
@[simp] theorem State.engineEnd_life (s : State) (c p : Nat) (src : Src) (hdr : W64) (st : Status)
    (flags : BitVec 8) (detail : W64) :
    (s.engineEnd c p src hdr st flags detail).life = s.life := by
  simp only [State.engineEnd]
  repeat' split
  all_goals simp
@[simp] theorem loadShadow_life (s : State) (die : Nat) (x : MxCmd) (x' : Option (Nat × Nat)) :
    (loadShadow s die x x').1.life = s.life := by
  unfold loadShadow
  split <;> simp
@[simp] theorem State.rerunStall_life (s : State) (c : Nat) (sameFmt : Bool) :
    (s.rerunStall c sameFmt).life = s.life := by simp [State.rerunStall]

/-! ### The management sideband and the TAP -/

@[simp] theorem State.reply_life (s : State) (status : Nat) (l : List Byte) :
    (s.reply status l).life = s.life := by simp [State.reply]
@[simp] theorem State.setDyn_life (s : State) (da : BitVec 7) : (s.setDyn da).life = s.life := by simp [State.setDyn]
@[simp] theorem State.tapTo_life (s : State) (n : Nat) (w : BitVec 32) : (s.tapTo n w).life = s.life := by simp [State.tapTo]

/-! ### Power and temperature -/

@[simp] theorem State.divRequest_life (s : State) : s.divRequest.life = s.life := by simp [State.divRequest]
@[simp] theorem State.throttled_life (s : State) (c : Nat) : (s.throttled c).life = s.life := by simp [State.throttled]
@[simp] theorem State.takeSample_life (s : State) (watts : Nat) : (s.takeSample watts).life = s.life := by simp [State.takeSample]
@[simp] theorem State.linksThermal_life (s : State) : s.linksThermal.life = s.life := by simp [State.linksThermal]
@[simp] theorem State.thermalStop_life (s : State) : s.thermalStop.life = s.life := by simp [State.thermalStop]
@[simp] theorem State.coolMark_life (s : State) : s.coolMark.life = s.life := by simp [State.coolMark]

/-! ### Stream engines -/

@[simp] theorem State.seEnd_life (s : State) (c : Nat) (x : SeRun) : (s.seEnd c x).life = s.life := by
  simp only [State.seEnd, State.engineEnd_life, State.setCluster_life, State.coverFresh_life]
@[simp] theorem State.seNext_life (s : State) (c : Nat) (x : SeRun) : (s.seNext c x).life = s.life := by
  unfold State.seNext
  repeat' split
  all_goals simp
@[simp] theorem fetchDescs_life (c n : Nat) (s : State) (x : SeRun) : (fetchDescs c n s x).1.life = s.life := by
  induction n generalizing s x with
  | zero => rfl
  | succ n ih =>
    unfold fetchDescs; simp only []
    repeat' split
    all_goals simp [ih]
@[simp] theorem readPiece_life (m : Mv) (c : Nat) (d : Desc) (q : Nat × Nat) : (readPiece m c d q).1.s.life = m.s.life := by
  simp only [readPiece]
  repeat' split
  all_goals simp
@[simp] theorem putHost_life (m : Mv) (a : Nat) (l : List PB) : (putHost m a l).s.life = m.s.life := by simp [putHost]
@[simp] theorem putDev_life (m : Mv) (c a : Nat) (l : List PB) (v : Option Nat) (noVal : Bool) :
    (putDev m c a l v noVal).s.life = m.s.life := by
  refine foldl_mv_life _ (fun t q => ?_) _ _
  simp only []
  split <;> simp
@[simp] theorem copyPiece_life (m : Mv) (c : Nat) (d : Desc) (r : Nat) (q : Nat × Nat) :
    (copyPiece m c d r q).s.life = m.s.life := by simp [copyPiece]
@[simp] theorem fillRow_life (m : Mv) (c : Nat) (d : Desc) (r : Nat) : (fillRow m c d r).s.life = m.s.life := by simp [fillRow]
@[simp] theorem foldElem_life (m : Mv) (_c : Nat) (d : Desc) (r : Nat) (row : List PB) (e : Nat) :
    (foldElem m _c d r row e).s.life = m.s.life := by simp [foldElem]
@[simp] theorem foldRow_life (m : Mv) (c : Nat) (d : Desc) (r : Nat) : (foldRow m c d r).s.life = m.s.life := by
  refine (foldl_mv_life _ (fun t e => ?_) _ _).trans ?_
  · simp
  · exact foldl_keeps (fun g : Mv × List PB => g.1.s.life = m.s.life) _ (fun g q h => by simpa using h) _ _ rfl
@[simp] theorem swreadRow_life (m : Mv) (c : Nat) (d : Desc) (r : Nat) : (swreadRow m c d r).s.life = m.s.life := by
  refine foldl_mv_life _ (fun t e => ?_) _ _
  simp only []
  repeat' split
  all_goals simp
@[simp] theorem putDigest_life (m : Mv) (c : Nat) (w : List W64) : (putDigest m c w).s.life = m.s.life := by simp [putDigest]
@[simp] theorem runDesc_life (s : State) (c op : Nat) (row : Mv → Nat → Desc → Nat → Mv)
    (h : ∀ m r d i, (row m r d i).s.life = m.s.life) :
    (runDesc s c op row).life = s.life := by
  unfold runDesc; simp only []
  repeat' split
  all_goals simp [h]
@[simp] theorem copyRow_life (m : Mv) (c : Nat) (d : Desc) (r : Nat) : (copyRow m c d r).s.life = m.s.life := by simp [copyRow]

/-! ### Tokens and the life cycle -/

@[simp] theorem State.redraw_burns {l : Life} {s : State} (h : l.Burns s.life) : l.Burns s.redraw.life := h
/-- A token burns what its effect burns. -/
theorem tokenOp_keepsFuses {s : State} {p k : Nat} {f : State → State} (h : s.life.Burns (f s).life) :
    KeepsFuses s (.next (tokenOp s p k f)) := by
  simp only [keepsFuses_next, tokenOp]
  repeat' split
  all_goals simp [h]
@[simp] theorem State.stopForChange_life (s : State) : s.stopForChange.life = s.life := by simp [State.stopForChange]
theorem State.mbUnknown_burns {s t : State} {p : Nat} (h : s.mbUnknown p = some t) : s.life.Burns t.life := by
  simp only [State.mbUnknown] at h
  repeat' split at h
  all_goals cases h
  all_goals simp
@[simp] theorem State.mbFinish_life (s : State) (p result : Nat) (l : List Byte) : (s.mbFinish p result l).life = s.life := by
  simp only [State.mbFinish]
  split <;> simp
theorem execMailboxResponse_keepsFuses (p : Nat) (s : State) : KeepsFuses s (execMailboxResponse p s) := by
  have h : s.life.Burns ((s.mbUnknown p).getD s).life := by
    cases hu : s.mbUnknown p with
    | none => exact Life.burns_refl _
    | some t => exact State.mbUnknown_burns hu
  simp only [execMailboxResponse, keepsFuses_next]
  split <;> simp [h]
@[simp] theorem State.freeByte_life (s : State) : s.freeByte.1.life = s.life := by simp [State.freeByte]

/-- A minimum security version that rises takes none back. -/
theorem Life.burns_svn (l : Life) (a n : Nat) : l.Burns
    { l with svnMin := (upTo 6).map fun i => if i + 1 = a then max (l.svnMin.getD i 0) n else l.svnMin.getD i 0 } := by
  refine ⟨⟨[], List.append_nil _⟩, fun i hi => ?_, by simp, id, id, le_rfl, le_rfl, rfl⟩
  simp only [upTo, List.getD_eq_getElem?_getD, List.getElem?_map, List.getElem?_range hi, Option.map_some, Option.getD_some]
  split <;> simp
/-- A key that is revoked leaves the revoked ones revoked. -/
theorem Life.burns_vendorRev (l : Life) (x : BitVec 4) : l.Burns { l with vendorRev := l.vendorRev ||| x } := by
  refine ⟨⟨[], List.append_nil _⟩, fun _ _ => le_rfl, ?_, id, id, le_rfl, le_rfl, rfl⟩
  ext i
  simp +contextual

/-! ### The clocks -/

theorem State.idle_burns (s : State) : s.life.Burns s.idle.life := by
  simp only [State.idle]
  repeat' split
  all_goals simp

/-! ### exec and step -/

/-- No command takes back what is burnt. -/
theorem exec_keepsFuses (c : Instr) (s : State) : KeepsFuses s (exec c s) := by
  cases c with
  -- the commands that always answer one next state, which the operations above make
  | resultFill | reductionResult | stackRefill | dcacheFill | icacheFill | storeAck | vectorLoadArrive | ocFillDone |
  ocWritebackAck | exceptionEntry | fadd32 | fadd64 | iadd64 | swaddF64 | swaddF32 | swaddBf16 | swaddCell | swrd | swrdClr |
  rgnArm | rgnArmDone | rgnDisarm | sbArm | sbArmDone | sbDisarm | winArm | winArmDone | winDisarm | b2WinArm | b2WinArmDone |
  b2WinDisarm | ddrRefresh | ddrRetrainStep | channelScan | channelAbortDone | streamCopy | streamFill | streamFold | streamBcast
  | streamSwread | remoteWriteFrame | remoteFoldFrame | readRequest | readResponse | collectiveFrame | voteFrame | ackFrame |
  nackFrame | noticeFrame | keepaliveFrame | helloExchange | ackTimer | retransmissionTimeout | keepaliveSend | peerSilence |
  noticeSend | pfcFrame | linkDrops | partnerEntryWrite | partnerEntryRead | expelPartner | keyLoad | equaliserTrained |
  laneDeskewDone | trainingTimeout | helloRetry | autoNegotiation | laneRecalTrigger | perstDeassert | hotReset | dataLinkDown |
  functionLevelReset | partitionResetFail | d3hotEntry | d0Return | ideKm | ideInsecure | getId | attest | imageBegin | imageWrite
  | retArmExpire | debugExpire | debugHaltRequest | lifecycleReset | entdaa | setdasa | mctpControl | getTid | getPldmVersion |
  getPldmTypes | getPldmCommands | getPdrRepositoryInfo | getPdr | getSensorReading | getStateSensorReadings | sensorRefresh |
  mgmtStatus | mgmtLogRead | mgmtLogAck | rotSuspend | rotResume | pvAck | lockstepMismatch | standbyTakeover | clockFault |
  supplyFault | migrationRetry | rotationRecordWrite | powerSample | admissionResume | thermalSample | thermalStopEnd | enRise |
  enFall | powerUpRestart | powerGood | sysRstNAssert | sysRstNDeassert | bootRom | bootMemory | psecWrite | jtagBypass |
  jtagIdcode | jtagSamplePreload | jtagExtest | jtagClamp | portConfigReady | pcieLinkUp | vin48InRange =>
    exact keepsFuses_next.2 (by simp)
  -- the tokens (R436, R444 to R450)
  | tokenDebug | tokenRelease => exact tokenOp_keepsFuses (by simp)
  | tokenVendorReturn | tokenProvision | tokenScrap => exact tokenOp_keepsFuses (by simp [Life.Burns])
  | tokenSvn => exact tokenOp_keepsFuses (Life.burns_svn _ _ _)
  | tokenRevoke => exact tokenOp_keepsFuses (Life.burns_vendorRev _ _)
  -- the commands that have a lemma of their own
  | perstAssert => exact execPerstAssert_keepsFuses _ _
  | abortFrame => exact execAbortFrame_keepsFuses _ _ _
  | imageCommit => exact execImageCommit_keepsFuses _ _
  | imageApply => exact execImageApply_keepsFuses _ _
  | mailboxResponse => exact execMailboxResponse_keepsFuses _ _
  -- the commands that answer by the case they are in: in each case the operations above make the next state
  | vinOutOfRange | scrubRead | correctedWriteback | spareCopyDone | granuleCopyDone | pprDone | pprTimeout |
  ddrGranuleCopyDone | repairRecordWrite | beatReplay | bondErased | d2dLaneRepaired | clusterDue | clusterBorrowed |
  migrationStart | migrationDone | migrationHoldRelease | testKernelDone | clusterReplace | bootImage | bootInit |
  ticketEnqueue | ticketComplete | commandRecordCopy | commandDispatch | barArm | nopCommand | commandCompletion |
  progressWatchdogExpire | controlLoadReturn | atomicWindowExpire | wfiWake | abortTimeout | softPost | lkXfer | lkColl |
  lkMcast | lkVote | lkExpel | linkContextGrant | lagLimitExpire | pfcWatchdog | degradeFlit | laneRecalDone |
  recoveryActionStart | registerWrite | portEnable | vfFunctionLevelReset | presetIdle | presetCleared | presetEraseDone |
  configRequest | bar2Read | bar2Write | spdmRequest | kernelAccept | kernelStart | kernelComplete | policyQuiesceApply |
  monitorInPlace | plannedSwitchover | applyComplete | mxMatmul | mxExtAlone | mxRowEnter | mxPassBoundary | windrowCompare |
  windrowVote | mxTileDrainDone | mxCommandEnd | dividerSwitch | ddrTempRead | seList | descriptorFetch | slotGrant | cvReread
  | descriptorDone | movedNack | staleNack | hostReadFail | rgnDisarmDone | instrumentAccess =>
    dsimp only [exec]
    simp only [execVinOutOfRange, execScrubRead, execCorrectedWriteback, execSpareCopyDone, execGranuleCopyDone,
      execPprDone, execPprTimeout, execDdrGranuleCopyDone, execRepairRecordWrite, execBeatReplay, execBondErased,
      execD2dLaneRepaired, execClusterDue, execClusterBorrowed, execMigrationStart, execMigrationDone,
      execMigrationHoldRelease, execTestKernelDone, execClusterReplace, execBootImage, execBootInit, execTicketEnqueue,
      execTicketComplete, execCommandRecordCopy, execCommandDispatch, execBarArm, execNopCommand, execCommandCompletion,
      execProgressWatchdogExpire, execControlLoadReturn, execAtomicWindowExpire, execWfiWake, execAbortTimeout, execSoftPost,
      execLkXfer, execLkColl, execLkMcast, execLkVote, execLkExpel, execLinkContextGrant, execLagLimitExpire, execPfcWatchdog,
      execDegradeFlit, execLaneRecalDone, execRecoveryActionStart, execRegisterWrite, execPortEnable,
      execVfFunctionLevelReset, execPresetIdle, execPresetCleared, execPresetEraseDone, execConfigRequest, execBar2Read,
      execBar2Write, execSpdmRequest, execKernelAccept, execKernelStart, execKernelComplete, execPolicyQuiesceApply,
      execMonitorInPlace, execPlannedSwitchover, execApplyComplete, execMxMatmul, execMxExtAlone, execMxRowEnter,
      execMxPassBoundary, execWindrowCompare, execWindrowVote, execMxTileDrainDone, execMxCommandEnd, execDividerSwitch,
      execDdrTempRead, execSeList, execDescriptorFetch, execSlotGrant, execCvReread, execDescriptorDone, execMovedNack,
      execStaleNack, execHostReadFail, execRgnDisarmDone, execInstrumentAccess]
    repeat' split
    all_goals simp
  -- the core instructions with a choice of their own in their bodies
  | vmset | vsetvl =>
    refine issue_keepsFuses (vecOp_life _ _ _ _ fun k l t => ?_)
    repeat' split
    all_goals simp
  | lldi | lsti | lexit | atwc =>
    refine issue_keepsFuses fun t => ?_
    repeat' split
    all_goals simp
  -- every other command is a core instruction whose body is one of the bodies above
  | _ => exact issue_keepsFuses fun t => by simp

/-- What a step answers holds what the fuses held. -/
theorem step_burns {s t : State} (h : step s = .next t) : s.life.Burns t.life := by
  cases hq : s.pending with
  | nil =>
    rw [step_of_empty hq] at h
    cases h
    exact s.idle_burns
  | cons c rest =>
    rw [step_of_front hq] at h
    exact exec_keepsFuses c { s with pending := rest } t h

/-- Settles O59: the front command burns and takes nothing back, and on an empty queue the clock burns nothing. -/
theorem stepKeepsBurntFuses : Obligations.StepKeepsBurntFuses := by
  unfold Obligations.StepKeepsBurntFuses
  intro s t h
  exact step_burns h

end Sys2Proof.Machine
end

section
/-! Proofs about the power pins and the device reset: each event by the state of the pins, and the records of powered seconds. -/

namespace Sys2Proof.Machine

/-! ### Power pins (R420, R462 to R464) -/

section
variable {s : State}

theorem exec_vinOutOfRange_beyond {dv : Nat} (h : 650 < dv) : exec (.vinOutOfRange dv) s = .fault .beyondAbsoluteMaximum :=
  if_pos h
theorem exec_vinOutOfRange_inside {dv : Nat} (hlo : 380 ≤ dv) (hhi : dv ≤ 620) : exec (.vinOutOfRange dv) s = .next s :=
  (if_neg (by omega)).trans (if_pos ⟨hlo, hhi⟩)
theorem exec_vinOutOfRange_outside {dv : Nat} (h : dv < 380 ∨ 620 < dv) (hmax : dv ≤ 650) :
    exec (.vinOutOfRange dv) s = .next ({ s with power := { s.power with vinOk := false } }.powerOff) :=
  (if_neg (by omega)).trans (if_neg (by omega))
theorem exec_powerUpRestart_held (hen : s.power.en = true) (hheld : s.power.held = true) :
    exec .powerUpRestart s = .next ({ s with power := { s.power with held := false } }.powerUp) :=
  congrArg _ (if_pos ⟨hen, hheld⟩)
theorem exec_powerUpRestart_idle (h : s.power.en = false ∨ s.power.held = false) : exec .powerUpRestart s = .next s :=
  congrArg _ (if_neg (by rcases h with h | h <;> simp [h]))
theorem exec_sysRstNDeassert_asserted (h : s.power.sysRstN = false) :
    exec .sysRstNDeassert s = .next ({ s with power := { s.power with sysRstN := true } }.deviceReset) :=
  congrArg _ (if_neg (by simp [h]))
theorem exec_sysRstNDeassert_idle (h : s.power.sysRstN = true) : exec .sysRstNDeassert s = .next s := congrArg _ (if_pos h)

/-! ### Powered seconds (R416) -/

theorem exec_psecWrite_powered (h : s.power.pwrGood = true) : exec .psecWrite s =
    .next { s with boot := { s.boot with counterRecs := putCounter s.boot.counterRecs s.psec } } := congrArg _ (if_pos h)
theorem exec_psecWrite_unpowered (h : s.power.pwrGood = false) : exec .psecWrite s = .next s :=
  congrArg _ (if_neg (by simp [h]))

/-- POWER_GOOD, where no pin holds it back: a device reset with the seconds from flash and the straps as they stand. -/
theorem exec_powerGood (straps : BitVec 3) (hgood : s.power.pwrGood = false) (hen : s.power.en = true)
    (hvin : s.power.vinOk = true) (hrails : s.power.rails = true) : exec (.powerGood straps) s = .next
      { s.deviceReset with
        power := { s.deviceReset.power with pwrGood := true, straps, psecOn := psecAtPower s.boot.counterRecs }
        psec := psecAtPower s.boot.counterRecs
        mgmt := { s.deviceReset.mgmt with staticAddr := 0x30 + straps.toNat } } :=
  congrArg _ (if_neg (by simp [hgood, hen, hvin, hrails]))

end

/-- One record that is older than the next gives way to it. -/
theorem newestCounter_older {x r : CounterRec} (hx : x.crcOk = true) (hr : r.crcOk = true) (h : x.seq < r.seq) :
    newestCounter [x, r] = some r := by simp [newestCounter, hx, hr, h]
/-- The newest record is a valid one. -/
theorem crcOk_of_newestCounter {l : List CounterRec} {x : CounterRec} (h : newestCounter l = some x) : x.crcOk = true := by
  suffices hnewest : ∀ y ∈ newestCounter l, y.crcOk = true from hnewest x h
  refine List.foldlRecOn (motive := fun b : Option CounterRec => ∀ y ∈ b, y.crcOk = true) _ _ (by simp) fun b hb r hr => ?_
  have hvalid : r.crcOk = true := (List.mem_filter.1 hr).2
  cases b with
  | none => simpa using hvalid
  | some x =>
    simp only []
    split
    · simpa using hvalid
    · exact hb
/-- R416: what PSEC_WRITE writes is what the next power-good takes. -/
theorem psecAtPower_putCounter (l : List CounterRec) (n : Nat) : psecAtPower (putCounter l n) = n := by
  unfold psecAtPower putCounter
  cases h : newestCounter l with
  | none => rfl
  | some x => simp [newestCounter_older (crcOk_of_newestCounter h)]

/-- Settles O50: a lemma for each event by the pins that it meets; what a reset keeps stands in its definition. -/
theorem powerAndResetResults : Obligations.PowerAndResetResults := by
  unfold Obligations.PowerAndResetResults
  refine ⟨?pins, ?good, ?off, ?reset, psecAtPower_putCounter⟩
  case pins =>
    exact fun s => ⟨rfl, rfl, fun _ => exec_vinOutOfRange_beyond, fun _ => exec_vinOutOfRange_inside,
      fun _ => exec_vinOutOfRange_outside, rfl, exec_powerUpRestart_held, exec_powerUpRestart_idle, rfl,
      exec_sysRstNDeassert_asserted, exec_sysRstNDeassert_idle, exec_psecWrite_powered, exec_psecWrite_unpowered, rfl⟩
  case good =>
    intro s straps hgood hen hvin hrails
    exact ⟨_, exec_powerGood straps hgood hen hvin hrails, rfl, rfl, rfl, rfl, rfl, rfl, rfl, rfl, rfl, rfl⟩
  case off => exact fun s => by and_intros <;> rfl
  case reset => exact fun s => by and_intros <;> rfl

end Sys2Proof.Machine
end

section
/-! Proofs about the divider, the power cap, temperatures and the thermal stop: each by what the counters and readings say. -/

namespace Sys2Proof.Machine

/-! ### The divider (R406 to R409, R413, R414) -/

section
variable {s : State}

theorem exec_dividerSwitch_idle (h : s.power.divPending = none) : exec .dividerSwitch s = .next s := by
  change execDividerSwitch s = _
  rw [execDividerSwitch, h]
theorem exec_dividerSwitch_pending {n : Nat} (h : s.power.divPending = some n) : exec .dividerSwitch s =
    .next ({ s with power := { s.power with div := n, divPending := none } }.bump (aCK + 8) 47 16 1) := by
  change execDividerSwitch s = _
  rw [execDividerSwitch, h]
theorem exec_admissionResume_held (h : s.power.divPending ≠ none ∨ s.power.thermStop = true ∨ s.power.holdIssue = false) :
    exec .admissionResume s = .next s :=
  congrArg _ (if_pos (by simpa [Option.isSome_iff_ne_none] using h))
theorem exec_admissionResume_free (hpend : s.power.divPending = none) (hstop : s.power.thermStop = false)
    (hhold : s.power.holdIssue = true) : exec .admissionResume s =
      .next ((List.range 256).foldl (fun s c => s.throttled c) { s with power := { s.power with holdIssue := false } }) := by
  change execAdmissionResume s = _
  rw [execAdmissionResume, if_neg (by simp [hpend, hstop, hhold]), upTo]
theorem exec_thermalStopEnd_cool (hstop : s.power.thermStop = true) (hcool : heldFor s.sc s.power.coolFrom oneSec = true) :
    exec .thermalStopEnd s =
      .next { s with power := { s.power with thermStop := false, holdIssue := s.power.divPending.isSome } } :=
  congrArg _ (if_pos (by simp [hstop, hcool]))
theorem exec_thermalStopEnd_stays (h : s.power.thermStop = false ∨ heldFor s.sc s.power.coolFrom oneSec = false) :
    exec .thermalStopEnd s = .next s := congrArg _ (if_neg (by rcases h with h | h <;> simp [h]))

theorem State.divRequest_settled (h : max s.power.pwrDiv s.power.thermDiv = s.power.div ∨ s.power.divPending ≠ none) :
    s.divRequest = s := if_pos (by simpa [Option.isSome_iff_ne_none] using h)
theorem State.divRequest_up (hpend : s.power.divPending = none) (hdiv : s.power.div < max s.power.pwrDiv s.power.thermDiv)
    (hsince : 10 ≤ s.power.sinceUp) : s.divRequest = { s with power := { s.power with
      divPending := some (max s.power.pwrDiv s.power.thermDiv), holdIssue := true, sinceUp := 0 } } := by
  have hne : ¬(max s.power.pwrDiv s.power.thermDiv = s.power.div ∨ s.power.divPending.isSome = true) := by
    simp [hpend, hdiv.ne']
  simp only [State.divRequest]
  rw [if_neg hne, if_pos hdiv, if_neg (by omega)]
theorem State.divRequest_soon (hpend : s.power.divPending = none) (hdiv : s.power.div < max s.power.pwrDiv s.power.thermDiv)
    (hsince : s.power.sinceUp < 10) : s.divRequest = s := by
  have hne : ¬(max s.power.pwrDiv s.power.thermDiv = s.power.div ∨ s.power.divPending.isSome = true) := by
    simp [hpend, hdiv.ne']
  simp only [State.divRequest]
  rw [if_neg hne, if_pos hdiv, if_pos hsince]
theorem State.divRequest_down (hpend : s.power.divPending = none) (hdiv : max s.power.pwrDiv s.power.thermDiv < s.power.div)
    (hsince : 1000 ≤ s.power.sinceDown) : s.divRequest = { s with power := { s.power with
      divPending := some (max s.power.pwrDiv s.power.thermDiv), holdIssue := true, sinceDown := 0 } } := by
  have hne : ¬(max s.power.pwrDiv s.power.thermDiv = s.power.div ∨ s.power.divPending.isSome = true) := by
    simp [hpend, hdiv.ne]
  simp only [State.divRequest]
  rw [if_neg hne, if_neg hdiv.not_gt, if_neg (by omega)]

end

/-! ### The power cap (R410) -/

/-- The run of samples for which the prediction has held, after this one. -/
abbrev State.lowRun (t : State) : Nat := if t.powerLow then min 1000 (t.power.lowFor + 1) else 0
/-- The cap asks for a higher divider, and may have one. -/
abbrev State.StepsUp (t : State) : Prop :=
  t.powerHigh = true ∧ t.power.divPending = none ∧ 10 ≤ t.power.sinceUp ∧ t.power.div < 12
/-- The cap lets the divider go down, and it may. -/
abbrev State.StepsDown (t : State) : Prop :=
  1000 ≤ t.lowRun ∧ t.power.divPending = none ∧ 1000 ≤ t.power.sinceDown ∧ t.power.div = t.power.pwrDiv ∧ 8 < t.power.div
    ∧ t.power.thermDiv ≤ divDown t.power.div

section
variable {s t : State} {watts : Nat} (ht : s.takeSample watts = t)
include ht

theorem exec_powerSample_up (hup : t.StepsUp) : exec (.powerSample watts) s =
    .next ({ t with power := { t.power with pwrDiv := divUp t.power.div, lowFor := 0 } }.divRequest) := by
  subst ht
  exact congrArg _ (if_pos (by simpa [and_assoc] using hup))
theorem exec_powerSample_down (hup : ¬t.StepsUp) (hdown : t.StepsDown) : exec (.powerSample watts) s =
    .next ({ t with power := { t.power with pwrDiv := divDown t.power.div, lowFor := 0 } }.divRequest) := by
  subst ht
  refine congrArg _ ((if_neg ?_).trans (if_pos ?_))
  · simpa [and_assoc] using hup
  · simpa [and_assoc] using hdown
theorem exec_powerSample_stays (hup : ¬t.StepsUp) (hdown : ¬t.StepsDown) :
    exec (.powerSample watts) s = .next ({ t with power := { t.power with lowFor := t.lowRun } }.divRequest) := by
  subst ht
  refine congrArg _ ((if_neg ?_).trans (if_neg ?_))
  · simpa [and_assoc] using hup
  · simpa [and_assoc] using hdown

end

theorem State.powerHigh_iff {s : State} :
    s.powerHigh = true ↔ 50 ≤ s.power.samples.length ∧ 50 * s.cap < sumN (s.power.samples.take 50) := by
  simp [State.powerHigh]

/-! ### Temperature (R412, R413) -/

theorem Power.dieRead_hot {w : Power} {degC : Nat} (now : Nat) (h : 105 ≤ degC) : (w.dieRead now degC).thermDiv = 12 := by
  simp [Power.dieRead, h]
theorem Power.dieRead_warm {w : Power} {degC : Nat} (now : Nat) (hlo : 100 ≤ degC) (hhi : degC < 105) (hdiv : w.thermDiv ≠ 12) :
    (w.dieRead now degC).thermDiv = 10 := by
  simp [Power.dieRead, hlo, hdiv, Nat.not_le.2 hhi]
theorem Power.dieRead_cool {w : Power} {degC : Nat} (now : Nat) (h : degC < 100) (hhold : w.hold10 = false)
    (hdiv : w.thermDiv ≠ 12) : (w.dieRead now degC).thermDiv = 8 := by
  simp [Power.dieRead, hhold, hdiv, Nat.not_le.2 h, Nat.not_le.2 (show degC < 105 by omega)]

section
variable {s : State} {degC : Nat}

theorem State.thermalStop_stopped (h : s.power.thermStop = true) : s.thermalStop = s := if_pos h
theorem State.thermalStop_thermStop (s : State) : s.thermalStop.power.thermStop = true := by
  unfold State.thermalStop
  split
  · assumption
  · rfl
theorem State.thermalStop_holdIssue (h : s.power.thermStop = false) : s.thermalStop.power.holdIssue = true := by
  rw [State.thermalStop, if_neg (by simp [h])]

theorem exec_ddrTempRead {pkg : Nat} (h : pkg < 20) :
    let s1 := { s with power := { s.power with pkgTemp := mput 0 s.power.pkgTemp pkg degC } }
    let v := setFld (setFld (setFld (s1.reg (aCK + 0x18)) 15 8 (satN 8 s1.hotPkg.2)) 20 16 s1.hotPkg.1) 21 21
      (b2n (decide (105 < s1.hotPkg.2)))
    exec (.ddrTempRead pkg degC) s = .next
      (if 115 ≤ degC then (s1.setReg (aCK + 0x18) v).coolMark.thermalStop else (s1.setReg (aCK + 0x18) v).coolMark) :=
  if_neg (Nat.not_le.2 h)

end

/-- Settles O51: a lemma for each row by the readings and times that decide it. -/
theorem dividerAndThermalResults : Obligations.DividerAndThermalResults := by
  unfold Obligations.DividerAndThermalResults
  refine ⟨?divider, ?request, ?cap, ?sample, ?reading, ?package, ?stop, ?monitors⟩
  case divider =>
    exact fun s => ⟨exec_dividerSwitch_idle, fun _ => exec_dividerSwitch_pending, exec_admissionResume_held,
      exec_admissionResume_free, exec_thermalStopEnd_cool, exec_thermalStopEnd_stays⟩
  case request =>
    exact fun s => ⟨State.divRequest_settled, State.divRequest_up, State.divRequest_down, State.divRequest_soon⟩
  case cap =>
    exact fun s watts => ⟨exec_powerSample_up rfl, exec_powerSample_down rfl, exec_powerSample_stays rfl, State.powerHigh_iff, rfl⟩
  case sample =>
    exact fun s degC => ⟨fun h => congrArg _ (if_neg (Nat.not_le.2 h)), fun h => congrArg _ (if_pos h)⟩
  case reading =>
    intro w now degC
    refine ⟨Power.dieRead_hot now, Power.dieRead_warm now, Power.dieRead_cool now, rfl, fun h => ?_, fun h => ?_⟩
    · exact if_neg (Nat.not_lt.2 h)
    · exact if_neg (Nat.not_lt.2 h)
  case package =>
    intro s pkg degC hpkg
    exact ⟨fun h => (exec_ddrTempRead hpkg).trans (congrArg _ (if_neg (Nat.not_le.2 h))),
      fun h => (exec_ddrTempRead hpkg).trans (congrArg _ (if_pos h))⟩
  case stop => exact fun s => ⟨State.thermalStop_stopped, s.thermalStop_thermStop, State.thermalStop_holdIssue⟩
  case monitors => exact fun s n => ⟨_, _, rfl, rfl, rfl, rfl, rfl, rfl, rfl, rfl⟩

end Sys2Proof.Machine
end

section
/-! Proofs about the boot stages and live change: each command by the stage, the checks of the slots and what is being applied. -/

namespace Sys2Proof.Machine

/-! ### The boot stages (R421, R422, R424, R448, R449) -/

section
variable {s : State}

theorem live_guard {n : Nat} (hlive : s.live = true) (hstage : s.boot.stage = n) : ¬((!s.live || s.boot.stage != n) = true) := by
  simp [hlive, hstage]

/-- The state that boot stage 1 leaves before it looks at the pairs and the life cycle: fuses read, pairs chosen. -/
abbrev State.romRead (s : State) (a b : Bool) : State :=
  { s with life := s.life.readFuses, hw := { s.hw with activeB := !a, standby := a && b } }

section
variable (hlive : s.live = true) (hstage : s.boot.stage = 1) (hfatal : s.hw.fatal = false) {a b : Bool}
include hlive hstage hfatal

theorem exec_bootRom : exec (.bootRom a b) s = .next
    (if !a && !b then (s.romRead a b).deviceFatal 16 { ev eHaywardLost with ukind := uPair, unit := 1, rstate := 2 }
      else
        let s2 := if a && b then s.romRead a b else
          logEv (s.romRead a b) 16 { ev eStandbyLost with ukind := uPair, unit := b2n a, rstate := 2 }
        if s2.life.lc = 3 then { s2 with boot := (s2.boot.eraseSlot false).eraseSlot true }
        else { s2 with boot := { s2.boot with stage := 2 } }) :=
  congrArg _ (if_neg (by simp [hlive, hstage, hfatal]))

theorem exec_bootRom_both (hlc : s.life.readFuses.lc ≠ 3) : exec (.bootRom true true) s =
    .next { s.romRead true true with boot := { s.boot with stage := 2 } } :=
  (exec_bootRom hlive hstage hfatal).trans (congrArg _ (if_neg hlc))
theorem exec_bootRom_scrapped (hlc : s.life.readFuses.lc = 3) : exec (.bootRom true true) s =
    .next { s.romRead true true with boot := (s.boot.eraseSlot false).eraseSlot true } :=
  (exec_bootRom hlive hstage hfatal).trans (congrArg _ (if_pos hlc))
/-- Where one pair alone passes, its self-test is in the log. -/
theorem exec_bootRom_one (hne : a ≠ b) : ∃ e : LogEntry, e.code = eStandbyLost ∧
    let s2 := logEv (s.romRead a b) 16 e
    s2.life.lc ≠ 3 → exec (.bootRom a b) s = .next { s2 with boot := { s2.boot with stage := 2 } } := by
  refine ⟨{ ev eStandbyLost with ukind := uPair, unit := b2n a, rstate := 2 }, rfl, fun hlc => ?_⟩
  obtain rfl : b = !a := Bool.eq_not_of_ne hne.symm
  have hor : ¬((!a && !!a) = true) := by simp
  have hand : ¬((a && !a) = true) := by simp
  rw [exec_bootRom hlive hstage hfatal, if_neg hor]
  simp only [if_neg hand, if_neg hlc]
theorem exec_bootRom_none : ∃ e : LogEntry, e.code = eHaywardLost ∧
    exec (.bootRom false false) s = .next ((s.romRead false false).deviceFatal 16 e) :=
  ⟨_, rfl, exec_bootRom hlive hstage hfatal⟩

end

/-- A command that is for a live device leaves one that is not. -/
theorem exec_boot_dead (h : s.live = false) : (∀ a b, exec (.bootRom a b) s = .next s) ∧ exec .bootImage s = .next s
    ∧ exec .bootInit s = .next s ∧ ∀ n, exec (.bootMemory n) s = .next s :=
  ⟨fun _ _ => congrArg _ (if_pos (by simp [h])), congrArg _ (if_pos (by simp [h])), congrArg _ (if_pos (by simp [h])),
    fun _ => congrArg _ (if_pos (by simp [h]))⟩

/-- The state in which boot stage 2 looks for its image: a trial is attempted once. -/
abbrev State.trialEnded (s : State) : State := if s.boot.order.2.isSome then { s with boot := s.boot.endTrial } else s

section
variable (hlive : s.live = true) (hstage : s.boot.stage = 2)
include hlive hstage

theorem exec_bootImage_first {im : ImageRead} (h : s.boot.check s.life (s.boot.order.1.headD false) false = .ok im) :
    exec .bootImage s = .next
      (s.trialEnded.bootFrom (s.boot.order.1.headD false) im (s.trialEnded.reg aCK) s.boot.order.2).eraseBad := by
  refine congrArg _ ((if_neg (live_guard hlive hstage)).trans ?_)
  simp only [h]
theorem exec_bootImage_other {n : Nat} {im : ImageRead} (h : s.boot.check s.life (s.boot.order.1.headD false) false = .error n)
    (h' : s.boot.check s.life (s.boot.order.1.getD 1 true) false = .ok im) : exec .bootImage s = .next
      (s.trialEnded.bootFrom (s.boot.order.1.getD 1 true) im (refusedCk (s.trialEnded.reg aCK) n) s.boot.order.2).eraseBad := by
  refine congrArg _ ((if_neg (live_guard hlive hstage)).trans ?_)
  simp only [h, h']
theorem exec_bootImage_recovery {n m : Nat} (h : s.boot.check s.life (s.boot.order.1.headD false) false = .error n)
    (h' : s.boot.check s.life (s.boot.order.1.getD 1 true) false = .error m) :
    let t := s.trialEnded.setReg aCK (refusedCk (s.trialEnded.reg aCK) n)
    exec .bootImage s = .next ({ t with boot := { t.boot with stage := 6 } } : State).eraseBad := by
  refine congrArg _ ((if_neg (live_guard hlive hstage)).trans ?_)
  simp only [h, h']

end

theorem exec_bootInit_policy {n : Policy} (hlive : s.live = true) (hstage : s.boot.stage = 3) (hnew : s.boot.newPolicy = some n) :
    exec .bootInit s = .next { s with
      policy := n, boot := { s.boot with newPolicy := none, stage := 4 }
      mem := { s.mem with bytes := [], psn := [], writeback := [], detected := [] } }.replayAll.placeRoles.placeMonitor := by
  change execBootInit s = _
  rw [execBootInit, if_neg (live_guard hlive hstage), hnew]

/-! ### Live change (R425 to R430) -/

theorem exec_policyQuiesceApply_idle (h : s.policyDue = none) : exec .policyQuiesceApply s = .next s := by
  change execPolicyQuiesceApply s = _
  rw [execPolicyQuiesceApply, h]
theorem exec_policyQuiesceApply_due {n : Policy} (h : s.policyDue = some n) :
    let s1 := if (s.clusterWaits n).all fun p => s.quiesced p then s.applyClusters n else s
    exec .policyQuiesceApply s = .next (if (s1.rangeWaits n).all fun p => s1.quiesced p then s1.applyRanges n else s1) := by
  change execPolicyQuiesceApply s = _
  rw [execPolicyQuiesceApply, h]

theorem exec_monitorInPlace_stays {c : Nat} (h : 256 ≤ c ∨ s.boot.applying = false ∨ 2 ∉ s.boot.pendingSecs
    ∨ (s.cluster c).newMon = true ∨ s.atBoundary c = false) : exec (.monitorInPlace c) s = .next s :=
  if_pos (by rcases h with h | h | h | h | h <;> simp [h])
theorem exec_monitorInPlace_changes {c : Nat} (hc : c < 256) (happ : s.boot.applying = true) (hsec : 2 ∈ s.boot.pendingSecs)
    (hmon : (s.cluster c).newMon = false) (hbound : s.atBoundary c = true) :
    let s1 := (List.range 8).foldl (fun (s : State) i => (s.setCore (c * 8 + i) { s.core (c * 8 + i) with
      exVbarM := some (BitVec.ofNat 64 (s.vbarM (c * 8 + i) (s.core (c * 8 + i)))) }).hayward (c * 8 + i) 3) s
    exec (.monitorInPlace c) s = .next (s1.setCluster c { s1.cluster c with newMon := true }) :=
  if_neg (by simp [hc, happ, hsec, hmon, hbound])

section
variable (happ : s.boot.applying = true) (hboot : s.boot.bootLive = true) (hsec : 1 ∈ s.boot.pendingSecs)
  (htake : s.hw.takeover = false)
include happ hboot hsec htake

theorem plannedSwitchover_guard :
    ¬((!s.boot.applying || !s.boot.bootLive || !s.boot.pendingSecs.contains 1 || s.hw.takeover) = true) := by
  simp [happ, hboot, hsec, htake]
theorem exec_plannedSwitchover_alone (hstandby : s.hw.standby = false) :
    exec .plannedSwitchover s = .next { s with boot := { s.boot with bootLive := false } } :=
  congrArg _ ((if_neg (plannedSwitchover_guard happ hboot hsec htake)).trans (if_pos (by simp [hstandby])))
theorem exec_plannedSwitchover_switches {im : ImageRead} (hstandby : s.hw.standby = true)
    (hcheck : s.boot.check s.life s.targetB true = .ok im) : exec .plannedSwitchover s = .next { s with
      hw := { s.hw with activeB := !s.hw.activeB }
      boot := { (s.boot.inForce (secOf im.secs 1)).applied 1 with bootLive := false } } := by
  refine congrArg _ ((if_neg (plannedSwitchover_guard happ hboot hsec htake)).trans ((if_neg (by simp [hstandby])).trans ?_))
  rw [hcheck]

end

theorem exec_applyComplete_waits (h : s.applyDone = false) : exec .applyComplete s = .next s := congrArg _ (if_pos (by simp [h]))

theorem exec_applyComplete_done {im : ImageRead} (hdone : s.applyDone = true)
    (hcheck : s.boot.check s.life s.targetB true = .ok im) :
    ∃ f : Boot, exec .applyComplete s = .next { s with boot := f } ∧ f.applying = false ∧ f.staging = false ∧ f.committed = false
      ∧ f.slotB = s.targetB ∧ f.slotRecs = putSlot s.boot.slotRecs false s.targetB s.targetB ∧ f.flash = s.boot.flash
      ∧ ∀ t ∈ f.pendingSecs, t ∈ s.boot.pendingSecs ∧ (t = 1 ∨ t = 5) := by
  refine ⟨_, congrArg _ ((if_neg (by simp [hdone])).trans (by rw [hcheck])), rfl, rfl, rfl, rfl, ?_, ?_, fun t ht => ?_⟩
  -- neither section that comes into force touches the slots' records or the flash
  · simp only [apply_ite Boot.slotRecs, Boot.inForce, ite_self]
  · simp only [apply_ite Boot.flash, Boot.inForce, ite_self]
  · obtain ⟨hmem, hleft⟩ := List.mem_filter.1 ht
    exact ⟨hmem, by simp at hleft; omega⟩

end

/-- Settles O52: a lemma for each command by what it finds. -/
theorem bootAndLiveChangeResults : Obligations.BootAndLiveChangeResults := by
  unfold Obligations.BootAndLiveChangeResults
  refine ⟨?rom, fun s => exec_boot_dead, ?image, ?init, ?memory, ?policy, ?monitor, ?switch, ?complete⟩
  case rom =>
    intro s a b hlive hstage hfatal
    refine ⟨?_, ?_, fun hne _ => exec_bootRom_one hlive hstage hfatal hne, ?_⟩
    · rintro rfl rfl
      exact exec_bootRom_both hlive hstage hfatal
    · rintro rfl rfl
      exact exec_bootRom_scrapped hlive hstage hfatal
    · rintro rfl rfl
      exact exec_bootRom_none hlive hstage hfatal
  case image =>
    exact fun s hlive hstage => ⟨fun _ => exec_bootImage_first hlive hstage,
      fun _ h => ⟨fun _ => exec_bootImage_other hlive hstage h, fun _ => exec_bootImage_recovery hlive hstage h⟩⟩
  case init => exact fun s n => exec_bootInit_policy
  case memory => exact fun s ms hlive hstage => congrArg _ (if_neg (live_guard hlive hstage))
  case policy => exact fun s => ⟨exec_policyQuiesceApply_idle, fun _ => exec_policyQuiesceApply_due⟩
  case monitor => exact fun s c => ⟨exec_monitorInPlace_stays, exec_monitorInPlace_changes⟩
  case switch =>
    exact fun s happ hboot hsec htake => ⟨exec_plannedSwitchover_alone happ hboot hsec htake,
      fun _ => exec_plannedSwitchover_switches happ hboot hsec htake⟩
  case complete => exact fun s => ⟨exec_applyComplete_waits, fun _ => exec_applyComplete_done⟩

end Sys2Proof.Machine
end

section
/-! Proofs about the fallow rotation, Hayward's pairs and its recovery actions: each command by the state of the
cluster that it is for. -/

namespace Sys2Proof.Machine

/-! ### Due clusters and migration (R366 to R368) -/

section
variable {s : State} {c ph : Nat} (hrole : s.physOfRole c = some ph)
include hrole

theorem exec_clusterDue_stays (h : (s.ownerOf c).isNone = true ∨ (s.physOf ph).due = true ∨ s.psec < s.dueAt ph) :
    exec (.clusterDue c) s = .next s := by
  change execClusterDue c s = _
  simp only [execClusterDue, hrole]
  exact if_pos (by rcases h with h | h | h <;> simp [h])

section
variable (howner : (s.ownerOf c).isSome = true) (hdue : (s.physOf ph).due = false) (hret : s.unitRetired uCluster ph = false)
  (hsec : s.dueAt ph ≤ s.psec)
include howner hdue hret hsec

theorem exec_clusterDue : let s1 := (s.setPhys ph { s.physOf ph with due := true }).refreshHolds
    exec (.clusterDue c) s = .next
      (if s1.hasTarget ph || !s.policy.integrity || s.hw.suspended || (s.physOf ph).flagged.isSome then s1
      else logEv s1 (ph / 36)
        { ev eTestDeferred with parts := pbitO (s.ownerOf c), ukind := uCluster, unit := ph, lcluster := c }) := by
  have hnone : (s.ownerOf c).isNone = false := by simpa using howner
  change execClusterDue c s = _
  simp only [execClusterDue, hrole]
  exact if_neg (by rw [hnone, hdue, hret]; simpa using hsec)

theorem exec_clusterDue_target (ht : (s.setPhys ph { s.physOf ph with due := true }).refreshHolds.hasTarget ph = true) :
    exec (.clusterDue c) s = .next (s.setPhys ph { s.physOf ph with due := true }).refreshHolds :=
  (exec_clusterDue hrole howner hdue hret hsec).trans (congrArg _ (if_pos (by simp [ht])))
theorem exec_clusterDue_deferred (ht : (s.setPhys ph { s.physOf ph with due := true }).refreshHolds.hasTarget ph = false)
    (hint : s.policy.integrity = true) (hsusp : s.hw.suspended = false) (hflag : (s.physOf ph).flagged = none) :
    ∃ e : LogEntry, e.code = eTestDeferred ∧ e.unit = ph ∧ exec (.clusterDue c) s =
      .next (logEv (s.setPhys ph { s.physOf ph with due := true }).refreshHolds (ph / 36) e) :=
  ⟨_, rfl, rfl, (exec_clusterDue hrole howner hdue hret hsec).trans (congrArg _ (if_neg (by
    rw [ht]
    simp [hint, hsusp, hflag])))⟩

end

section
variable (hdue : (s.physOf ph).due = true) (hborrow : (s.physOf ph).borrow = false) (hflag : (s.physOf ph).flagged = none)
  (hret : s.unitRetired uCluster ph = false) (hsec : s.dueAt ph + 21600 ≤ s.psec) (htarget : s.hasTarget ph = false)
include hdue hborrow hflag hret hsec htarget

theorem exec_clusterBorrowed : let s1 := (s.setPhys ph { s.physOf ph with borrow := true }).refreshHolds
    exec (.clusterBorrowed c) s = .next (if s1.hasTarget ph then logEv s1 (ph / 36)
      { ev eClusterBorrowed with parts := pbitO (s.ownerOf c), ukind := uCluster, unit := ph, lcluster := c } else s1) := by
  change execClusterBorrowed c s = _
  simp only [execClusterBorrowed, hrole]
  exact if_neg (by simp [hdue, hborrow, hflag, hret, hsec, htarget])

theorem exec_clusterBorrowed_none (ht : (s.setPhys ph { s.physOf ph with borrow := true }).refreshHolds.hasTarget ph = false) :
    exec (.clusterBorrowed c) s = .next (s.setPhys ph { s.physOf ph with borrow := true }).refreshHolds :=
  (exec_clusterBorrowed hrole hdue hborrow hflag hret hsec htarget).trans (congrArg _ (if_neg (by simp [ht])))
theorem exec_clusterBorrowed_some (ht : (s.setPhys ph { s.physOf ph with borrow := true }).refreshHolds.hasTarget ph = true) :
    ∃ e : LogEntry, e.code = eClusterBorrowed ∧ exec (.clusterBorrowed c) s =
      .next (logEv (s.setPhys ph { s.physOf ph with borrow := true }).refreshHolds (ph / 36) e) :=
  ⟨_, rfl, (exec_clusterBorrowed hrole hdue hborrow hflag hret hsec htarget).trans (congrArg _ (if_pos ht))⟩

end

theorem exec_migrationStart (hhold : (s.cluster c).hold = true) (hbound : s.atBoundary c = true) (htake : s.hw.takeover = false)
    (hqueued : (s.hw.queued.any fun a => a.kind == uCluster && a.num == ph) = false) {q : Nat × Nat}
    (htarget : (s.targets.find? fun q => q.1 == ph) = some q) :
    exec (.migrationStart c) s = .next (s.setCluster c { s.cluster c with moving := some q.2 }) := by
  change execMigrationStart c s = _
  simp only [execMigrationStart, hrole, htarget]
  exact if_neg (by simp [hhold, hbound, htake, hqueued])
theorem exec_migrationDone {new : Nat} (hmoving : (s.cluster c).moving = some new) (htake : s.hw.takeover = false) :
    exec (.migrationDone c) s =
      .next (((s.copied (clusterWord c)).freed ph (pbitO (s.ownerOf c))).takeRole c new).refreshHolds := by
  change execMigrationDone c s = _
  simp only [execMigrationDone, hrole, hmoving]
  exact if_neg (by simp [htake])
theorem exec_migrationHoldRelease (hhold : (s.cluster c).hold = true) (hmoving : (s.cluster c).moving = none)
    (hdue : (s.physOf ph).due = true) (hflag : (s.physOf ph).flagged = none) (hret : s.unitRetired uCluster ph = false)
    (hsec : s.psec ≤ s.dueAt ph + 21600) (hbound : s.atBoundary c = false) :
    exec (.migrationHoldRelease c) s = .next (s.setCluster c { s.cluster c with hold := false, retry := true }) := by
  change execMigrationHoldRelease c s = _
  simp only [execMigrationHoldRelease, hrole]
  exact congrArg _ (if_pos (by simp [hhold, hmoving, hdue, hflag, hret, hsec, hbound]))

/-! ### Replacement (R370) -/

theorem exec_clusterReplace_stays (h : s.unitRetired uCluster ph = false ∨ s.atBoundary c = false) :
    exec (.clusterReplace c) s = .next s := by
  change execClusterReplace c s = _
  simp only [execClusterReplace, hrole]
  exact if_pos (by rcases h with h | h <;> simp [h])

/-- The state in which the retired cluster ph of role c has left it, and R370 chooses. -/
abbrev State.roleLeft (s : State) (c ph : Nat) : State :=
  let s0 := s.copied (clusterWord c)
  (s0.setPhys ph { s0.physOf ph with
    cond := .retired, heldParts := (s0.physOf ph).heldParts ||| pbitO (s.ownerOf c) }).endAction uCluster ph

theorem exec_clusterReplace (hret : s.unitRetired uCluster ph = true) (hbound : s.atBoundary c = true)
    (htake : s.hw.takeover = false) (hqueued : (s.hw.queued.any fun a => a.kind == uCluster && a.num == ph) = false) :
    exec (.clusterReplace c) s = .next (match (s.roleLeft c ph).choose (ph / 36) with
      | none => (s.roleLeft c ph).roleAbsent c
      | some q => (s.roleLeft c ph).replaceRole c q.1 q.2) := by
  change execClusterReplace c s = _
  simp only [execClusterReplace, hrole]
  exact if_neg (by simp [hret, hbound, htake, hqueued])

end

section
variable {s : State} {c : Nat}

theorem exec_migrationRetry_retries (h : (s.cluster c).retry = true) :
    exec (.migrationRetry c) s = .next (s.setCluster c { s.cluster c with retry := false }).refreshHolds := congrArg _ (if_pos h)
theorem exec_migrationRetry_idle (h : (s.cluster c).retry = false) : exec (.migrationRetry c) s = .next s :=
  congrArg _ (if_neg (by simp [h]))

end

/-! ### Tests and rotation records (R366, R369) -/

section
variable {s : State} {ph : Nat}

/-- A cluster in its test is past its beginning. -/
theorem State.testBegin_of_testing (h : (s.physOf ph).cond = .testing) : s.testBegin ph = s := if_neg (by simp [h])

section
variable {last : Bool} (hph : ph < 288) (hcond : (s.physOf ph).cond = .testing)
include hph hcond

theorem exec_testKernelDone (agrees : Bool) : exec (.testKernelDone ph agrees last) s =
    if agrees then
      if (s.physOf ph).retried then
        .next (logUnit (s.setPhys ph { s.physOf ph with retried := false, testStart := s.psec }) (ph / 36)
          { ev eTestRetry with ukind := uCluster, unit := ph, parts := (s.physOf ph).heldParts } 0)
      else .next (if last then s.testPass ph else s)
    else if (s.physOf ph).retried then
      .next ((logEv s (ph / 36) { ev eTestFail with
        ukind := uCluster, unit := ph, parts := (s.physOf ph).heldParts, rstate := 2 }).retirePhys ph false)
    else .next (s.setPhys ph { s.physOf ph with retried := true }) := by
  change execTestKernelDone ph agrees last s = _
  simp only [execTestKernelDone, State.testBegin_of_testing hcond]
  exact if_neg (by simp [hph, hcond])

theorem exec_testKernelDone_first (hretried : (s.physOf ph).retried = false) :
    exec (.testKernelDone ph true last) s = .next (if last then s.testPass ph else s)
    ∧ exec (.testKernelDone ph false last) s = .next (s.setPhys ph { s.physOf ph with retried := true }) := by
  simp [exec_testKernelDone hph hcond, hretried]
theorem exec_testKernelDone_again (hretried : (s.physOf ph).retried = true) :
    (∃ e : LogEntry, e.code = eTestRetry ∧ e.unit = ph ∧ exec (.testKernelDone ph true last) s =
      .next (logUnit (s.setPhys ph { s.physOf ph with retried := false, testStart := s.psec }) (ph / 36) e 0))
    ∧ ∃ e : LogEntry, e.code = eTestFail ∧ e.unit = ph ∧ exec (.testKernelDone ph false last) s =
      .next ((logEv s (ph / 36) e).retirePhys ph false) :=
  ⟨⟨_, rfl, rfl, (exec_testKernelDone hph hcond true).trans (if_pos hretried)⟩,
    ⟨_, rfl, rfl, (exec_testKernelDone hph hcond false).trans (if_pos hretried)⟩⟩

end

theorem exec_rotationRecordWrite_dirty (hph : ph < 288) (hdirty : (s.physOf ph).recDirty = true) :
    exec (.rotationRecordWrite ph) s = .next (s.setPhys ph { s.physOf ph with
      recDirty := false, recPass := (s.physOf ph).lastPass
      recRetired := (s.physOf ph).recRetired || s.unitRetired uCluster ph }) := congrArg _ (if_pos ⟨hph, hdirty⟩)
theorem exec_rotationRecordWrite_clean (h : 288 ≤ ph ∨ (s.physOf ph).recDirty = false) :
    exec (.rotationRecordWrite ph) s = .next s :=
  congrArg _ (if_neg (by rcases h with h | h <;> simp [h]))

end

/-! ### The pairs and the recovery actions (R356 to R358, R364) -/

section
variable {s : State}

section
variable (hfatal : s.hw.fatal = false)
include hfatal

theorem exec_lockstepMismatch_true : exec (.lockstepMismatch true) s = .next (if s.hw.takeover || !s.hw.standby then
      s.deviceFatal 16 { ev eHaywardLost with parts := s.allParts, ukind := uPair, unit := s.activePair, rstate := 2 }
    else { s with hw := { s.hw with
      takeover := true, standby := false, running := s.hw.running ++ [⟨uPair, s.activePair, s.sc, 0, 0⟩] } }) :=
  congrArg _ ((if_neg (by simp [hfatal])).trans (if_pos rfl))
theorem exec_lockstepMismatch_false : exec (.lockstepMismatch false) s = .next (if s.hw.standby then
      logEv { s with hw := { s.hw with standby := false } } 16
        { ev eStandbyLost with ukind := uPair, unit := s.otherPair, rstate := 2 }
    else s) :=
  congrArg _ ((if_neg (by simp [hfatal])).trans (if_neg Bool.false_ne_true))

theorem exec_lockstepMismatch_last (h : s.hw.takeover = true ∨ s.hw.standby = false) : ∃ e : LogEntry, e.code = eHaywardLost ∧
    exec (.lockstepMismatch true) s = .next (s.deviceFatal 16 e) :=
  ⟨_, rfl, (exec_lockstepMismatch_true hfatal).trans (congrArg _ (if_pos (by rcases h with h | h <;> simp [h])))⟩
theorem exec_lockstepMismatch_active (htake : s.hw.takeover = false) (hstandby : s.hw.standby = true) :
    exec (.lockstepMismatch true) s = .next { s with hw := { s.hw with
      takeover := true, standby := false, running := s.hw.running ++ [⟨uPair, s.activePair, s.sc, 0, 0⟩] } } :=
  (exec_lockstepMismatch_true hfatal).trans (congrArg _ (if_neg (by simp [htake, hstandby])))
theorem exec_lockstepMismatch_standby (hstandby : s.hw.standby = true) : ∃ e : LogEntry, e.code = eStandbyLost ∧
    exec (.lockstepMismatch false) s = .next (logEv { s with hw := { s.hw with standby := false } } 16 e) :=
  ⟨_, rfl, (exec_lockstepMismatch_false hfatal).trans (congrArg _ (if_pos hstandby))⟩
theorem exec_lockstepMismatch_idle (hstandby : s.hw.standby = false) : exec (.lockstepMismatch false) s = .next s :=
  (exec_lockstepMismatch_false hfatal).trans (congrArg _ (if_neg (by simp [hstandby])))
theorem exec_standbyTakeover_takes (htake : s.hw.takeover = true) : ∃ e : LogEntry, e.code = eFailover ∧ e.unit = s.activePair
    ∧ exec .standbyTakeover s = .next (logEv ({ s with hw := { s.hw with
      takeover := false, activeB := !s.hw.activeB } }.endAction uPair s.activePair) 16 e).drainBuffers :=
  ⟨_, rfl, rfl, congrArg _ (if_neg (by simp [htake, hfatal]))⟩

end

theorem exec_standbyTakeover_idle (htake : s.hw.takeover = false) : exec .standbyTakeover s = .next s :=
  congrArg _ (if_pos (by simp [htake]))

theorem exec_recoveryActionStart_none (h : s.hw.queued = []) : exec .recoveryActionStart s = .next s := by
  change execRecoveryActionStart s = _
  rw [execRecoveryActionStart, h]
theorem exec_recoveryActionStart_busy (h : s.actionFree = false) : exec .recoveryActionStart s = .next s := by
  change execRecoveryActionStart s = _
  unfold execRecoveryActionStart
  split
  · rfl
  · exact congrArg _ (if_pos (by simp [h]))
theorem exec_recoveryActionStart_starts {a : Action} {rest : List Action} (hqueued : s.hw.queued = a :: rest)
    (hfree : s.actionFree = true) : exec .recoveryActionStart s =
      .next ({ s with hw := { s.hw with queued := rest, running := s.hw.running ++ [a] } }.beginAction a) := by
  change execRecoveryActionStart s = _
  simp only [execRecoveryActionStart, hqueued]
  exact congrArg _ (if_neg (by simp [hfree]))

end

/-- Settles O53: a lemma for each command by what the cluster, the pair or the queue is at. -/
theorem rotationResults : Obligations.RotationResults := by
  unfold Obligations.RotationResults
  refine ⟨?cluster, ?test, ?pairs, ?actions⟩
  case cluster =>
    intro s c ph hrole
    refine ⟨exec_clusterDue_stays hrole, fun howner hdue hret hsec => ?_, fun hdue hborrow hflag hret hsec htarget => ?_,
      fun hhold hbound htake hqueued _ => exec_migrationStart hrole hhold hbound htake hqueued, fun _ => exec_migrationDone hrole,
      exec_migrationHoldRelease hrole, exec_migrationRetry_retries, exec_migrationRetry_idle, exec_clusterReplace_stays hrole,
      fun hret hbound htake hqueued => ?_⟩
    · exact ⟨exec_clusterDue_target hrole howner hdue hret hsec, exec_clusterDue_deferred hrole howner hdue hret hsec⟩
    · exact ⟨exec_clusterBorrowed_none hrole hdue hborrow hflag hret hsec htarget,
        exec_clusterBorrowed_some hrole hdue hborrow hflag hret hsec htarget⟩
    · have hreplace := exec_clusterReplace hrole hret hbound htake hqueued
      exact ⟨fun h => hreplace.trans (by rw [h]), fun _ h => hreplace.trans (by rw [h])⟩
  case test =>
    exact fun s ph => ⟨fun hph hcond _ => ⟨exec_testKernelDone_first hph hcond, exec_testKernelDone_again hph hcond⟩,
      exec_rotationRecordWrite_dirty, exec_rotationRecordWrite_clean⟩
  case pairs =>
    exact fun s hfatal => ⟨exec_lockstepMismatch_last hfatal, exec_lockstepMismatch_active hfatal,
      exec_lockstepMismatch_standby hfatal, exec_lockstepMismatch_idle hfatal, exec_standbyTakeover_takes hfatal,
      exec_standbyTakeover_idle⟩
  case actions =>
    exact fun s => ⟨exec_recoveryActionStart_none, exec_recoveryActionStart_busy, fun _ _ => exec_recoveryActionStart_starts⟩

end Sys2Proof.Machine
end

section
/-! Proofs about the host ports: partition resets by their phase, and what a live port does of each request. -/

namespace Sys2Proof.Machine

/-! ### Partition reset (R394 to R397) -/

section
variable {s : State} {p : Nat}

section
variable (hp : p < 4)
include hp

theorem exec_perstAssert : exec (.perstAssert p) s = .next ((s.setHost p { s.host p with perst := true }).trigger p false) :=
  congrArg _ (if_neg (Nat.not_le.2 hp))
theorem exec_perstDeassert : exec (.perstDeassert p) s = .next (s.setHost p { s.host p with perst := false }) :=
  congrArg _ (if_neg (Nat.not_le.2 hp))
theorem exec_hotReset : exec (.hotReset p) s = .next (s.trigger p false) := congrArg _ (if_neg (Nat.not_le.2 hp))
theorem exec_dataLinkDown : exec (.dataLinkDown p) s = .next (s.trigger p false) := congrArg _ (if_neg (Nat.not_le.2 hp))
theorem exec_functionLevelReset : exec (.functionLevelReset p) s = .next (s.trigger p true) :=
  congrArg _ (if_neg (Nat.not_le.2 hp))

end

theorem State.trigger_resets (link : Bool) (hlive : s.portLive p = true) (hfatal : s.hw.fatal = false)
    (hen : (s.part p).enabled = true) : s.trigger p link = s.startReset p link :=
  (if_neg (by simp [hlive, hfatal])).trans (if_pos hen)
theorem State.trigger_clears (link : Bool) (h : s.portLive p = false ∨ s.hw.fatal = true ∨ (s.part p).enabled = false) :
    s.trigger p link = s.setHost p ((s.host p).cleared link) := by
  unfold State.trigger
  split
  · rfl
  · next hlive => exact if_neg (by rcases h with h | h | h <;> simp_all)

theorem exec_vfFunctionLevelReset_none {n : Nat} (h : n = 0 ∨ 16 ≤ n ∨ s.portLive p = false) :
    exec (.vfFunctionLevelReset p n) s = .next s := if_pos (by rcases h with h | h | h <;> simp [h])

/-- The state in which the channels of VF n are gone (log entry 40). -/
abbrev State.vfStopped (s : State) (p n : Nat) : State :=
  ((s.chansOf p).filter fun ch => s.chanFn ch == n).foldl (fun (s : State) ch =>
    let t := s.abortChannel p ch .aborted .aborted 0
    let cs := t.cmds.map fun (c : Cmd) => if c.ch = ch then { c with silent := true } else c
    { t with cmds := cs, chans := mdel t.chans ch, chanTab := t.chanTab.filter fun q => q.1 / 8 != ch }) s

theorem exec_vfFunctionLevelReset {n : Nat} (hp : p < 4) (hn : 1 ≤ n) (hn' : n < 16) (hlive : s.portLive p = true) :
    let s1 := s.vfStopped p n
    let h := s1.host p
    exec (.vfFunctionLevelReset p n) s = .next (s1.setHost p { h with
      bme := sdel h.bme n, msixOn := sdel h.msixOn n, fnMask := sdel h.fnMask n, d3hot := sdel h.d3hot n
      msix := h.msix.filter fun q => q.1 / 2 / 2048 != n
      msixPend := h.msixPend.filter fun v => v / 2048 != n
      cfg := h.cfg.filter fun q => q.1 / 4096 != n }) :=
  if_neg (by simp [hlive, hp, hn', Nat.ne_of_gt hn])

theorem exec_presetIdle_other (h : (s.host p).preset ≠ .stopping) : exec (.presetIdle p) s = .next s := if_pos h
theorem exec_presetIdle_runs (h : (s.host p).preset = .stopping)
    (hruns : ((s.part p).clusters.any fun c => (s.cluster c).mx.isSome || (s.cluster c).se.isSome) = true) :
    exec (.presetIdle p) s = .next s := (if_neg (not_not.2 h)).trans (if_pos hruns)
theorem exec_presetIdle_stops (h : (s.host p).preset = .stopping)
    (hruns : ((s.part p).clusters.any fun c => (s.cluster c).mx.isSome || (s.cluster c).se.isSome) = false) :
    let s0 := { s with kernels := s.kernels.filter fun k => !(s.part p).clusters.contains k.cluster }
    let s1 := (s.kernels.filter fun k => (s.part p).clusters.contains k.cluster).foldl
      (fun (s : State) k => s.finish k.id .aborted 0 0) s0
    let s3 := (s.part p).clusters.foldl (fun s c => (List.range 8).foldl (fun (s : State) i =>
      if (s.core (c * 8 + i)).kernel.isSome then s.setCore (c * 8 + i) { s.core (c * 8 + i) with
        run := .idle, kernel := none, endStatus := none, abortPend := none } else s) s) s1
    exec (.presetIdle p) s = .next (s3.setHost p { s3.host p with preset := .clearing }) :=
  (if_neg (not_not.2 h)).trans (if_neg (by simp [hruns]))

theorem exec_presetCleared (h : (s.host p).preset = .clearing) : let s1 := s.clearPart p
    let s2 := s1.setReg (aEpoch p) (setFld (s1.reg (aEpoch p)) 15 0 (fld (s1.reg (aEpoch p)) 15 0 + 1))
    exec (.presetCleared p) s = .next (s2.setHost p { s2.host p with
      preset := if s2.policy.resetErase then .erasing else .none
      fatal := (s2.host p).fatal && (s2.part p).clusters.all fun c => (s2.cluster c).absent
      mbAnswer := none }) := if_neg (not_not.2 h)
theorem exec_presetEraseDone (h : (s.host p).preset = .erasing) :
    let s1 := { s with mem := s.mem.zero fun a => s.grantPart a == some p }
    exec (.presetEraseDone p) s = .next (s1.setHost p { s1.host p with preset := .none }) := if_neg (not_not.2 h)
theorem exec_partitionResetFail (h : (s.host p).preset ≠ .none) : exec (.partitionResetFail p) s =
    .next ((s.setHost p { s.host p with preset := .none }).partFatal p) := congrArg _ (if_neg h)

/-! ### Links, configuration space, D-states (R381 to R385, R423) -/

section
variable (hlive : s.portLive p = true)
include hlive

theorem exec_portConfigReady (hperst : (s.host p).perst = false) :
    exec (.portConfigReady p) s = .next (s.setHost p { s.host p with cfgReady := true }) :=
  congrArg _ (if_pos (by simp [hlive, hperst]))
theorem exec_pcieLinkUp {sp w : Nat} (hperst : (s.host p).perst = false) (hsp : 1 ≤ sp) (hsp' : sp ≤ 7)
    (hw : w ∈ ([1, 2, 4, 8] : List Nat)) :
    exec (.pcieLinkUp p sp w) s = .next (s.setHost p { s.host p with linkUp := true, speed := sp, width := w }) :=
  congrArg _ (if_pos (by simp [hlive, hperst, hsp, hsp', hw]))
theorem exec_d3hotEntry {n : Nat} (hn : n < 16) :
    exec (.d3hotEntry p n) s = .next (s.setHost p { s.host p with d3hot := sadd (s.host p).d3hot n }) :=
  congrArg _ (if_pos (by simp [hlive, hn]))
theorem exec_d0Return {n : Nat} (hn : n < 16) :
    exec (.d0Return p n) s = .next ((s.setHost p { s.host p with d3hot := sdel (s.host p).d3hot n }).msixFlush p) :=
  congrArg _ (if_pos (by simp [hlive, hn]))

section
variable {q : ConfigReq} (hperst : (s.host p).perst = false) (hfatal : (s.host p).fatal = false)
include hperst hfatal

theorem exec_configRequest : exec (.configRequest p q) s = .next
    (if !(s.host p).cfgReady then s.emit (.cfgAnswer p true 0)
      else if 16 ≤ q.fn || (decide (0 < q.fn) && !(s.host p).vfEnable) || decide (4096 ≤ q.off) then
        s.emit (.cfgAnswer p false 0xFFFFFFFF)
      else match q.wr with
        | none => s.emit (.cfgAnswer p false (s.cfgRead p q.fn (q.off / 4 * 4)))
        | some v => (s.cfgWrite p q.fn (q.off / 4 * 4) v).emit (.cfgAnswer p false 0)) :=
  congrArg _ (if_neg (by simp [hlive, hperst, hfatal]))

theorem exec_configRequest_retry (hready : (s.host p).cfgReady = false) :
    exec (.configRequest p q) s = .next (s.emit (.cfgAnswer p true 0)) :=
  (exec_configRequest hlive hperst hfatal).trans (congrArg _ (if_pos (by simp [hready])))
theorem exec_configRequest_absent (hready : (s.host p).cfgReady = true)
    (h : 16 ≤ q.fn ∨ (0 < q.fn ∧ (s.host p).vfEnable = false) ∨ 4096 ≤ q.off) :
    exec (.configRequest p q) s = .next (s.emit (.cfgAnswer p false 0xFFFFFFFF)) :=
  (exec_configRequest hlive hperst hfatal).trans (congrArg _ ((if_neg (by simp [hready])).trans
    (if_pos (by rcases h with h | ⟨h, h'⟩ | h <;> simp [*]))))

section
variable (hready : (s.host p).cfgReady = true) (hfn : q.fn < 16) (hvf : q.fn = 0 ∨ (s.host p).vfEnable = true)
  (hoff : q.off < 4096)
include hready hfn hvf hoff

theorem exec_configRequest_present : exec (.configRequest p q) s = .next (match q.wr with
    | none => s.emit (.cfgAnswer p false (s.cfgRead p q.fn (q.off / 4 * 4)))
    | some v => (s.cfgWrite p q.fn (q.off / 4 * 4) v).emit (.cfgAnswer p false 0)) := by
  refine (exec_configRequest hlive hperst hfatal).trans (congrArg _ ((if_neg (by simp [hready])).trans (if_neg ?_)))
  rcases hvf with hvf | hvf <;> simp [hfn, hvf, hoff]
theorem exec_configRequest_read (hwr : q.wr = none) :
    exec (.configRequest p q) s = .next (s.emit (.cfgAnswer p false (s.cfgRead p q.fn (q.off / 4 * 4)))) :=
  (exec_configRequest_present hlive hperst hfatal hready hfn hvf hoff).trans (by rw [hwr])
theorem exec_configRequest_write {v : BitVec 32} (hwr : q.wr = some v) : exec (.configRequest p q) s =
    .next ((s.cfgWrite p q.fn (q.off / 4 * 4) v).emit (.cfgAnswer p false 0)) :=
  (exec_configRequest_present hlive hperst hfatal hready hfn hvf hoff).trans (by rw [hwr])

end
end

/-! ### IDE and SPDM (R392, R437, R439) -/

theorem exec_ideKm {st : Nat} (hst : st ≤ 8) (hsession : (s.host p).spdmSession = 2) : exec (.ideKm p st) s = .next
    (s.setHost p { s.host p with ideSecure := sadd (s.host p).ideSecure st, ideInsecure := sdel (s.host p).ideInsecure st }) :=
  congrArg _ (if_pos (by simp [hlive, hst, hsession]))

section
variable {q : SpdmReq} (hready : (s.host p).cfgReady = true) (hfatal : (s.host p).fatal = false)
include hready hfatal

theorem exec_spdmRequest_noId (hid : s.life.noId = true) : exec (.spdmRequest p q) s = .next (s.emit (.spdm p (spdmError 5))) :=
  congrArg _ ((if_neg (by simp [hlive, hready, hfatal])).trans (if_pos hid))
theorem exec_spdmRequest_id (hid : s.life.noId = false) : exec (.spdmRequest p q) s = .next (match spdmRefused q with
    | some e => s.emit (.spdm p (spdmError e))
    | none => (s.setHost p { s.host p with spdmSession := spdmNext (s.host p).spdmSession q }).emit
        (.spdm p (Config.spdmAnswer (s.host p).spdmSession (s.measurements ++ s.boot.l1 ++
          [BitVec.ofNat 8 q.code, BitVec.ofNat 8 q.slot] ++ q.body)))) :=
  congrArg _ ((if_neg (by simp [hlive, hready, hfatal])).trans (if_neg (by simp [hid])))

end

/-! ### BAR2 (R390) -/

section
variable {o : Nat} (hfatal : (s.host p).fatal = false) (hide : s.ideOk p = true)
include hfatal hide

theorem exec_bar2Read {len : Nat} (hlen : len ≠ 0) : exec (.bar2Read p o len) s = .next (match s.b2Admit p o len pR with
    | none => (badAccess s (16 + p / 2) p o).emit (.bar2Data p (List.replicate len 0xFF) false)
    | some a => (readMem s (16 + p / 2) a len).1.emit
        (.bar2Data p ((readMem s (16 + p / 2) a len).2.map (·.1)) (pbPsn (readMem s (16 + p / 2) a len).2))) :=
  congrArg _ ((if_neg (by simp [hlive, hfatal, hlen])).trans (if_neg (by simp [hide])))
theorem exec_bar2Write {data : List Byte} {ep : Bool} (hdata : data ≠ []) : exec (.bar2Write p o data ep) s = .next
    (match s.b2Admit p o data.length pW with
      | none => badAccess s (16 + p / 2) p o
      | some a => storeMem s (16 + p / 2) a (data.map fun b => (b, ep))) :=
  congrArg _ (if_neg (by simp [hlive, hfatal, hdata, hide]))

end
end

theorem exec_ideInsecure_secure {st : Nat} (h : st ∈ (s.host p).ideSecure) : exec (.ideInsecure p st) s = .next
    (s.setHost p { s.host p with ideSecure := sdel (s.host p).ideSecure st, ideInsecure := sadd (s.host p).ideInsecure st }) :=
  congrArg _ (if_pos (by simpa using h))
theorem exec_ideInsecure_other {st : Nat} (h : st ∉ (s.host p).ideSecure) : exec (.ideInsecure p st) s = .next s :=
  congrArg _ (if_neg (by simpa using h))

end

/-- Settles O54: a lemma for each command by what the port is at. -/
theorem hostPortResults : Obligations.HostPortResults := by
  unfold Obligations.HostPortResults
  refine ⟨?triggers, ?vf, ?preset, ?live, fun s p st => ⟨exec_ideInsecure_secure, exec_ideInsecure_other⟩, ?bar2⟩
  case triggers =>
    exact fun s p hp => ⟨exec_perstAssert hp, exec_perstDeassert hp, exec_hotReset hp, exec_dataLinkDown hp,
      exec_functionLevelReset hp, fun link => ⟨State.trigger_resets link, State.trigger_clears link⟩⟩
  case vf =>
    intro s p n
    refine ⟨exec_vfFunctionLevelReset_none, fun hp hn hn' hlive => ?_⟩
    exact ⟨_, exec_vfFunctionLevelReset hp hn hn' hlive, rfl, rfl, rfl, rfl, rfl, rfl⟩
  case preset =>
    exact fun s p => ⟨exec_presetIdle_other, exec_presetIdle_runs, exec_presetIdle_stops, exec_presetCleared, exec_presetEraseDone,
      fun h => if_pos h, fun h => congrArg _ (if_pos h), exec_partitionResetFail⟩
  case live =>
    intro s p sp w hlive
    refine ⟨exec_portConfigReady hlive, exec_pcieLinkUp hlive, fun q hperst hfatal => ?_, fun n hn => ?_,
      fun st => exec_ideKm hlive, fun q hready hfatal => ?_⟩
    · exact ⟨exec_configRequest_retry hlive hperst hfatal, exec_configRequest_absent hlive hperst hfatal,
        fun hready hfn hvf hoff => ⟨exec_configRequest_read hlive hperst hfatal hready hfn hvf hoff,
          fun _ => exec_configRequest_write hlive hperst hfatal hready hfn hvf hoff⟩⟩
    · exact ⟨exec_d3hotEntry hlive hn, exec_d0Return hlive hn⟩
    · refine ⟨exec_spdmRequest_noId hlive hready hfatal, fun hid => ?_⟩
      have hanswer := exec_spdmRequest_id (q := q) hlive hready hfatal hid
      exact ⟨fun _ h => hanswer.trans (by rw [h]), fun h => hanswer.trans (by rw [h])⟩
  case bar2 =>
    intro s p o hlive hfatal hide
    refine ⟨fun len hlen => ?_, fun data ep hdata => ?_⟩
    · have hread := exec_bar2Read (o := o) hlive hfatal hide hlen
      exact ⟨fun h => hread.trans (by rw [h]), fun _ h => hread.trans (by rw [h])⟩
    · have hwrite := exec_bar2Write (o := o) (ep := ep) hlive hfatal hide hdata
      exact ⟨fun h => hwrite.trans (by rw [h]), fun _ h => hwrite.trans (by rw [h])⟩

end Sys2Proof.Machine
end

section
/-! Proofs about the mailbox, image staging, tokens and the instruments: each request by the checks that it passes. -/

namespace Sys2Proof.Machine

/-! ### GET_ID and ATTEST (R451, R452) -/

section
variable {s : State} {p : Nat} (hbusy : s.mbBusy p = true)
include hbusy

theorem exec_getId_answers (hop : s.mbOp p = 1) (hlen : s.mbLen p = 4) (hzero : s.mbReq p 2 2 = [0, 0]) :
    exec (.getId p) s = .next (s.answer p 0 s.idResponse) :=
  congrArg _ ((if_neg (by simp [hbusy, hop])).trans (if_neg (by simp [hlen, hzero])))
theorem exec_getId_malformed (hop : s.mbOp p = 1) (hlen : s.mbLen p ≠ 4) : exec (.getId p) s = .next (s.answer p 2 []) :=
  congrArg _ ((if_neg (by simp [hbusy, hop])).trans (if_pos (by simp [hlen])))
theorem exec_attest_early (hop : s.mbOp p = 2) (h5 : s.boot.stage ≠ 5) (h7 : s.boot.stage ≠ 7) :
    exec (.attest p) s = .next (s.answer p 3 []) :=
  congrArg _ ((if_neg (by simp [hbusy, hop])).trans (if_pos (by simp [h5, h7])))
theorem exec_attest_reports (hop : s.mbOp p = 2) (hstage : s.boot.stage = 5) (hlen : s.mbLen p = 36)
    (hzero : s.mbReq p 2 2 = [0, 0]) : exec (.attest p) s = .next (s.answer p 0 (s.report p (s.mbReq p 4 32))) :=
  congrArg _ ((if_neg (by simp [hbusy, hop])).trans ((if_neg (by simp [hstage])).trans (if_neg (by simp [hlen, hzero]))))

end

/-! ### IMAGE_STAGE (R400, R425) -/

section
variable {s : State} {p sub : Nat} {f : State → State} (hbusy : s.mbBusy p = true) (hop : s.mbOp p = 3) (hsub : s.subOp p = sub)
  (hlc : s.life.lc ≠ 3)
include hbusy hop hsub hlc

theorem stageOp_refused (hmay : s.mayStage p = false) : stageOp s p sub f = s.answerD p 3 3 :=
  (if_neg (by simp [hbusy, hop, hsub])).trans ((if_neg hlc).trans (if_pos (by simp [hmay])))

section
variable (hmay : s.mayStage p = true)
include hmay

theorem stageOp_malformed (h : s.mbLen p < 16 ∨ s.stageZeros p = false) : stageOp s p sub f = s.answerD p 2 1 :=
  (if_neg (by simp [hbusy, hop, hsub])).trans ((if_neg hlc).trans ((if_neg (by simp [hmay])).trans (if_pos (by simpa using h))))

section
variable (hlen : 16 ≤ s.mbLen p) (hzero : s.stageZeros p = true)
include hlen hzero

theorem stageOp_wellFormed : stageOp s p sub f = if s.boot.applying then s.answerD p 3 1 else f s :=
  (if_neg (by simp [hbusy, hop, hsub])).trans ((if_neg hlc).trans ((if_neg (by simp [hmay])).trans
    (if_neg (by simp [hlen, hzero]))))
theorem stageOp_applying (happ : s.boot.applying = true) : stageOp s p sub f = s.answerD p 3 1 :=
  (stageOp_wellFormed hbusy hop hsub hlc hmay hlen hzero).trans (if_pos happ)
theorem stageOp_runs (happ : s.boot.applying = false) : stageOp s p sub f = f s :=
  (stageOp_wellFormed hbusy hop hsub hlc hmay hlen hzero).trans (if_neg (by simp [happ]))

end
end
end

/-- A row of IMAGE_STAGE with its SUB. -/
def IsStageRow (row : (Nat → Instr) × Nat) : Prop :=
  row ∈ ([(.imageBegin, 0), (.imageWrite, 1), (.imageCommit, 2), (.imageApply, 3)] : List ((Nat → Instr) × Nat))

theorem IsStageRow.eq {row : (Nat → Instr) × Nat} (h : IsStageRow row) :
    row = (.imageBegin, 0) ∨ row = (.imageWrite, 1) ∨ row = (.imageCommit, 2) ∨ row = (.imageApply, 3) := by
  simpa [IsStageRow] using h

/-- Every row of IMAGE_STAGE is an operation of its SUB. -/
theorem exec_stageRow {row : (Nat → Instr) × Nat} (h : IsStageRow row) (s : State) (p : Nat) :
    ∃ f, exec (row.1 p) s = .next (stageOp s p row.2 f) := by
  rcases h.eq with rfl | rfl | rfl | rfl
  all_goals exact ⟨_, rfl⟩

/-! What the rows do once their operation runs. -/

section
variable {s : State} {p : Nat}

theorem exec_imageBegin_erases (hruns : ∀ f, stageOp s p 0 f = f s) : ∃ l, exec (.imageBegin p) s = .next
    ({ s with boot := { s.boot.eraseSlot s.targetB with slotRecs := l, staging := true, committed := false } }.answerD p 0 0) :=
  ⟨_, congrArg _ (hruns _)⟩

section
variable (hruns : ∀ f, stageOp s p 1 f = f s)
include hruns

theorem exec_imageWrite_outside (h : 4080 < s.mbLen p - 16 ∨ slotSize < leNat (s.mbReq p 8 4) + (s.mbLen p - 16)) :
    exec (.imageWrite p) s = .next (s.answerD p 2 1) := by
  refine congrArg _ ((hruns _).trans ?_)
  exact if_pos h

section
variable (hn : s.mbLen p - 16 ≤ 4080) (hend : leNat (s.mbReq p 8 4) + (s.mbLen p - 16) ≤ slotSize)
include hn hend

theorem exec_imageWrite_programmed
    (h : ((s.boot.slotBytes s.targetB (leNat (s.mbReq p 8 4)) (s.mbLen p - 16)).all fun b => b == 0xFF) = false) :
    exec (.imageWrite p) s = .next (s.answerD p 2 6) := by
  refine congrArg _ ((hruns _).trans ?_)
  exact (if_neg (not_or.2 ⟨hn.not_gt, hend.not_gt⟩)).trans (if_pos (by rw [h]; rfl))
theorem exec_imageWrite_programs
    (h : ((s.boot.slotBytes s.targetB (leNat (s.mbReq p 8 4)) (s.mbLen p - 16)).all fun b => b == 0xFF) = true) :
    exec (.imageWrite p) s = .next ({ s with boot := { s.boot.program s.targetB (leNat (s.mbReq p 8 4))
      (s.mbReq p 16 (s.mbLen p - 16)) with staging := true } }.answerD p 0 0) := by
  refine congrArg _ ((hruns _).trans ?_)
  exact (if_neg (not_or.2 ⟨hn.not_gt, hend.not_gt⟩)).trans (if_neg (by rw [h]; exact Bool.false_ne_true))

end
end

theorem exec_imageCommit_invalid (hruns : ∀ f, stageOp s p 2 f = f s) {n : Nat}
    (h : s.boot.check s.life s.targetB true = .error n) :
    exec (.imageCommit p) s = .next (s.answerD p 2 (stageDetail n)) := by
  refine congrArg _ ((hruns _).trans ?_)
  simp only [h]
theorem exec_imageCommit_valid (hruns : ∀ f, stageOp s p 2 f = f s) {im : ImageRead}
    (h : s.boot.check s.life s.targetB true = .ok im) (hstage : s.boot.stage ≠ 6) :
    exec (.imageCommit p) s = .next ({ s with boot := { s.boot with
      slotRecs := putSlot s.boot.slotRecs true s.targetB s.boot.slotB, committed := true, staging := true } }.answerD p 0 0) := by
  refine congrArg _ ((hruns _).trans ?_)
  simp only [h, if_neg hstage]

section
variable (hruns : ∀ f, stageOp s p 3 f = f s)
include hruns

theorem exec_imageApply_recovery (hstage : s.boot.stage = 6) : exec (.imageApply p) s = .next (s.answerD p 3 0) := by
  refine congrArg _ ((hruns _).trans ?_)
  exact if_pos hstage
theorem exec_imageApply_early (hstage : s.boot.stage ≠ 6) (h : s.boot.committed = false ∨ s.boot.stage < 5) :
    exec (.imageApply p) s = .next (s.answerD p 3 2) := by
  refine congrArg _ ((hruns _).trans ?_)
  exact (if_neg hstage).trans (if_pos (by simpa using h))
theorem exec_imageApply_applies (hstage : s.boot.stage ≠ 6) (hcommitted : s.boot.committed = true) (hready : 5 ≤ s.boot.stage)
    {im : ImageRead} (h : s.boot.check s.life s.targetB true = .ok im) :
    exec (.imageApply p) s = .next ((s.startApply im).answerD p 0 0) := by
  refine congrArg _ ((hruns _).trans ?_)
  exact (if_neg hstage).trans ((if_neg (by simp [hcommitted, hready])).trans (by rw [h]))

end
end

/-! ### Tokens (R444 to R450) -/

section
variable {s : State} {p k : Nat} {f : State → State} (hbusy : s.mbBusy p = true) (hop : s.mbOp p = 4) (hkind : s.tokKind p = k)
include hbusy hop hkind

theorem tokenOp_refused {e : Nat × Nat} (h : s.tokCheck p = some e) : tokenOp s p k f = s.redraw.answerD p e.1 e.2 := by
  rw [tokenOp, if_neg (by simp [hbusy, hop, hkind]), h]
theorem tokenOp_accepted (h : s.tokCheck p = none) : tokenOp s p k f = (f s).redraw.answerD p 0 0 := by
  rw [tokenOp, if_neg (by simp [hbusy, hop, hkind]), h]

end

/-- The k-th kind of token: its row c, the state v in which it changes the life cycle, and the life cycle x that it leaves. -/
def State.IsTokenRow (s : State) (p k : Nat) (c : Instr) (v : State) (x : Life) : Prop :=
  let a := s.tokP0 p
  let l := s.life
  let d := digNat (s.tok p 64 48)
  let u := s.stopForChange
  let up := fun (i : Nat) => if i + 1 = a then max (l.svnMin.getD i 0) (s.tokP1 p) else l.svnMin.getD i 0
  ([(.tokenDebug p, s, { l with dbgParts := BitVec.ofNat 4 a, dbgDev := a.testBit 4, dbgSecs := s.tokP1 p }),
    (.tokenRelease p, s, { l with retArmed := true }),
    (.tokenVendorReturn p, u, { u.life with returns := u.life.returns + 1, pending := true }),
    (.tokenProvision p, s,
      { l with ownerDig := l.ownerDig ++ [d], provisions := l.provisions + 1, pending := true, newOwnerDig := some d }),
    (.tokenScrap p, u, { u.life with udsKill := true, scrapped := true, pending := true, newOwnerDig := none }),
    (.tokenSvn p, s, { l with svnMin := (List.range 6).map up }),
    (.tokenRevoke p, s, { l with vendorRev := l.vendorRev ||| BitVec.ofNat 4 (2 ^ a) })] :
      List (Instr × State × Life))[k]? = some (c, v, x)

/-- Every row of DEBUG_TOKEN is an operation of its KIND, with the effect that the list names. -/
theorem exec_tokenRow {s : State} {p k : Nat} {c : Instr} {v : State} {x : Life} (h : s.IsTokenRow p k c v x) :
    ∃ f : State → State, exec c s = .next (tokenOp s p (k + 1) f) ∧ f s = { v with life := x } := by
  unfold State.IsTokenRow at h
  match k with
  | 0 | 1 | 2 | 3 | 4 | 5 | 6 =>
    simp only [List.getElem?_cons_zero, List.getElem?_cons_succ, Option.some.injEq, Prod.mk.injEq] at h
    obtain ⟨rfl, rfl, rfl⟩ := h
    exact ⟨_, rfl, rfl⟩
  | k + 7 => simp at h

/-- A chain of checks finds nothing where its first does not and its rest does not. -/
theorem ite_some_eq_none {α : Type} {c : Prop} [Decidable c] {e : α} {r : Option α} :
    (if c then some e else r) = none ↔ ¬c ∧ r = none := by split <;> simp [*]

/-- A token is accepted where every check of R445 passes. -/
theorem State.tokCheck_eq_none {s : State} {p : Nat} : s.tokCheck p = none ↔
    s.life.lc ≠ 3 ∧ s.boot.stage ≠ 6 ∧ p = s.policy.ownerPart ∧ s.mbLen p = 212 ∧ allZero (s.mbReq p 2 2) = true
    ∧ leNat (s.tok p 0 4) = 0x4E4B4F54 ∧ 1 ≤ s.tokKind p ∧ s.tokKind p ≤ 7 ∧ allZero (s.tok p 6 2) = true
    ∧ s.tok p 8 16 = leBytes 16 s.deviceId.toNat ∧ s.tok p 24 32 = s.life.nonce ∧ s.tokAdmitted p = true
    ∧ Config.ecdsaVerifies (s.signerKey (s.tokSigner p)) (s.tok p 0 112) (s.tok p 112 96) = true ∧ s.tokParams p = true := by
  simp only [State.tokCheck, ite_some_eq_none]
  simp [and_assoc, Nat.one_le_iff_ne_zero]

/-! ### Answers, timers and the reset (R399, R442, R446, R447) -/

section
variable {s : State} {p : Nat}

theorem exec_mailboxResponse_idle (hnone : (s.host p).mbAnswer = none) (hbusy : s.mbBusy p = false) :
    exec (.mailboxResponse p) s = .next s := by
  change execMailboxResponse p s = _
  simp [execMailboxResponse, hbusy, hnone]
theorem exec_mailboxResponse_answered {r : Nat} {l : List Byte} (h : (s.host p).mbAnswer = some (r, l)) :
    exec (.mailboxResponse p) s = .next (s.mbFinish p r l) := by
  have hbusy : s.mbBusy p = false := by simp [State.mbBusy, h]
  change execMailboxResponse p s = _
  simp [execMailboxResponse, hbusy, h]
theorem exec_mailboxResponse_unknown {r : Nat} {l : List Byte} {u : State} (hbusy : s.mbBusy p = true)
    (hu : s.mbUnknown p = some u) (h : (u.host p).mbAnswer = some (r, l)) :
    exec (.mailboxResponse p) s = .next (u.mbFinish p r l) := by
  change execMailboxResponse p s = _
  simp [execMailboxResponse, hbusy, hu, h]
theorem exec_lifecycleReset_idle (h : s.life.pending = false) : exec .lifecycleReset s = .next s :=
  congrArg _ (if_neg (by simp [h]))
theorem exec_lifecycleReset_resets (h : s.life.pending = true) (hanswered : ∀ p, p < 4 → (s.host p).mbAnswer = none) :
    exec .lifecycleReset s = .next s.deviceReset :=
  congrArg _ (if_pos (by simpa [h, upTo] using hanswered))
theorem exec_debugHaltRequest_open {d : Nat} (hd : d < 2048) (h : s.instOpen (s.ownerOf (d / 8)) = true) :
    exec (.debugHaltRequest d) s = .next (s.hayward d 2) := congrArg _ (if_pos ⟨hd, h⟩)
theorem exec_debugHaltRequest_closed {d : Nat} (h : s.instOpen (s.ownerOf (d / 8)) = false) :
    exec (.debugHaltRequest d) s = .next s := congrArg _ (if_neg (by simp [h]))

end

/-! ### Instruments (R447) -/

section
variable {s : State} {a : Nat} (hpower : s.power.pwrGood = true)
include hpower

theorem exec_instrumentAccess_closed (h : s.instOpen (s.grantPart a) = false) (w : Option Byte) :
    exec (.instrumentAccess ⟨.memory a, w⟩) s = .next (s.emit (.instrument false 0)) :=
  congrArg _ ((if_neg (by simp [hpower])).trans (if_pos (by simp [h])))
theorem exec_instrumentAccess_write (h : s.instOpen (s.grantPart a) = true) (b : Byte) :
    exec (.instrumentAccess ⟨.memory a, some b⟩) s = .next ((storeMem s 16 a [(b, false)]).emit (.instrument true b)) :=
  congrArg _ ((if_neg (by simp [hpower])).trans (if_neg (by simp [h])))
theorem exec_instrumentAccess_read (h : s.instOpen (s.grantPart a) = true) : exec (.instrumentAccess ⟨.memory a, none⟩) s =
    .next ((readMem s 16 a 1).1.emit (.instrument true (((readMem s 16 a 1).2.map (·.1)).headD 0))) :=
  congrArg _ ((if_neg (by simp [hpower])).trans (if_neg (by simp [h])))
theorem exec_instrumentAccess_device (h : s.instOpen none = true) : exec (.instrumentAccess ⟨.device, none⟩) s =
    .next ({ s with freeCtr := s.freeCtr + 1 }.emit (.instrument true ((Config.freeValue s.freeCtr).setWidth 8))) :=
  congrArg _ ((if_neg (by simp [hpower])).trans (if_neg (by simp [h])))

end

/-- Settles O55: a lemma for each request by the checks that it passes; a row of IMAGE_STAGE or DEBUG_TOKEN is the shared operation
of its SUB or KIND. -/
theorem mailboxAndTokenResults : Obligations.MailboxAndTokenResults := by
  unfold Obligations.MailboxAndTokenResults
  refine ⟨?requests, ?stage, ?tokens, fun s p => State.tokCheck_eq_none, ?response, ?timers, ?instruments⟩
  case requests =>
    exact fun s p hbusy => ⟨exec_getId_answers hbusy, exec_getId_malformed hbusy, exec_attest_early hbusy,
      exec_attest_reports hbusy⟩
  case stage =>
    intro row hrow s p hbusy hop hsub
    obtain ⟨f, hexec⟩ := exec_stageRow hrow s p
    refine ⟨fun hlc hmay => hexec.trans (congrArg _ (stageOp_refused hbusy hop hsub hlc hmay)),
      fun hlc hmay hbad => hexec.trans (congrArg _ (stageOp_malformed hbusy hop hsub hlc hmay hbad)),
      fun hlc hmay hlen hzero => ⟨fun happ => hexec.trans (congrArg _ (stageOp_applying hbusy hop hsub hlc hmay hlen hzero happ)),
        fun happ => ?_⟩⟩
    have hruns (f : State → State) : stageOp s p row.2 f = f s := stageOp_runs hbusy hop hsub hlc hmay hlen hzero happ
    rcases IsStageRow.eq hrow with rfl | rfl | rfl | rfl
    · exact ⟨fun _ => exec_imageBegin_erases hruns, nofun, nofun, nofun⟩
    · exact ⟨nofun, fun _ => ⟨exec_imageWrite_outside hruns, fun hn hend =>
        ⟨exec_imageWrite_programmed hruns hn hend, exec_imageWrite_programs hruns hn hend⟩⟩, nofun, nofun⟩
    · exact ⟨nofun, nofun, fun _ => ⟨fun _ => exec_imageCommit_invalid hruns, fun _ => exec_imageCommit_valid hruns⟩, nofun⟩
    · exact ⟨nofun, nofun, nofun, fun _ => ⟨exec_imageApply_recovery hruns, exec_imageApply_early hruns,
        fun hstage hcommitted hready _ => exec_imageApply_applies hruns hstage hcommitted hready⟩⟩
  case tokens =>
    intro s p a l d u up ls k c v x hrow hbusy hop hkind
    obtain ⟨f, hexec, hf⟩ := exec_tokenRow hrow
    exact ⟨fun e h => hexec.trans (congrArg _ (tokenOp_refused hbusy hop hkind h)),
      fun h => hexec.trans (congrArg _ (hf ▸ tokenOp_accepted hbusy hop hkind h))⟩
  case response =>
    exact fun s p => ⟨exec_mailboxResponse_idle,
      fun _ _ => ⟨exec_mailboxResponse_answered, fun _ => exec_mailboxResponse_unknown⟩⟩
  case timers =>
    exact fun s => ⟨rfl, rfl, exec_lifecycleReset_idle, exec_lifecycleReset_resets, fun _ => exec_debugHaltRequest_open,
      fun _ => exec_debugHaltRequest_closed⟩
  case instruments =>
    exact fun s a hpower => ⟨exec_instrumentAccess_closed hpower,
      fun h => ⟨exec_instrumentAccess_write hpower h, exec_instrumentAccess_read hpower h⟩, exec_instrumentAccess_device hpower⟩

end Sys2Proof.Machine
end

section
/-! Proofs about the management sideband and the TAP: what answers, what is refused, and what a refresh leaves in the sensors. -/

namespace Sys2Proof.Machine

/-! ### Addresses (R401) -/

section
variable {s : State}

theorem State.setDyn_assigns (da : BitVec 7) (hpower : s.power.pwrGood = true) (hnone : s.mgmt.dynAddr = none) :
    s.setDyn da = { s with mgmt := { s.mgmt with dynAddr := some da.toNat } } := if_pos (by simp [hpower, hnone])

/-! ### Answers (R401 to R403) -/

theorem State.reply_on (h : s.mgmtOn = true) (status : Nat) (l : List Byte) : s.reply status l = s.emit (.sideband status l) :=
  if_pos h
theorem State.reply_off (h : s.mgmtOn = false) (status : Nat) (l : List Byte) : s.reply status l = s := if_neg (by simp [h])

section
variable (hon : s.mgmtOn = true)
include hon

theorem exec_getSensorReading_numeric {n : Nat} (h : 1 ≤ n) (h' : n ≤ 27) :
    exec (.getSensorReading n) s = .next (s.emit (.sideband 0 (leBytes 4 (mget 0 s.mgmt.sensors n)))) :=
  congrArg _ ((if_pos ⟨h, h'⟩).trans (State.reply_on hon _ _))
theorem exec_getSensorReading_unknown {n : Nat} (h : 27 < n) : exec (.getSensorReading n) s = .next (s.emit (.sideband 0x80 [])) :=
  congrArg _ ((if_neg (by omega)).trans (State.reply_on hon _ _))
theorem exec_getStateSensorReadings_state {n : Nat} (h : 28 ≤ n) (h' : n ≤ 31) :
    exec (.getStateSensorReadings n) s = .next (s.emit (.sideband 0 (leBytes 1 (mget 0 s.mgmt.sensors n)))) :=
  congrArg _ ((if_pos ⟨h, h'⟩).trans (State.reply_on hon _ _))
theorem exec_mgmtLogRead_entries (q : Nat) {n : Nat} (h : 1 ≤ n) (h' : n ≤ 4) : exec (.mgmtLogRead q n) s = .next
    (s.emit (.sideband 0 (((s.hw.log.reverse.filter fun e => decide (q ≤ e.seq)).take n).flatMap LogEntry.bytes))) :=
  congrArg _ ((if_neg (by omega)).trans (State.reply_on hon _ _))
theorem exec_mgmtLogRead_invalid (q : Nat) {n : Nat} (h : n = 0 ∨ 4 < n) :
    exec (.mgmtLogRead q n) s = .next (s.emit (.sideband 2 [])) :=
  congrArg _ ((if_pos h).trans (State.reply_on hon _ _))
theorem exec_mgmtLogAck (q : Nat) : exec (.mgmtLogAck q) s = .next
    ({ s with hw := { s.hw with acked := max s.hw.acked (q + 1) } }.emit (.sideband 0 [])) := by
  refine congrArg _ ((if_neg (by simp [hon])).trans ?_)
  exact if_pos hon
theorem exec_mctpControl_unknown (e : Nat) : exec (.mctpControl 0 e) s = .next (s.emit (.sideband 5 [])) :=
  congrArg _ ((if_neg (by simp [hon])).trans (State.reply_on hon _ _))
theorem exec_mctpControl_setEid {e : Nat} (h : 8 ≤ e) (h' : e ≤ 254) : exec (.mctpControl 1 e) s = .next
    ({ s with mgmt := { s.mgmt with eid := e } }.emit (.sideband 0 (leBytes 1 e ++ Config.mctpAnswer 1))) := by
  change execMctpControl 1 e s = _
  have hrange : ¬(e < 8 ∨ 254 < e) := by omega
  simp only [execMctpControl, hon, hrange]
  exact congrArg _ (if_pos hon)

section
variable (hwrite : s.policy.mgmtWrite = false)
include hwrite

theorem exec_rotSuspend_refused : exec .rotSuspend s = .next (s.emit (.sideband 3 [])) :=
  congrArg _ ((if_neg (by simp [hon])).trans ((if_pos (by simp [hwrite])).trans (State.reply_on hon _ _)))
theorem exec_rotResume_refused : exec .rotResume s = .next (s.emit (.sideband 3 [])) :=
  congrArg _ ((if_neg (by simp [hon])).trans ((if_pos (by simp [hwrite])).trans (State.reply_on hon _ _)))

end

section
variable (hwrite : s.policy.mgmtWrite = true)
include hwrite

theorem exec_rotSuspend_suspends :
    exec .rotSuspend s = .next ({ s with hw := { s.hw with suspended := true } }.refreshHolds.reply 0 []) :=
  congrArg _ ((if_neg (by simp [hon])).trans (if_neg (by simp [hwrite])))
theorem exec_rotResume_resumes :
    exec .rotResume s = .next ({ s with hw := { s.hw with suspended := false } }.flagPastDue.reply 0 []) :=
  congrArg _ ((if_neg (by simp [hon])).trans (if_neg (by simp [hwrite])))

end
end

/-- Where the sideband does not answer, its commands change nothing. -/
theorem exec_sideband_off (hoff : s.mgmtOn = false) : exec .mgmtStatus s = .next s ∧ exec .rotSuspend s = .next s
    ∧ exec .rotResume s = .next s ∧ (∀ q, exec (.mgmtLogAck q) s = .next s) ∧ exec .getTid s = .next s := by
  refine ⟨congrArg _ (State.reply_off hoff _ _), congrArg _ (if_pos ?_), congrArg _ (if_pos ?_), fun _ => congrArg _ (if_pos ?_),
    congrArg _ (State.reply_off hoff _ _)⟩
  all_goals simp [hoff]

end

/-! ### Sensors (Table 12.7) -/

/-- A write of many keys leaves the others as they read. -/
theorem mget_foldl_mput_other {α : Type} [DecidableEq α] (d : α) (l : List (Nat × α)) (m : SMap α) {k : Nat} (h : k ∉ l.map (·.1)) :
    mget d (l.foldl (fun m q => mput d m q.1 q.2) m) k = mget d m k := by
  induction l generalizing m with
  | nil => rfl
  | cons q t ih =>
    simp only [List.map_cons, List.mem_cons, not_or] at h
    rw [List.foldl_cons, ih _ h.2, mget_mput_other d d m q.1 k q.2 h.1]
/-- A write of many keys, each once: each key reads what was written to it. -/
theorem mget_foldl_mput_mem {α : Type} [DecidableEq α] (d : α) {l : List (Nat × α)} {m : SMap α} (hm : Canonical d m)
    (hl : (l.map (·.1)).Nodup) {k : Nat} {v : α} (h : (k, v) ∈ l) : mget d (l.foldl (fun m q => mput d m q.1 q.2) m) k = v := by
  induction l generalizing m with
  | nil => cases h
  | cons q t ih =>
    obtain ⟨hq, ht⟩ := List.nodup_cons.1 hl
    rw [List.foldl_cons]
    rcases List.mem_cons.1 h with rfl | hmem
    · rw [mget_foldl_mput_other d t _ hq, mget_mput_same d m k v hm.1]
    · exact ih (canonical_mput d m q.1 q.2 hm) ht hmem

/-- What SENSOR_REFRESH writes: the measured sensors 2 to 7, the packages, and what the device knows of itself. -/
def State.sensorWrites (s : State) (rd : List Nat) : List (Nat × Nat) :=
  (upTo 6).map (fun i => (i + 2, rd.getD i 0)) ++ (upTo 20).map (fun i => (i + 8, mget 0 s.power.pkgTemp i))
    ++ [(1, fld (s.reg (aCK + 0x10)) 27 16), (28, s.power.div), (29, b2n (bitW s.guar 0)), (30, b2n s.hw.fatal),
      (31, b2n s.hw.activeB)]

theorem State.sensorWrites_nodup (s : State) (rd : List Nat) : ((s.sensorWrites rd).map (·.1)).Nodup := by
  have hkeys : (s.sensorWrites rd).map (·.1) =
      (List.range 6).map (· + 2) ++ (List.range 20).map (· + 8) ++ [1, 28, 29, 30, 31] := by
    simp [State.sensorWrites, upTo, Function.comp_def]
  rw [hkeys]
  decide

section
variable {s : State} {rd : List Nat}

theorem exec_sensorRefresh (hpower : s.power.pwrGood = true) : exec (.sensorRefresh rd) s = .next
    { s with mgmt := { s.mgmt with sensors := (s.sensorWrites rd).foldl (fun m q => mput 0 m q.1 q.2) s.mgmt.sensors } } := by
  change execSensorRefresh rd s = _
  simp only [execSensorRefresh, hpower, if_true, State.sensorWrites, List.foldl_append]
theorem exec_sensorRefresh_unpowered (hpower : s.power.pwrGood = false) : exec (.sensorRefresh rd) s = .next s :=
  congrArg _ (if_neg (by simp [hpower]))

end

/-! ### The TAP (R441) -/

theorem State.tapTo_powered {s : State} (h : s.power.pwrGood = true) (n : Nat) (w : BitVec 32) :
    s.tapTo n w = { s with mgmt := { s.mgmt with tap := n } }.emit (.jtag w) := if_pos h

section
variable {s : State} (hpower : s.power.pwrGood = true)
include hpower

theorem exec_jtagExtest_running (h : s.power.sysRstN = true) :
    exec .jtagExtest s = .next ({ s with mgmt := { s.mgmt with tap := 0 } }.emit (.jtag 0)) :=
  congrArg _ ((if_pos h).trans (State.tapTo_powered hpower _ _))
theorem exec_jtagExtest_reset (h : s.power.sysRstN = false) : exec .jtagExtest s = .next
    ({ s with freeCtr := s.freeCtr + 1, mgmt := { s.mgmt with tap := 3 } }.emit (.jtag (Config.boundaryScan s.freeCtr))) := by
  refine congrArg _ ((if_neg (by simp [h])).trans ?_)
  exact if_pos hpower
theorem exec_jtagSamplePreload : exec .jtagSamplePreload s = .next
    ({ s with freeCtr := s.freeCtr + 1, mgmt := { s.mgmt with tap := 2 } }.emit (.jtag (Config.boundaryScan s.freeCtr))) :=
  congrArg _ (if_pos hpower)
theorem exec_jtagClamp {n : Nat} (h : (if s.power.sysRstN then 0 else 4) = n) :
    exec .jtagClamp s = .next ({ s with mgmt := { s.mgmt with tap := n } }.emit (.jtag 0)) := by
  subst h
  exact congrArg _ (State.tapTo_powered hpower _ _)

end

/-- Settles O56: a lemma for each command by whether the sideband answers, and one for what a write of many sensors leaves. -/
theorem managementResults : Obligations.ManagementResults := by
  unfold Obligations.ManagementResults
  refine ⟨?addresses, ?answers, fun s => exec_sideband_off, ?sensors, ?tap⟩
  case addresses =>
    intro s sa da
    refine ⟨fun hpower hnone => ⟨congrArg _ (State.setDyn_assigns da hpower hnone), fun h => ?_⟩, fun h => congrArg _ (if_neg h)⟩
    exact congrArg _ ((if_pos h).trans (State.setDyn_assigns da hpower hnone))
  case answers =>
    intro s hon
    have hreply (l : List Byte) : Host.Outcome.next (ρ := Refusal) (φ := Fault) (s.reply 0 l) = .next (s.emit (.sideband 0 l)) :=
      congrArg _ (State.reply_on hon 0 l)
    exact ⟨hreply _, hreply _, hreply _, hreply _, hreply _, fun _ => hreply _, fun _ => exec_getSensorReading_numeric hon,
      fun _ => exec_getSensorReading_unknown hon, fun _ => exec_getStateSensorReadings_state hon, hreply _,
      fun q _ => exec_mgmtLogRead_entries hon q, fun q _ => exec_mgmtLogRead_invalid hon q, exec_mgmtLogAck hon,
      fun hwrite => ⟨exec_rotSuspend_refused hon hwrite, exec_rotResume_refused hon hwrite⟩,
      fun hwrite => ⟨exec_rotSuspend_suspends hon hwrite, exec_rotResume_resumes hon hwrite⟩, exec_mctpControl_unknown hon,
      fun _ => exec_mctpControl_setEid hon⟩
  case sensors =>
    intro s rd
    refine ⟨exec_sensorRefresh_unpowered, fun hpower => ⟨_, exec_sensorRefresh hpower, fun hcanon => ?_⟩⟩
    have hread {k v : Nat} (h : (k, v) ∈ s.sensorWrites rd) := mget_foldl_mput_mem 0 hcanon (s.sensorWrites_nodup rd) h
    have hmeasured {i : Nat} (hi : i < 6) : (i + 2, rd.getD i 0) ∈ s.sensorWrites rd := by simp [State.sensorWrites, upTo, hi]
    have hpackage {i : Nat} (hi : i < 20) : (i + 8, mget 0 s.power.pkgTemp i) ∈ s.sensorWrites rd := by
      simp [State.sensorWrites, upTo, hi]
    refine ⟨hread ?_, fun i hi => hread (hmeasured hi), fun i hi => hread (hpackage hi), hread ?_, hread ?_, hread ?_, hread ?_⟩
    all_goals simp [State.sensorWrites]
  case tap =>
    intro s hpower
    exact ⟨congrArg _ (State.tapTo_powered hpower _ _), congrArg _ (State.tapTo_powered hpower _ _),
      fun h => ⟨exec_jtagExtest_running hpower h, exec_jtagClamp hpower (by simp [h])⟩,
      fun h => exec_jtagClamp hpower (by simp [h]),
      exec_jtagSamplePreload hpower, exec_jtagExtest_reset hpower⟩

end Sys2Proof.Machine
end
